-- ==== Sys2Proof/Word.lean ====
section
/-!
DEFINITION. The engine's tagged word and its quality (02_tagged_words.md R31 to R38), the 32-bit register word, and the
sparse ordered map that every addressed store of the model is built on.
-/

namespace Sys2Proof

/-- A 32-bit word: a register (R4), a payload (R31). -/
abbrev W32 := BitVec 32
/-- A byte of host or DRAM memory. -/
abbrev Byte := BitVec 8

/-! ### Tagged words -/

/-- The eight payload types of R32, in the order of their codes. -/
inductive Ty where
  | int | nat | fix | flt | tim | adr | ret | void
  deriving DecidableEq, Repr

/-- The code of a type in bits [39:37] (R32). -/
def Ty.code : Ty → Nat
  | .int => 0 | .nat => 1 | .fix => 2 | .flt => 3 | .tim => 4 | .adr => 5 | .ret => 6 | .void => 7

/-- The type a 3-bit code names (R32). -/
def Ty.ofCode : Nat → Ty
  | 0 => .int | 1 => .nat | 2 => .fix | 3 => .flt | 4 => .tim | 5 => .adr | 6 => .ret | _ => .void

/-- Validity, ordered good < questionable < invalid < absent (R34). -/
inductive Val where
  | good | questionable | invalid | absent
  deriving DecidableEq, Repr

/-- The code of a validity in bits [36:35] (R31), which is also its rank (R34). -/
def Val.code : Val → Nat
  | .good => 0 | .questionable => 1 | .invalid => 2 | .absent => 3

/-- The validity of a 2-bit code (R31). -/
def Val.ofCode : Nat → Val
  | 0 => .good | 1 => .questionable | 2 => .invalid | _ => .absent

/-- The worse of two validities (R34). -/
def Val.worst (a b : Val) : Val := if a.code ≤ b.code then b else a

/-- Quality: VAL, TST and DER (R34, R35). -/
structure Qual where
  val : Val
  tst : Bool
  der : Bool
  deriving DecidableEq, Repr

/-- Quality good, TST 0, DER 0. -/
def Qual.good : Qual := ⟨.good, false, false⟩

/-- The merge of R36: the worst VAL, the OR of TST and of DER. -/
def Qual.merge (a b : Qual) : Qual := ⟨a.val.worst b.val, a.tst || b.tst, a.der || b.der⟩

/-- The merge over a list of consumed words' qualities (R36). -/
def Qual.mergeAll (qs : List Qual) : Qual := qs.foldl Qual.merge Qual.good

/-- VAL at least `v` (R40, R118). -/
def Qual.atLeast (q : Qual) (v : Val) : Qual := { q with val := q.val.worst v }

/-- A 40-bit tagged word (R31). `rsv` is bit [32], which must be 0. -/
structure TWord where
  ty  : Ty
  q   : Qual
  rsv : Bool
  pay : W32
  deriving DecidableEq, Repr

/-- A word of a type and a quality with RSV 0. -/
def TWord.mk' (t : Ty) (q : Qual) (p : W32) : TWord := ⟨t, q, false, p⟩
/-- A good word of a type. -/
def TWord.ofTy (t : Ty) (p : W32) : TWord := ⟨t, Qual.good, false, p⟩
/-- A good NAT word. -/
def TWord.nat (p : W32) : TWord := TWord.ofTy .nat p

/-- The VOID word of R33: tag 0xE0, payload 0. -/
def voidWord : TWord := ⟨.void, Qual.good, false, 0⟩

/-- The tag as a byte, [39:32] shifted down (R31). -/
def TWord.tag (w : TWord) : Nat :=
  w.ty.code * 32 + w.q.val.code * 8 + w.q.tst.toNat * 4 + w.q.der.toNat * 2 + w.rsv.toNat

/-- The word with a tag byte and a payload (R31). -/
def TWord.ofTag (t : Nat) (p : W32) : TWord :=
  ⟨Ty.ofCode (t / 32 % 8), ⟨Val.ofCode (t / 8 % 4), t / 4 % 2 == 1, t / 2 % 2 == 1⟩, t % 2 == 1, p⟩

/-- The word with another quality. -/
def TWord.withQ (w : TWord) (q : Qual) : TWord := { w with q := q }

/-- The 64-bit container of R50: payload in [31:0], tag in [39:32], zero above. -/
def TWord.container (w : TWord) : BitVec 64 := BitVec.ofNat 64 (w.tag * 2 ^ 32 + w.pay.toNat)

/-- A word read from a container (R50): a 1 in [63:40] reads as RSV bit 32 being 1. -/
def TWord.ofContainer (c : BitVec 64) : TWord :=
  let w := TWord.ofTag (c.toNat / 2 ^ 32 % 256) (BitVec.ofNat 32 c.toNat)
  if c.toNat / 2 ^ 40 = 0 then w else { w with rsv := true }

/-! ### Bit fields of a 32-bit word -/

/-- Field [lo+w-1 : lo] of a word as a number. -/
def bits (x : W32) (lo w : Nat) : Nat := x.toNat / 2 ^ lo % 2 ^ w
/-- Bit n of a word. -/
def bit (x : W32) (n : Nat) : Bool := x.toNat / 2 ^ n % 2 == 1
/-- A bit as a number at a place. -/
def at' (b : Bool) (n : Nat) : Nat := if b then 2 ^ n else 0
/-- The word with bit n set. -/
def setBit (x : W32) (n : Nat) : W32 := x ||| BitVec.ofNat 32 (2 ^ n)
/-- The word with bit n cleared. -/
def clrBit (x : W32) (n : Nat) : W32 := x &&& ~~~ (BitVec.ofNat 32 (2 ^ n))
/-- A word made of a number. -/
abbrev w32 (n : Nat) : W32 := BitVec.ofNat 32 n

/-! ### Sparse ordered maps

Every addressed store is a list of (key, value) pairs with keys strictly rising and no entry equal to the default:
one canonical form, so that equal stores are equal data. -/

/-- A store from keys to values; a key not listed holds the store's default. -/
abbrev SMap (α : Type) := List (Nat × α)

namespace SMap
variable {α : Type}

/-- The value at a key, `d` where the key is not listed. -/
def get (m : SMap α) (d : α) (k : Nat) : α :=
  match m with
  | [] => d
  | (j, v) :: t => if j = k then v else get t d k

/-- The list with key `k` removed. -/
def erase (m : SMap α) (k : Nat) : SMap α := m.filter fun p => decide (p.1 ≠ k)

/-- The list with `(k, v)` put in order in place of any entry at `k`. -/
def insert (m : SMap α) (k : Nat) (v : α) : SMap α :=
  match m with
  | [] => [(k, v)]
  | (j, u) :: t => if k < j then (k, v) :: (j, u) :: t else if j = k then (k, v) :: t else (j, u) :: insert t k v

/-- A write: the entry is listed only where it differs from the default. -/
def set [DecidableEq α] (m : SMap α) (d : α) (k : Nat) (v : α) : SMap α :=
  if v = d then m.erase k else m.insert k v

/-- Every key of the list is above `k`. -/
def above (k : Nat) (m : SMap α) : Bool := m.all fun p => decide (k < p.1)

/-- The canonical form: keys strictly rising, no entry equal to the default at its key. -/
def wf [DecidableEq α] (d : Nat → α) (m : SMap α) : Bool :=
  match m with
  | [] => true
  | (j, v) :: t => above j t && decide (v ≠ d j) && wf d t

end SMap

end Sys2Proof
end

