-- ==== Sys2Proof/Syntax.lean ====
section
/-!
DEFINITION. The commands of the block: one constructor for each row of spec/opcode_table.json, in the table's order, and
the operands they carry. The table gives its rows no bits and no operand fields: the operands are what the rules of the
row need from outside the block.
-/

namespace Sys2Proof

/-! ### Kendil words (03_kendil_encoding.md) -/

/-- The COND codes of R77, in the order of their codes. -/
inductive Cond where
  | al | z | nz | lt | ge | qg | qn | last
  deriving DecidableEq, Repr

/-- Fixed-point operations of R119. -/
inductive FixOp where
  | add | sub | mul | div | neg | abs
  deriving DecidableEq, Repr

/-- Shift kinds of R111. -/
inductive ShiftOp where
  | shl | shr | sar | rol
  deriving DecidableEq, Repr

/-- A data-unit operation: operation A of a paired word (R89). Widths of the operand fields are the encoding's. -/
inductive AOp where
  | nop | dup | drop | swap | over | rot | nip | tuck | dup2 | drop2 | swap2 | over2
  | pick (n : BitVec 4) | roll (n : BitVec 4)
  | litS (v : BitVec 8)
  | and | or | xor | not | andn | popc | clz
  /-- a shift by an immediate count, or by the count on TOS when none is given -/
  | shift (k : ShiftOp) (imm : Option (BitVec 5))
  | add | sub | adc | sbc | neg | abs | cmp | eq | lt | ult | min | max | umin | umax | inc | dec
  | mul | mulwS | mulwU | div | divu | rem | remu
  | fix (op : FixOp) (sat : Bool)
  | fadd | fsub | fmul | fma | fdiv | fsqrt | fneg | fabs | fmin | fmax | fcmp
  | cvtIf | cvtNf | cvtFi | cvtFn | cvtXf | cvtFx | cvtIx | cvtXi
  | asNat | asInt | asFlt | asAdr
  | crcStep | par
  /-- BREV n with n = field + 1 -/
  | brev (n : BitVec 5)
  | tagRd | tagSet | sel
  | ldA (d : BitVec 8) | stA (d : BitVec 8)
  | ld | st | aFetch | rFetch | lcFetch
  | timNow | timAddns | timSub | timCmp
  deriving DecidableEq, Repr

/-- An address-unit operation: operation B of a paired word (R91). -/
inductive BOp where
  | nop | rdrop | rdup | rswap | rover | rpushT | rpushN
  | aStep (k : BitVec 9) | aStepCirc (k : BitVec 9)
  | aSetTos | aAddTos | aSetNos | aSetRtos
  | lbrk
  deriving DecidableEq, Repr

/-- What the arrays answer when a word is read (02_tagged_words.md R49): no error, a corrected single-bit error, a
double-bit error, or one of the patterns of three or more bits, delivered as a correction or not noticed. -/
inductive Ecc where
  | clean | single | double | miscorrected | unnoticed
  deriving DecidableEq, Repr

/-- What an instruction fetch meets besides a hit or a miss, which the caches' contents decide (06_bobbin_pipeline.md R190, R191,
13_pillow_memory.md R425). -/
inductive FetchObs where
  | clean | parity | corrected | uncorrectable
  deriving DecidableEq, Repr

/-- The conditions that the datapath shows a microword and that State does not hold (08_microcode.md R252, R255): those of JUMP, and of
the condition groups the state of a block operation's element and the end of a remote access. -/
structure MicroCond where
  uZero : Bool := false
  carry : Bool := false
  countZero : Bool := false
  countLast : Bool := false
  faultPending : Bool := false
  elementFault : Bool := false
  remoteDone : Bool := false
  deriving DecidableEq, Repr

/-- One microcycle of a routine (08_microcode.md R245, R252 to R255): what the control store's check bits show, the conditions, and
the value that the datapath gives a micro-register the word loads. -/
structure MicroFetch where
  ecc : Ecc := .clean
  cond : MicroCond := {}
  value : TWord := voidWord
  deriving DecidableEq, Repr

/-- A run of a microcoded routine: where in the control store it begins and its microcycles. An empty run is the routine as the
rules document it, within its bounds and without an error of its control store: the ROM's contents are not in the source
(log entry 128). -/
structure MicroRun where
  start : Nat := 0
  fetches : List MicroFetch := []
  deriving DecidableEq, Repr

/-- The surroundings of one executed word: what the arrays and the arbiters answer it.
`sub` is the time since the last REF_IN edge in sixteenths of a nanosecond, for the words that read the time (R305). -/
structure Env where
  sub : Nat := 0
  ecc : Ecc := .clean
  /-- what the array answers the read of a message that is delivered to a strand that starts -/
  ecc2 : Ecc := .clean
  fetch : FetchObs := .clean
  /-- stall cycles of a fetch miss, of the local bank and of a remote access (R179) -/
  fetchWait : Nat := 0
  bankWait : Nat := 0
  remoteWait : Nat := 0
  /-- a parity error on a stack entry, A or LC (R202) -/
  stackParity : Bool := false
  /-- a parity error in the ownership entry consulted (13_pillow_memory.md R415) -/
  ownParity : Bool := false
  /-- the checker of TRIP agrees with what this word's command brings about (18_selvedge.md R589) -/
  agree : Bool := true
  /-- the spindle's predictors guessed this word's branch or address wrongly (R208, R240) -/
  mispredict : Bool := false
  /-- what the control store gives the routine of a microcoded word or strand switch, and the routine that follows it: an entry
  sequence, or the delivery of a message to a strand that starts (R246) -/
  seq : MicroRun := {}
  entry : MicroRun := {}
  /-- what the L1 data cache answers, L2 and the arrays answering `ecc` (07_spindle_core.md R212) -/
  l1 : Ecc := .clean
  /-- the host interconnect answers this access with a bus error -/
  busError : Bool := false
  /-- elements after which a recognition point ends this issue of a block operation (R135); for GATE's check phase on the
  spindle and for a strand switch, the COMMIT point at which an admitted interrupt is recognised (R249 to R251) -/
  elems : Option Nat := none
  deriving DecidableEq, Repr

/-- The bobbin at which a budget has run out, and the surroundings of the entry of BUDGET. -/
structure BudgetObs where
  bob : Nat
  env : Env := {}
  deriving DecidableEq, Repr

/-- A paired word led by a data-unit operation: the core (0 to 255 a bobbin, 256 the spindle), COND, CA, CB and
operation B (R74, R78). -/
structure AWord where
  core : Nat
  cond : Cond := .al
  ca : Bool := false
  cb : Bool := false
  b : BOp := .nop
  env : Env := {}
  deriving DecidableEq, Repr

/-- A paired word led by an address-unit operation: its operation A is `a`. -/
structure BWord where
  core : Nat
  cond : Cond := .al
  ca : Bool := false
  cb : Bool := false
  a : AOp := .nop
  env : Env := {}
  deriving DecidableEq, Repr

/-- A long-format word: COND governs the whole instruction (R78). -/
structure LWord where
  core : Nat
  cond : Cond := .al
  env : Env := {}
  deriving DecidableEq, Repr

/-- Size field z of the spindle's host accesses (R145). -/
inductive HSize where
  | byte | half | word | dword
  deriving DecidableEq, Repr

/-- The ways a word can be illegal that no other row carries (R75, R76, R84, R252): reserved codes, the two illegal
words, a spindle-only major on a bobbin, a reserved microword. -/
inductive IllegalForm where
  | zeroWord | onesWord | reservedMajor | reservedA | reservedB | rsvOperand | wrongCore
  deriving DecidableEq, Repr

/-! ### Requesters and register accesses (00_scope.md R4, R5) -/

/-- Who makes a register access. -/
inductive Who where
  | host | spindle | debug
  deriving DecidableEq, Repr

/-- A write of `size` bytes at a page's byte offset. `hw` are the status bits that hardware sets in the cycle of a write
that clears them (R6). -/
structure RegWrite where
  who : Who := .host
  page : Nat
  off : Nat
  size : Nat := 4
  data : W32
  hw : W32 := 0
  deriving DecidableEq, Repr

/-- The place of an access: its offset and its size in bytes (00_scope.md R4). -/
structure BusPlace where
  off : Nat
  size : Nat := 4
  deriving DecidableEq, Repr

/-- A read of EIC_T_CLAIM (16_interrupts.md R515, R526): through the mirror or at the target's own page, its place in the word and
its size (R4). -/
structure ClaimRead where
  viaAlias : Bool := false
  off : Nat := 0
  size : Nat := 4
  deriving DecidableEq, Repr

/-! ### Spindle events -/

/-- A snoop of the directory (07_spindle_core.md R232): another agent wants the line shared, or wants it alone. -/
inductive Snoop where
  | share | invalidate
  deriving DecidableEq, Repr

/-- What draining the oldest store meets (R221): a bus error, or a poisoned line. -/
inductive StoreErr where
  | bus | poison
  deriving DecidableEq, Repr

/-! ### Time inputs (10_station_time.md) -/

/-- A pulse on PPS_IN0 or PPS_IN1: input, time since the last REF_IN edge, active length in 100 ns, swing in 20 mV,
whether the edge rises (R305, R309, R310). -/
structure PpsEdge where
  input : Nat
  rising : Bool := true
  sub : Nat
  width : Nat
  swing : Nat := 0
  deriving DecidableEq, Repr

/-- An IRIG-B frame (R323): markers and digits as found, the time it carries, the control functions, and where its
reference edge fell. -/
structure IrigFrame where
  sub : Nat
  markersOk : Bool
  digitsOk : Bool
  year : Nat
  day : Nat
  hour : Nat
  minute : Nat
  second : Nat
  cf : W32
  deriving DecidableEq, Repr

/-! ### Frames (14_field_ports.md) -/

/-- What every received frame shows before its class (R444 to R455). -/
structure Frame where
  lane : Nat
  sub : Nat := 0
  len : Nat
  fcsOk : Bool := true
  /-- how many of the frames that the lane buffer holds, the oldest first, have been drained since the last one came (R452) -/
  drained : Nat := 0
  /-- destination and source MAC addresses -/
  da : Nat
  sa : Nat
  /-- EtherType after the VLAN tag and any HSR tag (R446) -/
  etype : Nat
  /-- VID of an 802.1Q tag -/
  vid : Option Nat := none
  /-- a second VLAN tag or an S-tag (R445) -/
  stacked : Bool := false
  /-- sequence number of the HSR tag or PRP trailer -/
  seq : Option Nat := none
  /-- what the lane buffer answers when the frame is read (R452) -/
  ecc : Ecc := .clean
  /-- a bus error meets the write of a firmware ring entry (R461) -/
  busErr : Bool := false
  /-- the frame from its destination address on, without its FCS, which firmware and the other lane of an HSR pair get (R455, R461) -/
  bytes : List Byte := []
  deriving DecidableEq, Repr

/-- The authentication extension of IEC 62351-6 (R448): key identifier, algorithm, tag length, whether the MAC matches
under that key. -/
structure AuthExt where
  kid : W32
  alg : Nat
  tagLen : Nat
  macOk : Bool
  deriving DecidableEq, Repr

/-- One ASDU of an SV frame (R474): each member is a value and its quality attribute. -/
structure Asdu where
  svId : List Byte
  smpCnt : Nat
  confRev : W32
  smpSynch : Nat
  members : List (W32 × W32)
  deriving DecidableEq, Repr

/-- An SV frame. `agree` is the ingress checker's verdict (18_selvedge.md R589). -/
structure SvFrame where
  f : Frame
  appid : Nat
  auth : Option AuthExt := none
  sim : Bool := false
  asdus : List Asdu
  agree : Bool := true
  deriving DecidableEq, Repr

/-- A leaf of allData (15_publish_trip_io.md R477). -/
inductive Leaf where
  | bool (b : Bool)
  | int32 (v : W32)
  | int32u (v : W32)
  | float32 (v : W32)
  | bits (n : Nat) (v : W32)
  /-- seconds of UTC, fraction in 2⁻²⁴ s, TimeQuality -/
  | utc (sec frac tq : Nat)
  | quality (q : Nat)
  | other
  deriving DecidableEq, Repr

/-- A GOOSE frame (R478). -/
structure GooseFrame where
  f : Frame
  appid : Nat
  auth : Option AuthExt := none
  ref : List Byte
  confRev : W32
  ndsCom : Bool := false
  sim : Bool := false
  test : Bool := false
  stNum : W32
  sqNum : W32
  /-- timeAllowedtoLive in ms -/
  tal : Nat
  leaves : List Leaf
  agree : Bool := true
  deriving DecidableEq, Repr

/-- The header of an inter-engine frame (R460) and whether its GMAC tag holds. -/
structure InterFrame where
  f : Frame
  ver : Nat := 1
  src : Nat
  dst : Nat
  seq : Nat
  tagOk : Bool := true
  deriving DecidableEq, Repr

/-- An inter-engine message (R460, TYPE 1). -/
structure InterMsg where
  h : InterFrame
  sender : W32
  dest : W32
  containers : List (BitVec 64)
  deriving DecidableEq, Repr

/-- A tick heartbeat (R404, R460, TYPE 2): entries of a strand ID and flags TAKEN 0, HANDBACK 1, DRIVEN 2. -/
structure TickHb where
  h : InterFrame
  mode : Nat
  line : Nat
  tick : Nat
  entries : List (W32 × W32)
  deriving DecidableEq, Repr

/-- A manager heartbeat (01_engine_organisation.md R23, TYPE 3). -/
structure MgrHb where
  h : InterFrame
  role : Nat
  mode : Nat
  gen : Nat
  deriving DecidableEq, Repr

/-- A C37.94 frame (R440, R443). -/
structure C37Frame where
  lane : Nat
  valid : Bool
  n : Nat
  rdi : Bool
  deriving DecidableEq, Repr

/-- What a high-speed receiver's swing has been (R442): in millivolts, and for how many nanoseconds on the same side of its threshold. -/
structure SwingObs where
  lane : Nat
  swing : Nat
  held : Nat
  deriving DecidableEq, Repr

/-- How LINK is lost (R440, R443): on a 100BASE-FX lane the far end may indicate its fault. -/
structure LinkFall where
  lane : Nat
  farFault : Bool := false
  deriving DecidableEq, Repr

/-- One eye measurement (R442): mean swing in millivolts, CTLE step, the five taps of the decision-feedback equaliser, openings, whether
a setting stands at the end of its range. -/
structure EyeMeas where
  lane : Nat
  swing : Nat := 0
  ctle : Nat
  dfe : List Nat := []
  eyeV : Nat
  eyeH : Nat
  atEnd : Bool
  deriving DecidableEq, Repr

/-! ### Strands, the Whorl and the Pricking unit -/

/-- The tick of a tracking line (11_strands_whorl.md R349, R350): time since the last REF_IN edge, whether the releases came
within their bound (R374). -/
structure TickObs where
  sub : Nat
  inBound : Bool := true
  deriving DecidableEq, Repr

/-- A preemption (11_strands_whorl.md R354): the bobbin, and what the save of its strand meets. -/
structure PreemptObs where
  bob : Nat
  env : Env
  deriving DecidableEq, Repr

/-- The close of a window (11_strands_whorl.md R352): line, time since the last REF_IN edge, the checker's verdict
(R589), whether the releases came within their bound (R374). -/
structure CloseObs where
  line : Nat
  sub : Nat
  agree : Bool := true
  inBound : Bool := true
  deriving DecidableEq, Repr

/-- A segment a strand table declares for a strand: bank and words (12_pricking_plying.md R386). -/
structure SegReq where
  bank : Nat
  len : Nat
  deriving DecidableEq, Repr

/-- What a strand table declares for a strand beside its record: its segments and its publication slots (R386, R472). -/
structure StrandDecl where
  idx : Nat
  segs : List SegReq := []
  slots : List Nat := []
  deriving DecidableEq, Repr

/-- One pillow's inputs at a loop sample (R382): UTIL %, TEMP °C, HEAD in 5 mV. -/
structure PilSample where
  util : Nat
  temp : Int
  head : Nat
  deriving DecidableEq, Repr

/-- A sample of the Pricking unit's loop: the inputs of the pillows from 0 on (R382), and the migrations that firmware has
requested since the last, by strand and ply (R375). -/
structure LoopObs where
  pils : List PilSample
  asked : List (Nat × Nat) := []
  deriving DecidableEq, Repr

/-! ### Selvedge, power, security, debug -/

/-- An error that a unit's own checks report and that no other command brings about (18_selvedge.md R577, R693): its page and
bit, the part of the unit it names, and the part's number where the error names one. -/
structure ErrObs where
  page : Nat
  bit : Nat
  sub : Nat := 0
  deriving DecidableEq, Repr

/-- What an edge of the always-on clock shows: the verdict of the checker of R589 on the counter's advance, whether the interpolator's
calibration against REF_IN is in range (R305), and what the units' own checks report of the period that ends. -/
structure EdgeObs where
  agree : Bool := true
  calOk : Bool := true
  seen : List ErrObs := []
  deriving DecidableEq, Repr

/-- What ends a test (18_selvedge.md R579): whether it passed, and the bit recorded when it did not. -/
structure TestObs where
  /-- of a transparent lane test, whether its memory and timestamp parts have passed (R462) -/
  passed : Bool
  failBit : Nat := 0
  /-- the EIC target's state compares equal after its restore (16_interrupts.md R524) -/
  restoreOk : Bool := true
  deriving DecidableEq, Repr

/-- A comparator proved by CHK_SELF (R590) reported its forced disagreement, or one failed to. -/
structure ChkObs where
  allReported : Bool
  deriving DecidableEq, Repr

/-- An environmental excursion (19_modes_power.md R613, R628). -/
inductive EnvEvent where
  | supplyOut | supplyBack
  /-- every sensor's reading: two for each pillow -/
  | temps (t : List (Int × Int))
  | regFault (pillow : Nat)
  deriving DecidableEq, Repr

/-- A PLL of R19. -/
inductive Pll where
  | spindle | pillow (p : Nat) | portGroup (g : Nat)
  deriving DecidableEq, Repr

/-- A measurement of the pillow's voltage loop (R611, R612): requirement at the running frequency and at FLOOR in mV,
AGE_OFF in 5 mV, FMAX_ACH in MHz, and the time passed since the last in microseconds. -/
structure VfObs where
  pillow : Nat
  need : Nat
  needFloor : Nat
  ageOff : Nat
  fmaxAch : Nat
  deriving DecidableEq, Repr

/-- How the steps of a start-up end (19_modes_power.md R618, 20_security.md R643), and the host boot configuration:
addresses of firmware slots A and B. -/
structure BootObs where
  spnTestOk : Bool := true
  wipeOk : Bool := true
  katOk : Bool := true
  /-- the host interconnect confirms the lock on slot A, and on slot B -/
  lockA : Bool := true
  lockB : Bool := true
  slotA : Nat := 0
  slotB : Nat := 0
  deriving DecidableEq, Repr

/-- What else asked for a transition in the cycle of a write of MODE_CMD: nothing, the spindle, an automatic one (R602, R604). -/
inductive ModeMet where
  | none | spindle | automatic
  deriving DecidableEq, Repr

/-- A write of MODE_CMD: the requester, KEY, FORCE, what it met in its cycle (R602, R604, R608). -/
structure ModeCmd where
  who : Who := .host
  key : Nat := 0xC3
  force : Bool := false
  met : ModeMet := .none
  deriving DecidableEq, Repr

/-- A step whose bound passed (R624), or a test of the start-up (R619): the unit concerned, and whether all that failed is the compare of
its EIC target's restored state (16_interrupts.md R524). -/
structure StepObs where
  cls : Nat
  inst : Nat
  sub : Nat := 0
  restore : Bool := false
  deriving DecidableEq, Repr

/-- A DRAM error (17_host_dram.md R558). -/
inductive DramErr where
  | corrected | uncorrectable | cmdParity
  deriving DecidableEq, Repr

/-- Answers of the arrays to a debug bus master access (21_debug_snag.md R663). -/
structure MemObs where
  ecc : Ecc := .clean
  deriving DecidableEq, Repr

/-! ### The commands -/

/-- A command of the block (opcode_table.json). -/
inductive Instr where
  /-- ALWAYS_ON_POWER_UP, R617 -/
  | alwaysOnPowerUp (ref : BitVec 2)
  /-- ALWAYS_ON_POWER_LOSS, R603 -/
  | alwaysOnPowerLoss
  /-- NVR_SCAN_DONE, R549 -/
  | nvrScanDone
  /-- REF_IN_LOST, R21 -/
  | refInLost
  /-- REF_IN_RETURN, R21 -/
  | refInReturn
  /-- REGISTER_WRITE, R5 -/
  | registerWrite (w : RegWrite)
  /-- UNIT_CTRL_WRITE, R690 -/
  | unitCtrlWrite (page : Nat) (v : W32)
  /-- ERR_INJECT, R681 -/
  | errInject (page : Nat) (v : W32)
  /-- IRQ_SET, R8 -/
  | irqSet (page : Nat) (v : W32)
  /-- RECOVERY_CLR, R689 -/
  | recoveryClr (page : Nat) (v : W32)
  /-- MANAGER_HEARTBEAT_SEND, R23 -/
  | managerHeartbeatSend
  /-- MANAGER_HEARTBEAT_RX, R23 -/
  | managerHeartbeatRx (f : MgrHb)
  /-- MANAGER_TAKEOVER, R22 -/
  | managerTakeover
  /-- MANAGER_LOST, R29 -/
  | managerLost
  /-- NOP, R110 -/
  | nop (w : AWord)
  /-- DUP, R110 -/
  | dup (w : AWord)
  /-- DROP, R110 -/
  | drop (w : AWord)
  /-- SWAP, R110 -/
  | swap (w : AWord)
  /-- OVER, R110 -/
  | over (w : AWord)
  /-- ROT, R110 -/
  | rot (w : AWord)
  /-- NIP, R110 -/
  | nip (w : AWord)
  /-- TUCK, R110 -/
  | tuck (w : AWord)
  /-- TWO_DUP, R110 -/
  | twoDup (w : AWord)
  /-- TWO_DROP, R110 -/
  | twoDrop (w : AWord)
  /-- TWO_SWAP, R110 -/
  | twoSwap (w : AWord)
  /-- TWO_OVER, R110 -/
  | twoOver (w : AWord)
  /-- PICK, R110 -/
  | pick (w : AWord) (n : BitVec 4)
  /-- ROLL, R110 -/
  | roll (w : AWord) (n : BitVec 4)
  /-- LIT_S, R87 -/
  | litS (w : AWord) (v : BitVec 8)
  /-- LIT_I, R87 -/
  | litI (w : LWord) (v : BitVec 22)
  /-- LIT_N, R87 -/
  | litN (w : LWord) (v : BitVec 22)
  /-- LIT_H, R88 -/
  | litH (w : LWord) (v : BitVec 10)
  /-- LIT_F, R87 -/
  | litF (w : LWord) (v : BitVec 22)
  /-- LIT_X, R87 -/
  | litX (w : LWord) (v : BitVec 22)
  /-- LIT_A, R87 -/
  | litA (w : LWord) (v : BitVec 22)
  /-- AND, R111 -/
  | and (w : AWord)
  /-- OR, R111 -/
  | or (w : AWord)
  /-- XOR, R111 -/
  | xor (w : AWord)
  /-- NOT, R111 -/
  | not (w : AWord)
  /-- ANDN, R111 -/
  | andn (w : AWord)
  /-- POPC, R111 -/
  | popc (w : AWord)
  /-- CLZ, R111 -/
  | clz (w : AWord)
  /-- SHL, R112 -/
  | shl (w : AWord) (n : Option (BitVec 5))
  /-- SHR, R112 -/
  | shr (w : AWord) (n : Option (BitVec 5))
  /-- SAR, R112 -/
  | sar (w : AWord) (n : Option (BitVec 5))
  /-- ROL, R112 -/
  | rol (w : AWord) (n : Option (BitVec 5))
  /-- ADD, R113 -/
  | add (w : AWord)
  /-- SUB, R113 -/
  | sub (w : AWord)
  /-- ADC, R153 -/
  | adc (w : AWord)
  /-- SBC, R153 -/
  | sbc (w : AWord)
  /-- NEG, R114 -/
  | neg (w : AWord)
  /-- ABS, R114 -/
  | abs (w : AWord)
  /-- CMP, R114 -/
  | cmp (w : AWord)
  /-- EQ, R114 -/
  | eq (w : AWord)
  /-- LT, R114 -/
  | lt (w : AWord)
  /-- ULT, R114 -/
  | ult (w : AWord)
  /-- MIN, R114 -/
  | min (w : AWord)
  /-- MAX, R114 -/
  | max (w : AWord)
  /-- UMIN, R114 -/
  | umin (w : AWord)
  /-- UMAX, R114 -/
  | umax (w : AWord)
  /-- INC, R113 -/
  | inc (w : AWord)
  /-- DEC, R113 -/
  | dec (w : AWord)
  /-- MUL, R117 -/
  | mul (w : AWord)
  /-- MULW_S, R154 -/
  | mulwS (w : AWord)
  /-- MULW_U, R154 -/
  | mulwU (w : AWord)
  /-- DIV, R118 -/
  | div (w : AWord)
  /-- DIVU, R118 -/
  | divu (w : AWord)
  /-- REM, R118 -/
  | rem (w : AWord)
  /-- REMU, R118 -/
  | remu (w : AWord)
  /-- X_ADD, R155 -/
  | xAdd (w : AWord) (sat : Bool)
  /-- X_SUB, R155 -/
  | xSub (w : AWord) (sat : Bool)
  /-- X_MUL, R156 -/
  | xMul (w : AWord) (sat : Bool)
  /-- X_DIV, R120 -/
  | xDiv (w : AWord) (sat : Bool)
  /-- X_NEG, R156 -/
  | xNeg (w : AWord) (sat : Bool)
  /-- X_ABS, R156 -/
  | xAbs (w : AWord) (sat : Bool)
  /-- FADD, R157 -/
  | fadd (w : AWord)
  /-- FSUB, R157 -/
  | fsub (w : AWord)
  /-- FMUL, R157 -/
  | fmul (w : AWord)
  /-- FMA, R165 -/
  | fma (w : AWord)
  /-- FDIV, R157 -/
  | fdiv (w : AWord)
  /-- FSQRT, R157 -/
  | fsqrt (w : AWord)
  /-- FNEG, R164 -/
  | fneg (w : AWord)
  /-- FABS, R164 -/
  | fabs (w : AWord)
  /-- FMIN, R166 -/
  | fmin (w : AWord)
  /-- FMAX, R166 -/
  | fmax (w : AWord)
  /-- FCMP, R122 -/
  | fcmp (w : AWord)
  /-- CVT_IF, R124 -/
  | cvtIf (w : AWord)
  /-- CVT_NF, R124 -/
  | cvtNf (w : AWord)
  /-- CVT_FI, R125 -/
  | cvtFi (w : AWord)
  /-- CVT_FN, R125 -/
  | cvtFn (w : AWord)
  /-- CVT_XF, R124 -/
  | cvtXf (w : AWord)
  /-- CVT_FX, R125 -/
  | cvtFx (w : AWord)
  /-- CVT_IX, R125 -/
  | cvtIx (w : AWord)
  /-- CVT_XI, R124 -/
  | cvtXi (w : AWord)
  /-- AS_NAT, R126 -/
  | asNat (w : AWord)
  /-- AS_INT, R126 -/
  | asInt (w : AWord)
  /-- AS_FLT, R126 -/
  | asFlt (w : AWord)
  /-- AS_ADR, R126 -/
  | asAdr (w : AWord)
  /-- CRC_STEP, R133 -/
  | crcStep (w : AWord)
  /-- PAR, R132 -/
  | par (w : AWord)
  /-- BREV, R132 -/
  | brev (w : AWord) (n : BitVec 5)
  /-- TAG_RD, R41 -/
  | tagRd (w : AWord)
  /-- TAG_SET, R41 -/
  | tagSet (w : AWord)
  /-- SEL, R138 -/
  | sel (w : AWord)
  /-- LD, R127 -/
  | ld (w : AWord)
  /-- ST, R127 -/
  | st (w : AWord)
  /-- LD_AT_A, R127 -/
  | ldAtA (w : AWord) (d : BitVec 8)
  /-- ST_AT_A, R127 -/
  | stAtA (w : AWord) (d : BitVec 8)
  /-- A_FETCH, R127 -/
  | aFetch (w : AWord)
  /-- R_FETCH, R127 -/
  | rFetch (w : AWord)
  /-- LC_FETCH, R127 -/
  | lcFetch (w : AWord)
  /-- LD_G, R127 -/
  | ldG (w : LWord) (a : BitVec 22)
  /-- ST_G, R127 -/
  | stG (w : LWord) (a : BitVec 22)
  /-- LDL, R127 -/
  | ldl (w : LWord) (n : BitVec 5)
  /-- STL, R127 -/
  | stl (w : LWord) (n : BitVec 5)
  /-- ATADD, R128 -/
  | atadd (w : LWord)
  /-- ATSWP, R128 -/
  | atswp (w : LWord)
  /-- TIM_NOW, R138 -/
  | timNow (w : AWord)
  /-- TIM_ADDNS, R138 -/
  | timAddns (w : AWord)
  /-- TIM_SUB, R138 -/
  | timSub (w : AWord)
  /-- TIM_CMP, R138 -/
  | timCmp (w : AWord)
  /-- RDROP, R91 -/
  | rdrop (w : BWord)
  /-- RDUP, R91 -/
  | rdup (w : BWord)
  /-- RSWAP, R91 -/
  | rswap (w : BWord)
  /-- ROVER, R91 -/
  | rover (w : BWord)
  /-- RPUSH_T, R91 -/
  | rpushT (w : BWord)
  /-- RPUSH_N, R91 -/
  | rpushN (w : BWord)
  /-- A_STEP, R91 -/
  | aStep (w : BWord) (k : BitVec 9)
  /-- A_STEP_CIRC, R93 -/
  | aStepCirc (w : BWord) (k : BitVec 9)
  /-- A_SET_TOS, R92 -/
  | aSetTos (w : BWord)
  /-- A_ADD_TOS, R92 -/
  | aAddTos (w : BWord)
  /-- A_SET_NOS, R92 -/
  | aSetNos (w : BWord)
  /-- A_SET_RTOS, R92 -/
  | aSetRtos (w : BWord)
  /-- LBRK, R94 -/
  | lbrk (w : BWord)
  /-- BR, R85 -/
  | br (w : LWord) (off : BitVec 22)
  /-- CALL, R85 -/
  | call (w : LWord) (off : BitVec 22)
  /-- RET, R129 -/
  | ret (w : LWord)
  /-- JMP_T, R99 -/
  | jmpT (w : LWord)
  /-- CALL_T, R99 -/
  | callT (w : LWord)
  /-- RETG, R281 -/
  | retg (w : LWord)
  /-- GATE, R279 -/
  | gate (w : LWord) (n : BitVec 10)
  /-- LOOP, R86 -/
  | loop (w : LWord) (s : BitVec 6) (len : BitVec 16)
  /-- LOOP_I, R86 -/
  | loopI (w : LWord) (s : BitVec 6) (count : BitVec 10) (len : BitVec 6)
  /-- TRIP_SET, R140 -/
  | tripSet (w : LWord) (n : BitVec 5)
  /-- PUB_WR, R140 -/
  | pubWr (w : LWord) (slot : BitVec 10) (member : BitVec 12)
  /-- SEND, R141 -/
  | send (w : LWord) (k : BitVec 3)
  /-- WAIT, R142 -/
  | wait (w : LWord) (n : BitVec 22)
  /-- YIELD, R143 -/
  | yield (w : LWord)
  /-- MOVE_BLK, R134 -/
  | moveBlk (w : LWord)
  /-- FILL_BLK, R134 -/
  | fillBlk (w : LWord)
  /-- BREV_BLK, R134 -/
  | brevBlk (w : LWord)
  /-- CRC_BLK, R134 -/
  | crcBlk (w : LWord)
  /-- CTL_RD, R144 -/
  | ctlRd (w : LWord) (n : BitVec 12)
  /-- CTL_WR, R144 -/
  | ctlWr (w : LWord) (n : BitVec 12)
  /-- LD_H, R145 -/
  | ldH (w : LWord) (z : HSize) (sx : Bool)
  /-- ST_H, R145 -/
  | stH (w : LWord) (z : HSize)
  /-- LD_T, R145 -/
  | ldT (w : LWord)
  /-- ST_T, R145 -/
  | stT (w : LWord)
  /-- DC_CLEAN, R147 -/
  | dcClean (w : LWord)
  /-- DC_INV, R147 -/
  | dcInv (w : LWord)
  /-- DC_CINV, R147 -/
  | dcCinv (w : LWord)
  /-- DC_ZERO, R147 -/
  | dcZero (w : LWord)
  /-- IC_INV, R147 -/
  | icInv (w : LWord)
  /-- DC_PF, R147 -/
  | dcPf (w : LWord)
  /-- L2_CLEAN, R147 -/
  | l2Clean (w : LWord)
  /-- L2_CINV, R147 -/
  | l2Cinv (w : LWord)
  /-- FLUSH_I, R148 -/
  | flushI (w : LWord)
  /-- CLB, R192 -/
  | clb (w : LWord)
  /-- FENCE_ENG, R219 -/
  | fenceEng (w : LWord)
  /-- WFI, R148 -/
  | wfi (w : LWord)
  /-- WIPE, R433 -/
  | wipe (w : LWord)
  /-- RSV_LD, R226 -/
  | rsvLd (w : LWord) (z : HSize)
  /-- RSV_ST, R226 -/
  | rsvSt (w : LWord) (z : HSize)
  /-- D_ADD, R146 -/
  | dAdd (w : LWord)
  /-- D_SUB, R146 -/
  | dSub (w : LWord)
  /-- D_MUL, R146 -/
  | dMul (w : LWord)
  /-- D_FMA, R146 -/
  | dFma (w : LWord)
  /-- D_DIV, R146 -/
  | dDiv (w : LWord)
  /-- D_SQRT, R146 -/
  | dSqrt (w : LWord)
  /-- D_CMP, R146 -/
  | dCmp (w : LWord)
  /-- CVT_FD, R169 -/
  | cvtFd (w : LWord)
  /-- CVT_DF, R169 -/
  | cvtDf (w : LWord)
  /-- CVT_ID, R169 -/
  | cvtId (w : LWord)
  /-- CVT_DI, R169 -/
  | cvtDi (w : LWord)
  /-- ILLEGAL_INSTRUCTION, R76 -/
  | illegalInstruction (w : LWord) (form : IllegalForm)
  /-- CLB_ACK, R192 -/
  | clbAck (bob : Nat)
  /-- EXCEPTION_ENTRY, R292 -/
  | exceptionEntry (core : Nat) (env : Env)
  /-- INTERRUPT_ENTRY, R193 -/
  | interruptEntry (core : Nat) (env : Env)
  /-- LATE_BUS_ERROR, R221 -/
  | lateBusError (e : StoreErr)
  /-- SPINDLE_LOCKSTEP_MISMATCH, R210 -/
  | spindleLockstepMismatch
  /-- SNOOP_RX, R232 -/
  | snoopRx (line : Nat) (kind : Snoop)
  /-- COH_FILL_ARRIVE, R233 -/
  | cohFillArrive (line : Nat)
  /-- COH_WRITEBACK_ACK, R232 -/
  | cohWritebackAck (line : Nat)
  /-- COH_RETRY_GRANT, R231 -/
  | cohRetryGrant (line : Nat)
  /-- COH_TIMEOUT, R234 -/
  | cohTimeout (line : Nat)
  /-- RSV_SNOOP_HOLD_EXPIRE, R228 -/
  | rsvSnoopHoldExpire
  /-- DEAD_AGENT, R235 -/
  | deadAgent
  /-- SPN_CNT_CLR, R241 -/
  | spnCntClr
  /-- SPN_LBE_CLR, R241 -/
  | spnLbeClr
  /-- BOB_CNT_CLR, R200 -/
  | bobCntClr (bob : Nat)
  /-- BOB_IC_INV, R200 -/
  | bobIcInv (bob : Nat)
  /-- UCS_LOAD, R259 -/
  | ucsLoad
  /-- UCS_PATCH_INSTALL, R262 -/
  | ucsPatchInstall (seq : Nat)
  /-- UCS_ECC_CLR, R265 -/
  | ucsEccClr
  /-- PPS_EDGE, R310 -/
  | ppsEdge (e : PpsEdge)
  /-- PPS_EDGE_MISSED, R311 -/
  | ppsEdgeMissed (input : Nat)
  /-- IRIG_FRAME, R323 -/
  | irigFrame (f : IrigFrame)
  /-- IRIG_TIMEOUT, R333 -/
  | irigTimeout
  /-- STC_PTP_OFFSET_WRITE, R318 -/
  | stcPtpOffsetWrite (v : W32)
  /-- PTP_LATE, R318 -/
  | ptpLate
  /-- STC_ADJ_WRITE, R315 -/
  | stcAdjWrite (v : W32)
  /-- SLEW_DONE, R315 -/
  | slewDone
  /-- STC_SET_NOW, R325 -/
  | stcSetNow
  /-- STC_SET_AT_EDGE, R325 -/
  | stcSetAtEdge
  /-- STC_SNAP, R306 -/
  | stcSnap (sub : Nat)
  /-- STC_CNT_CLR, R331 -/
  | stcCntClr
  /-- HOLDOVER_EXPIRED, R321 -/
  | holdoverExpired
  /-- LEAP_APPLY, R326 -/
  | leapApply
  /-- PPS_OUT_PULSE, R327 -/
  | ppsOutPulse
  /-- WINDOW_CLOSE, R352 -/
  | windowClose (o : CloseObs)
  /-- TRACKING_TICK, R350 -/
  | trackingTick (line : Nat) (o : TickObs)
  /-- STRAND_START, R353 -/
  | strandStart (bob : Nat) (inBound : Bool) (env : Env)
  /-- STRAND_PREEMPT, R354 -/
  | strandPreempt (o : PreemptObs)
  /-- BUDGET_EXHAUSTED, R355 -/
  | budgetExhausted (o : BudgetObs)
  /-- STRAND_FAULT_REPORT, R343 -/
  | strandFaultReport (bob : Nat)
  /-- TIMER_TRIGGER, R344 -/
  | timerTrigger (idx : Nat)
  /-- WAIT_TIMEOUT, R359 -/
  | waitTimeout (idx : Nat)
  /-- WHRL_CREATE, R337 -/
  | whrlCreate (segs : List SegReq) (shadow : Option W32)
  /-- WHRL_SUSPEND, R369 -/
  | whrlSuspend
  /-- WHRL_RESUME, R369 -/
  | whrlResume
  /-- WHRL_RESET, R369 -/
  | whrlReset
  /-- WHRL_FREE, R369 -/
  | whrlFree
  /-- WHRL_CLEAR, R369 -/
  | whrlClear
  /-- WHRL_CNT_CLR, R372 -/
  | whrlCntClr
  /-- PRCK_LOOP_SAMPLE, R382 -/
  | prckLoopSample (o : LoopObs)
  /-- MIGRATION_COPY_DONE, R391 -/
  | migrationCopyDone (idx : Nat) (ply : Nat) (ecc : Ecc)
  /-- STAGE_START, R395 -/
  | stageStart (idx : Nat)
  /-- STAGE_COMPLETE, R367 -/
  | stageComplete (idx : Nat)
  /-- ROTA_BOBBIN_STEP, R396 -/
  | rotaBobbinStep
  /-- ROTA_BANK_STEP, R396 -/
  | rotaBankStep
  /-- ROTA_LANE_STEP, R398 -/
  | rotaLaneStep
  /-- PRCK_EXCLUDE_WRITE, R385 -/
  | prckExcludeWrite (v : W32)
  /-- TICK_HEARTBEAT_RX, R404 -/
  | tickHeartbeatRx (f : TickHb)
  /-- HAND_BACK, R405 -/
  | handBack
  /-- SHADOW_DROP, R408 -/
  | shadowDrop
  /-- PRCK_CNT_CLR, R408 -/
  | prckCntClr
  /-- SCRUB_READ, R424 -/
  | scrubRead (pil : Nat) (eccs : List Ecc) (codeEcc : Ecc) (codeEcc2 : Ecc)
  /-- SCRUB_LATE, R424 -/
  | scrubLate (pil : Nat)
  /-- BANK_FILL_DONE, R426 -/
  | bankFillDone (pil : Nat) (bank : Nat)
  /-- PIL_CNT_CLR, R436 -/
  | pilCntClr (pil : Nat)
  /-- SCRUB_NOW, R436 -/
  | scrubNow (pil : Nat)
  /-- PIL_OWN_QUERY, R436 -/
  | pilOwnQuery (pil : Nat) (v : W32)
  /-- SE1_LEASE_WRITE, R430 -/
  | se1LeaseWrite (pil : Nat) (k : Nat) (v : W32)
  /-- LEASE_GRANTED, R430 -/
  | leaseGranted (pil : Nat) (k : Nat)
  /-- LEASE_RELEASED, R430 -/
  | leaseReleased (pil : Nat) (k : Nat)
  /-- SE1_APERTURE_ACCESS, R535 -/
  | se1ApertureAccess (place : BusPlace) (wr : Option W32) (ecc : Ecc)
  /-- TAMPER_ASSERT, R647 -/
  | tamperAssert (n : Nat) (stays : Bool) (wipeOk : Bool)
  /-- LANE_SIGNAL_LOSS, R442 -/
  | laneSignalLoss (o : SwingObs) (inFrame : Bool)
  /-- LANE_SIGNAL_RESTORE, R442 -/
  | laneSignalRestore (o : SwingObs)
  /-- LANE_LINK_UP, R443 -/
  | laneLinkUp (k : Nat) (halfDuplexOnly : Bool)
  /-- LANE_EYE_MEASURE, R442 -/
  | laneEyeMeasure (e : EyeMeas)
  /-- SV_FRAME_RX, R474 -/
  | svFrameRx (f : SvFrame)
  /-- GOOSE_FRAME_RX, R478 -/
  | gooseFrameRx (f : GooseFrame)
  /-- PTP_FRAME_RX, R456 -/
  | ptpFrameRx (f : Frame)
  /-- INTER_ENGINE_MESSAGE_RX, R365 -/
  | interEngineMessageRx (m : InterMsg)
  /-- SUPERVISION_FRAME_RX, R446 -/
  | supervisionFrameRx (f : Frame)
  /-- OTHER_FRAME_RX, R446 -/
  | otherFrameRx (f : Frame)
  /-- C3794_FRAME_RX, R440 -/
  | c3794FrameRx (f : C37Frame)
  /-- DUP_ENTRY_EXPIRE, R454 -/
  | dupEntryExpire (pair : Nat) (src : Nat)
  /-- SUPERVISION_FRAME_TX, R453 -/
  | supervisionFrameTx (pair : Nat)
  /-- FRAME_TX_START, R457 -/
  | frameTxStart (k : Nat) (sub : Nat)
  /-- LANE_GUARD_OPEN, R458 -/
  | laneGuardOpen (k : Nat) (line : Nat)
  /-- PG_FWQ_TX_HEAD_WRITE, R461 -/
  | pgFwqTxHeadWrite (g : Nat) (v : W32) (busErr : Bool)
  /-- LANE_CNT_CLR, R468 -/
  | laneCntClr (k : Nat)
  /-- EQ_RESTART, R468 -/
  | eqRestart (k : Nat)
  /-- GOOSE_TAL_EXPIRY, R480 -/
  | gooseTalExpiry (sub : Nat)
  /-- PUB_COMPARE_CLOSE, R487 -/
  | pubCompareClose (slot : Nat) (agree : Bool)
  /-- GOOSE_RETRANSMIT, R489 -/
  | gooseRetransmit (slot : Nat)
  /-- STATUS_RECORD_WRITE, R483 -/
  | statusRecordWrite
  /-- TRIP_VOTE_CLOSE, R492 -/
  | tripVoteClose (n : Nat) (k : Nat) (agree : Bool)
  /-- TRIP_DEFERRED_RESET, R493 -/
  | tripDeferredReset (n : Nat)
  /-- TRIP_READBACK_FAULT, R496 -/
  | tripReadbackFault (n : Nat) (level : Bool)
  /-- TRIP_CNT_CLR, R507 -/
  | tripCntClr
  /-- RB_CLR, R507 -/
  | rbClr (levels : W32)
  /-- BI_EDGE, R497 -/
  | biEdge (n : Nat) (level : Bool) (sub : Nat)
  /-- BI_CHANGE, R500 -/
  | biChange (n : Nat)
  /-- BI_CHATTER_RELEASE, R499 -/
  | biChatterRelease (n : Nat) (sub : Nat)
  /-- BIO_CNT_CLR, R503 -/
  | bioCntClr
  /-- EIC_SOURCE_EVENT, R512 -/
  | eicSourceEvent (src : Nat) (edge : Bool)
  /-- EIC_CLAIM, R515 -/
  | eicClaim (target : Nat) (r : ClaimRead)
  /-- EIC_COMPLETE, R518 -/
  | eicComplete (target : Nat) (v : W32) (viaPage : Bool)
  /-- EIC_SRC_CFG_WRITE, R513 -/
  | eicSrcCfgWrite (v : W32)
  /-- EIC_SW_SET, R528 -/
  | eicSwSet (v : W32)
  /-- EIC_T_PRIV_SET, R532 -/
  | eicTPrivSet (target : Nat) (v : W32)
  /-- EIC_TIMER_EXPIRE, R532 -/
  | eicTimerExpire (target : Nat)
  /-- EIC_CNT_CLR, R528 -/
  | eicCntClr
  /-- CORE_WAKE, R522 -/
  | coreWake (core : Nat)
  /-- HIF_CMD_DOORBELL, R537 -/
  | hifCmdDoorbell (n : Nat) (head : W32)
  /-- HIF_POST, R540 -/
  | hifPost (v : W32) (busErr : Bool)
  /-- HIF_MOD_TIMER, R541 -/
  | hifModTimer (n : Nat)
  /-- HOST_SLEEP_FALL, R543 -/
  | hostSleepFall
  /-- HIF_CNT_CLR, R561 -/
  | hifCntClr
  /-- HIF_RING_CFG_WRITE, R561 -/
  | hifRingCfgWrite (v : W32)
  /-- NVR_RECORD_COMMIT, R545 -/
  | nvrRecordCommit (verifyOk : Bool)
  /-- NVR_POST, R548 -/
  | nvrPost (who : Who)
  /-- NVR_DI_WRITE, R551 -/
  | nvrDiWrite
  /-- NVR_CNT_CLR, R565 -/
  | nvrCntClr
  /-- NVR_RD_IDX_WRITE, R550 -/
  | nvrRdIdxWrite (v : W32)
  /-- NVR_READ_COPY_DONE, R550 -/
  | nvrReadCopyDone
  /-- NVR_DI_SEL_WRITE, R565 -/
  | nvrDiSelWrite (v : W32)
  /-- DRA_TRN_GO, R556 -/
  | draTrnGo (v : W32)
  /-- DRA_TRN_PATTERN_DONE, R556 -/
  | draTrnPatternDone (pass : Bool) (errors : Nat)
  /-- TRAIN_DONE, R556 -/
  | trainDone
  /-- TRAIN_FAIL, R557 -/
  | trainFail
  /-- RETRAIN, R556 -/
  | retrain
  /-- DRA_CNT_CLR, R569 -/
  | draCntClr
  /-- DRAM_ERROR, R558 -/
  | dramError (addr : Nat) (kind : DramErr)
  /-- DRA_SPARE_COPY_DONE, R558 -/
  | draSpareCopyDone
  /-- DRA_SELF_REFRESH_ENTER, R559 -/
  | draSelfRefreshEnter
  /-- DRA_SELF_REFRESH_EXIT, R559 -/
  | draSelfRefreshExit
  /-- ERROR_LATCH, R572 -/
  | errorLatch
  /-- DEGRADED_EXIT, R584 -/
  | degradedExit
  /-- SELV_TEST_START, R579 -/
  | selvTestStart
  /-- SELV_TEST_DONE, R579 -/
  | selvTestDone (u : Nat) (o : TestObs)
  /-- SELV_TEST_TIMEOUT, R579 -/
  | selvTestTimeout (u : Nat)
  /-- SAFE_EXIT, R586 -/
  | safeExit (o : BootObs)
  /-- FAULT_N_WIDTH_END, R587 -/
  | faultNWidthEnd
  /-- FN_RELEASE, R587 -/
  | fnRelease
  /-- SELV_CNT_CLR, R598 -/
  | selvCntClr
  /-- SELV_TEST_REQ, R598 -/
  | selvTestReq
  /-- UNRETIRE, R582 -/
  | unretire
  /-- SELV_WDOG_KICK, R591 -/
  | selvWdogKick (v : W32)
  /-- ENGINE_WDOG_PRE, R591 -/
  | engineWdogPre
  /-- ENGINE_WDOG_EXPIRE, R591 -/
  | engineWdogExpire
  /-- CHK_SELF_TEST, R590 -/
  | chkSelfTest (o : ChkObs)
  /-- MODE_CMD_BOOT, R618 -/
  | modeCmdBoot (c : ModeCmd) (o : BootObs)
  /-- MODE_CMD_PROOF, R619 -/
  | modeCmdProof (c : ModeCmd)
  /-- PROOF_END, R619 -/
  | proofEnd (failed : List StepObs)
  /-- MODE_CMD_CONFIGURE, R607 -/
  | modeCmdConfigure (c : ModeCmd)
  /-- MODE_CMD_ARMED, R620 -/
  | modeCmdArmed (c : ModeCmd) (decls : List StrandDecl)
  /-- MODE_CMD_RUN, R621 -/
  | modeCmdRun (c : ModeCmd)
  /-- MODE_CMD_TEST, R606 -/
  | modeCmdTest (c : ModeCmd)
  /-- MODE_CMD_BLOCKED, R606 -/
  | modeCmdBlocked (c : ModeCmd)
  /-- MODE_CMD_SERVICE, R603 -/
  | modeCmdService (c : ModeCmd)
  /-- MODE_CMD_KEEP, R608 -/
  | modeCmdKeep (c : ModeCmd)
  /-- MODE_TRANSITION_DONE, R621 -/
  | modeTransitionDone
  /-- PWR_DISCONNECT, R608 -/
  | pwrDisconnect
  /-- PWR_CNT_CLR, R626 -/
  | pwrCntClr
  /-- DOMAIN_POWER_UP, R609 -/
  | domainPowerUp (d : Nat)
  /-- DOMAIN_TIMEOUT, R628 -/
  | domainTimeout (d : Nat)
  /-- BOB_POWER_GATE, R614 -/
  | bobPowerGate (bob : Nat)
  /-- BOB_PG_WAKE, R615 -/
  | bobPgWake (bob : Nat)
  /-- PILLOW_VF_UPDATE, R611 -/
  | pillowVfUpdate (o : VfObs)
  /-- ENV_EXCURSION, R613 -/
  | envExcursion (e : EnvEvent)
  /-- CLK_MONITOR, R631: the clock's ratio to its setting in ten thousandths; the internal oscillator's mean period in 2⁻³² ns
  (R304) -/
  | clkMonitor (pll : Pll) (ratio : Nat) (intOsc : Nat)
  /-- PLL_UNLOCK, R632 -/
  | pllUnlock (pll : Pll)
  /-- CLK_SPN_CFG_WRITE, R630 -/
  | clkSpnCfgWrite (v : W32)
  /-- VERIFY_TABLES, R640 -/
  | verifyTables
  /-- LOAD_CODE, R640 -/
  | loadCode
  /-- SVN_COMMIT, R641 -/
  | svnCommit
  /-- CHALLENGE, R648 -/
  | challenge (trngOk : Bool)
  /-- DBG_RESP, R648 -/
  | dbgResp
  /-- DBG_REVOKE, R648 -/
  | dbgRevoke
  /-- PROVISION, R642 -/
  | provision
  /-- GET_ID, R642 -/
  | getId
  /-- CHALLENGE_LAPSE, R648 -/
  | challengeLapse
  /-- DBG_GRANT_EXPIRE, R662 -/
  | dbgGrantExpire
  /-- DBG_LOCKOUT_END, R649 -/
  | dbgLockoutEnd
  /-- APPLY, R636 -/
  | apply (fuseOk : Bool) (wipeOk : Bool) (torn : Bool)
  /-- KEY_LOAD, R645 -/
  | keyLoad
  /-- KEY_ERASE, R646 -/
  | keyErase
  /-- KEY_ERASE_ALL, R646 -/
  | keyEraseAll
  /-- HALT, R665 -/
  | halt
  /-- HALT_TAKEN, R666 -/
  | haltTaken (core : Nat) (forced : Bool)
  /-- RESUME, R673 -/
  | resume
  /-- STEP, R667 -/
  | step (stepIrq : Bool)
  /-- RESET_LOCKUP, R670 -/
  | resetLockup
  /-- CANCEL, R665 -/
  | cancel
  /-- DBG_CORE_WRITE, R669 -/
  | dbgCoreWrite (hi : Bool) (v : W32)
  /-- DBG_MEM_READ, R663 -/
  | dbgMemRead
  /-- DBG_MEM_WRITE, R663 -/
  | dbgMemWrite
  /-- DBG_MEM_DONE, R663 -/
  | dbgMemDone (o : MemObs)
  /-- DBG_WDOG_KICK, R674 -/
  | dbgWdogKick (who : Who) (v : W32)
  /-- CORE_WDOG_PRE, R674 -/
  | coreWdogPre (core : Nat)
  /-- CORE_WDOG_EXPIRE, R674 -/
  | coreWdogExpire (core : Nat)
  /-- TRACE_CLR, R683 -/
  | traceClr
  /-- SNAG_STOP, R678 -/
  | snagStop
  /-- REF_IN_EDGE, R303 -/
  | refInEdge (o : EdgeObs)
  /-- HOST_SLEEP_ASSERT, R543 -/
  | hostSleepAssert (clockStops : Bool)
  /-- HOST_CLOCK_RETURN, R20 -/
  | hostClockReturn
  /-- LANE_LINK_DOWN, R443 -/
  | laneLinkDown (o : LinkFall) (inFrame : Bool)
  /-- LANE_SYMBOL_ERROR, R470 -/
  | laneSymbolError (k : Nat)
  /-- DIRECTORY_RETRY, R231 -/
  | directoryRetry (line : Nat)
  /-- STEP_TIMEOUT, R624 -/
  | stepTimeout (o : StepObs)
  /-- WAKE_FAIL, R438 -/
  | wakeFail (pil : Nat) (bank : Option Nat)
  deriving DecidableEq, Repr

end Sys2Proof
end

