-- ==== Sys2Proof/Decode.lean ====
section
/-!
DEFINITION. The words of a Kendil instruction (03_kendil_encoding.md R74 to R91): which command a 32-bit word spells on a core.
The table of the block's commands gives no row any bits, so `decodeTableWord` answers none.
-/

namespace Sys2Proof

/-! ### Codes of the two units (R89, R91) -/

/-- COND by its code (R77). -/
def condOf (c : BitVec 3) : Cond :=
  match c.toNat with
  | 0 => .al | 1 => .z | 2 => .nz | 3 => .lt | 4 => .ge | 5 => .qg | 6 => .qn | _ => .last

/-- The operation with a selector in a group that lists its selectors from 0. -/
def listed (ops : List α) (sel : BitVec 8) : Option α := ops[sel.toNat]?

/-- Group STACK. -/
def stackOp (sel : BitVec 8) : Option AOp :=
  match (sel.extractLsb' 4 4).toNat with
  | 1 => some (.pick (sel.setWidth 4))
  | 2 => some (.roll (sel.setWidth 4))
  | _ => listed [.nop, .dup, .drop, .swap, .over, .rot, .nip, .tuck, .dup2, .drop2, .swap2, .over2] sel

/-- Group SHIFT: the count is [4:0], or TOS with [4:0] zero. -/
def shiftOf (sel : BitVec 8) : Option AOp :=
  let n := sel.setWidth 5
  let k : ShiftOp := match (sel.extractLsb' 5 2).toNat with | 0 => .shl | 1 => .shr | 2 => .sar | _ => .rol
  if sel.getLsbD 7 = false then some (.shift k (some n)) else if n = 0 then some (.shift k none) else none

/-- Group FIX: [7] saturates. -/
def fixOf (sel : BitVec 8) : Option AOp :=
  (listed [FixOp.add, .sub, .mul, .div, .neg, .abs] (sel &&& 0x7F)).map fun op => .fix op (sel.getLsbD 7)

/-- Group BITS. -/
def bitsOf (sel : BitVec 8) : Option AOp :=
  if sel.extractLsb' 5 3 = 1 then some (.brev (sel.setWidth 5)) else listed [.crcStep, .par] sel

/-- A data-unit code (R89): its operation, none where it is reserved. -/
def aOpOf (c : BitVec 13) : Option AOp :=
  let sel : BitVec 8 := c.setWidth 8
  match (c.extractLsb' 8 5).toNat with
  | 0x00 => stackOp sel
  | 0x01 => some (.litS sel)
  | 0x02 => listed [.and, .or, .xor, .not, .andn, .popc, .clz] sel
  | 0x03 => shiftOf sel
  | 0x04 => listed [.add, .sub, .adc, .sbc, .neg, .abs, .cmp, .eq, .lt, .ult, .min, .max, .umin, .umax, .inc, .dec] sel
  | 0x05 => listed [.mul, .mulwS, .mulwU, .div, .divu, .rem, .remu] sel
  | 0x06 => fixOf sel
  | 0x07 => listed [.fadd, .fsub, .fmul, .fma, .fdiv, .fsqrt, .fneg, .fabs, .fmin, .fmax, .fcmp] sel
  | 0x08 => listed [.cvtIf, .cvtNf, .cvtFi, .cvtFn, .cvtXf, .cvtFx, .cvtIx, .cvtXi, .asNat, .asInt, .asFlt, .asAdr] sel
  | 0x09 => bitsOf sel
  | 0x0A => listed [.tagRd, .tagSet] sel
  | 0x0B => listed [.sel] sel
  | 0x0C => some (.ldA sel)
  | 0x0D => some (.stA sel)
  | 0x0E => listed [.ld, .st, .aFetch, .rFetch, .lcFetch] sel
  | 0x0F => listed [.timNow, .timAddns, .timSub, .timCmp] sel
  | _ => none

/-- An address-unit code (R91): its operation, none where it is reserved. -/
def bOpOf (c : BitVec 13) : Option BOp :=
  let sel : BitVec 9 := c.setWidth 9
  match (c.extractLsb' 9 4).toNat with
  | 0x0 => [BOp.nop, .rdrop, .rdup, .rswap, .rover, .rpushT, .rpushN][sel.toNat]?
  | 0x1 => some (.aStep sel)
  | 0x2 => some (.aStepCirc sel)
  | 0x3 => [BOp.aSetTos, .aAddTos, .aSetNos, .aSetRtos][sel.toNat]?
  | 0x4 => [BOp.lbrk][sel.toNat]?
  | _ => none

/-! ### Rows -/

/-- The row that a data-unit operation leads. -/
def rowOfA (w : AWord) (a : AOp) : Instr :=
  match a with
  | .nop => .nop w | .dup => .dup w | .drop => .drop w | .swap => .swap w | .over => .over w | .rot => .rot w
  | .nip => .nip w | .tuck => .tuck w | .dup2 => .twoDup w | .drop2 => .twoDrop w | .swap2 => .twoSwap w
  | .over2 => .twoOver w | .pick n => .pick w n | .roll n => .roll w n | .litS v => .litS w v
  | .and => .and w | .or => .or w | .xor => .xor w | .not => .not w | .andn => .andn w | .popc => .popc w | .clz => .clz w
  | .shift .shl n => .shl w n | .shift .shr n => .shr w n | .shift .sar n => .sar w n | .shift .rol n => .rol w n
  | .add => .add w | .sub => .sub w | .adc => .adc w | .sbc => .sbc w | .neg => .neg w | .abs => .abs w | .cmp => .cmp w
  | .eq => .eq w | .lt => .lt w | .ult => .ult w | .min => .min w | .max => .max w | .umin => .umin w | .umax => .umax w
  | .inc => .inc w | .dec => .dec w
  | .mul => .mul w | .mulwS => .mulwS w | .mulwU => .mulwU w | .div => .div w | .divu => .divu w | .rem => .rem w
  | .remu => .remu w
  | .fix .add b => .xAdd w b | .fix .sub b => .xSub w b | .fix .mul b => .xMul w b | .fix .div b => .xDiv w b
  | .fix .neg b => .xNeg w b | .fix .abs b => .xAbs w b
  | .fadd => .fadd w | .fsub => .fsub w | .fmul => .fmul w | .fma => .fma w | .fdiv => .fdiv w | .fsqrt => .fsqrt w
  | .fneg => .fneg w | .fabs => .fabs w | .fmin => .fmin w | .fmax => .fmax w | .fcmp => .fcmp w
  | .cvtIf => .cvtIf w | .cvtNf => .cvtNf w | .cvtFi => .cvtFi w | .cvtFn => .cvtFn w | .cvtXf => .cvtXf w
  | .cvtFx => .cvtFx w | .cvtIx => .cvtIx w | .cvtXi => .cvtXi w
  | .asNat => .asNat w | .asInt => .asInt w | .asFlt => .asFlt w | .asAdr => .asAdr w
  | .crcStep => .crcStep w | .par => .par w | .brev n => .brev w n
  | .tagRd => .tagRd w | .tagSet => .tagSet w | .sel => .sel w
  | .ldA d => .ldAtA w d | .stA d => .stAtA w d | .ld => .ld w | .st => .st w
  | .aFetch => .aFetch w | .rFetch => .rFetch w | .lcFetch => .lcFetch w
  | .timNow => .timNow w | .timAddns => .timAddns w | .timSub => .timSub w | .timCmp => .timCmp w

/-- The row that an address-unit operation leads: its operation A is NOP. -/
def rowOfB (w : BWord) (b : BOp) : Instr :=
  match b with
  | .nop => .nop ⟨w.core, w.cond, w.ca, w.cb, .nop, w.env⟩
  | .rdrop => .rdrop w | .rdup => .rdup w | .rswap => .rswap w | .rover => .rover w | .rpushT => .rpushT w
  | .rpushN => .rpushN w | .aStep k => .aStep w k | .aStepCirc k => .aStepCirc w k
  | .aSetTos => .aSetTos w | .aAddTos => .aAddTos w | .aSetNos => .aSetNos w | .aSetRtos => .aSetRtos w
  | .lbrk => .lbrk w

/-- The size field z of R145. -/
def hsizeOf (z : BitVec 2) : HSize :=
  match z.toNat with
  | 0 => .byte | 1 => .half | 2 => .word | _ => .dword

/-- A long-format word (R84): the bits of OPERAND that its row reads, and the row. No row where MAJOR, or a code within it, is
reserved. -/
def longRow (w : LWord) (major : Nat) (v : BitVec 22) : Option (Nat × Instr) :=
  match major with
  | 0x01 => some (22, .litI w v)
  | 0x02 => some (22, .litN w v)
  | 0x03 => some (10, .litH w (v.setWidth 10))
  | 0x04 => some (22, .litF w v)
  | 0x05 => some (22, .litX w v)
  | 0x06 => some (22, .litA w v)
  | 0x08 => some (22, .br w v)
  | 0x09 => some (22, .call w v)
  | 0x0A => ([.ret w, .jmpT w, .callT w, .retg w][(v.setWidth 3).toNat]?).map (3, ·)
  | 0x0B => some (22, .loop w (v.extractLsb' 16 6) (v.setWidth 16))
  | 0x0C => some (22, .loopI w (v.extractLsb' 16 6) (v.extractLsb' 6 10) (v.setWidth 6))
  | 0x0D => some (10, .gate w (v.setWidth 10))
  | 0x0E => some (5, .tripSet w (v.setWidth 5))
  | 0x0F => some (22, .pubWr w (v.setWidth 10) (v.extractLsb' 10 12))
  | 0x10 => some (3, .send w (v.setWidth 3))
  | 0x11 => some (22, .wait w v)
  | 0x12 => some (0, .yield w)
  | 0x13 => some (5, .ldl w (v.setWidth 5))
  | 0x14 => some (5, .stl w (v.setWidth 5))
  | 0x15 => some (22, .ldG w v)
  | 0x16 => some (22, .stG w v)
  | 0x17 => some (0, .atadd w)
  | 0x18 => some (0, .atswp w)
  | 0x19 => ([.moveBlk w, .fillBlk w, .brevBlk w, .crcBlk w][(v.setWidth 3).toNat]?).map (3, ·)
  | 0x1A => some (12, .ctlRd w (v.setWidth 12))
  | 0x1B => some (12, .ctlWr w (v.setWidth 12))
  | 0x20 => some (3, .ldH w (hsizeOf (v.setWidth 2)) (v.getLsbD 2))
  | 0x21 => some (2, .stH w (hsizeOf (v.setWidth 2)))
  | 0x22 => some (0, .ldT w)
  | 0x23 => some (0, .stT w)
  | 0x24 =>
    ([.dcClean w, .dcInv w, .dcCinv w, .dcZero w, .icInv w, .dcPf w, .l2Clean w, .l2Cinv w][(v.setWidth 4).toNat]?).map (4, ·)
  | 0x25 => some (0, .flushI w)
  | 0x26 => ([.clb w, .fenceEng w, .wfi w, .wipe w][(v.setWidth 8).toNat]?).map (8, ·)
  | 0x27 => some (3, if v.getLsbD 0 then .rsvSt w (hsizeOf (v.extractLsb' 1 2)) else .rsvLd w (hsizeOf (v.extractLsb' 1 2)))
  | 0x28 =>
    ([.dAdd w, .dSub w, .dMul w, .dFma w, .dDiv w, .dSqrt w, .dCmp w, .cvtFd w, .cvtDf w, .cvtId w, .cvtDi w][
      (v.setWidth 8).toNat]?).map (8, ·)
  | _ => none

/-- The majors of one core kind (R84): TRIP.SET, PUB.WR, WAIT to STL are the bobbins', 0x20 to 0x28 the spindle's. -/
def majorOn (spindle : Bool) (major : Nat) : Bool :=
  if spindle then major ∉ [0x0E, 0x0F, 0x11, 0x12, 0x13, 0x14] else decide (major < 0x20)

/-- A long-format word on a core: a 1 in a bit of OPERAND that no field holds is illegal (R76). -/
def longWord (w : LWord) (v : W32) : Instr :=
  let major := (v.extractLsb' 22 6).toNat
  let operand : BitVec 22 := v.setWidth 22
  match longRow w major operand with
  | none => .illegalInstruction w .reservedMajor
  | some (bits, i) =>
    if majorOn (w.core = 256) major = false then .illegalInstruction w .wrongCore
    else if operand >>> bits ≠ 0 then .illegalInstruction w .rsvOperand
    else i

/-- A paired word on a core (R74): the data-unit operation's row, or the address-unit operation's where operation A is NOP. -/
def pairedWord (core : Nat) (env : Env) (v : W32) : Instr :=
  let cond := condOf (v.extractLsb' 28 3)
  let ca := v.getLsbD 27
  let cb := v.getLsbD 13
  match aOpOf (v.extractLsb' 14 13), bOpOf (v.setWidth 13) with
  | none, _ => .illegalInstruction ⟨core, cond, env⟩ .reservedA
  | some _, none => .illegalInstruction ⟨core, cond, env⟩ .reservedB
  | some .nop, some b => rowOfB ⟨core, cond, ca, cb, .nop, env⟩ b
  | some a, some b => rowOfA ⟨core, cond, ca, cb, b, env⟩ a

/-- The command that an instruction word spells on a core: bit [31] selects the format (R74), and the words of zeros and of
ones are illegal (R75). -/
def decodeKendil (core : Nat) (env : Env) (v : W32) : Instr :=
  if v = 0 then .illegalInstruction ⟨core, .al, env⟩ .zeroWord
  else if v = 0xFFFFFFFF then .illegalInstruction ⟨core, .al, env⟩ .onesWord
  else if v.getLsbD 31 then pairedWord core env v
  else longWord ⟨core, condOf (v.extractLsb' 28 3), env⟩ v

/-- The command that a word spells by the bits of spec/opcode_table.json. No row has bits, so no word spells one. -/
def decodeTableWord (_nbits _w : Nat) : Option Instr := none

end Sys2Proof
end

