-- ==== Sys2Proof/Config.lean ====
section
/-!
DEFINITION. What one part fixes and the model leaves open: the free values (opaque, so that no proof sees one), the fused
device identity, and the cryptographic functions of 20_security.md, whose values the spec takes from their own
standards.
-/

namespace Sys2Proof.Config

/-- Free values: `freeWord n` is the n-th value the spec leaves open (log entry 1). -/
opaque freeWord : Nat → BitVec 48
/-- A free choice between two outcomes. -/
opaque freeBool : Nat → Bool

/-- Where between two edges of the always-on clock something happens that no command places there: of the edge, and of the reading's
number (R305, log entry 170). -/
opaque instant : Nat → Nat → Nat

/-- ENG_BASE in units of the 16 MiB of the register window: the host's manual gives it (R3). -/
opaque engBase : Nat

/-- The device identifier fused into the part (20_security.md R652). -/
opaque deviceId : BitVec 64
/-- The microcode ROM: the 24-bit word at each of its 8,192 addresses, of the spindle's sequencer or, alike in all 16, of a pillow's; its
contents are not in the source (R244, log entry 128). -/
opaque rom : Bool → Nat → BitVec 24
/-- Output of the random generator, 32 bytes at a time (R648). -/
opaque random : Nat → List Byte

/-- A publication slot of SV sends 9-2LE, not IEC 61869-9: its entry does not state which (R61; log entry 145). -/
opaque svLe : Nat → Bool

/-- SHA-384 (R638, R642). -/
opaque sha384 : List Byte → List Byte
/-- ECDSA P-384: public key, signature, digest (R638). -/
opaque ecdsaVerify : List Byte → List Byte → List Byte → Bool
/-- ML-DSA-65: public key, signature, message (R638). -/
opaque mldsaVerify : List Byte → List Byte → List Byte → Bool
/-- AES-256-GCM opening: key, IV, associated data, ciphertext, tag (R645). -/
opaque gcmOpen : List Byte → List Byte → List Byte → List Byte → List Byte → Option (List Byte)
/-- Entry n of the boot ROM's Haldim key table: SHA-384 of the two public keys (R638). -/
opaque haldimKey : Nat → List Byte
/-- The two public keys of entry n of that table, with which microcode patches are verified (R260, R638). -/
opaque haldimEc : Nat → List Byte
opaque haldimMl : Nat → List Byte
/-- The KTK unwrapped from a kind 6 payload with the device identity key (R642). -/
opaque unwrapKtk : List Byte → Option (List Byte)
/-- The signed device identity record of GET_ID, 512 bytes (R642). -/
opaque identity : List Byte
/-- Code-memory writes that the payload of a kind 3 image states: address, instruction word. The spec leaves the
payload's layout to the image (R640). -/
opaque codeWords : List Byte → List (Nat × BitVec 32)

end Sys2Proof.Config
end

