-- ==== Sys2Proof/Machine/Fp.lean ====
section
/-!
DEFINITION. IEEE 754-2019 binary32 and binary64 arithmetic as 05_arithmetic.md R157 to R169 fixes it: four rounding
modes, full subnormals, tininess after rounding, the NaN rules of R164 and the sticky flags. Bit patterns are numbers;
one definition serves both formats.
-/

namespace Sys2Proof.Machine

/-- A binary interchange format: exponent bits and fraction bits. -/
structure FFmt where
  eb : Nat
  mb : Nat
  deriving DecidableEq, Repr

/-- binary32 (R157). -/
def f32 : FFmt := ⟨8, 23⟩
/-- binary64 (R168). -/
def f64 : FFmt := ⟨11, 52⟩

/-- Rounding modes (R158), in the order of FPCSR.RM. -/
inductive Rm where
  | rne | rtz | rup | rdn
  deriving DecidableEq, Repr

/-- The mode a 2-bit code names (R144). -/
def Rm.ofCode : Nat → Rm
  | 0 => .rne | 1 => .rtz | 2 => .rup | _ => .rdn

/-- The code of a mode. -/
def Rm.code : Rm → Nat
  | .rne => 0 | .rtz => 1 | .rup => 2 | .rdn => 3

/-- The flags one operation raises; `tiny` records a tiny result, exact or not (R160). -/
structure FFlags where
  iv : Bool := false
  dz : Bool := false
  of : Bool := false
  uf : Bool := false
  nx : Bool := false
  tiny : Bool := false
  deriving DecidableEq, Repr

/-- No flag. -/
def FFlags.nil : FFlags := {}
/-- The union of two operations' flags. -/
def FFlags.or (a b : FFlags) : FFlags :=
  ⟨a.iv || b.iv, a.dz || b.dz, a.of || b.of, a.uf || b.uf, a.nx || b.nx, a.tiny || b.tiny⟩
/-- The five sticky flags as bits IV 4, DZ 3, OF 2, UF 1, NX 0 (R144). -/
def FFlags.code (f : FFlags) : Nat := at' f.iv 4 + at' f.dz 3 + at' f.of 2 + at' f.uf 1 + at' f.nx 0

/-- The number of bits of `n` up to its leading one. -/
def bitLen (n : Nat) : Nat := if n = 0 then 0 else Nat.log2 n + 1

namespace FFmt
variable (f : FFmt)

def bias : Int := (2 ^ (f.eb - 1) : Nat) - 1
def emax : Nat := 2 ^ f.eb - 1
def width : Nat := f.eb + f.mb + 1
def sign (x : Nat) : Bool := x / 2 ^ (f.eb + f.mb) % 2 == 1
def expo (x : Nat) : Nat := x / 2 ^ f.mb % 2 ^ f.eb
def frac (x : Nat) : Nat := x % 2 ^ f.mb
def isNaN (x : Nat) : Bool := f.expo x == f.emax && f.frac x != 0
/-- A signalling NaN: the top fraction bit is 0 (R164). -/
def isSNaN (x : Nat) : Bool := f.isNaN x && f.frac x / 2 ^ (f.mb - 1) == 0
def isInf (x : Nat) : Bool := f.expo x == f.emax && f.frac x == 0
def isZero (x : Nat) : Bool := f.expo x == 0 && f.frac x == 0
/-- The quiet form of a NaN: quiet bit set, sign and remaining payload kept (R164). -/
def quiet (x : Nat) : Nat := if f.frac x / 2 ^ (f.mb - 1) == 0 then x + 2 ^ (f.mb - 1) else x
def zero (s : Bool) : Nat := at' s (f.eb + f.mb)
def inf (s : Bool) : Nat := at' s (f.eb + f.mb) + f.emax * 2 ^ f.mb
def maxFin (s : Bool) : Nat := at' s (f.eb + f.mb) + f.emax * 2 ^ f.mb - 1
/-- The default NaN (R164, R168). -/
def dNaN : Nat := f.emax * 2 ^ f.mb + 2 ^ (f.mb - 1)
/-- Significand of a finite value. -/
def sig (x : Nat) : Nat := if f.expo x = 0 then f.frac x else f.frac x + 2 ^ f.mb
/-- Exponent of the significand's unit. -/
def uexp (x : Nat) : Int := (max (f.expo x) 1 : Nat) - f.bias - f.mb
/-- The smallest exponent of a unit (of a subnormal). -/
def qmin : Int := 1 - f.bias - f.mb

end FFmt

/-- Whether a rounding step moves away from zero: `lsb` the last kept bit, `half` and `rest` the dropped part. -/
def roundUp (rm : Rm) (sgn lsb half rest : Bool) : Bool :=
  match rm with
  | .rne => half && (rest || lsb)
  | .rtz => false
  | .rup => !sgn && (half || rest)
  | .rdn => sgn && (half || rest)

/-- `m · 2^e` (plus a part below it when `sticky`) rounded to a multiple of `2^q`: the multiple and whether inexact. -/
def roundTo (rm : Rm) (sgn : Bool) (m : Nat) (e : Int) (sticky : Bool) (q : Int) : Nat × Bool :=
  if q ≤ e then
    let k := m * 2 ^ (e - q).toNat
    (if roundUp rm sgn (k % 2 == 1) false sticky then k + 1 else k, sticky)
  else
    let d := (q - e).toNat
    let k := m / 2 ^ d
    let r := m % 2 ^ d
    let half := r / 2 ^ (d - 1) == 1
    let rest := r % 2 ^ (d - 1) != 0 || sticky
    (if roundUp rm sgn (k % 2 == 1) half rest then k + 1 else k, half || rest)

/-- Rounds and packs a non-zero magnitude `m · 2^e` under R157 to R160; overflow per R159. -/
def FFmt.pack (f : FFmt) (rm : Rm) (sgn : Bool) (m : Nat) (e : Int) (sticky : Bool) : Nat × FFlags :=
  let p : Int := f.mb + 1
  let lead : Int := (bitLen m : Int) - 1 + e
  let qn := lead - (p - 1)
  let q := if qn < f.qmin then f.qmin else qn
  let (k, inexact) := roundTo rm sgn m e sticky q
  -- tininess after rounding: the result of rounding with an unbounded exponent lies below the normal range
  let (kn, _) := roundTo rm sgn m e sticky qn
  let leadN : Int := (bitLen kn : Int) - 1 + qn
  let tiny := leadN < 1 - f.bias
  if k = 0 then (f.zero sgn, { nx := inexact, uf := tiny && inexact, tiny := tiny })
  else
    let lead' : Int := (bitLen k : Int) - 1 + q
    if lead' > f.bias then
      let toInf := match rm with
        | .rne => true
        | .rtz => false
        | .rup => !sgn
        | .rdn => sgn
      (if toInf then f.inf sgn else f.maxFin sgn, { of := true, nx := true })
    else
      -- a carry into the next binade leaves k = 2^p, whose fraction bits are zero: the sum below is still right
      let be : Nat := if bitLen k ≤ f.mb then 0 else (q - f.qmin).toNat + 1
      let body := if be = 0 then k else (be - 1) * 2 ^ f.mb + k
      (at' sgn (f.eb + f.mb) + body, { nx := inexact, uf := tiny && inexact, tiny := tiny })

/-- The NaN result of R164 when some operand is a NaN, counting from the deepest; `none` when no operand is one. -/
def FFmt.nanOf (f : FFmt) (xs : List Nat) : Option (Nat × FFlags) :=
  match xs.find? f.isNaN with
  | some x => some (f.quiet x, { iv := xs.any f.isSNaN })
  | none => none

/-- An invalid operation on operands that are not NaN (R164). -/
def FFmt.invalid (f : FFmt) : Nat × FFlags := (f.dNaN, { iv := true })

/-- The exact sum of two signed magnitudes with units `2^ea`, `2^eb`, rounded. `zs`: both are zeros of one sign. -/
def FFmt.addExact (f : FFmt) (rm : Rm) (sa : Bool) (ma : Nat) (ea : Int) (sb : Bool) (mb : Nat) (eb : Int) :
    Nat × FFlags :=
  let e := min ea eb
  let va : Int := (ma * 2 ^ (ea - e).toNat : Nat) * (if sa then -1 else 1)
  let vb : Int := (mb * 2 ^ (eb - e).toNat : Nat) * (if sb then -1 else 1)
  let v := va + vb
  if v = 0 then
    let s := if sa == sb then sa else rm == .rdn
    (f.zero s, .nil)
  else f.pack rm (v < 0) v.natAbs e false

/-- FADD (R157); FSUB negates `b` first. -/
def FFmt.add (f : FFmt) (rm : Rm) (a b : Nat) : Nat × FFlags :=
  match f.nanOf [a, b] with
  | some r => r
  | none =>
    if f.isInf a then (if f.isInf b && f.sign a != f.sign b then f.invalid else (a, .nil))
    else if f.isInf b then (b, .nil)
    else f.addExact rm (f.sign a) (f.sig a) (f.uexp a) (f.sign b) (f.sig b) (f.uexp b)

/-- The sign bit flipped (FNEG). -/
def FFmt.neg (f : FFmt) (a : Nat) : Nat := if f.sign a then a - 2 ^ (f.eb + f.mb) else a + 2 ^ (f.eb + f.mb)
/-- The sign bit cleared (FABS). -/
def FFmt.abs (f : FFmt) (a : Nat) : Nat := if f.sign a then a - 2 ^ (f.eb + f.mb) else a

/-- FSUB (R157). A NaN operand is delivered as it stands (R164). -/
def FFmt.sub (f : FFmt) (rm : Rm) (a b : Nat) : Nat × FFlags :=
  match f.nanOf [a, b] with
  | some r => r
  | none => f.add rm a (f.neg b)

/-- FMUL (R157). -/
def FFmt.mul (f : FFmt) (rm : Rm) (a b : Nat) : Nat × FFlags :=
  match f.nanOf [a, b] with
  | some r => r
  | none =>
    let s := f.sign a != f.sign b
    if f.isInf a || f.isInf b then (if f.isZero a || f.isZero b then f.invalid else (f.inf s, .nil))
    else if f.isZero a || f.isZero b then (f.zero s, .nil)
    else f.pack rm s (f.sig a * f.sig b) (f.uexp a + f.uexp b) false

/-- FMA: `a × b + c` with one rounding (R157); 0 × ∞ plus a quiet NaN raises IV and delivers the NaN (R165). -/
def FFmt.fma (f : FFmt) (rm : Rm) (a b c : Nat) : Nat × FFlags :=
  let badMul := (f.isInf a && f.isZero b) || (f.isZero a && f.isInf b)
  match f.nanOf [a, b, c] with
  | some (r, fl) => (r, { fl with iv := fl.iv || badMul })
  | none =>
    let s := f.sign a != f.sign b
    if badMul then f.invalid
    else if f.isInf a || f.isInf b then (if f.isInf c && f.sign c != s then f.invalid else (f.inf s, .nil))
    else if f.isInf c then (c, .nil)
    else f.addExact rm s (f.sig a * f.sig b) (f.uexp a + f.uexp b) (f.sign c) (f.sig c) (f.uexp c)

/-- FDIV (R157). -/
def FFmt.div (f : FFmt) (rm : Rm) (a b : Nat) : Nat × FFlags :=
  match f.nanOf [a, b] with
  | some r => r
  | none =>
    let s := f.sign a != f.sign b
    if f.isInf a then (if f.isInf b then f.invalid else (f.inf s, .nil))
    else if f.isInf b then (f.zero s, .nil)
    else if f.isZero b then (if f.isZero a then f.invalid else (f.inf s, { dz := true }))
    else if f.isZero a then (f.zero s, .nil)
    else
      let k := 2 * f.mb + 4
      let n := f.sig a * 2 ^ k
      f.pack rm s (n / f.sig b) (f.uexp a - f.uexp b - k) (n % f.sig b != 0)

/-- The integer square root by bits, from bit `k` down. -/
def isqrt : Nat → Nat → Nat → Nat
  | 0, n, r => if (r + 1) * (r + 1) ≤ n then r + 1 else r
  | k + 1, n, r => isqrt k n (if (r + 2 ^ (k + 1)) * (r + 2 ^ (k + 1)) ≤ n then r + 2 ^ (k + 1) else r)

/-- FSQRT (R157). -/
def FFmt.sqrt (f : FFmt) (rm : Rm) (a : Nat) : Nat × FFlags :=
  match f.nanOf [a] with
  | some r => r
  | none =>
    if f.isZero a then (a, .nil)
    else if f.sign a then f.invalid
    else if f.isInf a then (a, .nil)
    else
      let e := f.uexp a
      let sh : Nat := 2 * f.mb + 6 + (e % 2).toNat
      let n := f.sig a * 2 ^ sh
      let r := isqrt (2 * f.mb + 5) n 0
      f.pack rm false r ((e - sh) / 2) (r * r != n)

/-- Less-than on two values that are not NaN; −0 and +0 equal. -/
def FFmt.ltv (f : FFmt) (a b : Nat) : Bool :=
  if f.isZero a && f.isZero b then false
  else match f.sign a, f.sign b with
    | true, false => true
    | false, true => false
    | false, false => a < b
    | true, true => b < a

/-- FCMP (R122): less, equal, unordered, IV. -/
def FFmt.cmp (f : FFmt) (a b : Nat) : Bool × Bool × Bool × Bool :=
  if f.isNaN a || f.isNaN b then (false, false, true, f.isSNaN a || f.isSNaN b)
  else (f.ltv a b, (a == b) || (f.isZero a && f.isZero b), false, false)

/-- FMIN and FMAX (R166): −0 below +0; one NaN delivers the other operand. -/
def FFmt.minmax (f : FFmt) (wantMax : Bool) (a b : Nat) : Nat × FFlags :=
  if f.isNaN a && f.isNaN b then (f.quiet a, { iv := f.isSNaN a || f.isSNaN b })
  else if f.isNaN a then (b, { iv := f.isSNaN a })
  else if f.isNaN b then (a, { iv := f.isSNaN b })
  else
    let less := if f.isZero a && f.isZero b then f.sign a && !f.sign b else f.ltv a b
    let lo := if less then a else b
    let hi := if less then b else a
    (if wantMax then (if less then hi else a) else (if less then lo else if f.isZero a && f.isZero b && f.sign b then b
      else if f.ltv b a then b else a), .nil)

/-- A float rounded to an integer after scaling by `2^k`, within `[lo, hi]` (R125). -/
def FFmt.toInt (f : FFmt) (rm : Rm) (k : Nat) (lo hi : Int) (a : Nat) : Int × FFlags :=
  if f.isNaN a then (0, { iv := true })
  else if f.isInf a then (if f.sign a then lo else hi, { iv := true })
  else
    let s := f.sign a
    let e := f.uexp a + k
    -- an exponent this large is out of range for any significand that is not zero
    if e > 80 ∧ f.sig a ≠ 0 then (if s then lo else hi, { iv := true })
    else
      let (m, inex) := roundTo rm s (f.sig a) e false 0
      let v : Int := if s then -(m : Int) else m
      if v < lo then (lo, { iv := true })
      else if v > hi then (hi, { iv := true })
      else (v, { nx := inex })

/-- An integer scaled by `2^e` to a float (R124). -/
def FFmt.ofInt (f : FFmt) (rm : Rm) (v : Int) (e : Int) : Nat × FFlags :=
  if v = 0 then (f.zero false, .nil) else
    let r := f.pack rm (v < 0) v.natAbs e false
    (r.1, { nx := r.2.nx })

/-- binary32 to binary64, exact; a NaN keeps sign and fraction, quieted (R169). -/
def cvtFD (a : Nat) : Nat × FFlags :=
  if f32.isNaN a then
    (f64.quiet (at' (f32.sign a) 63 + f64.emax * 2 ^ 52 + f32.frac a * 2 ^ 29), { iv := f32.isSNaN a })
  else if f32.isInf a then (f64.inf (f32.sign a), .nil)
  else if f32.isZero a then (f64.zero (f32.sign a), .nil)
  else ((f64.pack .rne (f32.sign a) (f32.sig a) (f32.uexp a) false).1, .nil)

/-- binary64 to binary32 under `rm`; a NaN keeps the top 23 fraction bits, quieted (R169). -/
def cvtDF (rm : Rm) (a : Nat) : Nat × FFlags :=
  if f64.isNaN a then
    let fr := f64.frac (f64.quiet a) / 2 ^ 29
    (at' (f64.sign a) 31 + f32.emax * 2 ^ 23 + fr, { iv := f64.isSNaN a })
  else if f64.isInf a then (f32.inf (f64.sign a), .nil)
  else if f64.isZero a then (f32.zero (f64.sign a), .nil)
  else f32.pack rm (f64.sign a) (f64.sig a) (f64.uexp a) false

/-- The trap an operation takes (R123, R160, R161): the first enabled of IV, DZ, OF, UF, NX, with UF trapping every
tiny result. `en` holds the enables as IV 4 … NX 0. The answer is the flag's number in DETAIL (R284). -/
def FFlags.trap (fl : FFlags) (en : Nat) : Option Nat :=
  let t := fun n => en / 2 ^ n % 2 == 1
  if fl.iv && t 4 then some 0
  else if fl.dz && t 3 then some 1
  else if fl.of && t 2 then some 2
  else if (fl.uf || fl.tiny) && t 1 then some 3
  else if fl.nx && t 0 then some 4
  else none

end Sys2Proof.Machine
end

