-- ==== Sys2Proof/Machine/RegTable.lean ====
section
/-!
DEFINITION. The register window: its pages (22_register_index.md R687), the registers of every unit with access, reset
value, writable fields and mode lock (the register tables of the chapters), and the error bits of every unit with their
reset routes and fault classes (18_selvedge.md R573, R577, R578, R693).
-/

namespace Sys2Proof.Machine

/-- The kinds of page that carry the common header (R687). -/
inductive RUnit where
  | glb | mode | pwr | clk | selv | eic | whrl | prck | stc | bio | trip | hif | dra | nvr | sec | lcy | dbg | ucs | spn | key | pg | lane | pil | bob | eicT | se1Lease | se1Ctl
  deriving DecidableEq, Repr

/-- Access codes of R5. -/
inductive Acc where
  | ro | rw | w1c | w1s | wo
  deriving DecidableEq, Repr

/-- The modes in which a register may be written. -/
inductive Lock where
  /-- any mode -/
  | any
  /-- CONFIGURE -/
  | cfg
  /-- CONFIGURE and SERVICE -/
  | cfgSvc
  /-- BOOT and CONFIGURE -/
  | bootCfg
  /-- BOOT and SERVICE -/
  | bootSvc
  /-- SE1 leases (R431) -/
  | lease
  /-- BOB_CTL (06_bobbin_pipeline.md R201) -/
  | bobCtl
  /-- DBG_CTL (R684) -/
  | dbgCtl
  deriving DecidableEq, Repr

/-- A row of a register table: offset, step between repeats and their number, access, reset value, the bits a write may
set, the mode lock, the name. -/
structure RegRow where
  off : Nat
  step : Nat
  count : Nat
  acc : Acc
  reset : Nat
  mask : Nat
  lock : Lock
  name : String
  deriving DecidableEq, Repr

/-- Registers of the GLB pages after the header. -/
def glbRows : List RegRow :=
  [⟨0x080, 4, 1, .rw, 0x0, 0x7FF, .cfg, "GLB_ENGINE_NUM"⟩,
   ⟨0x084, 4, 1, .rw, 0x0, 0x3, .cfg, "GLB_ROLE"⟩,
   ⟨0x088, 4, 1, .ro, 0x8106010, 0x0, .any, "GLB_CAPS"⟩,
   ⟨0x08C, 4, 1, .ro, 0x0, 0x0, .any, "GLB_ROLE_STATUS"⟩]

/-- Registers of the MODE pages after the header. -/
def modeRows : List RegRow :=
  [⟨0x080, 4, 1, .wo, 0x0, 0x0, .any, "MODE_CMD"⟩,
   ⟨0x084, 4, 1, .ro, 0x11, 0x0, .any, "MODE_STATUS"⟩,
   ⟨0x088, 4, 1, .ro, 0x0, 0x0, .any, "MODE_REJ_INDEX"⟩,
   ⟨0x08C, 4, 1, .ro, 0x0, 0x0, .any, "MODE_ENTRY_SEC"⟩,
   ⟨0x090, 4, 1, .ro, 0x0, 0x0, .any, "MODE_ENTRY_NS"⟩,
   ⟨0x094, 4, 1, .ro, 0x0, 0x0, .any, "MODE_PHASE_A"⟩,
   ⟨0x098, 4, 1, .ro, 0x0, 0x0, .any, "MODE_PHASE_B"⟩,
   ⟨0x09C, 4, 1, .ro, 0x0, 0x0, .any, "MODE_PREV"⟩]

/-- Registers of the PWR pages after the header. -/
def pwrRows : List RegRow :=
  [⟨0x080, 4, 1, .rw, 0x3, 0x3, .cfgSvc, "PWR_CTL"⟩,
   ⟨0x084, 4, 1, .ro, 0x0, 0x0, .any, "PWR_STATUS"⟩,
   ⟨0x088, 4, 1, .rw, 0x14, 0xFF, .cfgSvc, "PWR_PG_LEAD"⟩,
   ⟨0x08C, 4, 1, .rw, 0x73, 0xFF, .cfgSvc, "PWR_TEMP_CFG"⟩,
   ⟨0x090, 4, 1, .ro, 0x0, 0x0, .any, "PWR_POWER"⟩,
   ⟨0x094, 4, 1, .rw, 0x0, 0x1FF, .any, "PWR_DOM_SEL"⟩,
   ⟨0x098, 4, 1, .ro, 0x0, 0x0, .any, "PWR_DOM_STATE"⟩,
   ⟨0x09C, 4, 1, .wo, 0x0, 0x0, .any, "PWR_CMD"⟩,
   ⟨0x100, 8, 16, .rw, 0x5780000, 0x7FF0001, .cfgSvc, "PWR_PILp_CFG"⟩,
   ⟨0x104, 8, 16, .ro, 0x0, 0x0, .any, "PWR_PILp_VF"⟩]

/-- Registers of the CLK pages after the header. -/
def clkRows : List RegRow :=
  [⟨0x080, 4, 1, .ro, 0x0, 0x0, .any, "CLK_REF_SEL"⟩,
   ⟨0x084, 4, 1, .ro, 0x0, 0x0, .any, "CLK_STATUS"⟩,
   ⟨0x088, 4, 1, .rw, 0x7D0, 0x7FF, .bootSvc, "CLK_SPN_CFG"⟩,
   ⟨0x08C, 4, 1, .ro, 0x0, 0x0, .any, "CLK_INT_OSC"⟩]

/-- Registers of the SELV pages after the header. -/
def selvRows : List RegRow :=
  [⟨0x080, 4, 1, .rw, 0xF, 0xF, .cfgSvc, "SELV_CTL"⟩,
   ⟨0x084, 4, 1, .ro, 0x80, 0x0, .any, "SELV_STATUS"⟩,
   ⟨0x088, 4, 1, .w1c, 0x0, 0xFFFFFF, .any, "SELV_SUMMARY"⟩,
   ⟨0x08C, 4, 1, .w1c, 0x0, 0xFFF, .any, "SELV_VEC_PG"⟩,
   ⟨0x090, 4, 1, .w1c, 0x0, 0xFFFFFFFF, .any, "SELV_VEC_LANE0"⟩,
   ⟨0x094, 4, 1, .w1c, 0x0, 0xFFFFFFFF, .any, "SELV_VEC_LANE1"⟩,
   ⟨0x098, 4, 1, .w1c, 0x0, 0xFFFFFFFF, .any, "SELV_VEC_LANE2"⟩,
   ⟨0x09C, 4, 1, .w1c, 0x0, 0xFFFF, .any, "SELV_VEC_PIL"⟩,
   ⟨0x0A0, 4, 8, .w1c, 0x0, 0xFFFFFFFF, .any, "SELV_VEC_BOBi"⟩,
   ⟨0x0C0, 4, 1, .ro, 0x0, 0x0, .any, "SELV_LAST_CODE"⟩,
   ⟨0x0C4, 4, 1, .ro, 0x0, 0x0, .any, "SELV_LAST_UNIT"⟩,
   ⟨0x0C8, 4, 1, .rw, 0x1804, 0xFF0F, .cfgSvc, "SELV_REC_CFG"⟩,
   ⟨0x0CC, 4, 1, .rw, 0x3C03000A, 0xFF0F03FF, .cfgSvc, "SELV_QUIET"⟩,
   ⟨0x0D0, 4, 1, .rw, 0x320001, 0x3FF0001, .cfgSvc, "SELV_PIN_CTL"⟩,
   ⟨0x0D4, 4, 1, .rw, 0x64, 0x3FF, .cfgSvc, "SELV_WDOG"⟩,
   ⟨0x0D8, 4, 1, .wo, 0x0, 0x0, .any, "SELV_WDOG_KICK"⟩,
   ⟨0x0DC, 4, 1, .rw, 0x0, 0xFFF1F, .any, "SELV_Q_UNIT"⟩,
   ⟨0x0E0, 4, 1, .ro, 0x0, 0x0, .any, "SELV_Q_STATE"⟩,
   ⟨0x0E4, 4, 1, .wo, 0x0, 0x0, .any, "SELV_TEST_REQ"⟩,
   ⟨0x0E8, 4, 1, .ro, 0x0, 0x0, .any, "SELV_ENG_RECOVERY"⟩] ++
  [⟨0x0EC, 4, 1, .ro, 0x0, 0x0, .any, "SELV_CERT"⟩,
   ⟨0x0F0, 4, 1, .ro, 0x0, 0x0, .any, "SELV_SAFE_CAUSE"⟩,
   ⟨0x0F4, 4, 1, .ro, 0x0, 0x0, .any, "SELV_WARN_COUNT"⟩,
   ⟨0x0F8, 4, 1, .wo, 0x0, 0x0, .any, "SELV_CMD"⟩,
   ⟨0x100, 4, 8, .ro, 0x0, 0x0, .any, "SELV_RET_BOBi"⟩,
   ⟨0x120, 4, 4, .ro, 0x0, 0x0, .any, "SELV_RET_BANKi"⟩,
   ⟨0x130, 4, 3, .ro, 0x0, 0x0, .any, "SELV_RET_LANEi"⟩,
   ⟨0x13C, 4, 1, .ro, 0x0, 0x0, .any, "SELV_RET_MISC"⟩]

/-- Registers of the EIC pages after the header. -/
def eicRows : List RegRow :=
  [⟨0x080, 4, 1, .rw, 0x0, 0x1, .any, "EIC_CTL"⟩,
   ⟨0x084, 4, 1, .ro, 0x0, 0x0, .any, "EIC_STATUS"⟩,
   ⟨0x088, 4, 1, .rw, 0x0, 0x3FF, .any, "EIC_SRC_IDX"⟩,
   ⟨0x08C, 4, 1, .rw, 0x0, 0x5FFF, .any, "EIC_SRC_CFG"⟩,
   ⟨0x090, 4, 1, .ro, 0x0, 0x0, .any, "EIC_SRC_STAT"⟩,
   ⟨0x094, 4, 1, .wo, 0x0, 0x0, .any, "EIC_SW_SET"⟩,
   ⟨0x098, 4, 1, .ro, 0x0, 0x0, .any, "EIC_ORDER_FAULT"⟩,
   ⟨0x09C, 4, 1, .wo, 0x0, 0x0, .any, "EIC_CMD"⟩,
   ⟨0x100, 4, 32, .ro, 0x0, 0x0, .any, "EIC_PENDi"⟩,
   ⟨0x180, 4, 32, .ro, 0x0, 0x0, .any, "EIC_ACTi"⟩]

/-- Registers of the WHRL pages after the header. -/
def whrlRows : List RegRow :=
  [⟨0x080, 4, 1, .rw, 0x0, 0xFF, .cfg, "WHRL_CTL"⟩,
   ⟨0x084, 4, 1, .ro, 0x10000, 0x0, .any, "WHRL_STATUS"⟩,
   ⟨0x088, 4, 1, .rw, 0x0, 0x1FFFFF, .any, "WHRL_SCMD_ID"⟩,
   ⟨0x08C, 4, 1, .wo, 0x0, 0x0, .any, "WHRL_SCMD"⟩,
   ⟨0x090, 4, 1, .ro, 0x0, 0x0, .any, "WHRL_SCMD_STATUS"⟩,
   ⟨0x094, 4, 1, .rw, 0x0, 0x1FFFFF, .any, "WHRL_SQ_ID"⟩,
   ⟨0x098, 4, 1, .ro, 0x0, 0x0, .any, "WHRL_SQ_STATE"⟩,
   ⟨0x09C, 4, 1, .ro, 0x0, 0x0, .any, "WHRL_MSG_STAT"⟩,
   ⟨0x0A0, 4, 1, .ro, 0x0, 0x0, .any, "WHRL_OVF_USED"⟩,
   ⟨0x0A4, 4, 1, .wo, 0x0, 0x0, .any, "WHRL_CMD"⟩,
   ⟨0x100, 64, 8, .rw, 0x12C004, 0x1FFFF07, .cfg, "WHRL_TLn_CFG"⟩,
   ⟨0x104, 64, 8, .rw, 0x14, 0x7FF, .cfg, "WHRL_TLn_WINDOW"⟩,
   ⟨0x108, 64, 8, .rw, 0x20060, 0xFF1FFF, .cfg, "WHRL_TLn_TRACK"⟩,
   ⟨0x10C, 64, 8, .rw, 0x1B580FA0, 0xFFFFFFFF, .cfg, "WHRL_TLn_FLIM"⟩,
   ⟨0x110, 64, 8, .rw, 0x0, 0x1FFFFF, .cfg, "WHRL_TLn_TRK_SRC"⟩,
   ⟨0x114, 64, 8, .ro, 0x0, 0x0, .any, "WHRL_TLn_FREQ"⟩,
   ⟨0x118, 64, 8, .ro, 0x0, 0x0, .any, "WHRL_TLn_TICK"⟩,
   ⟨0x11C, 64, 8, .ro, 0x0, 0x0, .any, "WHRL_TLn_CLOSE"⟩,
   ⟨0x120, 64, 8, .ro, 0x0, 0x0, .any, "WHRL_TLn_ABSENT"⟩,
   ⟨0x124, 64, 8, .ro, 0x0, 0x0, .any, "WHRL_TLn_LATE"⟩] ++
  [⟨0x128, 64, 8, .ro, 0x0, 0x0, .any, "WHRL_TLn_MISSED"⟩,
   ⟨0x12C, 64, 8, .ro, 0x0, 0x0, .any, "WHRL_TLn_OVERRUN"⟩,
   ⟨0x130, 64, 8, .ro, 0x0, 0x0, .any, "WHRL_TLn_STAGE_LATE"⟩,
   ⟨0x134, 64, 8, .ro, 0x0, 0x0, .any, "WHRL_TLn_RELEASED"⟩]

/-- Registers of the PRCK pages after the header. -/
def prckRows : List RegRow :=
  [⟨0x080, 4, 1, .rw, 0xF, 0x1F, .cfgSvc, "PRCK_CTL"⟩,
   ⟨0x084, 4, 1, .ro, 0x0, 0x0, .any, "PRCK_STATUS"⟩,
   ⟨0x088, 4, 1, .rw, 0x66E55, 0xFFFFFF, .cfgSvc, "PRCK_THRESH"⟩,
   ⟨0x08C, 4, 1, .rw, 0xA40, 0xFFFF, .cfgSvc, "PRCK_MIG_LIMIT"⟩,
   ⟨0x090, 4, 1, .rw, 0x2050A, 0xFFFFFF, .cfgSvc, "PRCK_HYST"⟩,
   ⟨0x094, 4, 1, .rw, 0x0, 0xFFFF, .any, "PRCK_EXCLUDE"⟩,
   ⟨0x098, 4, 1, .rw, 0x850, 0xFF7F, .cfgSvc, "PRCK_PARK"⟩,
   ⟨0x09C, 4, 1, .rw, 0x7D0, 0xFFFF, .cfgSvc, "PRCK_LEAD"⟩,
   ⟨0x0A0, 4, 1, .rw, 0x3E8, 0xFFFF, .cfgSvc, "PRCK_ROTA_CFG"⟩,
   ⟨0x0A4, 4, 1, .ro, 0x0, 0x0, .any, "PRCK_ROTA_POS"⟩,
   ⟨0x0A8, 4, 1, .rw, 0x0, 0x1FFFFF, .any, "PRCK_Q_ID"⟩,
   ⟨0x0AC, 4, 1, .ro, 0x0, 0x0, .any, "PRCK_Q_LOC"⟩,
   ⟨0x0B0, 4, 1, .rw, 0x0, 0xFFFFFFC0, .any, "PRCK_LOG_BASE_LO"⟩,
   ⟨0x0B4, 4, 1, .rw, 0x0, 0xFFFF, .any, "PRCK_LOG_BASE_HI"⟩,
   ⟨0x0B8, 4, 1, .rw, 0xC, 0x11F, .cfgSvc, "PRCK_LOG_CFG"⟩,
   ⟨0x0BC, 4, 1, .ro, 0x0, 0x0, .any, "PRCK_LOG_HEAD"⟩,
   ⟨0x0C0, 4, 1, .rw, 0x0, 0xFFFFF, .any, "PRCK_LOG_TAIL"⟩,
   ⟨0x0C4, 4, 1, .ro, 0x0, 0x0, .any, "PRCK_MIG_COUNT"⟩,
   ⟨0x0C8, 4, 1, .ro, 0x0, 0x0, .any, "PRCK_ABORT_COUNT"⟩,
   ⟨0x0CC, 4, 1, .ro, 0x0, 0x0, .any, "PRCK_PARK_RATE"⟩] ++
  [⟨0x0D0, 4, 1, .wo, 0x0, 0x0, .any, "PRCK_SHADOW_CMD"⟩,
   ⟨0x0D4, 4, 1, .ro, 0x0, 0x0, .any, "PRCK_SHADOW_STAT"⟩,
   ⟨0x0D8, 4, 1, .wo, 0x0, 0x0, .any, "PRCK_CMD"⟩,
   ⟨0x100, 4, 16, .ro, 0x0, 0x0, .any, "PRCK_PILp_MON"⟩,
   ⟨0x140, 4, 16, .ro, 0x0, 0x0, .any, "PRCK_PILp_LOAD"⟩]

/-- Registers of the STC pages after the header. -/
def stcRows : List RegRow :=
  [⟨0x080, 4, 1, .rw, 0x4, 0x1F, .cfgSvc, "STC_CTL"⟩,
   ⟨0x084, 4, 1, .ro, 0x0, 0x0, .any, "STC_STATE"⟩,
   ⟨0x088, 4, 1, .rw, 0x3C0711, 0xFF0FFF, .cfgSvc, "STC_SRC_CFG"⟩,
   ⟨0x08C, 4, 1, .rw, 0x20841, 0xFFFFFF, .cfgSvc, "STC_SERVO"⟩,
   ⟨0x090, 4, 1, .rw, 0x3E80064, 0xFFFFFFFF, .cfgSvc, "STC_LOCK_THR"⟩,
   ⟨0x094, 4, 1, .rw, 0x32002710, 0xFF0FFFFF, .cfgSvc, "STC_SLEW"⟩,
   ⟨0x098, 4, 1, .rw, 0x190A0A00, 0xFFFFFF03, .cfgSvc, "STC_PPS_CFG"⟩,
   ⟨0x09C, 4, 1, .rw, 0x640064, 0xFFFFFFFF, .cfgSvc, "STC_HOLD_CFG"⟩,
   ⟨0x0A0, 4, 1, .ro, 0x0, 0x0, .any, "STC_HOLD_EST"⟩,
   ⟨0x0A4, 4, 1, .rw, 0x0, 0xFFFFFFFF, .any, "STC_TRIM"⟩,
   ⟨0x0A8, 4, 1, .ro, 0x0, 0x0, .any, "STC_PHASE"⟩,
   ⟨0x0AC, 4, 1, .ro, 0x0, 0x0, .any, "STC_PHASE_ALT"⟩,
   ⟨0x0B0, 4, 1, .rw, 0x0, 0xFFFFFFFF, .any, "STC_PTP_OFFSET"⟩,
   ⟨0x0B4, 4, 1, .wo, 0x0, 0x0, .any, "STC_ADJ"⟩,
   ⟨0x0B8, 4, 1, .ro, 0x0, 0x0, .any, "STC_ADJ_LEFT"⟩,
   ⟨0x0BC, 4, 1, .wo, 0x0, 0x0, .any, "STC_CMD"⟩,
   ⟨0x0C0, 4, 1, .rw, 0x0, 0xFFFF, .any, "STC_SET_SEC_HI"⟩,
   ⟨0x0C4, 4, 1, .rw, 0x0, 0xFFFFFFFF, .any, "STC_SET_SEC_LO"⟩,
   ⟨0x0C8, 4, 1, .rw, 0x0, 0x3FFFFFFF, .any, "STC_SET_NS"⟩,
   ⟨0x0CC, 4, 1, .ro, 0x0, 0x0, .any, "STC_SNAP_SEC_HI"⟩] ++
  [⟨0x0D0, 4, 1, .ro, 0x0, 0x0, .any, "STC_SNAP_SEC_LO"⟩,
   ⟨0x0D4, 4, 1, .ro, 0x0, 0x0, .any, "STC_SNAP_NS"⟩,
   ⟨0x0D8, 4, 1, .ro, 0x0, 0x0, .any, "STC_SNAP_FRAC"⟩,
   ⟨0x0DC, 4, 1, .rw, 0x0, 0x3FFFF, .any, "STC_UTC"⟩,
   ⟨0x0E0, 4, 1, .rw, 0x0, 0xFFFFFFFF, .any, "STC_LEAP_AT_LO"⟩,
   ⟨0x0E4, 4, 1, .rw, 0x0, 0xFFFF, .any, "STC_LEAP_AT_HI"⟩,
   ⟨0x0E8, 4, 1, .ro, 0x0, 0x0, .any, "STC_PPS0_STAT"⟩,
   ⟨0x0EC, 4, 1, .ro, 0x0, 0x0, .any, "STC_PPS1_STAT"⟩,
   ⟨0x0F0, 4, 1, .rw, 0x0, 0xFF0F, .cfgSvc, "STC_IRIG_CFG"⟩,
   ⟨0x0F4, 4, 1, .rw, 0x0, 0xFFFF, .any, "STC_IRIG_YEAR"⟩,
   ⟨0x0F8, 4, 1, .ro, 0x0, 0x0, .any, "STC_IRIG_TIME"⟩,
   ⟨0x0FC, 4, 1, .ro, 0x0, 0x0, .any, "STC_IRIG_CF"⟩,
   ⟨0x100, 4, 1, .rw, 0x64, 0xFFFF03FF, .any, "STC_PPS_OUT"⟩]

/-- Registers of the BIO pages after the header. -/
def bioRows : List RegRow :=
  [⟨0x080, 4, 1, .rw, 0x1, 0x1, .cfgSvc, "BIO_CTL"⟩,
   ⟨0x084, 4, 1, .ro, 0x0, 0x0, .any, "BIO_STATE_LO"⟩,
   ⟨0x088, 4, 1, .ro, 0x0, 0x0, .any, "BIO_STATE_HI"⟩,
   ⟨0x08C, 4, 1, .ro, 0x0, 0x0, .any, "BIO_SUPP_LO"⟩,
   ⟨0x090, 4, 1, .ro, 0x0, 0x0, .any, "BIO_SUPP_HI"⟩,
   ⟨0x094, 4, 1, .ro, 0x0, 0x0, .any, "BIO_RAW_LO"⟩,
   ⟨0x098, 4, 1, .ro, 0x0, 0x0, .any, "BIO_RAW_HI"⟩,
   ⟨0x09C, 4, 1, .ro, 0x0, 0x0, .any, "BIO_CHG_COUNT"⟩,
   ⟨0x0A0, 4, 1, .wo, 0x0, 0x0, .any, "BIO_CMD"⟩,
   ⟨0x100, 4, 64, .rw, 0x140A8214, 0xFFFFF3FF, .cfgSvc, "BIO_CFGn"⟩]

/-- Registers of the TRIP pages after the header. -/
def tripRows : List RegRow :=
  [⟨0x080, 4, 1, .rw, 0x141400, 0xFFFF00, .cfgSvc, "TRIP_CTL"⟩,
   ⟨0x084, 4, 1, .ro, 0x0, 0x0, .any, "TRIP_PIN"⟩,
   ⟨0x088, 4, 1, .ro, 0x0, 0x0, .any, "TRIP_RB"⟩,
   ⟨0x08C, 4, 1, .ro, 0x0, 0x0, .any, "TRIP_RB_FAULT"⟩,
   ⟨0x090, 4, 1, .ro, 0x0, 0x0, .any, "TRIP_HELD"⟩,
   ⟨0x094, 4, 1, .ro, 0x0, 0x0, .any, "TRIP_FS"⟩,
   ⟨0x098, 4, 1, .ro, 0x0, 0x0, .any, "TRIP_MISMATCH"⟩,
   ⟨0x09C, 4, 1, .ro, 0x0, 0x0, .any, "TRIP_SIMULATED"⟩,
   ⟨0x0A0, 4, 1, .ro, 0x0, 0x0, .any, "TRIP_PUB_MISMATCH"⟩,
   ⟨0x0A4, 4, 1, .wo, 0x0, 0x0, .any, "TRIP_CMD"⟩,
   ⟨0x100, 4, 32, .rw, 0x1320A09, 0x1FFFF7F, .cfgSvc, "TRIP_CFGn"⟩]

/-- Registers of the HIF pages after the header. -/
def hifRows : List RegRow :=
  [⟨0x080, 4, 1, .rw, 0x0, 0xFD, .any, "HIF_CTL"⟩,
   ⟨0x084, 4, 1, .ro, 0x0, 0x0, .any, "HIF_STATUS"⟩,
   ⟨0x088, 4, 1, .rw, 0x0, 0x13F, .any, "HIF_RING_SEL"⟩,
   ⟨0x08C, 4, 1, .rw, 0x0, 0xFFFFFFC0, .any, "HIF_RING_BASE_LO"⟩,
   ⟨0x090, 4, 1, .rw, 0x0, 0xFFFF, .any, "HIF_RING_BASE_HI"⟩,
   ⟨0x094, 4, 1, .rw, 0x100004, 0x3FFFFFF, .any, "HIF_RING_CFG"⟩,
   ⟨0x098, 4, 1, .rw, 0x0, 0xFFF, .any, "HIF_RING_HEAD"⟩,
   ⟨0x09C, 4, 1, .rw, 0x0, 0xFFF, .any, "HIF_RING_TAIL"⟩,
   ⟨0x0A0, 4, 1, .rw, 0x0, 0xFFFFFFFC, .any, "HIF_MSI_ADDR_LO"⟩,
   ⟨0x0A4, 4, 1, .rw, 0x0, 0xFFFF, .any, "HIF_MSI_ADDR_HI"⟩,
   ⟨0x0A8, 4, 1, .rw, 0x0, 0xFFFFFFFF, .any, "HIF_MSI_DATA"⟩,
   ⟨0x0AC, 4, 1, .w1c, 0x0, 0xFFFFFFFF, .any, "HIF_CQ_PEND_LO"⟩,
   ⟨0x0B0, 4, 1, .w1c, 0x0, 0xFFFFFFFF, .any, "HIF_CQ_PEND_HI"⟩,
   ⟨0x0B4, 4, 1, .wo, 0x0, 0x0, .any, "HIF_POST_CMD"⟩,
   ⟨0x0B8, 4, 1, .ro, 0x0, 0x0, .any, "HIF_POST_STATUS"⟩,
   ⟨0x0BC, 4, 1, .ro, 0x0, 0x0, .any, "HIF_CQ_LOST"⟩,
   ⟨0x0C0, 4, 8, .rw, 0x0, 0xFFFFFFFF, .any, "HIF_POSTi"⟩,
   ⟨0x0E0, 4, 1, .wo, 0x0, 0x0, .any, "HIF_CMD"⟩]

/-- Registers of the DRA pages after the header. -/
def draRows : List RegRow :=
  [⟨0x080, 4, 1, .rw, 0xA03, 0xFF03, .bootSvc, "DRA_CTL"⟩,
   ⟨0x084, 4, 1, .ro, 0x0, 0x0, .any, "DRA_STATUS"⟩,
   ⟨0x088, 4, 1, .rw, 0xA, 0xF, .bootSvc, "DRA_CFG"⟩,
   ⟨0x08C, 4, 1, .rw, 0x1080, 0x7FFFFFFF, .bootSvc, "DRA_BANK_XOR0"⟩,
   ⟨0x090, 4, 1, .rw, 0x2100, 0x7FFFFFFF, .bootSvc, "DRA_BANK_XOR1"⟩,
   ⟨0x094, 4, 1, .rw, 0x4200, 0x7FFFFFFF, .bootSvc, "DRA_BANK_XOR2"⟩,
   ⟨0x098, 4, 1, .rw, 0x8400, 0x7FFFFFFF, .bootSvc, "DRA_BANK_XOR3"⟩,
   ⟨0x09C, 4, 1, .rw, 0x10800, 0x7FFFFFFF, .bootSvc, "DRA_BANK_XOR4"⟩,
   ⟨0x0A0, 4, 1, .rw, 0x0, 0x1FFFF, .bootCfg, "DRA_PARK_BASE"⟩,
   ⟨0x0A4, 4, 1, .rw, 0x0, 0x1FFFF, .bootCfg, "DRA_DIR_BASE"⟩,
   ⟨0x0A8, 4, 1, .rw, 0x0, 0x1FFFF, .bootCfg, "DRA_TBL_BASE"⟩,
   ⟨0x0AC, 4, 1, .rw, 0x0, 0x1FFFF, .bootCfg, "DRA_OVF_BASE"⟩,
   ⟨0x0B0, 4, 1, .rw, 0x0, 0x1FFFF, .bootCfg, "DRA_SOE_BASE"⟩,
   ⟨0x0B4, 4, 1, .rw, 0x0, 0x1FFFF, .bootCfg, "DRA_DIST_BASE"⟩,
   ⟨0x0B8, 4, 1, .rw, 0x0, 0x1FFFF, .bootCfg, "DRA_DIST_SIZE"⟩,
   ⟨0x0BC, 4, 1, .rw, 0x0, 0x1FFFF, .bootCfg, "DRA_CODE_BASE"⟩,
   ⟨0x0C0, 4, 1, .rw, 0x0, 0x1033F, .bootSvc, "DRA_TRN_CTL"⟩,
   ⟨0x0C4, 4, 1, .rw, 0x0, 0xFFFFFF, .bootSvc, "DRA_TRN_DELAY"⟩,
   ⟨0x0C8, 4, 1, .ro, 0x0, 0x0, .any, "DRA_TRN_RESULT"⟩,
   ⟨0x0CC, 4, 1, .ro, 0x0, 0x0, .any, "DRA_ECC_SEC"⟩] ++
  [⟨0x0D0, 4, 1, .ro, 0x0, 0x0, .any, "DRA_UE_ADDR"⟩,
   ⟨0x0D4, 4, 1, .ro, 0x0, 0x0, .any, "DRA_MIG_POS"⟩,
   ⟨0x0D8, 4, 1, .ro, 0x0, 0x0, .any, "DRA_DROP"⟩,
   ⟨0x0DC, 4, 1, .wo, 0x0, 0x0, .any, "DRA_CMD"⟩]

/-- Registers of the NVR pages after the header. -/
def nvrRows : List RegRow :=
  [⟨0x080, 4, 1, .rw, 0x0, 0x1, .cfgSvc, "NVR_CTL"⟩,
   ⟨0x084, 4, 1, .ro, 0x0, 0x0, .any, "NVR_STATUS"⟩,
   ⟨0x088, 4, 1, .ro, 0x0, 0x0, .any, "NVR_HEAD"⟩,
   ⟨0x08C, 4, 1, .ro, 0x0, 0x0, .any, "NVR_SEQ"⟩,
   ⟨0x090, 4, 1, .rw, 0x0, 0x7FFFF, .any, "NVR_RD_IDX"⟩,
   ⟨0x094, 4, 1, .ro, 0x0, 0x0, .any, "NVR_LOST"⟩,
   ⟨0x098, 4, 1, .ro, 0x0, 0x0, .any, "NVR_WRAPS"⟩,
   ⟨0x09C, 4, 1, .wo, 0x0, 0x0, .any, "NVR_CMD"⟩,
   ⟨0x0A0, 4, 8, .ro, 0x0, 0x0, .any, "NVR_RD_DATAi"⟩,
   ⟨0x0C0, 4, 6, .rw, 0x0, 0xFFFFFFFF, .any, "NVR_POSTi"⟩,
   ⟨0x0E0, 4, 1, .rw, 0x0, 0xFFF, .any, "NVR_DI_SEL"⟩,
   ⟨0x0E4, 4, 8, .rw, 0x0, 0xFFFFFFFF, .any, "NVR_DI_DATAi"⟩]

/-- Registers of the SEC pages after the header. -/
def secRows : List RegRow :=
  [⟨0x080, 4, 1, .rw, 0x3, 0x3, .cfgSvc, "SEC_CTL"⟩,
   ⟨0x084, 4, 1, .ro, 0x0, 0x0, .any, "SEC_STATUS"⟩,
   ⟨0x088, 4, 1, .ro, 0x0, 0x0, .any, "SEC_BOOT_RESULT"⟩,
   ⟨0x08C, 4, 1, .rw, 0x0, 0xFFFFFFC0, .any, "SEC_IMG_ADDR_LO"⟩,
   ⟨0x090, 4, 1, .rw, 0x0, 0xFFFF, .any, "SEC_IMG_ADDR_HI"⟩,
   ⟨0x094, 4, 1, .wo, 0x0, 0x0, .any, "SEC_CMD"⟩,
   ⟨0x098, 4, 1, .ro, 0x0, 0x0, .any, "SEC_RESULT"⟩,
   ⟨0x09C, 4, 1, .ro, 0x0, 0x0, .any, "SEC_FW_VERSION"⟩,
   ⟨0x0A0, 4, 1, .ro, 0x0, 0x0, .any, "SEC_TBL_VERSION"⟩,
   ⟨0x0A4, 4, 1, .ro, 0x0, 0x0, .any, "SEC_SVN"⟩,
   ⟨0x0A8, 4, 1, .ro, 0x0, 0x0, .any, "SEC_DEVICE_ID_LO"⟩,
   ⟨0x0AC, 4, 1, .ro, 0x0, 0x0, .any, "SEC_DEVICE_ID_HI"⟩,
   ⟨0x0B0, 4, 8, .ro, 0x0, 0x0, .any, "SEC_DBG_CHALi"⟩,
   ⟨0x0D0, 4, 1, .ro, 0x0, 0x0, .any, "SEC_DBG_STATUS"⟩]

/-- Registers of the LCY pages after the header. -/
def lcyRows : List RegRow :=
  [⟨0x080, 4, 1, .ro, 0x0, 0x0, .any, "LCY_STATE"⟩,
   ⟨0x084, 4, 1, .wo, 0x0, 0x0, .any, "LCY_CMD"⟩,
   ⟨0x088, 4, 1, .ro, 0x0, 0x0, .any, "LCY_RESULT"⟩]

/-- Registers of the DBG pages after the header. -/
def dbgRows : List RegRow :=
  [⟨0x080, 4, 1, .rw, 0x0, 0x3, .dbgCtl, "DBG_CTL"⟩,
   ⟨0x084, 4, 1, .ro, 0x0, 0x0, .any, "DBG_STATUS"⟩,
   ⟨0x088, 4, 1, .rw, 0x0, 0x11FF, .any, "DBG_RC_SEL"⟩,
   ⟨0x08C, 4, 1, .wo, 0x0, 0x0, .any, "DBG_RC_CMD"⟩,
   ⟨0x090, 4, 1, .ro, 0x0, 0x0, .any, "DBG_RC_STATUS"⟩,
   ⟨0x094, 4, 1, .rw, 0x0, 0x13F, .any, "DBG_CORE_IDX"⟩,
   ⟨0x098, 4, 1, .rw, 0x0, 0xFFFFFFFF, .any, "DBG_CORE_DATA_LO"⟩,
   ⟨0x09C, 4, 1, .rw, 0x0, 0xFFFF00FF, .any, "DBG_CORE_DATA_HI"⟩,
   ⟨0x0A0, 8, 4, .rw, 0x0, 0xFFFFFFFF, .any, "DBG_BPi_ADDR"⟩,
   ⟨0x0A4, 8, 4, .rw, 0x0, 0xFFFF000B, .any, "DBG_BPi_CTL"⟩,
   ⟨0x0C0, 4, 1, .rw, 0x0, 0xFFFFFF, .any, "DBG_MEM_ADDR"⟩,
   ⟨0x0C4, 4, 1, .rw, 0x0, 0xFFFFFFFF, .any, "DBG_MEM_DATA_LO"⟩,
   ⟨0x0C8, 4, 1, .rw, 0x0, 0xFF, .any, "DBG_MEM_DATA_HI"⟩,
   ⟨0x0CC, 4, 1, .wo, 0x0, 0x0, .any, "DBG_MEM_CMD"⟩,
   ⟨0x0D0, 4, 1, .ro, 0x0, 0x0, .any, "DBG_MEM_STATUS"⟩,
   ⟨0x0D4, 4, 1, .rw, 0x12710, 0x1FFFF, .any, "DBG_WDOG_CFG"⟩,
   ⟨0x0D8, 4, 1, .wo, 0x0, 0x0, .any, "DBG_WDOG_KICK"⟩,
   ⟨0x0DC, 4, 1, .ro, 0x0, 0x0, .any, "DBG_WDOG_STATUS"⟩,
   ⟨0x0E0, 4, 1, .rw, 0x0, 0x3FF3, .any, "DBG_TRACE_CTL"⟩,
   ⟨0x0E4, 4, 1, .ro, 0x0, 0x0, .any, "DBG_TRACE_HEAD"⟩] ++
  [⟨0x0E8, 4, 1, .rw, 0x0, 0xFFF, .any, "DBG_TRACE_IDX"⟩,
   ⟨0x0F0, 4, 4, .ro, 0x0, 0x0, .any, "DBG_TRACE_DATAj"⟩,
   ⟨0x100, 8, 8, .rw, 0x0, 0xF1FF, .any, "DBG_PMC_CFGi"⟩,
   ⟨0x104, 8, 8, .ro, 0x0, 0x0, .any, "DBG_PMCi"⟩]

/-- Registers of the UCS pages after the header. -/
def ucsRows : List RegRow :=
  [⟨0x080, 4, 1, .ro, 0x2010000, 0x0, .any, "UCS_VERSION"⟩,
   ⟨0x084, 4, 1, .ro, 0x0, 0x0, .any, "UCS_DIGEST"⟩,
   ⟨0x088, 4, 1, .ro, 0x2010000, 0x0, .any, "UCS_SPN_VERSION"⟩,
   ⟨0x08C, 4, 1, .ro, 0x0, 0x0, .any, "UCS_SPN_DIGEST"⟩,
   ⟨0x090, 4, 1, .ro, 0x21A07, 0x0, .any, "UCS_ROM_ID"⟩,
   ⟨0x094, 4, 1, .rw, 0x0, 0xFFFFFFC0, .any, "UCS_LOAD_ADDR_LO"⟩,
   ⟨0x098, 4, 1, .rw, 0x0, 0xFFFF, .any, "UCS_LOAD_ADDR_HI"⟩,
   ⟨0x09C, 4, 1, .wo, 0x0, 0x0, .any, "UCS_CMD"⟩,
   ⟨0x0A0, 4, 1, .ro, 0x0, 0x0, .any, "UCS_LOAD_STATUS"⟩,
   ⟨0x0A4, 4, 1, .ro, 0x0, 0x0, .any, "UCS_ECC_COUNT"⟩]

/-- Registers of the SPN pages after the header. -/
def spnRows : List RegRow :=
  [⟨0x080, 4, 1, .rw, 0x3, 0x3, .any, "SPN_CTL"⟩,
   ⟨0x084, 4, 1, .ro, 0x0, 0x0, .any, "SPN_STATUS"⟩,
   ⟨0x088, 4, 1, .ro, 0x0, 0x0, .any, "SPN_PC_LO"⟩,
   ⟨0x08C, 4, 1, .ro, 0x0, 0x0, .any, "SPN_PC_HI"⟩,
   ⟨0x090, 4, 1, .rw, 0x0, 0xF8000000, .bootCfg, "SPN_WIN_BASE_LO"⟩,
   ⟨0x094, 4, 1, .rw, 0x7E00, 0xFFFF, .bootCfg, "SPN_WIN_BASE_HI"⟩,
   ⟨0x098, 4, 1, .ro, 0x0, 0x0, .any, "SPN_LBE_ADDR_LO"⟩,
   ⟨0x09C, 4, 1, .ro, 0x0, 0x0, .any, "SPN_LBE_ADDR_HI"⟩,
   ⟨0x0A0, 4, 1, .ro, 0x0, 0x0, .any, "SPN_LBE_INFO"⟩,
   ⟨0x0A4, 4, 1, .wo, 0x0, 0x0, .any, "SPN_CMD"⟩,
   ⟨0x0A8, 4, 1, .ro, 0x0, 0x0, .any, "SPN_RETIRED_LO"⟩,
   ⟨0x0AC, 4, 1, .ro, 0x0, 0x0, .any, "SPN_RETIRED_HI"⟩,
   ⟨0x0B0, 4, 1, .ro, 0x0, 0x0, .any, "SPN_MISPREDICT"⟩,
   ⟨0x0B4, 4, 1, .ro, 0x0, 0x0, .any, "SPN_L1D_MISS"⟩,
   ⟨0x0B8, 4, 1, .ro, 0x0, 0x0, .any, "SPN_L2_MISS"⟩,
   ⟨0x0BC, 4, 1, .ro, 0x0, 0x0, .any, "SPN_COH_RETRY"⟩,
   ⟨0x0C0, 8, 8, .rw, 0x0, 0xFFFFFFF7, .bootCfg, "SPN_MARn_BASE"⟩,
   ⟨0x0C4, 8, 8, .rw, 0x0, 0xFFFFFFF7, .bootCfg, "SPN_MARn_LIMIT"⟩]

/-- Registers of the KEY pages after the header. -/
def keyRows : List RegRow :=
  [⟨0x080, 4, 1, .ro, 0x0, 0x0, .any, "KEY_STATUS"⟩,
   ⟨0x084, 4, 1, .rw, 0x0, 0xFFFFFFC0, .any, "KEY_LOAD_ADDR_LO"⟩,
   ⟨0x088, 4, 1, .rw, 0x0, 0xFFFF, .any, "KEY_LOAD_ADDR_HI"⟩,
   ⟨0x08C, 4, 1, .wo, 0x0, 0x0, .any, "KEY_CMD"⟩,
   ⟨0x090, 4, 1, .ro, 0x0, 0x0, .any, "KEY_RESULT"⟩,
   ⟨0x094, 4, 1, .rw, 0x0, 0x3FF, .any, "KEY_SEL"⟩,
   ⟨0x098, 4, 1, .ro, 0x0, 0x0, .any, "KEY_INFO"⟩,
   ⟨0x09C, 4, 1, .ro, 0x0, 0x0, .any, "KEY_KID"⟩,
   ⟨0x0A0, 4, 1, .ro, 0x0, 0x0, .any, "KEY_NB"⟩,
   ⟨0x0A4, 4, 1, .ro, 0x0, 0x0, .any, "KEY_NA"⟩]

/-- Registers of the PG pages after the header. -/
def pgRows : List RegRow :=
  [⟨0x080, 4, 1, .rw, 0x0, 0x7, .cfg, "PG_CTL"⟩,
   ⟨0x084, 4, 1, .ro, 0x8000, 0x0, .any, "PG_STATUS"⟩,
   ⟨0x088, 4, 1, .rw, 0x188B5, 0xFFFFFFF, .cfg, "PG_INTER_CFG"⟩,
   ⟨0x08C, 4, 1, .rw, 0x4C530000, 0xFFFFFFFF, .cfg, "PG_INTER_MAC_LO"⟩,
   ⟨0x090, 4, 1, .rw, 0x148, 0xFFFF, .cfg, "PG_INTER_MAC_HI"⟩,
   ⟨0x094, 4, 1, .rw, 0x0, 0x3FF, .cfg, "PG_INTER_KEY"⟩,
   ⟨0x098, 4, 1, .rw, 0x0, 0xFFFFFFC0, .cfg, "PG_FWQ_BASE_LO"⟩,
   ⟨0x09C, 4, 1, .rw, 0x0, 0xFFFF, .cfg, "PG_FWQ_BASE_HI"⟩,
   ⟨0x0A0, 4, 1, .ro, 0x0, 0x0, .any, "PG_FWQ_RX_HEAD"⟩,
   ⟨0x0A4, 4, 1, .rw, 0x0, 0x3F, .any, "PG_FWQ_RX_TAIL"⟩,
   ⟨0x0A8, 4, 1, .rw, 0x0, 0x1F, .any, "PG_FWQ_TX_HEAD"⟩,
   ⟨0x0AC, 4, 1, .ro, 0x0, 0x0, .any, "PG_FWQ_TX_TAIL"⟩]

/-- Registers of the LANE pages after the header. -/
def laneRows : List RegRow :=
  [⟨0x080, 4, 1, .rw, 0x0, 0x3FFF, .cfg, "LANE_CFG"⟩,
   ⟨0x084, 4, 1, .rw, 0x0, 0x1F, .cfg, "LANE_BUF"⟩,
   ⟨0x088, 4, 1, .rw, 0x0, 0xFFFFFFFF, .cfg, "LANE_MAC_LO"⟩,
   ⟨0x08C, 4, 1, .rw, 0x0, 0xFFFF, .cfg, "LANE_MAC_HI"⟩,
   ⟨0x090, 4, 1, .rw, 0x0, 0xFF, .cfgSvc, "LANE_GUARD"⟩,
   ⟨0x094, 4, 1, .rw, 0xA05, 0xFFFF, .cfgSvc, "LANE_SD"⟩,
   ⟨0x098, 4, 1, .ro, 0x0, 0x0, .any, "LANE_STATUS"⟩,
   ⟨0x09C, 4, 1, .ro, 0x0, 0x0, .any, "LANE_EQ"⟩,
   ⟨0x0A0, 4, 1, .rw, 0x0, 0xFFFFFFFF, .any, "LANE_PTP_ASYM"⟩,
   ⟨0x0A4, 4, 1, .rw, 0x0, 0xFFFFFFFF, .any, "LANE_EXT_LAT"⟩,
   ⟨0x0A8, 4, 1, .ro, 0x0, 0x0, .any, "LANE_RX_GOOD"⟩,
   ⟨0x0AC, 4, 1, .ro, 0x0, 0x0, .any, "LANE_RX_FCS"⟩,
   ⟨0x0B0, 4, 1, .ro, 0x0, 0x0, .any, "LANE_RX_LEN"⟩,
   ⟨0x0B4, 4, 1, .ro, 0x0, 0x0, .any, "LANE_RX_OVF"⟩,
   ⟨0x0B8, 4, 1, .ro, 0x0, 0x0, .any, "LANE_RX_AUTH"⟩,
   ⟨0x0BC, 4, 1, .ro, 0x0, 0x0, .any, "LANE_RX_DUP"⟩,
   ⟨0x0C0, 4, 1, .ro, 0x0, 0x0, .any, "LANE_RX_OTHER"⟩,
   ⟨0x0C4, 4, 1, .ro, 0x0, 0x0, .any, "LANE_SYM_ERR"⟩,
   ⟨0x0C8, 4, 1, .ro, 0x0, 0x0, .any, "LANE_TX_FRAMES"⟩,
   ⟨0x0CC, 4, 1, .ro, 0x0, 0x0, .any, "LANE_TX_HELD"⟩] ++
  [⟨0x0D0, 4, 1, .ro, 0x0, 0x0, .any, "LANE_TX_DROP"⟩,
   ⟨0x0D4, 4, 1, .wo, 0x0, 0x0, .any, "LANE_CMD"⟩]

/-- Registers of the PIL pages after the header. -/
def pilRows : List RegRow :=
  [⟨0x080, 4, 1, .rw, 0x3, 0x3, .cfgSvc, "PIL_CTL"⟩,
   ⟨0x084, 4, 1, .rw, 0x64, 0x3FF, .cfgSvc, "PIL_SCRUB_CFG"⟩,
   ⟨0x088, 4, 1, .ro, 0x0, 0x0, .any, "PIL_STATUS"⟩,
   ⟨0x08C, 4, 1, .ro, 0x0, 0x0, .any, "PIL_SCRUB_POS"⟩,
   ⟨0x090, 4, 1, .ro, 0x0, 0x0, .any, "PIL_SEC_COUNT_LO"⟩,
   ⟨0x094, 4, 1, .ro, 0x0, 0x0, .any, "PIL_SEC_COUNT_HI"⟩,
   ⟨0x098, 4, 1, .ro, 0x0, 0x0, .any, "PIL_DED_ADDR"⟩,
   ⟨0x09C, 4, 1, .ro, 0x0, 0x0, .any, "PIL_DED_COUNT"⟩,
   ⟨0x0A0, 4, 1, .ro, 0x0, 0x0, .any, "PIL_CODE_LOADING_LO"⟩,
   ⟨0x0A4, 4, 1, .ro, 0x0, 0x0, .any, "PIL_CODE_LOADING_HI"⟩,
   ⟨0x0A8, 4, 1, .rw, 0x0, 0x3FFF, .any, "PIL_OWN_Q"⟩,
   ⟨0x0AC, 4, 1, .ro, 0x0, 0x0, .any, "PIL_OWN_R"⟩,
   ⟨0x0B0, 4, 1, .wo, 0x0, 0x0, .any, "PIL_CMD"⟩]

/-- Registers of the BOB pages after the header. -/
def bobRows : List RegRow :=
  [⟨0x080, 4, 1, .rw, 0x7, 0x7, .bobCtl, "BOB_CTL"⟩,
   ⟨0x084, 4, 1, .ro, 0x0, 0x0, .any, "BOB_STATUS"⟩,
   ⟨0x088, 4, 1, .ro, 0x0, 0x0, .any, "BOB_STRAND"⟩,
   ⟨0x08C, 4, 1, .ro, 0x0, 0x0, .any, "BOB_PC"⟩,
   ⟨0x090, 4, 1, .ro, 0x0, 0x0, .any, "BOB_ACTIVE_LO"⟩,
   ⟨0x094, 4, 1, .ro, 0x0, 0x0, .any, "BOB_ACTIVE_HI"⟩,
   ⟨0x098, 4, 1, .ro, 0x0, 0x0, .any, "BOB_STALL_BANK"⟩,
   ⟨0x09C, 4, 1, .ro, 0x0, 0x0, .any, "BOB_STALL_REMOTE"⟩,
   ⟨0x0A0, 4, 1, .ro, 0x0, 0x0, .any, "BOB_STALL_FETCH"⟩,
   ⟨0x0A4, 4, 1, .ro, 0x0, 0x0, .any, "BOB_STALL_LONG"⟩,
   ⟨0x0A8, 4, 1, .ro, 0x0, 0x0, .any, "BOB_WAIT_MAX"⟩,
   ⟨0x0AC, 4, 1, .ro, 0x0, 0x0, .any, "BOB_IC_MISS"⟩,
   ⟨0x0B0, 4, 1, .ro, 0x0, 0x0, .any, "BOB_LB_FETCH"⟩,
   ⟨0x0B4, 4, 1, .wo, 0x0, 0x0, .any, "BOB_CMD"⟩,
   ⟨0x0B8, 4, 1, .ro, 0x0, 0x0, .any, "BOB_CLB_SEQ"⟩]

/-- Registers of the EIC_T pages after the header. -/
def eicTRows : List RegRow :=
  [⟨0x080, 4, 1, .ro, 0x0, 0x0, .any, "EIC_T_CLAIM"⟩,
   ⟨0x084, 4, 1, .wo, 0x0, 0x0, .any, "EIC_T_COMPLETE"⟩,
   ⟨0x088, 4, 1, .rw, 0x3, 0x3, .any, "EIC_T_CTL"⟩,
   ⟨0x08C, 4, 1, .ro, 0x0, 0x0, .any, "EIC_T_STATUS"⟩,
   ⟨0x090, 4, 1, .rw, 0x0, 0xF, .any, "EIC_T_STACK_SEL"⟩,
   ⟨0x094, 4, 1, .ro, 0x0, 0x0, .any, "EIC_T_STACK"⟩,
   ⟨0x098, 4, 1, .ro, 0x0, 0x0, .any, "EIC_T_PRIV_PEND"⟩,
   ⟨0x09C, 4, 1, .rw, 0x0, 0xFFFFFFFF, .any, "EIC_T_PRIV_EN"⟩,
   ⟨0x0A0, 4, 1, .w1s, 0x0, 0xFF00, .any, "EIC_T_PRIV_SET"⟩,
   ⟨0x0A4, 4, 1, .rw, 0x0, 0xFFFFFF, .any, "EIC_T_TIMER"⟩,
   ⟨0x0A8, 4, 1, .ro, 0x0, 0x0, .any, "EIC_T_SPURIOUS"⟩,
   ⟨0x0B0, 4, 4, .rw, 0x0, 0xFFFFFFFF, .any, "EIC_T_PRIV_PRIOi"⟩]

/-- Registers of the SE1_LEASE pages after the header. -/
def se1LeaseRows : List RegRow :=
  [⟨0x080, 4, 5, .rw, 0x0, 0xF3, .lease, "SE1_LEASEn"⟩]

/-- Registers of the SE1_CTL pages after the header. -/
def se1CtlRows : List RegRow :=
  [⟨0x080, 4, 1, .rw, 0x0, 0x7F, .any, "SE1_APER_SEL"⟩]

/-- The unit-specific rows of a page kind. -/
def RUnit.rows : RUnit → List RegRow
  | .glb => glbRows
  | .mode => modeRows
  | .pwr => pwrRows
  | .clk => clkRows
  | .selv => selvRows
  | .eic => eicRows
  | .whrl => whrlRows
  | .prck => prckRows
  | .stc => stcRows
  | .bio => bioRows
  | .trip => tripRows
  | .hif => hifRows
  | .dra => draRows
  | .nvr => nvrRows
  | .sec => secRows
  | .lcy => lcyRows
  | .dbg => dbgRows
  | .ucs => ucsRows
  | .spn => spnRows
  | .key => keyRows
  | .pg => pgRows
  | .lane => laneRows
  | .pil => pilRows
  | .bob => bobRows
  | .eicT => eicTRows
  | .se1Lease => se1LeaseRows
  | .se1Ctl => se1CtlRows

/-- Unit class codes (R574, R689). EIC target pages carry class EIC (R531), SE1 pages 0x80. -/
def RUnit.cls : RUnit → Nat
  | .glb => 0
  | .mode => 1
  | .pwr => 2
  | .clk => 3
  | .selv => 4
  | .eic => 5
  | .whrl => 6
  | .prck => 7
  | .stc => 8
  | .bio => 9
  | .trip => 10
  | .hif => 11
  | .dra => 12
  | .nvr => 13
  | .sec => 14
  | .lcy => 15
  | .dbg => 16
  | .ucs => 17
  | .spn => 18
  | .key => 19
  | .pg => 20
  | .lane => 21
  | .pil => 22
  | .bob => 23
  | .eicT => 5
  | .se1Lease => 0x80
  | .se1Ctl => 0x80

/-- The unit kind and instance of a page (R687); none for a reserved page. -/
def pageUnit (n : Nat) : Option (RUnit × Nat) :=
  if n ≤ 0x013 then
    match n with
    | 0 => some (.glb, 0) | 1 => some (.mode, 0) | 2 => some (.pwr, 0) | 3 => some (.clk, 0) | 4 => some (.selv, 0)
    | 5 => some (.eic, 0) | 6 => some (.whrl, 0) | 7 => some (.prck, 0) | 8 => some (.stc, 0) | 9 => some (.bio, 0)
    | 10 => some (.trip, 0) | 11 => some (.hif, 0) | 12 => some (.dra, 0) | 13 => some (.nvr, 0) | 14 => some (.sec, 0)
    | 15 => some (.lcy, 0) | 16 => some (.dbg, 0) | 17 => some (.ucs, 0) | 18 => some (.spn, 0) | _ => some (.key, 0)
  else if 0x020 ≤ n ∧ n < 0x02C then some (.pg, n - 0x020)
  else if 0x030 ≤ n ∧ n < 0x090 then some (.lane, n - 0x030)
  else if 0x090 ≤ n ∧ n < 0x0A0 then some (.pil, n - 0x090)
  else if 0x100 ≤ n ∧ n < 0x200 then some (.bob, n - 0x100)
  else if 0x200 ≤ n ∧ n ≤ 0x300 then some (.eicT, n - 0x200)
  else if 0xC00 ≤ n ∧ n < 0xC10 then some (.se1Lease, n - 0xC00)
  else if n = 0xC3F then some (.se1Ctl, 0xFF)
  else none

/-- Pages of the single units and the first pages of the repeated ones (R687). -/
abbrev pgGLB : Nat := 0x000
abbrev pgMODE : Nat := 0x001
abbrev pgPWR : Nat := 0x002
abbrev pgCLK : Nat := 0x003
abbrev pgSELV : Nat := 0x004
abbrev pgEIC : Nat := 0x005
abbrev pgWHRL : Nat := 0x006
abbrev pgPRCK : Nat := 0x007
abbrev pgSTC : Nat := 0x008
abbrev pgBIO : Nat := 0x009
abbrev pgTRIP : Nat := 0x00A
abbrev pgHIF : Nat := 0x00B
abbrev pgDRA : Nat := 0x00C
abbrev pgNVR : Nat := 0x00D
abbrev pgSEC : Nat := 0x00E
abbrev pgLCY : Nat := 0x00F
abbrev pgDBG : Nat := 0x010
abbrev pgUCS : Nat := 0x011
abbrev pgSPN : Nat := 0x012
abbrev pgKEY : Nat := 0x013
abbrev pgPG (g : Nat) : Nat := 0x020 + g
abbrev pgLANE (k : Nat) : Nat := 0x030 + k
abbrev pgPIL (p : Nat) : Nat := 0x090 + p
abbrev pgBOB (n : Nat) : Nat := 0x100 + n
abbrev pgEICT (t : Nat) : Nat := 0x200 + t
abbrev pgSE1 (p : Nat) : Nat := 0xC00 + p
abbrev pgSE1C : Nat := 0xC3F

/-- Reset route and fault class of each error bit, from bit 0 (R573, R578, R693; the chapters' own tables). -/
def RUnit.errs : RUnit → List (Nat × Nat)
  | .glb => [(2, 6), (1, 3), (2, 2)]
  | .mode => [(3, 2), (2, 3)]
  | .pwr => [(3, 5), (1, 0), (3, 5), (2, 5), (2, 5), (2, 3), (2, 2)]
  | .clk => [(3, 5), (2, 5), (2, 5), (1, 5)]
  | .selv => [(2, 2), (3, 2), (3, 2), (3, 2), (3, 2), (3, 2), (3, 3), (3, 2), (3, 3)]
  | .eic => [(2, 2), (3, 2), (2, 2)]
  | .whrl => [(2, 3), (2, 3), (2, 5), (3, 3), (3, 2)]
  | .prck => [(2, 6), (2, 4), (2, 3), (2, 3), (3, 2), (1, 3)]
  | .stc => [(2, 5), (2, 5), (2, 5), (2, 5), (2, 5), (2, 5), (1, 5), (3, 5)]
  | .bio => [(2, 2), (2, 2)]
  | .trip => [(2, 4), (2, 4), (2, 4), (3, 3), (3, 2)]
  | .hif => [(1, 1), (2, 2)]
  | .dra => [(1, 0), (2, 1), (2, 1), (1, 1), (2, 1)]
  | .nvr => [(2, 1), (1, 1), (2, 2)]
  | .sec => [(3, 7), (3, 7), (3, 7), (2, 7), (3, 7), (1, 7)]
  | .lcy => [(2, 7)]
  | .dbg => [(2, 3), (2, 2), (1, 0)]
  | .ucs => [(1, 0), (2, 1), (2, 2), (2, 3), (1, 7)]
  | .spn => [(3, 2), (1, 0), (1, 0), (2, 1), (2, 3), (1, 1), (1, 1), (2, 2), (2, 3), (3, 2)]
  | .key => [(1, 7), (3, 7)]
  | .pg => [(2, 5), (1, 1), (2, 2)]
  | .lane => [(2, 2), (2, 2), (1, 0), (2, 1), (1, 2), (2, 2), (1, 2)]
  | .pil => [(1, 0), (2, 1), (2, 2), (2, 3), (2, 1), (2, 3)]
  | .bob => [(2, 3), (2, 3), (2, 3), (1, 0), (2, 2), (2, 2)]
  | .eicT => []
  | .se1Lease => []
  | .se1Ctl => []

/-- Number of defined bits of ERR_STATUS. -/
def RUnit.nErr (u : RUnit) : Nat := u.errs.length

/-- ERR_ROUTE at reset: two bits for each error bit (R572, R573). -/
def routeReset : List (Nat × Nat) → Nat → Nat
  | [], _ => 0
  | (r, _) :: t, n => r * 4 ^ n + routeReset t (n + 1)

/-- Pages whose header has no register from ERR_STATUS onward (R692). -/
def RUnit.shortHeader : RUnit → Bool
  | .eicT | .se1Lease | .se1Ctl => true
  | _ => false

/-- Pages that have snag registers (R679). -/
def RUnit.hasSnag : RUnit → Bool
  | .pil | .lane | .whrl | .dra => true
  | _ => false

/-- Offset of a repeat of a row, if `off` is one. -/
def RegRow.holds (r : RegRow) (off : Nat) : Bool :=
  decide (r.off ≤ off) && decide ((off - r.off) % r.step = 0) && decide ((off - r.off) / r.step < r.count)

/-- The row of a unit's register. -/
def RUnit.row? (u : RUnit) (off : Nat) : Option RegRow := u.rows.find? fun r => r.holds off

/-- The reset value of a header register (R689 to R692). UNIT_VER: DESIGN CHOICE, log entry 6. -/
def hdrReset (u : RUnit) (inst off : Nat) : Nat :=
  if off = 0x000 then u.cls * 2 ^ 24 + inst % 256 * 2 ^ 16 + 1
  else if off = 0x004 then 0x00010000
  else if off = 0x008 then 1
  else if u.shortHeader then 0
  else if off = 0x018 then 2 ^ u.nErr - 1
  else if off = 0x01C then routeReset u.errs 0
  else if off = 0x038 then 1
  else 0

/-- The reset value of the register at a key page × 0x1000 + offset; reserved places hold 0 (R687, R688). -/
def regReset (k : Nat) : W32 :=
  match pageUnit (k / 0x1000) with
  | none => 0
  | some (u, i) =>
    let off := k % 0x1000
    if off < 0x080 then w32 (hdrReset u i off)
    else match u.row? off with
      | some r => w32 r.reset
      | none => 0

end Sys2Proof.Machine
end

