-- ==== Sys2Proof/Machine/State.lean ====
section
/-!
DEFINITION. The state of the engine as plain data: every unit's own structure, the sparse stores, the queue of commands,
and the state right after always-on power-up (19_modes_power.md R617).
-/

namespace Sys2Proof.Machine

/-! ### Kendil contexts (03_kendil_encoding.md R62, 06_bobbin_pipeline.md, 09_privilege_exceptions.md) -/

/-- Privilege levels (R268). -/
inductive Level where
  | u | s | m
  deriving DecidableEq, Repr

/-- The code of a level (R268). -/
def Level.code : Level → Nat
  | .u => 0 | .s => 1 | .m => 2

/-- The level of a code; 3 is reserved and never stored (R271). -/
def Level.ofCode : Nat → Level
  | 0 => .u | 1 => .s | _ => .m

/-- Tag-check scopes (R43), in the order of TCS. -/
inductive Scope where
  | full | numeric | address | off
  deriving DecidableEq, Repr

/-- The code of a scope. -/
def Scope.code : Scope → Nat
  | .full => 0 | .numeric => 1 | .address => 2 | .off => 3

/-- The scope of a code. -/
def Scope.ofCode : Nat → Scope
  | 0 => .full | 1 => .numeric | 2 => .address | _ => .off

/-- The mode fields of R183: what a word samples in D. -/
structure Modes where
  level : Level
  mask : Nat
  tcs : Scope
  nanInvalid : Bool
  rm : Rm
  ft : Bool
  deriving DecidableEq, Repr

/-- The modes after context reset (R33, R40, R150, R158, R339). -/
def Modes.ctxReset : Modes := ⟨.u, 0, .full, true, .rne, false⟩

/-- Flags Z, N, C, V and the carry quality CQ (R38, R62). -/
structure Flags where
  z : Bool
  n : Bool
  c : Bool
  v : Bool
  cq : Qual
  deriving DecidableEq, Repr

/-- All flags 0 and CQ good. -/
def Flags.reset : Flags := ⟨false, false, false, false, Qual.good⟩

/-- A stack: its physical entries from the deepest up, those above the depth included (R68), and its depth. An entry
beyond the list holds the VOID word of R33. -/
structure Stk where
  ents : List TWord
  depth : Nat
  deriving DecidableEq, Repr

/-- An empty stack of VOID words. -/
def Stk.empty : Stk := ⟨[], 0⟩

/-- The A register: 24 bits on a bobbin, 48 on the spindle, tagged like a stack entry (R62). -/
structure AReg where
  ty : Ty
  q : Qual
  rsv : Bool
  pay : BitVec 48
  deriving DecidableEq, Repr

/-- A after a context reset: the VOID word (R33, R615). -/
def AReg.reset : AReg := ⟨.void, Qual.good, false, 0⟩

/-- One hardware loop (R63, R86): body from `start` to `stop - 1`, iterations left with the current one. It is active once
the flow has reached its body. `taken` marks a back-edge decided before an exception on the last body word (R298): the
count is then already one lower. -/
structure Loop where
  start : Nat
  stop : Nat
  left : Nat
  entered : Bool
  taken : Bool
  deriving DecidableEq, Repr

/-- Iterations left with the one in progress. -/
def Loop.now (l : Loop) : Nat := l.left + l.taken.toNat

/-- What follows the word now in the delay slot (R130, R279). -/
inductive Delay where
  /-- a taken branch: its target, fetch bubbles after the slot (R182), whether it ends the innermost loop (R185) -/
  | branch (target bubbles : Nat) (ends : Bool)
  /-- a branch not taken: the slot is still a slot (R130) -/
  | fallThrough
  /-- GATE n at an address: it checks and switches after the slot (R279) -/
  | gate (n pc : Nat)
  deriving DecidableEq, Repr

/-- What a delayed result writes when it lands (R174, R175). -/
inductive Landing where
  | entry (priv : Bool) (idx : Nat) (w : TWord)
  | flags (z n c v : Bool) (cq : Qual)
  | sticky (code : Nat)
  | modes (m : Modes)
  deriving DecidableEq, Repr

/-- A result in flight in the exposed pipeline: pipe slots until it lands (R173, R174). -/
structure Flight where
  left : Nat
  land : Landing
  deriving DecidableEq, Repr

/-- What the COND of a branch word sees, one slot early (R176). -/
structure CondSnap where
  z : Bool
  n : Bool
  v : Bool
  tosVal : Val
  hasTos : Bool
  deriving DecidableEq, Repr

/-- PSTATE of a bobbin (R200) and of the spindle (R241), by name. -/
inductive PState where
  /-- bobbin 0, spindle 0: without power -/
  | off
  /-- bobbin 1 clock-gated; spindle 1 sleeping in WFI -/
  | idle
  /-- bobbin 2: running a strand -/
  | strand
  /-- bobbin 3: S- or M-level code with no strand; spindle 2: running -/
  | system
  | halted
  | vacated
  | retired
  | lockedUp
  /-- spindle 5: fenced after a lockstep mismatch (R210) -/
  | fenced
  deriving DecidableEq, Repr

/-- The gate-return register of an open SW = 1 entry on a bobbin (R281). -/
structure GateReg where
  argc : Nat
  resc : Nat
  d0 : Nat
  /-- return-stack depth before the entry's frame (the model's own note of where the frame lies) -/
  r0 : Nat
  deriving DecidableEq, Repr

/-- The strand ply on a bobbin: strand index, ply, strand-cache slot (R200, R421). -/
structure OnCore where
  idx : Nat
  ply : Nat
  slot : Nat
  deriving DecidableEq, Repr

/-- A pending halt request (21_debug_snag.md R665, R666). -/
inductive HaltReq where
  | none | pending | draining
  /-- a single step is under way (R667) -/
  | stepping (irq : Bool)
  deriving DecidableEq, Repr

/-- The eight states of R341, in the order of their codes. -/
inductive SState where
  | free | parked | staged | ready | running | waiting | suspended | faulted
  deriving DecidableEq, Repr

/-- The code of a strand state (R341). -/
def SState.code : SState → Nat
  | .free => 0 | .parked => 1 | .staged => 2 | .ready => 3 | .running => 4 | .waiting => 5 | .suspended => 6
  | .faulted => 7

/-- What a WAIT still awaits (R142, R359): closes of the strand's line, or a whole millisecond of the STC. -/
inductive WaitFor where
  | closes (left : Nat)
  | msAt (instant : Nat)
  | message
  deriving DecidableEq, Repr

/-- What a context keeps outside its 64-word image while its strand is off the bobbin (R62, R143, R144): A, FPCSR and the
control registers. -/
structure Side where
  areg : AReg
  sticky : Nat
  traps : Nat
  acb : W32
  acl : W32
  crcPoly : W32
  crcCfg : W32
  fillw : TWord
  deriving DecidableEq, Repr

/-- After a context reset (R615). -/
def Side.reset : Side := ⟨AReg.reset, 0, 0, 0, 0, 0, 0, voidWord⟩

/-- What a save leaves its ply in: whether YIELD or a preemption brought it, the state, what a WAIT awaits, the ply check's
verdict. -/
structure SaveEnd where
  atYield : Bool
  pre : Bool
  st : SState
  wf : Option WaitFor
  agree : Bool
  deriving DecidableEq, Repr

/-- A strand switch that an interrupt has stopped at a COMMIT point (08_microcode.md R251): the strand, the next context word, the
words a save has still to write or a load has read, how a save ends (none: a load), the context kept outside the image,
and the depth of the return stack at which the runtime context has returned. -/
structure Switch where
  who : OnCore
  next : Nat
  words : List TWord
  leaves : Option SaveEnd
  side : Side
  depth : Nat
  deriving DecidableEq, Repr

/-- The context of a core, a bobbin's or the spindle's (R62, R144, R200). -/
structure Core where
  pstate : PState
  /-- U-level stack set and privileged stack set (R282); the spindle uses the first only -/
  dsU : Stk
  rsU : Stk
  dsP : Stk
  rsP : Stk
  areg : AReg
  /-- innermost loop first; at most two (R63) -/
  loops : List Loop
  flags : Flags
  modes : Modes
  pset : Bool
  esc : Bool
  /-- FPCSR sticky flags IV 4 … NX 0 and trap enables in the same order (R144) -/
  sticky : Nat
  traps : Nat
  acb : W32
  acl : W32
  crcPoly : W32
  crcCfg : W32
  fillw : TWord
  /-- address of the next word: instruction words on a bobbin, bytes on the spindle -/
  pc : Nat
  /-- address of the last committed word (R200, R241) -/
  lastPc : Nat
  delay : Option Delay
  /-- fetch bubbles still to pass as pipe slots (R173, R182, R186, R188) -/
  bubbles : Nat
  /-- bubbles that pass after some more words: words to go, bubbles (R186, R188) -/
  late : List (Nat × Nat)
  flight : List Flight
  /-- bank words as they stood before the stores of the last word and of the word in progress (R174, store row); none where the
  word could not be read -/
  stale : List (Nat × Option TWord)
  staleNew : List (Nat × Option TWord)
  condNow : CondSnap
  gateReg : Option GateReg
  /-- the runtime context that a bobbin returns to when a strand leaves it (R251): its modes and its next word -/
  rtModes : Modes
  rtPc : Nat
  /-- the registers that the runtime context keeps while a strand is on its bobbin (R144, R251, R300) -/
  rtSide : Side
  strand : Option OnCore
  budgetLeft : Nat
  /-- BUDGET raised and not yet entered (R285); late bus error raised and not yet entered (R221) -/
  budgetPend : Bool
  lbePend : Bool
  /-- BUDGET has been entered and the strand's overrun not yet handled (R356) -/
  budgetOver : Bool
  /-- a strand switch stopped at a COMMIT point (R251) -/
  switch : Option Switch
  haltReq : HaltReq
  haltCause : Nat
  /-- what the core did when it halted -/
  haltFrom : PState
  lbActive : Bool
  /-- the loop buffer holds the body of the innermost loop from its first word on (R187) -/
  lbCap : Bool
  clbPending : Bool
  /-- the instruction cache of a bobbin: for each of its 64 sets the lines held, two at most, the latest used first (R189) -/
  icache : SMap (List Nat)
  /-- the next word is the first at a handler (R290) -/
  atHandler : Bool
  /-- breakpoints that have halted at this word and are passed over on resume (R668) -/
  bpPass : Bool
  /-- core watchdog (R674): due time, pre-expiry raised -/
  wdogDue : Nat
  wdogPre : Bool
  deriving DecidableEq, Repr

/-- No flags and an empty stack, as COND first sees them. -/
def CondSnap.reset : CondSnap := ⟨false, false, false, .good, false⟩

/-- A core without power: contexts hold their reset values (R33, R615). -/
def Core.reset : Core where
  pstate := .off
  dsU := Stk.empty
  rsU := Stk.empty
  dsP := Stk.empty
  rsP := Stk.empty
  areg := AReg.reset
  loops := []
  flags := Flags.reset
  modes := ⟨.s, 7, .full, true, .rne, false⟩
  pset := true
  esc := false
  sticky := 0
  traps := 0
  acb := 0
  acl := 0
  crcPoly := 0
  crcCfg := 0
  fillw := voidWord
  pc := 0
  lastPc := 0
  delay := none
  bubbles := 0
  late := []
  flight := []
  stale := []
  staleNew := []
  condNow := CondSnap.reset
  gateReg := none
  rtModes := ⟨.s, 7, .full, true, .rne, false⟩
  rtPc := 0
  rtSide := Side.reset
  strand := none
  budgetLeft := 0
  budgetPend := false
  lbePend := false
  budgetOver := false
  switch := none
  haltReq := .none
  haltCause := 0
  haltFrom := .off
  lbActive := false
  lbCap := false
  clbPending := false
  icache := []
  atHandler := false
  bpPass := false
  wdogDue := 0
  wdogPre := false

/-! ### Selvedge (18_selvedge.md) -/

/-- A unit of the engine as the fault code and SELV_Q_UNIT name it: class, instance, SUB (R574, R576, R598). -/
structure UnitId where
  cls : Nat
  inst : Nat
  sub : Nat
  deriving DecidableEq, Repr

/-- An occurrence of an error carried on a unit's error line and not yet latched (R572). -/
structure Occ where
  page : Nat
  bit : Nat
  sub : Nat
  /-- the units the error names for test (R578), where the table leaves the choice to the error -/
  named : List UnitId
  injected : Bool
  /-- recorded under route WARN whatever the route (21_debug_snag.md R672) -/
  warn : Bool
  deriving DecidableEq, Repr

/-- What brought a test about (R579, R592, R598). -/
inductive TestCause where
  | error | rota | request | safe | proof
  deriving DecidableEq, Repr

/-- The state of a test (R579, R581). -/
inductive TestPhase where
  | waiting | running
  deriving DecidableEq, Repr

/-- A test waiting or running: the unit, its cause, the records to repeat at its end as NUMBER and fault code (R576), when it
began and its length. -/
structure Test where
  unit : UnitId
  cause : TestCause
  codes : List (Nat × W32)
  phase : TestPhase
  since : Nat
  len : Nat
  deriving DecidableEq, Repr

/-- The Selvedge's record of one unit (R582, R598). -/
structure UnitRec where
  retired : Bool
  /-- STC seconds of the last 15 recoveries, latest first -/
  recov : List Nat
  total : Nat
  /-- passed a requested test since its retirement (R582) -/
  passed : Bool
  deriving DecidableEq, Repr

/-- A unit never tested. -/
def UnitRec.reset : UnitRec := ⟨false, [], 0, false⟩

/-- The Selvedge core (R572 to R592). -/
structure Selv where
  /-- carried occurrences, oldest first -/
  occ : List Occ
  tests : List Test
  units : SMap UnitRec
  safeLatched : Bool
  /-- a test that the present SAFE entry started has failed (R586) -/
  safeFailed : Bool
  /-- times of the recent SAFE entries (R586) -/
  safeEntries : List Nat
  /-- start of the quiet period: the later of the last test's end and the last FAULT or SAFE error (R586) -/
  quietFrom : Nat
  /-- FAULT_N: asserted, its width's end, a release held during the width, ARMED reached since power-up (R587) -/
  fnOn : Bool
  fnUntil : Nat
  fnRelHeld : Bool
  armedOnce : Bool
  /-- cores whose lockup line is asserted (R588) -/
  lockups : List Nat
  /-- engine watchdog: due time, started, WDOG_PRE set (R591) -/
  wdogDue : Nat
  wdogOn : Bool
  wdogPre : Bool
  /-- time left while the engine watchdog is paused (R675) -/
  wdogHeld : Option Nat
  /-- an order fault or restore failure passed with its target (R518, R525), oldest first -/
  eicFaults : List Nat
  deriving DecidableEq, Repr

/-- The Selvedge at always-on power-up (R617): FAULT_N asserted until ARMED (R587). -/
def Selv.reset : Selv where
  occ := []
  tests := []
  units := []
  safeLatched := false
  safeFailed := false
  safeEntries := []
  quietFrom := 0
  fnOn := true
  fnUntil := 0
  fnRelHeld := false
  armedOnce := false
  lockups := []
  wdogDue := 0
  wdogOn := false
  wdogPre := false
  wdogHeld := none
  eicFaults := []

/-! ### Record store (17_host_dram.md R545 to R551) -/

/-- An SOE record submitted and not yet committed: words 0 to 5 (R546); SEQ and CRC are added at the commit. -/
structure Soe where
  kind : Nat
  source : Nat
  number : Nat
  sec : Nat
  ns : Nat
  tval : Nat
  tag : Nat
  value : W32
  word5 : W32
  deriving DecidableEq, Repr

/-- The record store. A record is its eight words. -/
structure Nvr where
  powered : Bool
  ready : Bool
  queue : List Soe
  ring : SMap (List W32)
  head : Nat
  seq : W32
  wraps : W32
  lost : W32
  postFull : Bool
  /-- checkpoints: slot to head index and SEQ (R549) -/
  checkpoints : SMap (List Nat)
  nextCheck : Nat
  sinceCheck : Nat
  /-- disturbance-record index (R551) -/
  di : SMap (List W32)
  rdBusy : Bool
  rdData : List W32
  /-- records lost from the queue at losses of power, by which SEQ jumps (R548) -/
  carry : Nat
  deriving DecidableEq, Repr

/-- The record store of a new part: empty. -/
def Nvr.reset : Nvr := ⟨true, false, [], [], 0, 0, 0, 0, false, [], 0, 0, [], false, [], 0⟩

/-! ### DRAM agent (17_host_dram.md R552 to R559) -/

/-- The channel's states (R569). -/
inductive DraState where
  | off | training | ready | failed
  deriving DecidableEq, Repr

/-- The DRAM agent and the reserved channel. -/
structure Dra where
  /-- host byte address at which the host's address map places the channel; the spec leaves it to the integrator
  (log entry 36) -/
  base : Nat
  st : DraState
  /-- in self-refresh (R559) -/
  sr : Bool
  retired : Option Nat
  migrating : Bool
  spareUsed : Bool
  training : Bool
  /-- when the last request came (R559) -/
  idleFrom : Nat
  /-- contents of the channel, by byte address; the engine relies on no earlier contents (R552) -/
  mem : SMap Byte
  /-- lines (64 bytes) whose data cannot be read (R558) -/
  poison : List Nat
  deriving DecidableEq, Repr

/-- DRA without power. -/
def Dra.reset : Dra := ⟨0x400000000000, .off, false, none, false, false, false, 0, [], []⟩

/-! ### Interrupt controller (16_interrupts.md) -/

/-- A shared source: configuration and stored state (R510 to R513, R528). -/
structure Src where
  prio : Nat
  target : Nat
  en : Bool
  /-- pending bit of an edge source -/
  pend : Bool
  active : Bool
  /-- an edge collected while active (R519) -/
  edgeAct : Bool
  merged : Nat
  /-- TARGET and PRIO and EN held until completion (R513) -/
  held : Option (Nat × Nat × Bool)
  redir : Bool
  deriving DecidableEq, Repr

/-- A shared source at reset. -/
def Src.reset : Src := ⟨0, 0, false, false, false, false, 0, none, false⟩

/-- The copy of a target's state kept in retention during a test (R523): stack, private pending and enable bits,
private priorities, timer, EIC_T_CTL. -/
structure TgtSave where
  stack : List (Nat × Nat)
  privPend : W32
  privEn : W32
  privPrio : List W32
  timer : Option Nat
  ctl : W32
  deriving DecidableEq, Repr

/-- A target (R511, R514, R523, R532); its enables and private priorities are registers of its page. The stack lists
(source, priority), top first. -/
structure Tgt where
  stack : List (Nat × Nat)
  privPend : W32
  /-- private sources that have collected an edge while they were active (R512, R519) -/
  privHeld : W32
  /-- the STC counter when the timer reaches 0 -/
  timer : Option Nat
  spurious : Nat
  offline : Bool
  /-- the copy made before a test -/
  saved : Option TgtSave
  /-- the last value of a bobbin's claim word (R516) -/
  lastClaim : W32
  deriving DecidableEq, Repr

/-- A target at reset. -/
def Tgt.reset : Tgt := ⟨[], 0, 0, none, 0, false, none, 0⟩

/-- The controller. -/
structure Eic where
  srcs : SMap Src
  tgts : SMap Tgt
  /-- EIC_ORDER_FAULT (R518) -/
  orderFault : Option (Nat × Nat)
  deriving DecidableEq, Repr

/-- The controller at reset. -/
def Eic.reset : Eic := ⟨[], [], none⟩

/-! ### Modes, power and clocks (19_modes_power.md) -/

/-- The twelve modes of R601, in the order of their codes. -/
inductive Mode where
  | off | keep | boot | proof | configure | armed | run | degraded | test | blocked | safe | service
  deriving DecidableEq, Repr

/-- The code of a mode (R601). -/
def Mode.code : Mode → Nat
  | .off => 0 | .keep => 1 | .boot => 2 | .proof => 3 | .configure => 4 | .armed => 5 | .run => 6 | .degraded => 7
  | .test => 8 | .blocked => 9 | .safe => 10 | .service => 11

/-- The mode of a code (R601); codes above 11 name none. -/
def Mode.ofCode? : Nat → Option Mode
  | 0 => some .off | 1 => some .keep | 2 => some .boot | 3 => some .proof | 4 => some .configure | 5 => some .armed
  | 6 => some .run | 7 => some .degraded | 8 => some .test | 9 => some .blocked | 10 => some .safe
  | 11 => some .service | _ => none

/-- Power states of a switched domain (R626). -/
inductive Dom where
  | off | on | retention | changing
  deriving DecidableEq, Repr

/-- The code of a domain state (R626). -/
def Dom.code : Dom → Nat
  | .off => 0 | .on => 1 | .retention => 2 | .changing => 3

/-- The MODE sequencer (R601 to R624). -/
structure ModeSt where
  cur : Mode
  target : Mode
  busy : Bool
  auto : Bool
  reject : Nat
  detail : Nat
  rejIndex : Nat
  entrySec : Nat
  entryNs : Nat
  prev : Mode
  /-- the mode SAFE counts as entered from (R604, R605) -/
  safeFrom : Mode
  /-- milliseconds of the phases of the last start-up (R623) and the start of the phase under way -/
  phBoot : Nat
  phProof : Nat
  phConf : Nat
  phArm : Nat
  phStart : Nat
  /-- pillows woken on the way to RUN whose ring slots wait for the absent fill (R428) -/
  woken : List Nat
  /-- steps of the transition under way that have exceeded their bound: of each the domains that it was waiting for (R9, R624) -/
  late : List (List Nat)
  deriving DecidableEq, Repr

/-- The sequencer after always-on power-up: KEEP (R617). -/
def ModeSt.reset : ModeSt :=
  ⟨.keep, .keep, false, false, 0, 0, 0, 0, 0, .off, .keep, 0, 0, 0, 0, 0, [], []⟩

/-- The power unit: domain states, power-up counts and the pillows' regulators (R609 to R613, R626). -/
structure Pwr where
  doms : SMap Dom
  ups : SMap Nat
  /-- per pillow: running frequency MHz, VDD mV, AGE_OFF, VMAX -/
  freq : SMap Nat
  vdd : SMap Nat
  ageOff : SMap Nat
  vmax : SMap Bool
  /-- FMAX_ACH, 1,400 MHz until it is measured (R612) -/
  fmax : SMap Nat
  /-- pillows whose two sensors differ (R613) -/
  sensorBad : List Nat
  /-- pillows whose regulator has left regulation (R628) -/
  regBad : List Nat
  /-- domains that were not power-good in time (R628) -/
  late : List Nat
  /-- banks, and as number 8 the code memory of a pillow, that did not wake in time: pillow × 9 + bank (R438) -/
  wakeLate : List Nat
  supplyOk : Bool
  tempOk : Bool
  tj : BitVec 8
  powerNow : Nat
  powerPeak : Nat
  deriving DecidableEq, Repr

/-- Every switched domain off. -/
def Pwr.reset : Pwr := ⟨[], [], [], [], [], [], [], [], [], [], [], false, false, 0, 0, 0⟩

/-- The clock unit (R17, R21, R630). -/
structure Clk where
  /-- 0 10 MHz, 1 20 MHz, 2 25 MHz, as latched -/
  refSel : Nat
  onIntOsc : Bool
  spnLock : Bool
  pilLock : SMap Bool
  intOsc : Nat
  /-- CLK_INT_OSC: the last measurement in kHz -/
  intOscKhz : Nat
  /-- fast clocks outside 2 % at the last measurement: 0 the spindle, 1 + p a pillow, 17 + g a port group -/
  monBad : List Nat
  /-- port groups whose PLL has lost lock (R466) -/
  pgUnlock : List Nat
  /-- spindle paused for a relock until this time (R630) -/
  spnPause : Nat
  deriving DecidableEq, Repr

/-- The clocks at always-on power-up. DESIGN CHOICE: 10 MHz, and the internal oscillator at its nominal 8 MHz until it is
measured, log entry 4. -/
def Clk.reset : Clk := ⟨0, false, false, [], 125 * 2 ^ 32, 0, [], [], 0⟩

/-! ### Station time counter (10_station_time.md) -/

/-- A pulse source of the STC: PPS_IN0, PPS_IN1 or IRIG_IN (R309 to R311, R318). Counter values are in 2⁻³² ns and
are moved with every later step, so that elapsed time is STC time without steps. -/
structure TSrc where
  /-- counter at the last accepted edge -/
  lastEdge : Option Int
  /-- when that edge came, on the edge clock of `State.now` -/
  seenAt : Nat
  /-- accepted edges in a row, one second apart (R311) -/
  run : Nat
  /-- expected edges in a row that were missing or rejected (R311) -/
  bad : Nat
  qual : Bool
  qualAt : Nat
  /-- edges in a row outside the window, latest first (R310) -/
  out : List Int
  /-- phase at the last accepted edge, 62.5 ps units -/
  phase : Int
  swing : Nat
  deriving DecidableEq, Repr

/-- A source that has given no edge. -/
def TSrc.reset : TSrc := ⟨none, 0, 0, 0, false, 0, [], 0, 0⟩

/-- The states of R307. -/
inductive StcState where
  | unset | freeRun | acquiring | locked | holdover
  deriving DecidableEq, Repr

/-- The code of a state (R307). -/
def StcState.code : StcState → Nat
  | .unset => 0 | .freeRun => 1 | .acquiring => 2 | .locked => 3 | .holdover => 4

/-- The station time counter: SEC, NS, FRAC and the accumulator are one number in 2⁻³² ns (R301, R303). -/
structure Stc where
  cnt : Nat
  st : StcState
  /-- selected source, coded as PRIO0: 1 PPS0, 2 PPS1, 3 IRIG, 4 PTP, 0 none -/
  src : Nat
  traceable : Bool
  /-- LOCKED has been reached since the STC was UNSET (R584) -/
  wasLocked : Bool
  disagree : Bool
  pps0 : TSrc
  pps1 : TSrc
  irig : TSrc
  ptpQual : Bool
  ptpAt : Nat
  ptpQualAt : Nat
  /-- increment of the period in progress (R303) -/
  incr : Nat
  /-- frequency estimate s of the loop in 2⁻²⁰ ns per second (R313) -/
  est : Int
  lockRun : Nat
  unlockRun : Nat
  crossBad : Nat
  crossGood : Nat
  holdAt : Nat
  /-- phase still to slew, and the part of it in the period in progress, 2⁻³² ns (R315) -/
  adjLeft : Int
  slew : Int
  /-- SET_NOW waiting for the next edge: seconds, ns -/
  setNow : Option (Nat × Nat)
  /-- SET_AT_EDGE waiting for an accepted edge: seconds -/
  setEdge : Option Nat
  /-- the waiting step is SET_AT_EDGE's -/
  edgeSet : Bool
  /-- a step waiting for the next REF_IN edge, 2⁻³² ns (R317) -/
  stepBy : Option Int
  irigPrev : Option Nat
  irigAt : Nat
  /-- valid frames in a row whose seconds differ, and the load that waits for the next reference edge (R324) -/
  irigDiff : Nat
  irigLoad : Bool
  ppsOut : Bool
  ppsOutUntil : Nat
  stepCount : Nat
  /-- the interpolator's calibration is out of range, and FREE_RUN has come of a holdover that expired (R305, R321): conditions of
  ERR_LIVE (R9) -/
  calBad : Bool
  expired : Bool
  deriving DecidableEq, Repr

/-- The STC at always-on power-up: UNSET (R307, R617), counting from 0. -/
def Stc.reset : Stc where
  cnt := 0
  st := .unset
  src := 0
  traceable := false
  wasLocked := false
  disagree := false
  pps0 := TSrc.reset
  pps1 := TSrc.reset
  irig := TSrc.reset
  ptpQual := false
  ptpAt := 0
  ptpQualAt := 0
  incr := 100 * 2 ^ 32
  est := 0
  lockRun := 0
  unlockRun := 0
  crossBad := 0
  crossGood := 0
  holdAt := 0
  adjLeft := 0
  slew := 0
  setNow := none
  setEdge := none
  edgeSet := false
  stepBy := none
  irigPrev := none
  irigAt := 0
  irigDiff := 0
  irigLoad := false
  ppsOut := false
  ppsOutUntil := 0
  stepCount := 0
  calBad := false
  expired := false

/-! ### Strands and the Whorl (11_strands_whorl.md) -/

/-- A message (R141, R362): its sender's ID and up to 8 payload words. -/
structure Msg where
  sender : W32
  words : List TWord
  deriving DecidableEq, Repr

/-- A SEND of a ply in this release (R364): its ordinal among the ply's SENDs, the ply, the destination and payload, and
whether it has been transmitted. -/
structure PlySend where
  n : Nat
  ply : Nat
  dest : W32
  words : List TWord
  out : Bool
  deriving DecidableEq, Repr

/-- One ply of a strand (R338, R341, R391). -/
structure Ply where
  /-- bobbin 16p + b -/
  bob : Nat
  /-- strand-cache slot; none while parked -/
  slot : Option Nat
  st : SState
  /-- the next matching close, on the STC counter (R352 step 8) -/
  deadline : Nat
  preempted : Bool
  /-- a trigger arrived while the ply could not be released (R345) -/
  merged : Bool
  missed : Bool
  /-- receive queue, oldest first: buffers of the pillow's message pool in bank 5 (R362) -/
  queue : List Nat
  waitFor : Option WaitFor
  /-- SUSPEND or FREE waits for the drain point of a running ply (R369): the operation's code -/
  atDrain : Option Nat
  /-- not released until rebuilt (R390), or rebuilt from scratch before the next release -/
  rebuild : Bool
  /-- CRC of the context saved at this tick's YIELD (R389) -/
  ctxCrc : Option W32
  /-- SENDs of this release (R364) -/
  sent : Nat
  /-- tick number of the present or last release -/
  tick : Nat
  /-- the current tick, TICK_NUM: that of the release, or of the resumption after a WAIT (R144) -/
  tickNum : Nat
  /-- TRIP.SETs of this release per output (R491) -/
  trips : SMap Nat
  /-- publication slots written and not committed, and committed, in this release (R140, R486) -/
  pubOpen : List Nat
  pubDone : List Nat
  /-- in the act of staging (R395) -/
  staging : Bool
  side : Side
  deriving DecidableEq, Repr

/-- A data segment: bank, offset and words (R386). -/
structure Seg where
  bank : Nat
  off : Nat
  len : Nat
  deriving DecidableEq, Repr

/-- A strand that is not FREE. -/
structure Strand where
  id : W32
  /-- the declaration record as read at CREATE (R336) -/
  decl : List W32
  plies : List Ply
  segs : List Seg
  vector : Nat
  /-- messages held for the next release of a plied strand (R364) -/
  held : List Msg
  /-- is a shadow of the strand named; has a shadow; has taken over (R402 to R405) -/
  shadowOf : Option W32
  shadowed : Bool
  taken : Bool
  handback : Bool
  /-- a primary whose shadow has taken over: outputs held (R405) -/
  yielded : Bool
  /-- STC seconds of recent releases, for the event rate of R394, latest first -/
  recent : List Nat
  /-- the last multiple of PERIOD that triggered it (R344) -/
  timerAt : Nat
  /-- SENDs of the plies in this release that are not yet compared (R364) -/
  sends : List PlySend
  deriving DecidableEq, Repr

/-- One tick line (R346 to R352). -/
structure Line where
  running : Bool
  /-- the tick that closes next and its nominal instant on the STC counter -/
  tick : Nat
  nominal : Nat
  lastClose : Nat
  /-- tracking: period in 2⁻³² ns, the words each ply of the owner has written since the last tick, and the time of
  the last accepted estimate -/
  period : Nat
  trkNew : SMap TWord
  trkOkAt : Nat
  trkNom : Bool
  freq : W32
  /-- finish the open tick on the old time base, then re-phase (R351) -/
  resync : Bool
  deriving DecidableEq, Repr

/-- A stopped line. -/
def Line.reset : Line := ⟨false, 0, 0, 0, 0, [], 0, false, 0, false⟩

/-- The Whorl. -/
structure Whrl where
  strands : SMap (Option Strand)
  lines : SMap Line
  /-- tracking words as last written (R350) -/
  track : SMap TWord
  /-- overflow store: strand index and slot of the region in the reserved channel, oldest first (R366, R552) -/
  overflow : List (Nat × Nat)
  /-- next SEQ per destination and last SEQ per source (R460), keyed by engine number -/
  seqTx : SMap Nat
  seqRx : SMap Nat
  /-- the strand a busy command awaits at a drain point (R369) -/
  scmdBusy : Option Nat
  resync : Bool
  /-- WHRL_CTL and the RW registers of the lines in effect since the last move from CONFIGURE to ARMED, by offset (R373) -/
  eff : SMap W32
  /-- the strand tables as the last arming has read them: what CREATE takes a strand's segments from (R386) -/
  decls : List StrandDecl
  deriving DecidableEq, Repr

/-- The Whorl with no strand. -/
def Whrl.reset : Whrl := ⟨[], [], [], [], [], [], none, false, [], []⟩

/-! ### Pricking unit (12_pricking_plying.md) -/

/-- A migration between decision and commit or abort (R391), or the rebuild of an odd ply (R390). -/
structure Mig where
  idx : Nat
  ply : Nat
  src : Nat
  dst : Nat
  dstSlot : Nat
  reason : Nat
  copying : Bool
  /-- counter value at which the copy began -/
  since : Nat
  words : Nat
  /-- the ply copied from, where it is not the ply itself -/
  rebuildFrom : Option Nat
  /-- decision: STC seconds and ns, tick line and tick -/
  atSec : Nat
  atNs : Nat
  tick : Nat
  /-- blocks of the ownership map reserved at the target -/
  res : List Nat
  deriving DecidableEq, Repr

/-- A move asked for and not yet decided: strand, ply, REASON (R383, R406), attempts (R393). -/
structure Want where
  idx : Nat
  ply : Nat
  reason : Nat
  tries : Nat
  deriving DecidableEq, Repr

/-- What this engine knows of another engine's heartbeats on a line (R404). -/
structure Hb where
  /-- number of the latest tick heard of -/
  tick : Option Nat
  /-- ticks in a row whose heartbeat was missed -/
  missed : Nat
  deriving DecidableEq, Repr

/-- The states of an entry of the shadow directory (R402). -/
inductive DirState where
  | assigned | running | taken
  deriving DecidableEq, Repr

/-- An entry of the shadow directory (R402): the primary's ID, the shadow's ID, the state. -/
structure DirEnt where
  primary : W32
  shadow : W32
  st : DirState
  deriving DecidableEq, Repr

/-- A record of the decision log (R406). -/
structure LogRec where
  kind : Nat
  reason : Nat
  ply : Nat := 0
  id : W32 := 0
  src : Nat := 0
  dst : Nat := 0
  words : Nat := 0
  sec : Nat
  ns : Nat
  dur : Nat := 0
  line : Nat := 0
  tick : Nat := 0
  deriving DecidableEq, Repr

/-- A rota step in progress or waiting (R396). -/
inductive RotaUnit where
  | bobbin (n : Nat) | bank (pil bank : Nat) | lane (k : Nat)
  deriving DecidableEq, Repr

/-- The Pricking unit. -/
structure Prck where
  migs : List Mig
  wants : List Want
  /-- ownership map: key pillow × 10240 + block, value KIND + 4 × SLOT (R420) -/
  own : SMap Nat
  floor : SMap Nat
  util : SMap Nat
  temp : SMap Int
  head : SMap Nat
  /-- when an input first stood beyond its threshold, key pillow × 4 + input, 0 none -/
  beyond : SMap Nat
  /-- inputs being served, the same key -/
  acting : List Nat
  moveSec : Nat
  moveCount : Nat
  rotaB : Nat
  rotaK : Nat
  rotaL : Nat
  /-- when each sequence took its last step (R396) -/
  rotaBAt : Nat
  rotaKAt : Nat
  rotaLAt : Nat
  proving : List RotaUnit
  skipped : List RotaUnit
  /-- units that the round before skipped, which this round takes first (R399) -/
  retry : List RotaUnit
  proved : List RotaUnit
  lastProof : SMap Nat
  /-- when the rota last began to run -/
  rotaSince : Nat
  capSusp : List Nat
  parkMs : Nat
  parkBytes : Nat
  logSeq : Nat
  logLost : Nat
  heard : SMap Hb
  /-- the shadow directory as this engine holds it, and its generation (R402, R460) -/
  dir : List DirEnt
  dirGen : Nat
  behind : Bool
  plyShort : Bool
  /-- when images were staged in the last second, for PARK_RATE (R408) -/
  staged : List Nat
  /-- the unit has set its floors and judged its pillows since it was reset (R407) -/
  judged : Bool
  deriving DecidableEq, Repr

/-- The Pricking unit with nothing placed. -/
def Prck.reset : Prck :=
  ⟨[], [], [], [], [], [], [], [], [], 0, 0, 0, 0, 0, 0, 0, 0, [], [], [], [], [], 0, [], 0, 0, 0, 0, [], [], 0, false, false, [], false⟩

/-! ### Host interface (17_host_dram.md R536 to R544, R560) -/

/-- One ring of HIF (R536, R561). -/
structure Ring where
  baseLo : W32
  baseHi : W32
  cfg : W32
  head : Nat
  tail : Nat
  phase : Bool
  /-- non-urgent completions not yet signalled, and when the moderation timer expires (R541) -/
  count : Nat
  timer : Option Nat
  deriving DecidableEq, Repr

/-- A ring at reset: HIF_RING_CFG 0x0010_0004 (R560). -/
def Ring.reset : Ring := ⟨0, 0, 0x00100004, 0, 0, false, 0, none⟩

/-- A completion entry waiting in HIF: ring, words 0 to 7 without PHASE, urgent (R538, R540). -/
structure Post where
  ring : Nat
  words : List W32
  urgent : Bool
  /-- a firmware post answers in HIF_POST_STATUS; a hardware post is counted when lost -/
  firmware : Bool
  deriving DecidableEq, Repr

/-- Traffic of HIF's and DRA's users that waits for the host's clock (R20): a received frame for its ring entry, transmit entries
to fetch, a sent entry's DONE with its timestamp; a record of the decision log; a patch-image read; bytes for the reserved
channel; a CREATE that has its declaration to read; the arming, which reads the tables; an image of kind 2 or 3 that SEC copies into
the code region. -/
inductive DmaWait where
  | rx (lane len : Nat) (stamp : Option (Nat × Nat)) (bytes : List Byte) (busErr : Bool)
  | tx (group first n : Nat) (busErr : Bool)
  | sent (lane entry : Nat) (stamp : Option (Nat × Nat))
  | log (r : LogRec)
  | ucs
  | dram (addr : Nat) (bytes : List Byte)
  | create (idx : Nat) (segs : List SegReq) (shadow : Option W32)
  | arm (decls : List StrandDecl) (at' : Nat)
  | image (kind : Nat) (modeOk : Bool)
  deriving DecidableEq, Repr

/-- The host interface. -/
structure Hif where
  cmd : SMap Ring
  cpl : SMap Ring
  /-- held hardware posts, oldest first, at most 64 (R540) -/
  held : List Post
  /-- a firmware post that waits for the host interconnect's clock (R20) -/
  stalled : Option Post
  /-- MSI writes held while the host sleeps: address and data (R543) -/
  msiHeld : List (Nat × W32)
  /-- MSI writes sent, latest first: the block's output to the host -/
  msiSent : List (Nat × W32)
  hostSleep : Bool
  hostWake : Bool
  hostClock : Bool
  /-- what else waits for that clock, oldest first (R20, R544) -/
  dma : List DmaWait
  deriving DecidableEq, Repr

/-- HIF at reset. -/
def Hif.reset : Hif := ⟨[], [], [], none, [], [], false, false, true, []⟩

/-! ### Pillow memory (13_pillow_memory.md) -/

/-- Power state of a bank (R426, R436), by code. -/
inductive BankPwr where
  | off | on | retain | waking
  deriving DecidableEq, Repr

/-- The code of a bank's state (R436). -/
def BankPwr.code : BankPwr → Nat
  | .off => 0 | .on => 1 | .retain => 2 | .waking => 3

/-- STATE of an SE1 lease (R429). -/
inductive LeaseSt where
  | free | pending | leased | releasing
  deriving DecidableEq, Repr

/-- The code of a lease state (R429). -/
def LeaseSt.code : LeaseSt → Nat
  | .free => 0 | .pending => 1 | .leased => 2 | .releasing => 3

/-- The words of the engine's memories. -/
structure Mem where
  /-- banks, by absolute engine word address (R95) -/
  bank : SMap TWord
  /-- bank words with an uncorrectable error -/
  bankBad : List Nat
  /-- code memory, key pillow × 2¹⁶ + address (R418) -/
  code : SMap W32
  codeBad : List Nat
  /-- pages that are LOADING (R191), the same in every pillow -/
  loading : List Nat
  /-- spindle gate table and secure scratchpad (R416) -/
  gate : SMap TWord
  scratch : SMap TWord
  scratchBad : Bool
  /-- bank power, key pillow × 8 + bank -/
  bankPwr : SMap BankPwr
  codeRetain : List Nat
  /-- scrub position: next bank offset, banks 0 to 7 in step, by pillow -/
  scrub : SMap Nat
  /-- pillows whose scrub pass has run longer than its period (R9, R424) -/
  scrubLate : List Nat
  lease : SMap LeaseSt
  /-- host memory by byte address; reserved DRAM is the DRA unit's -/
  host : SMap Byte
  /-- host lines of 64 bytes that are poisoned (R235) -/
  hostPoison : List Nat
  deriving DecidableEq, Repr

/-- Nothing written. -/
def Mem.reset : Mem := ⟨[], [], [], [], [], [], [], false, [], [], [], [], [], [], []⟩

/-! ### Field ports (14_field_ports.md) -/

/-- The body of an inter-engine frame (R460). -/
inductive InterBody where
  | message (sender dest : W32) (words : List TWord)
  | tickHb (mode line tick : Nat) (entries : List (W32 × Nat))
  | mgrHb (role mode gen : Nat)
  deriving DecidableEq, Repr

/-- The content of a frame the engine sends. -/
inductive TxBody where
  /-- slot, stNum, sqNum, timeAllowedtoLive in 0.1 ms, t as seconds and ns with its TimeQuality, test, allData -/
  | goose (slot stNum sqNum tal tSec tNs tq : Nat) (test : Bool) (data : List W32)
  /-- slot, SmpCnt, smpRate, SmpSynch, values and their qualities -/
  | sv (slot smpCnt rate synch : Nat) (data : List W32) (quals : List Nat)
  /-- the header of R460 with VER 1: TYPE, SRC, DST, SEQ, LEN; and the body -/
  | inter (type src dst seq len : Nat) (body : InterBody)
  /-- a frame of the firmware ring: its bytes without FCS, its transmit entry and the serial number of its use, its ONE_STEP request and
  the nanoseconds of its second word (R461) -/
  | firmware (bytes : List Byte) (entry serial : Nat) (oneStep : Bool) (rxNs : Nat)
  /-- a frame forwarded on an HSR pair, with its HSR tag (R455) -/
  | forwarded (bytes : List Byte)
  | supervision
  deriving DecidableEq, Repr

/-- The addresses, the 802.1Q tag and the EtherType of a frame that the engine originates (R445, R468). -/
structure TxHead where
  da : Nat
  sa : Nat
  vid : Nat
  prio : Nat
  etype : Nat
  deriving DecidableEq, Repr

/-- The authentication that the engine generates (R448, R460): key identifier, algorithm and tag length of its key; the MAC is that
key's over the frame. -/
structure TxAuth where
  kid : W32
  alg : Nat
  tagLen : Nat
  deriving DecidableEq, Repr

/-- What makes a copy one of a pair (R453): PRP's trailer with LAN A or B, HSR's tag with the lane of the pair, and the sequence
number. -/
inductive RedTag where
  | none
  | prp (lanB : Bool) (seq : Nat)
  | hsr (laneB : Bool) (seq : Nat)
  deriving DecidableEq, Repr

/-- A frame queued on a lane (R457). A frame of the firmware ring or a forwarded one has its header in its bytes. -/
structure TxFrame where
  cls : Nat
  len : Nat
  body : TxBody
  head : Option TxHead
  auth : Option TxAuth
  tag : RedTag
  at' : Nat
  heldOnce : Bool
  deriving DecidableEq, Repr

/-- An entry of a pair's duplicate-discard table (R454): source, highest sequence number, the 64-frame window. -/
structure DupEnt where
  src : Nat
  high : Nat
  seen : List Nat
  at' : Nat
  deriving DecidableEq, Repr

/-- One lane. -/
structure Lane where
  link : Bool
  signal : Bool
  anDone : Bool
  eqLocked : Bool
  inProof : Bool
  rdi : Bool
  nRx : Nat
  c37Good : Nat
  ctle : Nat
  /-- the five taps of the decision-feedback equaliser, and the signal-detect threshold in millivolts (R442) -/
  dfe : List Nat
  thresh : Nat
  eyeV : Nat
  eyeH : Nat
  /-- milliseconds the equaliser has stood at the end of its range -/
  eqEnd : Nat
  /-- when the symbol errors of the last millisecond came (R470), when the last one did, and when the eye was last not above EYE_MIN
  (R462) -/
  symTimes : List Nat
  symAt : Option Nat
  eyeLowAt : Option Nat
  /-- what a C37.94 lane sends, its N and RDI; the far-end fault that a 100BASE-FX lane indicates, and the one it receives (R440) -/
  nTx : Nat
  rdiTx : Bool
  fefTx : Bool
  fefRx : Bool
  /-- the lane buffer: what each held frame occupies, the oldest first (R451) -/
  buf : List Nat
  tx : List TxFrame
  /-- the last frame begun and when its last bit leaves -/
  lastTx : Option TxFrame
  busyUntil : Nat
  guardOpen : Bool
  /-- ticks that hold the guard open: line + 8 × tick (R458) -/
  guardTl : List Nat
  deriving DecidableEq, Repr

/-- A lane in mode OFF. -/
def Lane.reset : Lane :=
  ⟨false, false, false, false, false, false, 0, 0, 0, [], 0, 0, 0, 0, [], none, none, 0, false, false, false, [], [], none, 0,
    false, []⟩

/-- The lanes and pairs. -/
structure Fport where
  lanes : SMap Lane
  dup : SMap (List DupEnt)
  pairSeq : SMap Nat
  /-- the registers of lanes and port groups as they are in effect (R441, R465) -/
  eff : SMap W32
  /-- when each pair last sent supervision frames (R453) -/
  supAt : SMap (Option Nat)
  /-- transmit entries not yet DONE, group × 32 + entry, with the serial number of their use; and the last such number (R461) -/
  fwqOpen : List (Nat × Nat)
  fwqSerial : Nat
  deriving DecidableEq, Repr

/-- No lane up. -/
def Fport.reset : Fport := ⟨[], [], [], [], [], [], 0⟩

/-! ### Subscriptions, publications, trip outputs, binary inputs (15_publish_trip_io.md) -/

/-- A loaded SV subscription: the 32 entry words, RING, the ticks received and not closed, simulated frames seen
(R473, R475, R481), and the counters of R483. -/
structure SvSub where
  entry : List W32
  cons : List W32
  ident : List Byte
  ring : Nat
  got : List Nat
  sim : Bool
  /-- TST of the last word accepted for each value ring (R56) -/
  tst : List Bool
  stat : List W32
  deriving DecidableEq, Repr

/-- A loaded GOOSE subscription (R476 to R483). -/
structure GoSub where
  entry : List W32
  cons : List W32
  ident : List Byte
  area : Nat
  /-- stNum last accepted, and whether the next frame is written whatever its stNum (R478) -/
  last : Option Nat
  force : Bool
  /-- the area's header: half and count of writes (R479) -/
  hdr : Nat
  /-- when the time allowed to live ends, on `State.now` -/
  tal : Option Nat
  sim : Bool
  vals : List TWord
  stat : List W32
  deriving DecidableEq, Repr

/-- A loaded publication and the builder's state of it (R484 to R490). -/
structure Pub where
  entry : List W32
  fmt : List W32
  /-- working images: key ply × 64 + member -/
  work : SMap TWord
  /-- the open comparison: when it opened, its tick, the committed images by ply -/
  open' : Option (Nat × Nat × List (Nat × List TWord))
  /-- a pair of a three-ply owner has been sent already -/
  sentPair : Bool
  /-- the comparison of this release has closed: a ply that commits after it has been missing (R487) -/
  ended : Bool
  /-- allData of the last frame sent, as encoded -/
  last : List W32
  stNum : Nat
  sqNum : Nat
  tSec : Nat
  tNs : Nat
  tq : Nat
  /-- the interval running, in 0.1 ms, and when it ends -/
  interval : Nat
  due : Option Nat
  stat : List W32
  deriving DecidableEq, Repr

/-- A command group of an output (R491, R492). -/
structure Group where
  k : Nat
  cmds : List (Nat × TWord)
  since : Nat
  acted : Bool
  /-- its window has ended: a ply that commands after it has been missing (R492) -/
  closed : Bool
  deriving DecidableEq, Repr

/-- One trip output. -/
structure Out where
  owner : Option Nat
  operated : Bool
  onSince : Nat
  held : Bool
  fs : Bool
  groups : List Group
  /-- the command of the last group that resolved as a match (R494) -/
  lastMatch : Option TWord
  /-- a reset deferred by MIN_ON: when MIN_ON ends, and the command (R493) -/
  deferred : Option (Nat × TWord)
  rb : Bool
  rbFault : Bool
  deriving DecidableEq, Repr

/-- An output at reset: not operated. -/
def Out.reset : Out := ⟨none, false, 0, false, false, [], none, none, false, false⟩

/-- One binary input (R497 to R500). -/
structure Bin where
  raw : Bool
  stable : Bool
  /-- the level last reported (R499) -/
  reported : Bool
  /-- first edge away from the stable level: STC seconds, ns and its TVAL (R305, R498) -/
  first : Option (Nat × Nat × Nat)
  firstNow : Nat
  lastEdge : Nat
  /-- times of recent stable changes, latest first -/
  recent : List Nat
  supp : Bool
  /-- TIM pair of the last change -/
  chgSec : Nat
  chgNs : Nat
  chgQ : Qual
  deriving DecidableEq, Repr

/-- An input at reset. -/
def Bin.reset : Bin := ⟨false, false, false, none, 0, 0, [], false, 0, 0, Qual.good⟩

/-- Ingress, the publication builder, TRIP and BIO. -/
structure Pio where
  sv : SMap (Option SvSub)
  goose : SMap (Option GoSub)
  pubs : SMap (Option Pub)
  outs : SMap Out
  bins : SMap Bin
  /-- trip register values in effect (R508) -/
  tripCtl : W32
  tripCfg : SMap W32
  deriving DecidableEq, Repr

/-- No table loaded. -/
def Pio.reset : Pio := ⟨[], [], [], [], [], 0x00141400, []⟩

/-! ### Spindle memory system (07_spindle_core.md) -/

/-- States of an L2 line (R229); the absent line is I. -/
inductive LineSt where
  | i | s | e | m | fp | ep
  deriving DecidableEq, Repr

/-- A line of L2: its state and its 64 bytes. -/
structure L2Line where
  st : LineSt
  data : List Byte
  deriving DecidableEq, Repr

/-- The line not held. -/
def L2Line.none : L2Line := ⟨.i, []⟩

/-- A retired host store in the store buffer (R220): the byte address and size of the store that it began with, and the bytes
that it holds after merging, each at its address. -/
structure SbEnt where
  addr : Nat
  bytes : List (Nat × Byte)
  size : Nat
  device : Bool
  /-- the upper part of a split store (R223) -/
  upper : Bool
  deriving DecidableEq, Repr

/-- A coherent request that waits for data (R230, R231). -/
structure CohReq where
  line : Nat
  own : Bool
  since : Nat
  retried : Bool
  /-- unanswered for 100 µs (R234) -/
  late : Bool
  deriving DecidableEq, Repr

/-- What the spindle word that waits for a line will do when the line is here. -/
inductive PendKind where
  | load (size : HSize) (sx : Bool)
  | loadT
  | rsvLoad (size : HSize)
  | zero
  deriving DecidableEq, Repr

/-- A word waiting for a fill: its line and its access. -/
structure PendAcc where
  line : Nat
  kind : PendKind
  deriving DecidableEq, Repr

/-- A line of the L1 data cache: written since it was filled, and its 64 bytes. -/
structure L1Line where
  dirty : Bool
  data : List Byte
  deriving DecidableEq, Repr

/-- An entry of the spindle that has switched spill regions (R282): where its frame stands, by RS_BASE and return-stack depth, and the
stacks it has left, each with whether it was switched. -/
structure RegionSw where
  rsBase : W32
  depth : Nat
  ds : Option Stk
  rs : Option Stk
  deriving DecidableEq, Repr

/-- The spindle complex outside the core itself. -/
structure Spn where
  l2 : SMap L2Line
  l1d : SMap (Option L1Line)
  /-- lines of the L1 instruction cache: 128 sets of four (R212) -/
  l1i : List Nat
  sb : List SbEnt
  reqs : List CohReq
  pend : Option PendAcc
  /-- writeback buffer: lines in EP (R229, R230) -/
  wb : List (Nat × List Byte)
  snoops : List (Nat × Snoop)
  /-- answers given to the directory, latest first: line and whether data went with it -/
  answered : List (Nat × Bool)
  /-- the last line that missed in L2, for the next-line prefetcher (R213) -/
  lastMiss : Option Nat
  /-- lines whose miss has been counted and which wait for a request credit (R230, R241) -/
  missed : List Nat
  rsv : Option Nat
  rsvHold : Bool
  connected : Bool
  dead : Bool
  /-- spindle cycles, and the high half that the last read of CYCLE_LO latched (R239) -/
  cyc : Nat
  cycHi : W32
  /-- the return predictor: 16 addresses at most, the latest first (R206) -/
  rets : List Nat
  spillHi : W32
  dsBase : W32
  dsLimit : W32
  rsBase : W32
  rsLimit : W32
  /-- stacks of regions not selected now, by region base (R238) -/
  regions : SMap Stk
  /-- the switches of spill regions by entries whose frames are open, the latest first (R282) -/
  switches : List RegionSw
  /-- window base and MARs in effect since the last serialising operation (R242) -/
  winBase : Nat
  mar : SMap W32
  deriving DecidableEq, Repr

/-- The spindle complex without power. -/
def Spn.reset : Spn :=
  ⟨[], [], [], [], [], none, [], [], [], none, [], none, false, false, false, 0, 0, [], 0, 0, 0, 0, 0, [], [], 0x7E0000000000, []⟩

/-! ### Microcode sequencers (08_microcode.md) -/

/-- A loaded patch: VERSION, SVN, digest word, microwords and match entries (R258). -/
structure Patch where
  version : W32
  svn : Nat
  digest : W32
  words : List W32
  matches' : List W32
  deriving DecidableEq, Repr

/-- A context of a sequencer (R245): its micro-PC, U0 to U31 (those beyond the list VOID), its return stack of at most four
addresses, the latest first, and its microcycle counter. -/
structure MicroCtx where
  pc : Nat
  u : List TWord
  ret : List Nat
  cycles : Nat
  /-- the grant of bank 5 is held: a MEM word with its lock bit has been run (R248) -/
  grant : Bool
  deriving DecidableEq, Repr

/-- A context that has run no routine. The spec gives no reset value: DESIGN CHOICE, log entry 129. -/
def MicroCtx.reset : MicroCtx := ⟨0, [], [], 0, false⟩

/-- The sequencers. -/
structure Ucs where
  /-- master copies of the patch of each target (R263) -/
  pil : Option Patch
  spn : Option Patch
  /-- the checked image being installed, its target, and sequencers still to write (pillow 0 to 15, 16 spindle) -/
  loading : Option (Patch × List Nat)
  /-- patch RAM and match entries of each sequencer (R244, R256) -/
  ram : SMap (Option Patch)
  /-- contexts: sequencer × 17 + bobbin, 16 the pillow's DMA; the spindle's is 272 (R245) -/
  ctxs : SMap MicroCtx
  /-- control-store words that cannot be read: sequencer × 2^14 + address (R253) -/
  bad : List Nat
  deriving DecidableEq, Repr

/-- ROM only (R263). -/
def Ucs.reset : Ucs := ⟨none, none, none, [], [], []⟩

/-! ### Security (20_security.md) -/

/-- The six life-cycle states of R634, in the order of their codes. -/
inductive LcyState where
  | blank | manufacture | develop | deployed | returned | scrapped
  deriving DecidableEq, Repr

/-- The code of a life-cycle state (R634). -/
def LcyState.code : LcyState → Nat
  | .blank => 0 | .manufacture => 1 | .develop => 2 | .deployed => 3 | .returned => 4 | .scrapped => 5

/-- The life-cycle state of a code (R634). -/
def LcyState.ofCode? : Nat → Option LcyState
  | 0 => some .blank | 1 => some .manufacture | 2 => some .develop | 3 => some .deployed | 4 => some .returned
  | 5 => some .scrapped | _ => none

/-- The fuse array (R634 to R642). -/
structure Fuses where
  /-- the state in force since the last entry to BOOT, and the fused one (R636) -/
  state : LcyState
  fused : LcyState
  devTrips : Nat
  hrkRevoked : Nat
  torn : Bool
  /-- kill bits of the device identity key and the KTK -/
  killed : Bool
  ownerRoot : Option (List Byte)
  ktk : Option (List Byte)
  svnFw : Nat
  svnUcs : Nat
  svnTbl : Nat
  svnCode : Nat
  deriving DecidableEq, Repr

/-- The fuses of the part modelled. DESIGN CHOICE: DEVELOP, nothing provisioned, counters 0; log entry 5. -/
def Fuses.reset : Fuses := ⟨.develop, .develop, 0, 0, false, false, none, none, 0, 0, 0, 0⟩

/-- An image in use: VERSION, SVN, whether it passed R638 since the last BOOT. -/
structure Img where
  version : W32
  svn : Nat
  checked : Bool
  deriving DecidableEq, Repr

/-- A code image in code memory (R651): the image, and the instruction words it wrote that no later image has overwritten. -/
structure CodeImg where
  img : Img
  words : List Nat
  deriving DecidableEq, Repr

/-- A debug grant (R648): LEVEL, SERVICE, its end in STC seconds. -/
structure Grant where
  level : Nat
  service : Bool
  untilSec : Nat
  deriving DecidableEq, Repr

/-- A key entry (R644, R645); the value lies in the scratchpad's key area. -/
structure KeyEnt where
  alg : Nat
  tagLen : Nat
  kid : W32
  nb : Nat
  na : Nat
  key : List Byte
  deriving DecidableEq, Repr

/-- SEC and KEY. -/
structure Sec where
  bootSlot : Nat
  hostLock : Bool
  tamper : List Nat
  fw : Option Img
  tbl : Option Img
  /-- the code image loaded last (R641) -/
  code : Option Img
  /-- every code image in code memory, the latest first (R651) -/
  codeImgs : List CodeImg
  /-- byte address of the firmware's entry (R643) -/
  fwPc : Nat
  challenge : Option (List Byte)
  chalAt : Nat
  grant : Option Grant
  fails : Nat
  lockDur : Nat
  lockUntil : Option Nat
  keys : SMap (Option KeyEnt)
  deriving DecidableEq, Repr

/-- SEC at always-on power-up: no key, no grant, no image. -/
def Sec.reset : Sec :=
  ⟨0, false, [], none, none, none, [], 0, none, 0, none, 0, 0, none, []⟩

/-! ### Debug (21_debug_snag.md) -/

/-- A trace record (R676): its four words. -/
abbrev TraceRec := List W32

/-- The debug unit. Targets: 0 spindle, 1 + n bobbin n. -/
structure Dbg where
  /-- breakpoint registers: key target × 8 + 2 × i, + 1 for CTL -/
  bp : SMap W32
  wdog : SMap W32
  /-- trace ring -/
  trace : SMap TraceRec
  head : Nat
  mem : Option Bool
  pmc : SMap W32
  /-- a bobbin being drained before its halt (R665) -/
  drains : List Nat
  /-- firings of each snag page since it was last enabled (R679) -/
  snagFired : SMap Nat
  /-- matches of breakpoints that only trace (R668) -/
  bpCount : Nat
  /-- snags act, and SNAG_STOP has not been set since they began to (R678) -/
  snagWas : Bool
  deriving DecidableEq, Repr

/-- The debug unit at reset. -/
def Dbg.reset : Dbg := ⟨[], [], [], 0, none, [], [], [], 0, false⟩

/-! ### Engine identity and the code-load barrier -/

/-- Station role in effect (R22 to R29). -/
structure Glb where
  engineNum : Nat
  role : Nat
  present : Bool
  takeover : Bool
  conflict : Bool
  /-- engine last heard with role station manager, and when it was heard, or the role taken (`State.now`) -/
  lastMgr : Option Nat
  lastAt : Nat
  /-- millisecond of the STC at which the last heartbeat was sent -/
  hbSentAt : Nat
  deriving DecidableEq, Repr

/-- No role. -/
def Glb.reset : Glb := ⟨0, 0, false, false, false, none, 0, 0⟩

/-- The code-load barrier (R192): sequence number, in progress, bobbins that have acknowledged; the spindle's ENG CLB waits
for its end. -/
structure Clb where
  seq : Nat
  active : Bool
  acks : List Nat
  waits : Bool
  deriving DecidableEq, Repr

/-- No barrier. -/
def Clb.reset : Clb := ⟨0, false, [], false⟩

/-- The answer to the last access of a requester (R4): data, or a bus error. -/
inductive BusResp where
  | none
  | data (v : W32)
  | word (w : TWord)
  | busError
  deriving DecidableEq, Repr

/-! ### The whole state -/

/-- The engine's state and the queue of commands that wait. -/
structure State where
  /-- commands that wait, first in first out -/
  pending : List Instr
  /-- the MODEL's own counter behind every free value; no rule of the spec names it (log entry 1) -/
  freeCtr : Nat
  lastAccess : BusResp
  /-- registers by page × 0x1000 + offset; an unlisted register holds its reset value (RegTable) -/
  regs : SMap W32
  /-- time of the last REF_IN edge, in sixteenths of a nanosecond from always-on power-up -/
  now : Nat
  glb : Glb
  mode : ModeSt
  pwr : Pwr
  clk : Clk
  selv : Selv
  eic : Eic
  whrl : Whrl
  prck : Prck
  stc : Stc
  pio : Pio
  hif : Hif
  dra : Dra
  nvr : Nvr
  fuses : Fuses
  sec : Sec
  dbg : Dbg
  ucs : Ucs
  spn : Spn
  fport : Fport
  mem : Mem
  clb : Clb
  /-- contexts of the cores: 0 to 255 the bobbins, 256 the spindle -/
  cores : SMap Core
  /-- loop states written into frames and images as opaque cells (R283): the cell holds the index + 1 -/
  loopCells : List (List Loop)
  deriving DecidableEq, Repr

/-- The machine right after always-on power-up (R617): mode KEEP, STC UNSET, FAULT_N asserted. -/
def State.reset : State where
  pending := []
  freeCtr := 0
  lastAccess := .none
  regs := []
  now := 0
  glb := Glb.reset
  mode := ModeSt.reset
  pwr := Pwr.reset
  clk := Clk.reset
  selv := Selv.reset
  eic := Eic.reset
  whrl := Whrl.reset
  prck := Prck.reset
  stc := Stc.reset
  pio := Pio.reset
  hif := Hif.reset
  dra := Dra.reset
  nvr := Nvr.reset
  fuses := Fuses.reset
  sec := Sec.reset
  dbg := Dbg.reset
  ucs := Ucs.reset
  spn := Spn.reset
  fport := Fport.reset
  mem := Mem.reset
  clb := Clb.reset
  cores := []
  loopCells := []

/-! ### Faults and refusals -/

/-- Stops of the block. The spec gives every command of this block an effect, so no meaning raises one. -/
inductive Fault where
  /-- kept so that the type is inhabited; raised by nothing (safe) -/
  | unreachable
  deriving DecidableEq, Repr

/-- Refusals. -/
inductive Refusal where
  /-- a command whose meaning is not written yet, by its mnemonic; raised by the dispatcher's own arms only (safe) -/
  | notModelled (mnemonic : String)
  deriving DecidableEq, Repr

end Sys2Proof.Machine
end

