-- ==== Sys2Proof/Machine/Ops.lean ====
section
/-!
DEFINITION. The named operations over the state that every family of commands uses: stored registers, error and
interrupt bits, warning events, SOE records, the time, free values, memories and power (00_scope.md R4 to R9,
10_station_time.md R301 to R307, 17_host_dram.md R545 to R547, 18_selvedge.md R572, R573, 19_modes_power.md R610).
-/

namespace Sys2Proof.Machine

/-! ### Stored registers -/

/-- A word whose bit i is f i. -/
def boolWord (n : Nat) (f : Nat → Bool) : W32 := w32 ((List.range n).foldl (fun a i => a + at' (f i) i) 0)

/-- The key of a register in the store. -/
def rkey (page off : Nat) : Nat := page * 0x1000 + off

/-- The stored value of a register: the last value written to it, or its reset value (R5). -/
def rd (s : State) (page off : Nat) : W32 := SMap.get s.regs (regReset (rkey page off)) (rkey page off)

/-- The state with a register's stored value set. -/
def wr (s : State) (page off : Nat) (v : W32) : State :=
  { s with regs := SMap.set s.regs (regReset (rkey page off)) (rkey page off) v }

/-- A field of a stored register. -/
def rdF (s : State) (page off lo w : Nat) : Nat := bits (rd s page off) lo w

/-- A bit of a stored register. -/
def rdB (s : State) (page off n : Nat) : Bool := bit (rd s page off) n

/-- The value of a word with field [lo+w-1:lo] replaced. -/
def setField (x : W32) (lo w v : Nat) : W32 :=
  w32 (x.toNat - bits x lo w * 2 ^ lo + v % 2 ^ w * 2 ^ lo)

/-- The state with a field of a stored register replaced. -/
def wrF (s : State) (page off lo w v : Nat) : State := wr s page off (setField (rd s page off) lo w v)

/-- A counter that wraps at 32 bits, raised by n. -/
def bump (s : State) (page off n : Nat) : State := wr s page off (w32 ((rd s page off).toNat + n))

/-- A counting field that saturates, raised by n. -/
def bumpSat (s : State) (page off lo w n : Nat) : State :=
  wrF s page off lo w (min (2 ^ w - 1) (rdF s page off lo w + n))

/-- Interrupt bit n of a page is set (R6, R8). -/
def raiseIrq (s : State) (page n : Nat) : State := wr s page 0x024 (setBit (rd s page 0x024) n)

/-- A 32-bit counter raised by one, with the page's wrap interrupt when it returns to 0. -/
def bumpWrap (s : State) (page off irq : Nat) : State :=
  let s1 := bump s page off 1
  if rd s1 page off = 0 then raiseIrq s1 page irq else s1

/-! ### Free values -/

/-- A free word and the state that has used it. -/
def freeWord (s : State) : BitVec 48 × State := (Config.freeWord s.freeCtr, { s with freeCtr := s.freeCtr + 1 })

/-- A free 32-bit word. -/
def free32 (s : State) : W32 × State := ((freeWord s).1.setWidth 32, (freeWord s).2)

/-- A free choice. -/
def freeBool (s : State) : Bool × State := (Config.freeBool s.freeCtr, { s with freeCtr := s.freeCtr + 1 })

/-! ### Time -/

/-- 2³² units of the counter are one nanosecond (R303). -/
abbrev nsU : Nat := 2 ^ 32
/-- One second of the counter. -/
abbrev secU : Nat := 1000000000 * 2 ^ 32

/-- The period of REF_IN in sixteenths of a nanosecond: 10, 20 or 25 MHz (R17). -/
def refPeriod (s : State) : Nat := if s.clk.refSel = 0 then 1600 else if s.clk.refSel = 1 then 800 else 640

/-- The period of the always-on clock in 2⁻³² ns without trim (R303, R304): REF_IN's, or the last measurement of the
internal oscillator. -/
def clkPeriod (s : State) : Nat :=
  if s.clk.onIntOsc then s.clk.intOsc else refPeriod s * 2 ^ 28

/-- The counter at `sub` sixteenths of a nanosecond after the last edge, interpolated (R305). -/
def cntAt (s : State) (sub : Nat) : Nat :=
  s.stc.cnt + sub * 2 ^ 28 * s.stc.incr / max 1 (clkPeriod s)

/-- SEC of a counter value: 48 bits (R301). -/
def secOf (c : Nat) : Nat := c / secU % 2 ^ 48
/-- NS of a counter value. -/
def nsOf (c : Nat) : Nat := c % secU / nsU
/-- FRAC of a counter value. -/
def fracOf (c : Nat) : Nat := c % nsU / 2 ^ 16

/-- The quality of a time taken from the STC (R307). -/
def stcQual (s : State) : Qual :=
  match s.stc.st with
  | .unset => { Qual.good with val := .invalid }
  | .locked => if s.stc.traceable then Qual.good else { Qual.good with val := .questionable }
  | _ => { Qual.good with val := .questionable }

/-- Microseconds in the unit of `State.now`. -/
abbrev usN : Nat := 16000
/-- Milliseconds in the unit of `State.now`. -/
abbrev msN : Nat := 16000000

/-! ### SOE records (17_host_dram.md R545 to R547) -/

/-- A record submitted to the store's queue; a full queue loses it and counts it (R548). -/
def submit (s : State) (r : Soe) : State :=
  if s.nvr.queue.length < 1024 then { s with nvr := { s.nvr with queue := s.nvr.queue ++ [r] } }
  else raiseIrq { s with nvr := { s.nvr with lost := s.nvr.lost + 1 } } pgNVR 1

/-- A record of an event stamped at a counter value (R546). -/
def soeAt (s : State) (c kind source number tag : Nat) (value word5 : W32) : State :=
  submit s ⟨kind, source, number, secOf c, nsOf c, (stcQual s).val.code, tag, value, word5⟩

/-- The counter as reading k takes it where no command says when since the last edge: interpolated at a free instant of the period
(R305, log entry 170). -/
def nowAt (s : State) (k : Nat) : Nat := cntAt s (Config.instant s.now k % max 1 (clkPeriod s / 2 ^ 28))

/-- The number of the record submitted next. -/
def soeNum (s : State) : Nat := s.nvr.seq.toNat + s.nvr.queue.length + s.nvr.lost.toNat

/-- A record of an event stamped as it happens. -/
def soe (s : State) (kind source number tag : Nat) (value word5 : W32) : State :=
  soeAt s (nowAt s (soeNum s)) kind source number tag value word5

/-! ### Errors and warning events (18_selvedge.md R572, R573) -/

/-- The route of an error bit (R572). -/
def routeOf (s : State) (page n : Nat) : Nat := rdF s page 0x01C (2 * n) 2

/-- The error is carried to the Selvedge: its enable is 1 and its route is not NONE (R572). -/
def carried (s : State) (page n : Nat) : Bool := rdB s page 0x018 n && decide (routeOf s page n ≠ 0)

/-- An occurrence on a unit's error line, where it is carried. -/
def occur (s : State) (o : Occ) : State :=
  if carried s o.page o.bit then { s with selv := { s.selv with occ := s.selv.occ ++ [o] } } else s

/-- The condition of error n arises: ERR_STATUS keeps it (R9) and it occurs (R572). `sub` and `named` say which part of
the unit, and which units, the error names for test. -/
def raiseErr (s : State) (page n : Nat) (sub : Nat := 0) (named : List UnitId := []) (inj : Bool := false)
    (warn : Bool := false) : State :=
  occur (wr s page 0x010 (setBit (rd s page 0x010) n)) ⟨page, n, sub, named, inj, warn⟩

/-- A persistent condition arises: its ERR_LIVE bit rises and it occurs once (R9, R572). -/
def condErr (s : State) (page n : Nat) (sub : Nat := 0) (named : List UnitId := []) : State :=
  if rdB s page 0x014 n then s
  else raiseErr (wr s page 0x014 (setBit (rd s page 0x014) n)) page n sub named

/-- A persistent condition goes: ERR_LIVE reads 0, ERR_STATUS keeps its bit (R9). -/
def condEnd (s : State) (page n : Nat) : State := wr s page 0x014 (clrBit (rd s page 0x014) n)

/-- A warning-class event of the Selvedge for a page's refused write or command: a WARN record with BIT 0xFF (R573); the
Selvedge has no power in OFF. -/
def warnEvent (s : State) (page : Nat) : State :=
  if s.mode.cur = .off then s
  else
  let (cls, inst) := match pageUnit page with
    | some (u, i) => (u.cls, i)
    | none => (RUnit.selv.cls, 0)
  let code := w32 (0xFF + cls % 256 * 2 ^ 8 + 1 * 2 ^ 19)
  let s1 := wr (bump (raiseIrq s pgSELV 6) pgSELV 0x0F4 1) pgSELV 0x0C0 code
  soe (wr s1 pgSELV 0x0C4 (w32 (inst % 256 + 2 ^ 31))) 10 4 inst (TWord.nat 0).tag code 0

/-! ### Modes, levels and power -/

/-- The mode the engine is in. -/
def curMode (s : State) : Mode := s.mode.cur

/-- Modes in which strands run (R361, R396). -/
def Mode.runs : Mode → Bool
  | .run | .degraded | .test | .blocked => true
  | _ => false

/-- CONFIGURE or SERVICE. -/
def Mode.cfgSvc : Mode → Bool
  | .configure | .service => true
  | _ => false

/-- The debug level open without a grant (20_security.md R634): 0 NONE, 1 OBSERVE, 2 FULL. -/
def LcyState.openLevel : LcyState → Nat
  | .blank => 2 | .manufacture | .develop => 1 | _ => 0

/-- The effective debug level: the higher of the open and the granted one (R648). -/
def dbgLevel (s : State) : Nat :=
  max s.fuses.state.openLevel (match s.sec.grant with | some g => g.level | none => 0)

/-- A write the lock permits in the present mode. -/
def lockOpen (s : State) : Lock → Bool
  | .any => true
  | .cfg => decide (curMode s = .configure)
  | .cfgSvc => (curMode s).cfgSvc
  | .bootCfg => decide (curMode s = .boot ∨ curMode s = .configure)
  | .bootSvc => decide (curMode s = .boot ∨ curMode s = .service)
  | .lease => decide (curMode s = .configure ∨ curMode s = .run ∨ curMode s = .degraded ∨ curMode s = .test ∨
      curMode s = .service)
  | .bobCtl => decide (curMode s = .service)
  | .dbgCtl => (curMode s).cfgSvc || decide (curMode s = .test ∨ s.fuses.state = .develop)

/-- The state of a switched domain (R609, R626). -/
def domSt (s : State) (d : Nat) : Dom := SMap.get s.pwr.doms .off d

/-- The switched domain a page's unit lies in; none for the always-on domain (R609, R610; log entry 7 for the pages the
table of domains does not name, and for those of port groups and lanes, which R441 has written in CONFIGURE, where R601
powers no port group). -/
def pageDom (page : Nat) : Option Nat :=
  match pageUnit page with
  | none => none
  | some (u, i) =>
    match u with
    | .glb | .mode | .pwr | .clk | .selv | .stc | .nvr | .hif => none
    | .prck | .se1Lease => some 414
    | .sec | .lcy | .key => some 415
    | .dra => some 416
    | .pil => some (384 + i)
    | .bob => some i
    | .eic | .whrl | .bio | .trip | .dbg | .pg | .lane | .ucs | .spn | .eicT | .se1Ctl => some 401

/-- A domain's state set: what it failed to reach in time before is over. -/
def setDom (s : State) (d : Nat) (v : Dom) : State :=
  { s with pwr := { s.pwr with doms := SMap.set s.pwr.doms .off d v, late := s.pwr.late.filter (· ≠ d) } }

/-- The registers of every page whose unit lies in a domain return to their reset values as it powers down (R617). -/
def dropPages (s : State) (d : Nat) : State :=
  { s with regs := s.regs.filter fun e => decide (pageDom (e.1 / 0x1000) ≠ some d) }

/-- A power-up of a domain is counted; the count saturates (R626). -/
def countUp (s : State) (d : Nat) : State :=
  let n := SMap.get s.pwr.ups 0 d
  let s1 := { s with pwr := { s.pwr with ups := SMap.set s.pwr.ups 0 d (min 65535 (n + 1)) } }
  if n = 65534 then raiseIrq s1 pgPWR 1 else s1

/-- The page's unit has power (R610). -/
def pagePowered (s : State) (page : Nat) : Bool :=
  match pageDom page with
  | none => decide (curMode s ≠ .off)
  | some d => decide (domSt s d = .on)

/-! ### FAULT_N and the units' own checks (18_selvedge.md R572, R587, R590) -/

/-- FN_WIDTH. -/
def fnWidth (s : State) : Nat := rdF s pgSELV 0x0D0 16 10 * 100 * usN

/-- FAULT_N asserts for its width (R587); a release held during a width is cancelled. -/
def fnAssert (s : State) : State :=
  { s with selv := { s.selv with fnOn := true, fnUntil := s.now + fnWidth s, fnRelHeld := false } }

/-- The error bits that a unit's own checks set and no other command brings about: the parity of registers, tables, queues
and state memories (R29, R374, R410, R466, R505, R509, R530, R563, R567, R624, R659, R685), the self-checks of input samplers
and timestamp units (R470, R505), the bound of a pin edge (R496), the random generator's health test (R659) and the lockstep
comparison of the Selvedge core (R590). -/
def RUnit.selfChecks : RUnit → List Nat
  | .glb | .nvr | .pg => [2]
  | .mode => [0]
  | .whrl | .prck => [4]
  | .bio => [0, 1]
  | .trip => [3, 4]
  | .hif | .eic | .dbg | .key => [1]
  | .lane => [5]
  | .sec => [3]
  | .selv => [7]
  | .pwr | .clk | .stc | .dra | .lcy | .ucs | .spn | .pil | .bob | .eicT | .se1Lease | .se1Ctl => []

/-- A self-check of a powered unit reports an error: its condition arises (R9, R572). A disagreement of the Selvedge's own two
copies asserts FAULT_N by wire (R590). -/
def selfCheck (s : State) (e : ErrObs) : State :=
  match pageUnit e.page with
  | some (u, _) =>
    if e.bit ∈ u.selfChecks ∧ pagePowered s e.page = true then
      let s1 := raiseErr s e.page e.bit e.sub
      if u = .selv then fnAssert s1 else s1
    else s
  | none => s

/-! ### Cores -/

/-- The spindle's number among the cores. -/
abbrev spindle : Nat := 256

/-- The context of a core. -/
def core (s : State) (c : Nat) : Core := SMap.get s.cores Core.reset c

/-- The state with a core's context replaced. -/
def setCore (s : State) (c : Nat) (k : Core) : State := { s with cores := SMap.set s.cores Core.reset c k }

/-- The state with a core's context changed. -/
def modCore (s : State) (c : Nat) (f : Core → Core) : State := setCore s c (f (core s c))

/-! ### Memories -/

/-- The word of a bank address (R95); a bank that has come ON holds VOID words (R426). -/
def bankGet (s : State) (a : Nat) : TWord := SMap.get s.mem.bank voidWord a

/-- A bank word written with fresh check bits: an uncorrectable error there is gone. -/
def bankSet (s : State) (a : Nat) (w : TWord) : State :=
  { s with mem := { s.mem with bank := SMap.set s.mem.bank voidWord a w, bankBad := s.mem.bankBad.filter (· ≠ a) } }

/-- Consecutive bank words written. -/
def bankSetList (s : State) (a : Nat) : List TWord → State
  | [] => s
  | w :: t => bankSetList (bankSet s a w) (a + 1) t

/-- Consecutive bank words. -/
def bankGetList (s : State) (a n : Nat) : List TWord := (List.range n).map fun i => bankGet s (a + i)

/-- Bank words of [a, a + n) filled with the VOID word (R33, R422): the unlisted word is VOID. -/
def bankFill (s : State) (a n : Nat) : State :=
  { s with mem := { s.mem with
      bank := s.mem.bank.filter (fun p => decide (p.1 < a ∨ a + n ≤ p.1))
      bankBad := s.mem.bankBad.filter (fun x => decide (x < a ∨ a + n ≤ x)) } }

/-- The absolute address of word i of bank k of pillow p (R95). -/
def bankAddr (p k i : Nat) : Nat := p * 2 ^ 18 + k * 2 ^ 15 + i

/-- A byte of host memory; memory nothing has written reads 0 (DESIGN CHOICE, log entry 3). -/
def hostGet (s : State) (a : Nat) : Byte := SMap.get s.mem.host 0 a

/-- Host bytes from an address. -/
def hostBytes (s : State) (a n : Nat) : List Byte := (List.range n).map fun i => hostGet s (a + i)

/-- A byte of host memory written. -/
def hostSet (s : State) (a : Nat) (b : Byte) : State :=
  { s with mem := { s.mem with host := SMap.set s.mem.host 0 a b } }

/-- Consecutive host bytes written. -/
def hostSetList (s : State) (a : Nat) : List Byte → State
  | [] => s
  | b :: t => hostSetList (hostSet s a b) (a + 1) t

/-- A byte of the reserved DRAM channel (log entry 3). -/
def dramGet (s : State) (a : Nat) : Byte := SMap.get s.dra.mem 0 a

/-- DRAM bytes from an address. -/
def dramBytes (s : State) (a n : Nat) : List Byte := (List.range n).map fun i => dramGet s (a + i)

/-- A byte of the channel written. -/
def dramSet (s : State) (a : Nat) (b : Byte) : State :=
  { s with dra := { s.dra with mem := SMap.set s.dra.mem 0 a b } }

/-- Consecutive DRAM bytes written. -/
def dramSetList (s : State) (a : Nat) : List Byte → State
  | [] => s
  | b :: t => dramSetList (dramSet s a b) (a + 1) t

/-- The number that bytes spell, least significant first. -/
def leNat : List Byte → Nat
  | [] => 0
  | b :: t => b.toNat + 256 * leNat t

/-- n bytes of a number, least significant first. -/
def leBytes (n v : Nat) : List Byte := (List.range n).map fun i => BitVec.ofNat 8 (v / 256 ^ i)

/-- A 32-bit word of DRAM. -/
def dram32 (s : State) (a : Nat) : W32 := w32 (leNat (dramBytes s a 4))

/-- Consecutive 32-bit words of DRAM. -/
def dramWords (s : State) (a n : Nat) : List W32 := (List.range n).map fun i => dram32 s (a + 4 * i)

/-- 32-bit words as bytes. -/
def wordBytes (ws : List W32) : List Byte := ws.flatMap fun w => leBytes 4 w.toNat

/-- Bytes of the channel: two active ranks of RANK_SIZE (R552, R569). -/
def dramSize (s : State) : Nat := 2 * 2 ^ (32 + rdF s pgDRA 0x088 0 3)

/-- The channel address of a physical byte address, where the host's map places the channel (log entry 36). -/
def inDram (s : State) (a : Nat) : Option Nat :=
  if s.dra.base ≤ a ∧ a < s.dra.base + dramSize s then some (a - s.dra.base) else none

/-- A byte at a physical address: the reserved channel, or host memory. -/
def physGet (s : State) (a : Nat) : Byte :=
  match inDram s a with
  | some c => dramGet s c
  | none => hostGet s a

/-- Bytes from a physical address. -/
def physBytes (s : State) (a n : Nat) : List Byte := (List.range n).map fun i => physGet s (a + i)

/-- A byte at a physical address written. -/
def physSet (s : State) (a : Nat) (b : Byte) : State :=
  match inDram s a with
  | some c => dramSet s c b
  | none => hostSet s a b

/-- Consecutive bytes written. -/
def physSetList (s : State) (a : Nat) : List Byte → State
  | [] => s
  | b :: t => physSetList (physSet s a b) (a + 1) t

/-- A 64-byte line of physical memory answers an error: a poisoned line, or a channel that is not READY (R235, R557, R558). -/
def lineBad (s : State) (line : Nat) : Bool :=
  match inDram s (line * 64) with
  | some c => decide (s.dra.st ≠ .ready ∨ c / 64 * 64 ∈ s.dra.poison)
  | none => decide (line ∈ s.mem.hostPoison)

/-- A range of physical memory answers an error. -/
def physBad (s : State) (a n : Nat) : Bool :=
  (List.range ((a % 64 + n + 63) / 64)).any fun i => lineBad s (a / 64 + i)

/-- A request comes to the channel: it ends self-refresh, and the channel is idle anew from here on (R559). -/
def draTouch (s : State) : State := { s with dra := { s.dra with sr := false, idleFrom := s.now } }

/-- DRA writes bytes of the channel: a request ends self-refresh, and a line written whole is poisoned no longer (R236, R559). -/
def draPut (s : State) (a : Nat) (bs : List Byte) : State :=
  let s1 := draTouch (dramSetList s a bs)
  { s1 with dra := { s1.dra with poison := s1.dra.poison.filter fun l => decide (l < a ∨ a + bs.length < l + 64) } }

/-- Bytes for the reserved channel: written, or waiting while the host's clock stands (R20). -/
def draWrite (s : State) (a : Nat) (bs : List Byte) : State :=
  if s.hif.hostClock then draPut s a bs else { s with hif := { s.hif with dma := s.hif.dma ++ [.dram a bs] } }

/-! ### The lines of the spindle's caches (07_spindle_core.md R212, R229) -/

/-- A line of L2. -/
def l2Get (s : State) (line : Nat) : L2Line := SMap.get s.spn.l2 L2Line.none line
/-- A line of the L1 data cache. -/
def l1Get (s : State) (line : Nat) : Option L1Line := SMap.get s.spn.l1d none line

/-- The bytes of a held line: L1's, else L2's. -/
def lineData (s : State) (line : Nat) : List Byte :=
  match l1Get s line with | some x => x.data | none => (l2Get s line).data

/-- The held line is dirty in L1 or L2. -/
def lineDirty (s : State) (line : Nat) : Bool :=
  decide ((l2Get s line).st = .m) || (match l1Get s line with | some x => x.dirty | none => false)

/-- Memory as a coherent reader finds it: the lines that the spindle's agent holds dirty, or still writes back, over their
memory (R212, R229, R259). -/
def coherentView (s : State) : State :=
  let u := s.spn.wb.foldl (fun u e => physSetList u (e.1 * 64) e.2) s
  s.spn.l2.foldl (fun u e => if lineDirty s e.1 then physSetList u (e.1 * 64) (lineData s e.1) else u) u

/-! ### Code memory -/

/-- An instruction word of a pillow's code memory (R418). -/
def codeGet (s : State) (p a : Nat) : W32 := SMap.get s.mem.code 0 (p * 2 ^ 16 + a)

/-- An instruction word written in one pillow. -/
def codeSet (s : State) (p a : Nat) (w : W32) : State :=
  { s with mem := { s.mem with
      code := SMap.set s.mem.code 0 (p * 2 ^ 16 + a) w
      codeBad := s.mem.codeBad.filter (· ≠ p * 2 ^ 16 + a) } }

/-- Every instruction word of a pillow's code memory is 0, with its check bits: after a power-up from off and after a march test
(R418). -/
def codeZero (s : State) (p : Nat) : State :=
  { s with mem := { s.mem with
    code := s.mem.code.filter fun e => decide (e.1 / 2 ^ 16 ≠ p)
    codeBad := s.mem.codeBad.filter fun a => decide (a / 2 ^ 16 ≠ p) } }

/-- An instruction word written in every pillow whose code memory keeps anything, and its page of 1,024 words LOADING (R191, R418);
code memory in retention wakes for it (R428). -/
def codeBroadcast (s : State) (a : Nat) (w : W32) : State :=
  let s1 := ((List.range 16).filter fun p => decide (domSt s (384 + p) ≠ .off)).foldl (fun t p => codeSet t p a w) s
  { s1 with mem := { s1.mem with
      codeRetain := []
      loading := if a / 1024 ∈ s1.mem.loading then s1.mem.loading else s1.mem.loading ++ [a / 1024] } }

/-! ### CRC -/

/-- One bit of a reflected CRC-32 with polynomial `p`. -/
def crcBit (p : Nat) (c : Nat) : Nat := if c % 2 = 1 then Nat.xor (c / 2) p else c / 2

/-- One byte of a reflected CRC-32. -/
def crcByte (p c : Nat) (b : Byte) : Nat :=
  crcBit p (crcBit p (crcBit p (crcBit p (crcBit p (crcBit p (crcBit p (crcBit p (Nat.xor c b.toNat))))))))

/-- CRC-32C of bytes: initial value all ones, final inversion (R389, R546). -/
def crc32c (bs : List Byte) : W32 := w32 (Nat.xor (bs.foldl (crcByte 0x82F63B78) 0xFFFFFFFF) 0xFFFFFFFF)

/-! ### Lists -/

/-- The list with element i changed. -/
def modAt {α : Type} (f : α → α) : Nat → List α → List α
  | _, [] => []
  | 0, a :: t => f a :: t
  | n + 1, a :: t => a :: modAt f n t

/-- The least element by a measure, the first among equals. -/
def minBy {α : Type} (f : α → Nat) : List α → Option α
  | [] => none
  | a :: t => match minBy f t with
    | none => some a
    | some b => if f a ≤ f b then some a else some b

/-! ### Units in and out of service -/

/-- The key of a unit in the Selvedge's records. -/
def unitKey (u : UnitId) : Nat := (u.cls * 256 + u.inst) * 16 + u.sub

/-- The Selvedge's record of a unit. -/
def unitRec (s : State) (u : UnitId) : UnitRec := SMap.get s.selv.units UnitRec.reset (unitKey u)

/-- A lane as a unit. -/
def laneUnit (k : Nat) : UnitId := ⟨RUnit.lane.cls, k, 0⟩

/-- A unit is retired or under test: out of service (R579, R583). -/
def unitOff (s : State) (u : UnitId) : Bool :=
  (unitRec s u).retired || s.selv.tests.any fun t => decide (t.unit = u ∧ t.phase = .running)

end Sys2Proof.Machine
end

