-- ==== Sys2Proof/Machine/Eic.lean ====
section
/-!
DEFINITION. The engine interrupt controller (16_interrupts.md): sources, presentation, claim, completion, redirection,
clearing, save and restore, and the meanings of its commands.
-/

namespace Sys2Proof.Machine

/-! ### Sources and targets -/

/-- A shared source. -/
def esrc (s : State) (n : Nat) : Src := SMap.get s.eic.srcs Src.reset n

/-- A shared source replaced. -/
def setSrc (s : State) (n : Nat) (x : Src) : State :=
  { s with eic := { s.eic with srcs := SMap.set s.eic.srcs Src.reset n x } }

/-- A target. -/
def tgt (s : State) (t : Nat) : Tgt := SMap.get s.eic.tgts Tgt.reset t

/-- A target replaced. -/
def setTgt (s : State) (t : Nat) (x : Tgt) : State :=
  { s with eic := { s.eic with tgts := SMap.set s.eic.tgts Tgt.reset t x } }

/-- Edge-sensed shared sources: doorbells and software sources (R510). -/
def isEdgeSrc (n : Nat) : Bool := decide (512 ≤ n ∧ n < 576) || decide (768 ≤ n ∧ n < 1024)

/-- Level sources, one for each unit page with interrupts (R510). -/
def isLevelSrc (n : Nat) : Bool := decide (n < 144) || decide (256 ≤ n ∧ n < 512)

/-- The page of a level source (R510). -/
def srcPage (n : Nat) : Nat :=
  if n < 20 then n else if n < 32 then pgPG (n - 20) else if n < 128 then pgLANE (n - 32)
  else if n < 144 then pgPIL (n - 128) else pgBOB (n - 256)

/-- The line of a level source: IRQ_STATUS AND IRQ_ENABLE is not zero (R510). -/
def srcLine (s : State) (n : Nat) : Bool :=
  isLevelSrc n && pagePowered s (srcPage n) &&
    decide (rd s (srcPage n) 0x024 &&& rd s (srcPage n) 0x028 ≠ 0)

/-- A shared source is pending (R512). -/
def srcPending (s : State) (n : Nat) : Bool :=
  if isEdgeSrc n then (esrc s n).pend else srcLine s n && !(esrc s n).active

/-- The target a source is presented to: the spindle while it is redirected (R521). -/
def effTarget (s : State) (n : Nat) : Nat := if (esrc s n).redir then 0 else (esrc s n).target

/-- The priority of private source j of a target (R532). -/
def privPrio (s : State) (t j : Nat) : Nat := rdF s (pgEICT t) (0x0B0 + 4 * (j / 8)) (4 * (j % 8)) 4

/-- Pending, enabled sources of a target with their priorities: shared ones first, each in rising order (R514). -/
def qualifying (s : State) (t : Nat) : List (Nat × Nat) :=
  (s.eic.srcs.filter (fun p => p.2.en && decide (p.2.prio ≠ 0) && srcPending s p.1 && decide (effTarget s p.1 = t))).map
      (fun p => (p.1, p.2.prio)) ++
  ((List.range 32).filter (fun j => bit (tgt s t).privPend j && rdB s (pgEICT t) 0x09C j &&
      decide (privPrio s t j ≠ 0))).map (fun j => (1024 + j, privPrio s t j))

/-- The first of the highest priority. -/
def topOf : List (Nat × Nat) → Option (Nat × Nat)
  | [] => none
  | a :: t => match topOf t with
    | none => some a
    | some b => if b.2 ≤ a.2 then some a else some b

/-- RUN_PRIO: the priority on top of the stack, 0 when it is empty (R514). -/
def runPrio (s : State) (t : Nat) : Nat := match (tgt s t).stack with | [] => 0 | e :: _ => e.2

/-- The EIC may present to a target (R520, R523). -/
def eicOpen (s : State) (t : Nat) : Bool :=
  pagePowered s pgEIC && rdB s pgEIC 0x080 0 && rdB s (pgEICT t) 0x088 0 && !(tgt s t).offline

/-- The source the EIC presents to a target, with its priority (R514). -/
def presented (s : State) (t : Nat) : Option (Nat × Nat) :=
  if eicOpen s t then topOf ((qualifying s t).filter fun p => decide (runPrio s t < p.2)) else none

/-! ### Edges -/

/-- An edge arrives at an edge source (R512): pending, or merged while it is pending or active. -/
def eicEdge (s : State) (n : Nat) : State :=
  if !isEdgeSrc n then s
  else
    let x := esrc s n
    if x.pend || x.active then
      let s1 := setSrc s n { x with merged := min 255 (x.merged + 1), edgeAct := x.edgeAct || x.active }
      if x.merged < 255 then raiseIrq s1 pgEIC 1 else s1
    else setSrc s n { x with pend := true }

/-- Private sources of a target that are active: those on its stack (R515). -/
def privActive (s : State) (t : Nat) : W32 := boolWord 32 fun j => (tgt s t).stack.any fun e => decide (e.1 = 1024 + j)

/-- Edges on the private sources of a mask: pending, or collected where the source is active (R511, R512, R519). -/
def privEdges (s : State) (t : Nat) (m : W32) : State :=
  let x := tgt s t
  setTgt s t { x with privPend := x.privPend ||| (m &&& ~~~ privActive s t), privHeld := x.privHeld ||| (m &&& privActive s t) }

/-- An edge on private source j of a target (R511). -/
def privEdge (s : State) (t j : Nat) : State := privEdges s t (w32 (2 ^ j))

/-! ### Claim and completion -/

/-- The layout of EIC_T_CLAIM (R532). -/
def claimWord (p : Nat × Nat) : W32 := w32 (p.1 + p.2 * 2 ^ 16 + 2 ^ 31)

/-- The bobbin of a target is in service: neither retired nor locked up (R521). -/
def tgtInService (s : State) (t : Nat) : Bool :=
  decide (t = 0) ||
    (!(unitRec s ⟨RUnit.bob.cls, t - 1, 0⟩).retired &&
      decide ((core s (t - 1)).pstate ≠ .lockedUp))

/-- REDIRECT of the EIC page where a source moves to or from the spindle (R521, R530). -/
def redirNote (s : State) (moved : Bool) : State := if moved then raiseIrq s pgEIC 0 else s

/-- A claimed source is active, loses an edge's pending bit and, when its bobbin is back in service, its redirection
(R515, R521). -/
def markClaimed (s : State) (t : Nat) (p : Nat × Nat) : State :=
  let x := tgt s t
  let s1 := setTgt s t { x with
    stack := p :: x.stack, privPend := if 1024 ≤ p.1 then clrBit x.privPend (p.1 - 1024) else x.privPend }
  if 1024 ≤ p.1 then s1
  else
    let y := esrc s p.1
    let back := y.redir && tgtInService s y.target
    redirNote (setSrc s1 p.1 { y with active := true, pend := false, redir := y.redir && !back }) back

/-- A claim by a target's core: the winning source at this moment, or 0 and one more spurious claim (R515, R520). -/
def eicClaim (s : State) (t : Nat) : W32 × State :=
  match presented s t with
  | some p => (claimWord p, markClaimed s t p)
  | none =>
    if eicOpen s t then (0, setTgt s t { tgt s t with spurious := min 65535 ((tgt s t).spurious + 1) }) else (0, s)

/-- A source takes a configuration: it goes to the spindle where the bobbin it names is out of service (R521). -/
def srcTakes (s : State) (n : Nat) (x : Src) (t prio : Nat) (en : Bool) : State :=
  redirNote (setSrc s n { x with target := t, prio := prio, en := en, held := none, redir := !tgtInService s t })
    (x.redir == tgtInService s t)

/-- A source stops being active: it is pending again where its line stands or it has collected an edge; a held
configuration takes effect (R513, R519, R525). A private source is the target's own. -/
def deactivate (s : State) (t n : Nat) : State :=
  if 1024 ≤ n then
    let x := tgt s t
    if bit x.privHeld (n - 1024) then
      setTgt s t { x with privPend := setBit x.privPend (n - 1024), privHeld := clrBit x.privHeld (n - 1024) }
    else s
  else
    let x := esrc s n
    let y := { x with active := false, pend := x.edgeAct, edgeAct := false }
    match x.held with
    | none => setSrc s n y
    | some (c, p, e) => srcTakes s n y c p e

/-- A completion-order fault (R518): the stack and sources stay; the first is latched; each is passed on. -/
def orderFault (s : State) (t n : Nat) : State :=
  let s1 := raiseErr s pgEIC 0
  { s1 with
    eic := { s1.eic with orderFault := match s1.eic.orderFault with | none => some (t, n) | o => o }
    selv := { s1.selv with eicFaults := s1.selv.eicFaults ++ [t] } }

/-- A completion naming source n (R518). -/
def eicComplete (s : State) (t n : Nat) : State :=
  match (tgt s t).stack with
  | [] => orderFault s t n
  | e :: rest => if e.1 = n then deactivate (setTgt s t { tgt s t with stack := rest }) t n else orderFault s t n

/-- Clearing a target (R525): its stack is emptied and its active shared sources become inactive as at a completion. -/
def clearTarget (s : State) (t : Nat) : State :=
  let st := (tgt s t).stack
  st.foldl (fun u e => deactivate u t e.1) (setTgt s t { tgt s t with stack := [] })

/-- Sources of a bobbin's target are presented to the spindle (R521). -/
def redirect (s : State) (t : Nat) : State :=
  let ns := (s.eic.srcs.filter fun p => decide (p.2.target = t) && !p.2.redir).map (·.1)
  if ns = [] then s
  else raiseIrq (ns.foldl (fun u n => setSrc u n { esrc u n with redir := true }) s) pgEIC 0

/-! ### Save and restore around a test (R523, R524) -/

/-- The target's state is copied into retention and the target goes offline. -/
def eicSave (s : State) (t : Nat) : State :=
  let x := tgt s t
  setTgt s t { x with
    offline := true
    saved := some ⟨x.stack, x.privPend, rd s (pgEICT t) 0x09C,
      (List.range 4).map (fun i => rd s (pgEICT t) (0x0B0 + 4 * i)), x.timer, rd s (pgEICT t) 0x088⟩ }

/-- The copy is restored and compared; private source 4 is raised; where they differ RESTORE_FAIL is set, and the target is cleared. -/
def eicRestore (s : State) (t : Nat) (same : Bool) : State :=
  let x := tgt s t
  match x.saved with
  | none => s
  | some c =>
    let s1 := setTgt s t { x with
      stack := c.stack, privPend := c.privPend ||| x.privPend, timer := c.timer, offline := false, saved := none }
    let s2 := wr (wr s1 (pgEICT t) 0x09C c.privEn) (pgEICT t) 0x088 c.ctl
    let s3 := (List.range 4).foldl (fun u i => wr u (pgEICT t) (0x0B0 + 4 * i) (c.privPrio.getD i 0)) s2
    let s3' := privEdge s3 t 4
    if same then s3'
    else
      let s4 := raiseErr s3' pgEIC 2
      { s4 with selv := { s4.selv with eicFaults := s4.selv.eicFaults ++ [t] } }

/-! ### Commands -/

/-- EIC_SOURCE_EVENT: an edge source takes its edge; the line of a level source is its page's IRQ bits, which
presentation reads as they stand (R510, R512, R514). -/
def execEicSourceEvent (src : Nat) (edge : Bool) (s : State) : Host.Outcome State Fault Refusal :=
  .next (if edge && pagePowered s pgEIC then eicEdge s src else s)

/-- EIC_CLAIM: a read of EIC_T_CLAIM (R515, R516, R526). Only the read at the spindle's own page claims. -/
def execEicClaim (target : Nat) (r : ClaimRead) (s : State) : Host.Outcome State Fault Refusal :=
  .next (
    if r.size ≠ 4 ∨ r.off % 4 ≠ 0 then { s with lastAccess := .busError }
    else if !pagePowered s pgEIC ∨ 256 < target then { s with lastAccess := .data 0 }
    else if target ≠ 0 then { s with lastAccess := .data (tgt s target).lastClaim }
    else if r.viaAlias then
      { s with lastAccess := .data (match presented s 0 with | some p => claimWord p | none => 0) }
    else { (eicClaim s 0).2 with lastAccess := .data (eicClaim s 0).1 })

/-- EIC_COMPLETE: a write of EIC_T_COMPLETE, or a bobbin's store to its completion word (R517, R518). A write on a
bobbin's page is refused. -/
def execEicComplete (target : Nat) (v : W32) (viaPage : Bool) (s : State) : Host.Outcome State Fault Refusal :=
  .next (
    if !pagePowered s pgEIC then warnEvent s (pgEICT target)
    else if viaPage && decide (target ≠ 0) then warnEvent s (pgEICT target)
    else eicComplete s target (bits v 0 11))

/-- EIC_SRC_CFG_WRITE: the source that EIC_SRC_IDX names takes TARGET, PRIO and EN at once, or at its completion
(R510, R513). -/
def execEicSrcCfgWrite (v : W32) (s : State) : Host.Outcome State Fault Refusal :=
  .next (
    let n := rdF s pgEIC 0x088 0 10
    let t := bits v 4 9
    if !pagePowered s pgEIC then warnEvent s pgEIC
    else if !(isEdgeSrc n || isLevelSrc n) then s
    else if 256 < t then warnEvent s pgEIC
    else
      let x := esrc s n
      if x.active then setSrc s n { x with held := some (t, bits v 0 4, bit v 14) }
      else srcTakes s n x t (bits v 0 4) (bit v 14))

/-- EIC_SW_SET: an edge on a software source; other values are ignored (R528). -/
def execEicSwSet (v : W32) (s : State) : Host.Outcome State Fault Refusal :=
  .next (
    if !pagePowered s pgEIC then warnEvent s pgEIC
    else if 768 ≤ bits v 0 10 then eicEdge s (bits v 0 10) else s)

/-- EIC_T_PRIV_SET: edges on private sources 8 to 15 (R532). -/
def execEicTPrivSet (target : Nat) (v : W32) (s : State) : Host.Outcome State Fault Refusal :=
  .next (
    if 256 < target then s
    else if !pagePowered s pgEIC then warnEvent s (pgEICT target)
    else privEdges s target (v &&& 0xFF00))

/-- An instant falls within the present period of the always-on clock. -/
def dueBy (s : State) (t : Nat) : Bool := decide (t ≤ s.now + clkPeriod s / 2 ^ 28)

/-- The targets' timers count STC time, which a change of the counter by d does not pass (R532; DEDUCED, log entry 184). -/
def timersMove (s : State) (d : Int) : State :=
  { s with eic := { s.eic with
    tgts := s.eic.tgts.map fun e => (e.1, { e.2 with timer := e.2.timer.map fun t => ((t : Int) + d).toNat }) } }

/-- EIC_TIMER_EXPIRE: the timer has reached 0 and raises private source 0 (R532); before that nothing happens, nor while the
target is offline and its timer in retention (R523; DEDUCED, log entry 159). -/
def execEicTimerExpire (target : Nat) (s : State) : Host.Outcome State Fault Refusal :=
  .next (match (tgt s target).timer with
    | none => s
    | some d => if decide (d ≤ s.stc.cnt + s.stc.incr) && !(tgt s target).offline then privEdge (setTgt s target { tgt s target with timer := none }) target 0 else s)

/-- EIC_CNT_CLR: every MERGED and SPURIOUS count and EIC_ORDER_FAULT are cleared (R528). -/
def execEicCntClr (s : State) : Host.Outcome State Fault Refusal :=
  .next (
    if !pagePowered s pgEIC then warnEvent s pgEIC
    else
      let s1 := (s.eic.srcs.map (·.1)).foldl (fun u n => setSrc u n { esrc u n with merged := 0 }) s
      let s2 := (s1.eic.tgts.map (·.1)).foldl (fun u t => setTgt u t { tgt u t with spurious := 0 }) s1
      { s2 with eic := { s2.eic with orderFault := none } })

/-- A core that sleeps and may be woken: the spindle in WFI, or a bobbin gated while idle (R522). -/
def asleep (s : State) (c : Nat) : Bool :=
  decide ((core s c).pstate = .idle) || (decide (c ≠ spindle) && decide ((core s c).pstate = .off) &&
    decide (domSt s c = .off) && (curMode s).runs)

end Sys2Proof.Machine
end

