-- ==== Sys2Proof/Machine/Strand.lean ====
section
/-!
DEFINITION. Strands as the units share them (11_strands_whorl.md R334 to R345, 13_pillow_memory.md R419 to R421): the
declaration record's fields, the context image in the strand cache and in the parking region, plies and their bobbins.
-/

namespace Sys2Proof.Machine

/-! ### The declaration record (R336, R376) -/

/-- Word w of a declaration. -/
def dword (d : List W32) (w : Nat) : W32 := d.getD w 0
/-- CLASS: 0 P, 1 C, 2 M, 3 B. -/
def dCls (d : List W32) : Nat := bits (dword d 0) 0 2
/-- PLIES. -/
def dPlies (d : List W32) : Nat := bits (dword d 0) 2 2
/-- TRIG: 0 tick, 1 event, 2 timer, 3 message. -/
def dTrig (d : List W32) : Nat := bits (dword d 0) 4 2
/-- TL. -/
def dTl (d : List W32) : Nat := bits (dword d 0) 6 3
/-- PINNED, forced to 1 for class P and plied strands. -/
def dPinned (d : List W32) : Bool := bit (dword d 0) 9 || decide (dCls d = 0) || decide (1 < dPlies d)
/-- VALID. -/
def dValid (d : List W32) : Bool := bit (dword d 0) 10
/-- OVR: 0 RESUME, 1 RESTART, 2 SUSPEND, 3 refused. -/
def dOvr (d : List W32) : Nat := bits (dword d 0) 11 2
/-- The receive-queue limit, 1 to 16. -/
def dQueue (d : List W32) : Nat := bits (dword d 0) 13 4 + 1
/-- WAKE. -/
def dWake (d : List W32) : Bool := bit (dword d 0) 17
/-- DIV. -/
def dDiv (d : List W32) : Nat := bits (dword d 1) 0 17
/-- PHASE. -/
def dPhase (d : List W32) : Nat := bits (dword d 2) 0 17
/-- KIND and SOURCE of an event trigger. -/
def dKind (d : List W32) : Nat := bits (dword d 2) 14 2
def dSource (d : List W32) : Nat := bits (dword d 2) 0 14
/-- PERIOD of a timer trigger, µs. -/
def dPeriod (d : List W32) : Nat := (dword d 2).toNat
/-- BUDGET. -/
def dBudget (d : List W32) : Nat := bits (dword d 3) 0 28
/-- ENTRY. -/
def dEntry (d : List W32) : Nat := bits (dword d 4) 0 16
/-- TO_MASK. -/
def dToMask (d : List W32) : W32 := dword d 5
/-- WCET. -/
def dWcet (d : List W32) : Nat := bits (dword d 6) 0 28
/-- AFF, AFF_HARD, ANTI, PILLOW, PILLOW_FIX, SHADOW_REQ, SHADOW_RING (R376). -/
def dAff (d : List W32) : Nat := bits (dword d 7) 0 8
def dAffHard (d : List W32) : Bool := bit (dword d 7) 8
def dAnti (d : List W32) : Nat := bits (dword d 7) 9 8
def dPillow (d : List W32) : Nat := bits (dword d 7) 17 4
def dPillowFix (d : List W32) : Bool := bit (dword d 7) 21
def dShadowReq (d : List W32) : Bool := bit (dword d 7) 22
def dShadowRing (d : List W32) : Bool := bit (dword d 7) 23

/-! ### Strands and plies -/

/-- The strand of an index, none when it is FREE. -/
def strand (s : State) (i : Nat) : Option Strand := SMap.get s.whrl.strands none i

/-- The state with a strand put, or freed. -/
def setStrand (s : State) (i : Nat) (x : Option Strand) : State :=
  { s with whrl := { s.whrl with strands := SMap.set s.whrl.strands none i x } }

/-- The state with a strand changed. -/
def modStrand (s : State) (i : Nat) (f : Strand → Strand) : State :=
  match strand s i with
  | none => s
  | some x => setStrand s i (some (f x))

/-- The state with one ply of a strand changed. -/
def modPly (s : State) (i j : Nat) (f : Ply → Ply) : State :=
  modStrand s i fun x => { x with plies := modAt f j x.plies }

/-- Ply j of strand i. -/
def ply? (s : State) (i j : Nat) : Option Ply := (strand s i).bind fun x => x.plies[j]?

/-- The indices of strands that are not FREE. -/
def strandIdx (s : State) : List Nat := s.whrl.strands.map (·.1)

/-- The index part of a strand ID (R10). -/
def idIndex (w : W32) : Nat := bits w 0 21
/-- The engine part of a strand ID. -/
def idEngine (w : W32) : Nat := bits w 21 11

/-- The pillow of a bobbin number. -/
def pilOf (b : Nat) : Nat := b / 16

/-- Every ply placed on bobbin b, with its strand. -/
def pliesOn (s : State) (b : Nat) : List (Nat × Nat) :=
  s.whrl.strands.flatMap fun p => match p.2 with
    | none => []
    | some x => ((List.range x.plies.length).filter fun j =>
        match x.plies[j]? with | some y => decide (y.bob = b) | none => false).map fun j => (p.1, j)

/-- State of ply A, which WHRL_SQ_STATE reports (R341). -/
def strandSt (s : State) (i : Nat) : SState :=
  match ply? s i 0 with | some p => p.st | none => .free

/-- Strand-cache slots of a pillow in use. -/
def slotsUsed (s : State) (p : Nat) : List Nat :=
  (s.whrl.strands.flatMap fun e => match e.2 with
    | none => []
    | some x => x.plies.filterMap fun y => if pilOf y.bob = p then y.slot else none) ++
  s.prck.migs.filterMap (fun m => if pilOf m.dst = p then some m.dstSlot else none)

/-- The lowest strand-cache slot of a pillow that is free. -/
def freeSlot (s : State) (p : Nat) : Option Nat :=
  let used := slotsUsed s p
  (List.range 1024).find? fun k => decide (k ∉ used)

/-! ### The context image (R338, R339, R421) -/

/-- The bank address of context word j of a slot (R421). -/
def ctxAddr (p slot j : Nat) : Nat :=
  if j < 32 then bankAddr p 6 (32 * slot + j) else bankAddr p 7 (32 * slot + (j - 32))

/-- The parking address of context word j of strand i: containers at the parking base (R367). -/
def parkAddr (s : State) (i j : Nat) : Nat := (rd s pgDRA 0x0A0).toNat * 2 ^ 20 + 512 * i + 8 * j

/-- Context word j of a ply, wherever the image lies. -/
def ctxGet (s : State) (i : Nat) (p : Ply) (j : Nat) : TWord :=
  match p.slot with
  | some k => bankGet s (ctxAddr (pilOf p.bob) k j)
  | none => TWord.ofContainer (BitVec.ofNat 64 (leNat (dramBytes s (parkAddr s i j) 8)))

/-- Context word j of a ply written. -/
def ctxSet (s : State) (i : Nat) (p : Ply) (j : Nat) (w : TWord) : State :=
  match p.slot with
  | some k => bankSet s (ctxAddr (pilOf p.bob) k j) w
  | none => draWrite s (parkAddr s i j) (leBytes 8 w.container.toNat)

/-- Context words from j on written. -/
def ctxSetList (s : State) (i : Nat) (p : Ply) (j : Nat) : List TWord → State
  | [] => s
  | w :: t => ctxSetList (ctxSet s i p j w) i p (j + 1) t

/-- The class default of the status word (R339): LEVEL U, MASK 0, TCS FULL, NAN_INVALID 1, RNE, FT 1 for class P. -/
def statusDefault (cls : Nat) : W32 := if cls = 0 then 0x480 else 0x80

/-- Word 39 (R338). -/
def placeWord (d : List W32) (b j plies : Nat) (shadow : Bool) : W32 :=
  w32 (b + j * 2 ^ 8 + plies * 2 ^ 10 + dCls d * 2 ^ 12 + dTrig d * 2 ^ 14 + dTl d * 2 ^ 16 + at' (dPinned d) 19 +
    at' shadow 20)

/-- Words 0 to 37 after creation, RESET or restart (R339). -/
def ctxFresh (d : List W32) : List TWord :=
  List.replicate 32 voidWord ++ [TWord.nat (w32 (dEntry d)), TWord.nat (statusDefault (dCls d))] ++
    List.replicate 4 (TWord.nat 0)

/-- A ply's context written as at creation (R339): words 0 to 37, and the cells. -/
def ctxReset (s : State) (i j : Nat) : State :=
  match strand s i with
  | none => s
  | some x =>
    match x.plies[j]? with
    | none => s
    | some p =>
      modPly (ctxSetList (ctxSetList s i p 0 (ctxFresh x.decl)) i p 40 (List.replicate 24 voidWord)) i j fun y =>
        { y with side := Side.reset, preempted := false, waitFor := none }

/-- Words 38 and 39 of a ply written (R338). -/
def ctxPlace (s : State) (i j : Nat) : State :=
  match strand s i with
  | none => s
  | some x =>
    match x.plies[j]? with
    | none => s
    | some p =>
      ctxSet (ctxSet s i p 38 (TWord.nat x.id)) i p 39
        (TWord.nat (placeWord x.decl p.bob j x.plies.length (x.shadowOf.isSome && !x.taken)))

/-! ### Tick lines (11_strands_whorl.md R346, R349, R371, R373) -/

/-- The page offset of register o of line n (R371). -/
def tlOff (n o : Nat) : Nat := 0x100 + 0x40 * n + o
/-- A register of the Whorl as it is in effect (R373). -/
def whrlEff (s : State) (off : Nat) : W32 := SMap.get s.whrl.eff (regReset (rkey pgWHRL off)) off
/-- The registers as written take effect (R373). -/
def tlTake (s : State) : State :=
  { s with whrl := { s.whrl with
    eff := (0x080 :: (List.range 8).flatMap fun n => [0, 4, 8, 0xC, 0x10].map (tlOff n)).foldl
      (fun m o => SMap.set m (regReset (rkey pgWHRL o)) o (rd s pgWHRL o)) s.whrl.eff } }
/-- MODE of a line in effect: 0 off, 1 fixed, 2 tracking. -/
def tlMode (s : State) (n : Nat) : Nat := bits (whrlEff s (tlOff n 0)) 0 2
/-- RATE in effect. -/
def tlRate (s : State) (n : Nat) : Nat := bits (whrlEff s (tlOff n 0)) 8 17
/-- WINDOW in effect, in 2⁻³² ns. -/
def tlWindow (s : State) (n : Nat) : Nat := bits (whrlEff s (tlOff n 4)) 0 11 * 1000 * nsU
/-- The strand that owns a line's tracking word, in effect (R350). -/
def trkOwner (s : State) (n : Nat) : Nat := bits (whrlEff s (tlOff n 0x10)) 0 21
/-- MODE, RATE and WINDOW as last written, as the checks of R337, R347, R378 and R620 take them. -/
def tlModeW (s : State) (n : Nat) : Nat := rdF s pgWHRL (tlOff n 0) 0 2
def tlRateW (s : State) (n : Nat) : Nat := rdF s pgWHRL (tlOff n 0) 8 17
def tlWindowW (s : State) (n : Nat) : Nat := rdF s pgWHRL (tlOff n 4) 0 11

/-! ### Trace records (21_debug_snag.md R676) -/

/-- A core as DBG_RC_SEL names it: 0 the spindle, 1 + n bobbin n. -/
def dbgTarget (c : Nat) : Nat := if c = spindle then 0 else c + 1

/-- A trace record of a core, or of the engine, where trace takes it; at most 8 wait (R676). The ring takes queued
records at once. -/
def traceRec (s : State) (c : Option Nat) (kind pc : Nat) (w1 : W32) : State :=
  let ctl := rd s pgDBG 0x0E0
  let mine := match c with
    | some k => decide (bits ctl 4 9 = dbgTarget k)
    | none => bit ctl 1
  let eng := bit ctl 1 && (decide (kind = 4) || decide (kind = 5) || decide (kind = 9))
  if !(bit ctl 0 && decide (1 ≤ dbgLevel s)) || !(mine || eng) then s
  else
    let h := s.dbg.head
    let t := nowAt s h
    let r := [w32 (kind + pc % 65536 * 65536), w1, w32 (nsOf t), w32 (secOf t)]
    let s1 := { s with dbg := { s.dbg with
      trace := SMap.set s.dbg.trace [] h r, head := (h + 1) % 4096 } }
    if h = 4095 then raiseIrq s1 pgDBG 2 else s1

/-- The performance counters that count an event of a core (R677); a wrap raises its private source 2. -/
def pmcCount (s : State) (c event n : Nat) : State :=
  if dbgLevel s = 0 then s
  else (List.range 8).foldl (fun u i =>
    let cfg := rd u pgDBG (0x100 + 8 * i)
    if bits cfg 12 4 = event ∧ bits cfg 0 9 = dbgTarget c then
      let v := (SMap.get u.dbg.pmc 0 i).toNat + n
      let u1 := { u with dbg := { u.dbg with pmc := SMap.set u.dbg.pmc 0 i (w32 v) } }
      if 2 ^ 32 ≤ v then privEdge u1 (dbgTarget c) 2 else u1
    else u) s

/-! ### Snags (21_debug_snag.md R678 to R680) -/

/-- Snags and ERR_INJECT act (R678). -/
def snagAllowed (s : State) : Bool :=
  rdB s pgDBG 0x080 1 && decide (1 ≤ dbgLevel s) &&
    decide (s.fuses.state = .develop ∨ curMode s = .test ∨ curMode s = .service)

/-- SNAG_FIRE: an opportunity of a page's snag of one of the kinds. Whether it fires at its PROB, and a random amount, are
free choices: the generator is the spec's own and not given (R679; log entry 28). Answers the amount. -/
def snagFire (s : State) (page : Nat) (kinds : List Nat) : Nat × State :=
  let c := rd s page 0x030
  let p := rd s page 0x034
  let fired := SMap.get s.dbg.snagFired 0 page
  if !(bit c 0 && snagAllowed s && decide (bits c 1 3 ∈ kinds)) then (0, s)
  else if bits p 16 16 ≠ 0 ∧ bits p 16 16 ≤ fired then (0, s)
  else if bits c 8 8 = 0 then (0, s)
  else
    let (yes, s1) := freeBool s
    if !yes then (0, s1)
    else
      let (v, s2) := if bit c 5 then ((freeWord s1).1.toNat % (bits p 0 16 + 1), (freeWord s1).2) else (bits p 0 16, s1)
      let s3 := { s2 with dbg := { s2.dbg with snagFired := SMap.set s2.dbg.snagFired 0 page (fired + 1), snagWas := true } }
      (v, traceRec s3 none 8 0 (w32 page))

end Sys2Proof.Machine
end

