-- ==== Sys2Proof/Machine/Lane.lean ====
section
/-!
DEFINITION. Lanes and pairs as the senders of frames use them (14_field_ports.md R439, R443, R453, R457, R458): transmit
queues, the two copies of a pair, the publication guard.
-/

namespace Sys2Proof.Machine

/-- A lane. -/
def lane (s : State) (k : Nat) : Lane := SMap.get s.fport.lanes Lane.reset k

/-- The state with a lane replaced. -/
def setLane (s : State) (k : Nat) (x : Lane) : State :=
  { s with fport := { s.fport with lanes := SMap.set s.fport.lanes Lane.reset k x } }

/-- The state with a lane changed. -/
def modLane (s : State) (k : Nat) (f : Lane → Lane) : State := setLane s k (f (lane s k))

/-- A register of a lane or a port group as it is in effect (R441, R465). -/
def portEff (s : State) (page off : Nat) : W32 := SMap.get s.fport.eff (regReset (rkey page off)) (rkey page off)
/-- A field of it. -/
def portF (s : State) (page off lo n : Nat) : Nat := bits (portEff s page off) lo n
/-- A bit of it. -/
def portB (s : State) (page off n : Nat) : Bool := bit (portEff s page off) n

/-- The registers of lanes and port groups that take effect on the transition to ARMED (R441, R465). -/
def portKeys : List Nat :=
  ((List.range 96).flatMap fun k => [0x080, 0x084, 0x088, 0x08C].map (rkey (pgLANE k))) ++
    (List.range 12).flatMap fun g => [0x080, 0x088, 0x08C, 0x090, 0x094, 0x098, 0x09C].map (rkey (pgPG g))


/-- MODE of a lane (R439): 0 OFF, 1 100BASE-FX, 2 1000BASE-X, 3 C37.94. -/
def laneMode (s : State) (k : Nat) : Nat := portF s (pgLANE k) 0x080 0 3
/-- RED of a lane: 0 none, 1 PRP, 2 HSR (R453). -/
def laneRed (s : State) (k : Nat) : Nat := portF s (pgLANE k) 0x080 8 2
/-- RING of a lane (R460). -/
def laneRing (s : State) (k : Nat) : Bool := portB s (pgLANE k) 0x080 10
/-- The other lane of a pair (R453). -/
def partner (k : Nat) : Nat := if k % 2 = 0 then k + 1 else k - 1
/-- The own MAC address of a lane (R468). -/
def laneMac (s : State) (k : Nat) : Nat :=
  (portEff s (pgLANE k) 0x088).toNat + portF s (pgLANE k) 0x08C 0 16 * 2 ^ 32

/-- What a lane sends of itself (R440): its configured N, RDI while it receives no valid frames; far-end fault while it has no signal. -/
def lineSends (s : State) (k : Nat) : State :=
  let mode := laneMode s k
  modLane s k fun l => { l with
    nTx := if mode = 3 then portF s (pgLANE k) 0x080 3 4 else 0
    rdiTx := decide (mode = 3 ∧ l.c37Good = 0), fefTx := decide (mode = 1) && !l.signal }

/-- The registers of ports take effect as written. -/
def portTake (s : State) : State :=
  let s1 := { s with fport := { s.fport with
    eff := portKeys.foldl (fun m k => SMap.set m (regReset k) k (rd s (k / 0x1000) (k % 0x1000))) s.fport.eff } }
  (List.range 96).foldl lineSends s1

/-- A counter of a LANE page raised by one, with CNT_WRAP at its wrap (R468, R470). -/
def laneCount (s : State) (k off : Nat) : State := bumpWrap s (pgLANE k) off 3

/-- The time a frame of `len` bytes with its preamble takes on a lane, in sixteenths of a nanosecond (R457, R459). -/
def frameTime (s : State) (k len : Nat) : Nat := (len + 8) * (if laneMode s k = 1 then 1280 else 128)

/-- The bytes that wait in a lane's transmit buffer (R457). -/
def txBytes (l : Lane) : Nat := (l.tx.map (·.len)).foldl (· + ·) 0

/-- A lane takes a frame of `len` bytes into its 16 KiB transmit buffer (R457). -/
def laneTakes (s : State) (k len : Nat) : Bool :=
  decide (laneMode s k ≠ 0 ∧ laneMode s k ≠ 3 ∧ txBytes (lane s k) + len ≤ 16384)

/-- A frame queued on one lane; one that finds the transmit buffer full is discarded and counted (R455, R457). -/
def laneQueue (s : State) (k : Nat) (f : TxFrame) : State :=
  if laneMode s k = 0 ∨ laneMode s k = 3 then s
  else if !laneTakes s k f.len then laneCount s k 0x0D0
  else modLane s k fun l => { l with tx := l.tx ++ [f] }

/-- The tag of a copy on one lane of a pair: PRP lane 2k is LAN A (R453). -/
def redTag (s : State) (k n : Nat) : RedTag :=
  match laneRed s k with
  | 1 => .prp (decide (k % 2 = 1)) n
  | 2 => .hsr (decide (k % 2 = 1)) n
  | _ => .none

/-- A frame queued on a lane, or on both lanes of its pair under one sequence number, in copies that differ in their tag (R453). -/
def laneSend (s : State) (k : Nat) (f : TxFrame) : State :=
  if laneRed s k = 0 then laneQueue s k f
  else
    let p := k / 2
    let n := SMap.get s.fport.pairSeq 0 p
    let s1 := { s with fport := { s.fport with pairSeq := SMap.set s.fport.pairSeq 0 p ((n + 1) % 65536) } }
    [2 * p, 2 * p + 1].foldl (fun u q => laneQueue u q { f with tag := redTag u q n }) s1

/-- A key entry can be used now (R646): NB ≤ SEC < NA; while the STC is UNSET, one without limits only. -/
def keyInPeriod (s : State) (k : KeyEnt) : Bool :=
  if s.stc.st = .unset then decide (k.nb = 0 ∧ k.na = 0xFFFFFFFFFFFF)
  else decide (k.nb ≤ secOf s.stc.cnt ∧ secOf s.stc.cnt < k.na)

/-- The authentication by the key of an entry of KEY, where it can be used (R448, R646). -/
def txAuth (s : State) (idx : Nat) : Option TxAuth :=
  match SMap.get s.sec.keys none idx with
  | some k => if keyInPeriod s k then some ⟨k.kid, k.alg, k.tagLen⟩ else none
  | none => none

/-- The ring pair's lane, where the engine has one (R460). -/
def ringLane (s : State) : Option Nat := (List.range 96).find? fun k => laneMode s k ≠ 0 && laneRing s k

/-- The station multicast address of a lane's group (R464). -/
def interMac (s : State) (k : Nat) : Nat :=
  (portEff s (pgPG (k / 8)) 0x08C).toNat + portF s (pgPG (k / 8)) 0x090 0 16 * 2 ^ 32

/-- The header of an inter-engine frame (R460, R464). -/
def interHead (s : State) (k : Nat) : TxHead :=
  ⟨interMac s k, laneMac s k, portF s (pgPG (k / 8)) 0x088 16 12, 7, portF s (pgPG (k / 8)) 0x088 0 16⟩

/-- The next sequence number of the pair of this engine and a destination (R460). -/
def nextSeq (s : State) (dst : Nat) : Nat × State :=
  let q := SMap.get s.whrl.seqTx 0 dst
  (q, { s with whrl := { s.whrl with seqTx := SMap.set s.whrl.seqTx 0 dst ((q + 1) % 65536) } })

/-- An inter-engine frame with a body of `len` bytes leaves on the ring pair in class 1 (R457, R460): 14 bytes of addresses and
EtherType, 4 of the 802.1Q tag, 6 of the HSR tag, 12 of header, the GMAC tag where it is on, and the FCS. With INTER_AUTH on and no key
that can be used there is no frame to send (DESIGN CHOICE, log entry 178). -/
def interSend (s : State) (type dst len : Nat) (b : InterBody) : State :=
  let (q, s1) := nextSeq s dst
  match ringLane s1 with
  | none => s1
  | some k =>
    let auth := portB s1 (pgPG (k / 8)) 0x080 1
    let key := txAuth s1 (portF s1 (pgPG (k / 8)) 0x094 0 10)
    if auth && key.isNone then s1
    else
      let size := max 64 (14 + 4 + 6 + 12 + len + (if auth then 16 else 0) + 4)
      laneSend s1 k ⟨1, size, .inter type s1.glb.engineNum dst q len b, some (interHead s1 k), if auth then key else none, .none, s1.now,
        false⟩

/-! ### The publication guard (R458) -/

/-- A publication's entry routes it to lane k. -/
def pubOnLane (e : List W32) (k : Nat) : Bool :=
  let l := bits (dword e 0) 4 7
  decide (l = k) || (bit (dword e 0) 3 && decide (l + 1 = k))

/-- The owner of a publication entry (R484). -/
def pubOwner (e : List W32) : Nat := bits (dword e 8) 0 21

/-- A strand released at tick k of line t has not yielded, faulted or missed its release: one that has reached a WAIT still runs. -/
def stillRuns (x : Strand) (t k : Nat) : Bool :=
  decide (dTrig x.decl = 0) && decide (dTl x.decl = t) &&
    x.plies.any fun p => decide (p.st = .ready ∨ p.st = .running ∨ p.st = .waiting) && decide (p.tick = k) && !p.missed

/-- Something of tick `e` (line + 8 × tick) still holds lane k's guard open: the window of the tick, a strand that
publishes on the lane, or a comparison of such a strand's publication. -/
def guardHeld (s : State) (k e : Nat) : Bool :=
  let t := e % 8
  decide ((SMap.get s.whrl.lines Line.reset t).tick = e / 8) ||
    s.pio.pubs.any fun q => match q.2 with
      | none => false
      | some p => pubOnLane p.entry k && (match strand s (pubOwner p.entry) with
        | none => false
        | some x => stillRuns x t (e / 8) || (p.open'.isSome && decide (dTrig x.decl = 0) && decide (dTl x.decl = t)))

/-- The guard of lane k closes once nothing holds it and class 0 is empty (R458). -/
def guardUpdate (s : State) (k : Nat) : State :=
  let l := lane s k
  if l.guardOpen && !(l.guardTl.any (guardHeld s k)) && !(l.tx.any fun f => decide (f.cls = 0)) then
    setLane s k { l with guardOpen := false, guardTl := [] }
  else s

/-- The guards of every lane. -/
def guardAll (s : State) : State := (s.fport.lanes.map (·.1)).foldl guardUpdate s

/-- The next opening of lane k's guard, on the STC counter (R458). -/
def nextGuard (s : State) (k : Nat) : Option Nat :=
  let m := rd s (pgLANE k) 0x090
  let ns := (List.range 8).filterMap fun t =>
    let l := SMap.get s.whrl.lines Line.reset t
    if bit m t && l.running then some l.nominal else none
  minBy id ns

end Sys2Proof.Machine
end

