-- ==== Sys2Proof/Machine/Trip.lean ====
section
/-!
DEFINITION. Trip outputs and the publication builder as strands and modes act on them (15_publish_trip_io.md R484 to
R496, 02_tagged_words.md R59 to R61, 18_selvedge.md R589).
-/

namespace Sys2Proof.Machine

/-! ### Plies under comparison -/

/-- The unit name of a bobbin (R574). -/
def bobUnit (b : Nat) : UnitId := ⟨RUnit.bob.cls, b, 0⟩

/-- The plies that take part in a release: those not waiting for their rebuild (R390). -/
def livePlies (x : Strand) : List Nat :=
  (List.range x.plies.length).filter fun j => match x.plies[j]? with | some p => !p.rebuild | none => false

/-- The plies of a release that can still send: a ply that is FAULTED, SUSPENDED or FREE never runs on (R342, R364). -/
def sendPlies (x : Strand) : List Nat :=
  (livePlies x).filter fun j => match x.plies[j]? with
    | some p => decide (p.st ≠ .faulted ∧ p.st ≠ .suspended ∧ p.st ≠ .free)
    | none => false

/-- A ply that counts as missing whatever it has sent (R343, R492). -/
def plyGone (x : Strand) (j : Nat) : Bool :=
  match x.plies[j]? with | some p => decide (p.st = .faulted) | none => true

/-- The bobbins of some plies, as units the error names (R578). -/
def plyUnits (x : Strand) (js : List Nat) : List UnitId :=
  js.filterMap fun j => (x.plies[j]?).map fun p => bobUnit p.bob

/-- What a comparison has come to: still open, a match with the plies that differ from it, or a difference. -/
inductive Verdict (α : Type) where
  | wait
  | act (w : α) (odd : List Nat)
  | differ (odd : List Nat)
  deriving DecidableEq, Repr

/-- The judgement of R487 and R492 over the words of the plies `js`, `closed` once the window has ended and `all` once every ply has
given its word, from when on a ply without one that counts is missing: one ply acts at once, two must agree, two of three suffice. -/
def judge {α : Type} [DecidableEq α] (js : List Nat) (got : List (Nat × α)) (closed : Bool) (all : Bool := closed) : Verdict α :=
  let missing := js.filter fun j => decide (j ∉ got.map (·.1))
  match js.length with
  | 0 | 1 => match got with
    | e :: _ => .act e.2 []
    | [] => if closed then .differ js else .wait
  | 2 => match got with
    | [a, b] => if a.2 = b.2 then .act a.2 [] else .differ js
    | _ => if closed then .differ missing else .wait
  | _ =>
    match got.find? fun e => decide (2 ≤ (got.filter fun f => decide (f.2 = e.2)).length) with
    | some e => .act e.2 (((got.filter fun f => decide (f.2 ≠ e.2)).map (·.1)) ++ (if closed || all then missing else []))
    | none => if closed then .differ js else .wait

/-- Every ply named stands on a bobbin halted in place at FULL level (21_debug_snag.md R672). -/
def pliesHalted (s : State) (x : Strand) (js : List Nat) : Bool :=
  decide (js ≠ []) && decide (dbgLevel s = 2) &&
    js.all fun j => match x.plies[j]? with | some p => decide ((core s p.bob).pstate = .halted) | none => false

/-- PLY_MISMATCH with the plies it names, and its SOE record of kind 4: NUMBER, and the first word (R492, R509, R547). -/
def plyMismatch (s : State) (idx number : Nat) (odd : List Nat) (w : TWord) : State :=
  match strand s idx with
  | none => s
  | some x =>
    soe (raiseErr s pgTRIP 0 0 (plyUnits x odd) false (pliesHalted s x odd)) 4 RUnit.trip.cls number w.tag w.pay x.id

/-! ### Outputs -/

/-- An output. -/
def outp (s : State) (n : Nat) : Out := SMap.get s.pio.outs Out.reset n

/-- An output replaced. -/
def setOut (s : State) (n : Nat) (o : Out) : State :=
  { s with pio := { s.pio with outs := SMap.set s.pio.outs Out.reset n o } }

/-- TRIP_CFGn as it is in effect (R508). -/
def outCfg (s : State) (n : Nat) : W32 := SMap.get s.pio.tripCfg 0x01320A09 n

/-- MIN_ON in sixteenths of a nanosecond (R507). -/
def minOn (s : State) (n : Nat) : Nat := bits (outCfg s n) 8 8 * 10 * msN

/-- VOTE_WIN and PUB_WIN (R507). -/
def voteWin (s : State) : Nat := bits s.pio.tripCtl 8 8 * 1600
def pubWin (s : State) : Nat := bits s.pio.tripCtl 16 8 * 1600

/-- Outputs are driven in the modes of R494. -/
def Mode.drives : Mode → Bool
  | .run | .degraded | .test => true
  | _ => false

/-- The strand's outputs are held because it is a shadow, or because its shadow has taken over (R494, R403, R405). -/
def strandHeld (s : State) (idx : Nat) : Bool :=
  match strand s idx with
  | some x => if x.shadowOf.isSome then !x.taken else x.yielded
  | none => false

/-- The output is held (R494): every mode that does not drive the pins counts (log entry 20). -/
def outHeld (s : State) (n : Nat) : Bool :=
  !(curMode s).drives || (match (outp s n).owner with | some i => strandHeld s i | none => false)

/-- The ID of an output's owner. -/
def ownerId (s : State) (n : Nat) : W32 :=
  match (outp s n).owner.bind (strand s) with | some x => x.id | none => 0

/-- A record of TRIP about an output (R547). -/
def tripSoe (s : State) (n sub kind : Nat) (w : TWord) : State :=
  soeAt s (cntAt s sub) kind RUnit.trip.cls n w.tag w.pay (ownerId s n)

/-- The part of the running REF_IN period after which an edge comes whose command carries no instant, a release's or a mode
change's: a free value (R305; log entry 139). -/
def elapsed (s : State) : Nat × State :=
  let (v, s1) := freeWord s
  (v.toNat % max 1 (clkPeriod s / 2 ^ 28), s1)

/-- The pin is driven (R493, R496): an edge is recorded with its command; a pin that stands already changes nothing. The
record of an edge that no command brought about carries a free word (log entry 21). -/
def drivePin (s : State) (n sub : Nat) (op : Bool) (cmd : Option TWord) : State :=
  let o := outp s n
  if o.operated = op then setOut s n { o with deferred := none }
  else
    let s1 := setOut s n { o with operated := op, onSince := s.now + sub, deferred := none }
    match cmd with
    | some w => tripSoe s1 n sub 1 w
    | none =>
      let (v, s2) := freeWord s1
      tripSoe s2 n sub 1 (TWord.ofTag (v.toNat / 2 ^ 32 % 256) (v.setWidth 32))

/-- A reset within MIN_ON is deferred (R493). -/
def driveOrDefer (s : State) (n sub : Nat) (op : Bool) (cmd : TWord) : State :=
  let o := outp s n
  if !op && o.operated && decide (s.now + sub < o.onSince + minOn s n) then
    setOut s n { o with deferred := some (o.onSince + minOn s n, cmd) }
  else drivePin s n sub op (some cmd)

/-- The steps of R493 for a command that is acted on. -/
def tripAct (s : State) (n sub : Nat) (c : TWord) : State :=
  if outHeld s n then raiseIrq (tripSoe s n sub 3 c) pgTRIP 1
  else if c.q.tst && decide (curMode s ≠ .test) then
    raiseIrq (bumpWrap (tripSoe s n sub 2 c) pgTRIP 0x09C 2) pgTRIP 1
  else if c.q.val = .questionable && !bit (outCfg s n) 2 then s
  else if decide (2 ≤ c.q.val.code) then
    if bit (outCfg s n) 3 then driveOrDefer s n sub false c else s
  else driveOrDefer s n sub (bit c.pay 0) c

/-- A group resolved as a match (R492, R494, R495): after SAFE its first match ends the FAILSAFE state; the pin changes
only when the checker agrees (R589). -/
def tripMatch (s : State) (n sub : Nat) (c : TWord) (agree : Bool) : State :=
  let o := outp s n
  let s1 := setOut s n { o with lastMatch := some c, fs := o.fs && decide (curMode s = .safe) }
  if agree then tripAct s1 n sub c else raiseErr s1 pgSELV 2

/-- A group that did not resolve (R492): the mismatch, its record, its count and the policy MPOL, which leaves an output in its FAILSAFE
state until its first match (R495). -/
def tripDiffer (s : State) (n sub idx : Nat) (odd : List Nat) (c : TWord) (agree : Bool) : State :=
  let s1 := bumpWrap (plyMismatch s idx n odd c) pgTRIP 0x098 2
  if !agree then raiseErr s1 pgSELV 2
  else if outHeld s1 n || (outp s1 n).fs then s1
  else match bits (outCfg s1 n) 0 2 with
    | 1 => driveOrDefer s1 n sub false c
    | 2 => driveOrDefer s1 n sub true c
    | _ => s1

/-- The groups of an output without group k. -/
def dropGroup (s : State) (n k : Nat) : State :=
  let o := outp s n
  setOut s n { o with groups := o.groups.filter fun g => decide (g.k ≠ k) }

/-- The groups of an output with group g put in place of its namesake. -/
def putGroup (s : State) (n : Nat) (g : Group) : State :=
  let o := outp (dropGroup s n g.k) n
  setOut s n { o with groups := o.groups ++ [g] }

/-- Group k of an output is closed, and takes no command more in this release (R492). -/
def closeGroup (s : State) (n : Nat) (g : Group) : State := putGroup s n { g with closed := true }

/-- The plies whose words of an acted group differ from its match. -/
def groupOdd (cmds : List (Nat × TWord)) : List Nat :=
  match judge (List.range 3) cmds false with | .act _ odd => odd | _ => []

/-- A group is judged again: at a command, or at its close (R492). A ply that has become FAULTED after its command is missing. -/
def groupStep (s : State) (idx n sub : Nat) (x : Strand) (g : Group) (closed agree : Bool) : State :=
  let js := livePlies x
  let got := g.cmds.filter fun e => !plyGone x e.1
  let first := match g.cmds with | e :: _ => e.2 | [] => voidWord
  let all := closed || decide (js.length ≤ g.cmds.length)
  match judge js got closed all with
  | .wait => putGroup s n g
  | .differ odd => tripDiffer (closeGroup s n g) n sub idx odd first agree
  | .act w odd =>
    let s1 := if g.acted then s else tripMatch s n sub w agree
    if all then
      let s2 := closeGroup s1 n g
      if odd = [] then s2 else bumpWrap (plyMismatch s2 idx n odd first) pgTRIP 0x098 2
    else putGroup s1 n { g with acted := true }

/-- TRIP.SET hands a command of ply j to TRIP: it joins the group of its ordinal in this release (R491), unless that has closed (R492). -/
def tripSet (s : State) (idx j n sub : Nat) (w : TWord) (agree : Bool) : State :=
  match strand s idx, ply? s idx j with
  | some x, some p =>
    let k := SMap.get p.trips 0 n + 1
    let s1 := modPly s idx j fun p => { p with trips := SMap.set p.trips 0 n k }
    match (outp s1 n).groups.find? fun g => decide (g.k = k) with
    | some g => if g.closed then s1 else groupStep s1 idx n sub x { g with cmds := g.cmds ++ [(j, w)] } false agree
    | none => groupStep s1 idx n sub x ⟨k, [(j, w)], s.now + sub, false, false⟩ false agree
  | _, _ => s

/-- The close of group k of output n, at VOTE_WIN or at the owner's next release (R492). -/
def groupClose (s : State) (n k sub : Nat) (agree : Bool) : State :=
  match (outp s n).groups.find? fun g => decide (g.k = k), (outp s n).owner with
  | some g, some idx => match strand s idx with
    | some x => if g.closed then s else groupStep s idx n sub x g true agree
    | none => dropGroup s n k
  | _, _ => s

/-- An output is held in its state (R494), in BLOCKED or for its strand; in the other modes that drive no pin it has been reset. -/
def outKept (s : State) (n : Nat) : Bool :=
  decide (curMode s = .blocked) || (match (outp s n).owner with | some i => strandHeld s i | none => false)

/-- At a release of its owner the groups of an output close and are gone, and a holding that has ended drives the state of the last
match, which passes the steps of R493 (R59, R60, R491, R492, R494). -/
def outRelease (s : State) (n : Nat) : State :=
  let (sub, s0) := elapsed s
  let ks := (outp s0 n).groups.map (·.k)
  let s1 := ks.foldl (fun u k => dropGroup (groupClose u n k sub true) n k) s0
  let o := outp s1 n
  if outHeld s1 n then setOut s1 n { o with held := o.held || outKept s1 n }
  else if o.held then
    let s2 := setOut s1 n { o with held := false }
    match o.lastMatch with
    | some w => if o.fs then s2 else tripAct s2 n sub w
    | none => s2
  else s1

/-- The outputs of a strand. -/
def outsOf (s : State) (idx : Nat) : List Nat :=
  (s.pio.outs.filter fun p => decide (p.2.owner = some idx)).map (·.1)

/-- What the outputs do as the mode changes (R494, R495); a reset ends a holding and what it has kept. -/
def tripMode (s : State) (m : Mode) : State :=
  let (sub, s0) := elapsed s
  (List.range 32).foldl (fun u n =>
    let o := outp u n
    match m with
    | .off | .keep => setOut u n { Out.reset with owner := o.owner }
    | .safe =>
      let u1 := match bits (outCfg u n) 4 2 with
        | 0 => drivePin u n sub false none
        | 2 => drivePin u n sub true none
        | _ => u
      setOut u1 n { outp u1 n with fs := true, deferred := none }
    | .blocked => setOut u n { o with held := true }
    | .run | .degraded | .test => u
    | _ => if o.fs then u
      else
        let u1 := drivePin u n sub false none
        setOut u1 n { outp u1 n with held := false, lastMatch := none }) s0

/-! ### The publication builder -/

/-- A loaded publication. -/
def pub? (s : State) (slot : Nat) : Option Pub := SMap.get s.pio.pubs none slot

/-- A publication replaced. -/
def setPub (s : State) (slot : Nat) (x : Pub) : State :=
  { s with pio := { s.pio with pubs := SMap.set s.pio.pubs none slot (some x) } }

/-- Members of a publication (R484). -/
def pubMembers (e : List W32) : Nat := bits (dword e 8) 21 6 + 1

/-- FORM and its argument of member m (R485). -/
def memForm (x : Pub) (m : Nat) : Nat := bits (x.fmt.getD m 0) 0 3
def memArg (x : Pub) (m : Nat) : Nat := bits (x.fmt.getD m 0) 3 6

/-- A ply's working image. -/
def pubImage (x : Pub) (j : Nat) : List TWord :=
  (List.range (pubMembers x.entry)).map fun m => SMap.get x.work voidWord (j * 64 + m)

/-- The TYPE a FORM demands (R477); FORM 7 has none. -/
def formTy : Nat → Option Ty
  | 0 | 2 | 4 | 6 => some .nat | 1 => some .int | 3 => some .flt | 5 => some .tim | _ => none

/-- A commit that R486 refuses: a VOID word, a TYPE that does not match, an SV member not INT. -/
def imageBad (x : Pub) (slot : Nat) (im : List TWord) : Bool :=
  (List.range im.length).any fun m =>
    let w := im.getD m voidWord
    if 512 ≤ slot then decide (w.ty ≠ .int)
    else if memForm x m = 6 then false
    else decide (w.ty = .void) || decide (some w.ty ≠ formTy (memForm x m))

/-- The Quality derived from a tag (R61), its first bit in [12]: validity 0 and 1, oldData 7, source 10, test 11. The
places are those of IEC 61850-7-3 (PRESUMED, log entry 22). -/
def qualityOf (q : Qual) (subst : Bool) : W32 :=
  let v := match q.val with | .good => 0 | .questionable => 0x1800 | .invalid => 0x0800 | .absent => 0x0820
  w32 (v + at' q.tst 1 + at' (q.der && subst) 2)

/-- The quality attribute of an SV value (R61): validity in [1:0], oldData in [7], source in [10], test in [11], derived in
[13], in the places of R53's reading. Which of the two encodings a slot uses its entry does not state: free, log entry 145. -/
def svAttr (q : Qual) (le subst : Bool) : W32 :=
  let v := match q.val with | .good => 0 | .questionable => 3 | .invalid => 1 | .absent => 0x81
  w32 (v + at' q.tst 11 + (if le then at' (q.der && subst) 10 else at' q.der 13))

/-- TimeQuality of a TIM cell's VAL (R53, R488): ClockFailure 0x40, ClockNotSynchronized 0x20, accuracy as R488. -/
def timeQual (v : Val) : Nat :=
  match v with | .good => 20 | .questionable => 0x20 + 31 | _ => 0x60 + 31

/-- Nanoseconds as the 24-bit fraction of UtcTime. -/
def fraction24 (ns : Nat) : Nat := ns * 2 ^ 24 / 1000000000

/-- UTC_OFFSET of the station time page, a signed number of seconds (R302). -/
def utcOff (s : State) : Int := (BitVec.ofNat 16 (rd s pgSTC 0x0DC).toNat).toInt

/-- Seconds of UTC at a second of the station time (R302). -/
def utcOf (s : State) (sec : Nat) : Nat := (((sec : Int) - utcOff s) % 2 ^ 48).toNat

/-- allData of an image (R485, R61): one value for each member; a UtcTime is its UTC seconds and then its fraction with
the TimeQuality in the low byte. -/
def encodeImage (s : State) (x : Pub) (im : List TWord) : List W32 :=
  let at5 (m : Nat) : Nat := ((List.range m).reverse.takeWhile fun i => decide (memForm x i = 5)).length
  (List.range im.length).map fun m =>
    let w := im.getD m voidWord
    match memForm x m with
    | 0 => w32 (bits w.pay 0 1)
    | 4 => w32 (bits w.pay 0 (memArg x m + 1))
    | 5 => if at5 m % 2 = 0 then w32 (utcOf s w.pay.toNat)
           else w32 (fraction24 (bits w.pay 0 30) * 256 + timeQual w.q.val)
    | 6 => qualityOf (im.getD (memArg x m) voidWord).q (bit (dword x.entry 0) 20)
    | _ => w.pay

/-- A status count of a publication raised (R483). -/
def pubStat (x : Pub) (i n : Nat) : Pub := { x with stat := modAt (fun v => w32 (v.toNat + n)) i x.stat }

/-- The header of a publication's frames: its DA, VID and PRIO, the EtherType of GOOSE or SV (R445, R446, R484). -/
def pubHead (s : State) (x : Pub) (k : Nat) (b : TxBody) : TxHead :=
  ⟨(dword x.entry 2).toNat + bits (dword x.entry 3) 0 16 * 2 ^ 32, laneMac s k, bits (dword x.entry 1) 16 12, bits (dword x.entry 1) 29 3,
    match b with | .sv .. => 0x88BA | _ => 0x88B8⟩

/-- A publication frame is queued in class 0 on its lane or pair (R457, R484), authenticated by the key of its entry where AUTH is 1
(R448); with no key that can be used there is no frame to send (DESIGN CHOICE, log entry 178). Its length is the encoding's, which
the spec leaves to IEC 61850: a free value within R444 (log entry 23). -/
def pubSend (s : State) (x : Pub) (b : TxBody) : State :=
  let (v, s1) := free32 s
  let k := bits (dword x.entry 0) 4 7
  let auth := bit (dword x.entry 0) 1
  let key := txAuth s1 (bits (dword x.entry 11) 0 10)
  let f : TxFrame := ⟨0, 64 + v.toNat % 1473, b, some (pubHead s1 x k b), if auth then key else none, .none, s.now, false⟩
  if auth && key.isNone then s1
  else if bit (dword x.entry 0) 3 then laneSend s1 k f
  else laneQueue s1 k f

/-- Publications are sent in the modes of R494, and not for a strand whose outputs are held. -/
def pubOpenFor (s : State) (idx : Nat) : Bool := (curMode s).drives && !strandHeld s idx

/-- SmpSynch of R490. -/
def smpSynch (s : State) : Nat :=
  match s.stc.st with
  | .locked => if s.stc.traceable then 2 else 1
  | .holdover => 1
  | _ => 0

/-- The accepted image of a commit leaves as a frame (R488 to R490); a GOOSE commit that changes nothing sends none. -/
def pubFrame (s : State) (slot : Nat) (x : Pub) (im : List TWord) (tick sub : Nat) : State :=
  let own := pubOwner x.entry
  if !pubOpenFor s own then setPub s slot x
  else if 512 ≤ slot then
    let rate := match strand s own with
      | some y => tlRate s (dTl y.decl)
      | none => 0
    let quals := im.map fun w => (svAttr w.q (Config.svLe slot) (bit (dword x.entry 0) 20)).toNat
    let s1 := setPub s slot (pubStat x 0 1)
    pubSend s1 x (.sv slot tick rate (smpSynch s) (im.map (·.pay)) quals)
  else
    let data := encodeImage s x im
    if x.stNum ≠ 0 && decide (data = x.last) then setPub s slot x
    else
      let st := if x.stNum = 4294967295 then 1 else x.stNum + 1
      let c := cntAt s sub
      let tq := match s.stc.st with
        | .locked => 20 | .unset => 0x60 + 31 | _ => 0x20 + 31
      let t0 := bits (dword x.entry 10) 0 14
      let sec := utcOf s (secOf c)
      let y := { pubStat x 0 1 with
        last := data, stNum := st, sqNum := 0, tSec := sec, tNs := nsOf c, tq := tq, interval := t0
        due := some (s.now + sub + t0 * 1600000)
        stat := ((pubStat x 0 1).stat.set 6 (w32 st)).set 7 0 }
      pubSend (setPub s slot y) y (.goose slot st 0 (2 * t0) sec (nsOf c) tq (decide (curMode s = .test)) data)

/-- A publication comparison is judged (R487), at a commit or at its close; the frame leaves only when the checker of the
builder agrees (R589). -/
def pubJudge (s : State) (slot : Nat) (x : Pub) (y : Strand) (closed agree : Bool) (sub : Nat) : State :=
  match x.open' with
  | none => setPub s slot x
  | some (_, tick, ims) =>
    let own := pubOwner x.entry
    let js := livePlies y
    let first := match ims with | e :: _ => e.2.headD voidWord | [] => voidWord
    let all := closed || decide (js.length ≤ ims.length)
    let odd (u : State) (os : List Nat) : State :=
      bumpWrap (plyMismatch u own (0x100 + slot) os first) pgTRIP 0x0A0 2
    match judge js (ims.filter fun e => !plyGone y e.1) (closed || (all && decide (js.length = 3))) all with
    | .wait => setPub s slot x
    | .differ os => raiseErr (odd (setPub s slot (pubStat { x with open' := none, sentPair := false, ended := true } 1 1)) os) pgTRIP 1 0
        (plyUnits y os) false (pliesHalted s y os)
    | .act im os =>
      let s1 :=
        if x.sentPair then setPub s slot x
        else if agree then pubFrame s slot x im tick sub
        else raiseErr (setPub s slot x) pgSELV 3
      let z := (pub? s1 slot).getD x
      if all then
        let s2 := setPub s1 slot { (if os = [] then z else pubStat z 1 1) with open' := none, sentPair := false, ended := true }
        if os = [] then s2 else odd s2 os
      else setPub s1 slot { z with sentPair := true }

/-- PUB.WR writes a member of ply j's image (R140, R485, R486); after the commit of the slot it writes the next release's, which YIELD
does not commit. -/
def pubWrite (s : State) (idx j slot m : Nat) (w : TWord) : State :=
  match pub? s slot with
  | none => s
  | some x =>
    let s1 := modPly s idx j fun p =>
      { p with pubOpen := if slot ∈ p.pubOpen ∨ slot ∈ p.pubDone then p.pubOpen else p.pubOpen ++ [slot] }
    if memForm x m = 6 ∧ slot < 512 then s1
    else setPub s1 slot { x with work := SMap.set x.work voidWord (j * 64 + m) w }

/-- Ply j commits a slot (R486): refused or second commits are counted and cause nothing, and one after the comparison of its release
has closed finds none open (R487). -/
def pubCommit (s : State) (idx j slot sub : Nat) (agree : Bool) : State :=
  match pub? s slot, strand s idx, ply? s idx j with
  | some x, some y, some p =>
    if slot ∈ p.pubDone then setPub s slot (pubStat x 3 1)
    else
      let s1 := modPly s idx j fun p =>
        { p with pubDone := p.pubDone ++ [slot], pubOpen := p.pubOpen.filter (· ≠ slot) }
      let im := pubImage x j
      if imageBad x slot im then setPub s1 slot (pubStat x 2 1)
      else if x.ended then s1
      else
        let op := match x.open' with
          | some (t, k, l) => (t, k, l ++ [(j, im)])
          | none => (s.now + sub, p.tick, [(j, im)])
        pubJudge s1 slot { x with open' := some op } y false agree sub
  | _, _, _ => s

/-- A comparison closes, at PUB_WIN or at the owner's next release (R487). -/
def pubClose (s : State) (slot : Nat) (agree : Bool) : State :=
  match pub? s slot with
  | none => s
  | some x => match strand s (pubOwner x.entry) with
    | none => setPub s slot { x with open' := none, sentPair := false }
    | some y => pubJudge s slot x y true agree 0

/-- The release of a comparison's owner: a comparison still open closes, and the next release has its own (R487). -/
def pubRelease (s : State) (slot : Nat) : State :=
  let s1 := pubClose s slot true
  match pub? s1 slot with
  | some x => setPub s1 slot { x with ended := false }
  | none => s1

/-- The publication slots of a strand. -/
def pubsOf (s : State) (idx : Nat) : List Nat :=
  (s.pio.pubs.filter fun p => match p.2 with | some x => decide (pubOwner x.entry = idx) | none => false).map (·.1)

/-- The drain point of ply j: slots written and not committed are committed (R140, R352 step 7). -/
def pubDrain (s : State) (idx j : Nat) (agree : Bool) : State :=
  match ply? s idx j with
  | none => s
  | some p => p.pubOpen.foldl (fun u slot => pubCommit u idx j slot 0 agree) s

end Sys2Proof.Machine
end

