-- ==== Sys2Proof/Machine/Release.lean ====
section
/-!
DEFINITION. Releases, triggers and messages of strands (11_strands_whorl.md R344 to R346, R352, R358, R361 to R368), the
decision log and the abort of a migration (12_pricking_plying.md R391, R392, R406).
-/

namespace Sys2Proof.Machine

/-! ### The decision log (R406) -/

/-- The eight words of a record (R406). -/
def LogRec.words' (r : LogRec) (seq : Nat) : List W32 :=
  [w32 (r.kind + r.reason * 2 ^ 8 + r.ply * 2 ^ 16), r.id, w32 (r.src + r.dst * 2 ^ 8 + r.words % 65536 * 2 ^ 16),
   w32 r.sec, w32 r.ns, w32 r.dur, w32 (r.line + r.tick % 2 ^ 17 * 8), w32 seq]

/-- A record goes to the ring in host memory, or is dropped and counted when the ring is full. The ring is full when one place
is left (DEDUCED, log entry 24). -/
def logWrite (s : State) (r : LogRec) : State :=
  let n := 2 ^ rdF s pgPRCK 0x0B8 0 5
  let h := rdF s pgPRCK 0x0BC 0 20
  let t := rdF s pgPRCK 0x0C0 0 20
  let nh := (h + 1) % n
  if nh = t % n then bumpSat s pgPRCK 0x0B8 16 16 1
  else
    let base := (rd s pgPRCK 0x0B0).toNat + rdF s pgPRCK 0x0B4 0 16 * 2 ^ 32
    if physBad s (base + 32 * h) 32 then raiseErr s pgHIF 0
    else
      let s1 := physSetList s (base + 32 * h) (wordBytes (r.words' s.prck.logSeq))
      let s2 := wr { s1 with prck := { s1.prck with logSeq := (s1.prck.logSeq + 1) % 2 ^ 32 } } pgPRCK 0x0BC (w32 nh)
      if (nh + n - t % n) % n = n / 2 then raiseIrq s2 pgPRCK 2 else s2

/-- DECISION_LOG_WRITE: with LOG_EN 1 a decision is recorded, once the host's clock runs (R20, R406). -/
def prckLog (s : State) (r : LogRec) : State :=
  if !rdB s pgPRCK 0x0B8 8 then s
  else if s.hif.hostClock then logWrite s r
  else { s with hif := { s.hif with dma := s.hif.dma ++ [.log r] } }

/-- A record of a decision about ply j of a strand, stamped now. -/
def prckLogNow (s : State) (kind reason idx j src dst words : Nat) : State :=
  let id := match strand s idx with | some x => x.id | none => 0
  let tl := match strand s idx with | some x => dTl x.decl | none => 0
  let t := nowAt s s.prck.logSeq
  prckLog s ⟨kind, reason, j, id, src, dst, words, secOf t, nsOf t, 0, tl, (SMap.get s.whrl.lines Line.reset tl).tick⟩

/-! ### Migrations (R391 to R393) -/

/-- The migration of a ply. -/
def migOf (s : State) (idx j : Nat) : Option Mig := s.prck.migs.find? fun m => decide (m.idx = idx ∧ m.ply = j)

/-- Moves that R384 does not limit and R393 calls mandatory: rota, retirement, ply rebuild. -/
def mandatory (reason : Nat) : Bool := decide (reason = 4 ∨ reason = 5 ∨ reason = 6)

/-- A migration aborts: the source stays the only copy, the target's reservations are freed, and the move is wanted
again; a mandatory one that fails four times is reported (R392, R393). -/
def abortMig (s : State) (m : Mig) : State :=
  let s1 := { s with prck := { s.prck with
    migs := s.prck.migs.filter (fun x => decide (x ≠ m))
    own := s.prck.own.filter fun e => decide (e.1 ∉ m.res)
    wants := s.prck.wants.map fun w => if w.idx = m.idx ∧ w.ply = m.ply then { w with tries := w.tries + 1 } else w } }
  let s2 := prckLogNow (bumpWrap s1 pgPRCK 0x0C8 4) 3 m.reason m.idx m.ply m.src m.dst m.words
  if mandatory m.reason && (s2.prck.wants.any fun w => decide (w.idx = m.idx ∧ w.ply = m.ply ∧ w.tries = 4)) then
    condErr s2 pgPRCK 3
  else s2

/-- No mandatory move that has failed four times waits any longer: the condition is over (R9, R393). -/
def stuckEnd (s : State) : State :=
  if s.prck.wants.any fun w => mandatory w.reason && decide (4 ≤ w.tries) then s else condEnd s pgPRCK 3

/-- Every migration of a strand aborts. -/
def abortMigs (s : State) (idx : Nat) : State :=
  (s.prck.migs.filter fun m => decide (m.idx = idx)).foldl abortMig s

/-! ### Tick lines (R346, R349, R371) -/

/-- A tick line. -/
def tline (s : State) (n : Nat) : Line := SMap.get s.whrl.lines Line.reset n
/-- A line replaced. -/
def setLine (s : State) (n : Nat) (x : Line) : State :=
  { s with whrl := { s.whrl with lines := SMap.set s.whrl.lines Line.reset n x } }
/-- Tick k of second `sec`, rounded down to 2⁻¹⁶ ns, in 2⁻³² ns (R346). -/
def tickNominal (sec k rate : Nat) : Nat := sec * secU + k * (1000000000 * 2 ^ 16) / max 1 rate * 2 ^ 16

/-- The first tick of a fixed line at or after a counter value: its number and nominal instant. -/
def tickFrom (rate c : Nat) : Nat × Nat :=
  let sec := c / secU
  let k := ((c % secU) * rate + secU - 1) / secU
  let k' := if tickNominal sec (k - 1) rate < c then k else k - 1
  if rate ≤ k' then (0, (sec + 1) * secU) else (k', tickNominal sec k' rate)

/-- The deadline of a release at tick k (R352 step 8): the close, with its window in full, of the next tick at which the
trigger matches. An early close is not known before it comes. -/
def nextMatch (s : State) (d : List W32) (k nominal : Nat) : Nat :=
  let n := dTl d
  let rate := tlRate s n
  let sec := nominal / secU
  if tlMode s n = 1 then
    (if k + dDiv d < rate then tickNominal sec (k + dDiv d) rate else tickNominal (sec + 1) (dPhase d) rate) + tlWindow s n
  else nominal + dDiv d * (tline s n).period

/-! ### Messages (R362 to R366) -/

/-- Message buffers of a pillow in use: those that the queues of its plies name (R362). -/
def poolBufs (s : State) (p : Nat) : List Nat :=
  s.whrl.strands.flatMap fun e => match e.2 with
    | none => []
    | some x => (x.plies.filter fun y => decide (pilOf y.bob = p)).flatMap (·.queue)

/-- The bank address of buffer b of pillow p (R362). -/
def bufAddr (p b : Nat) : Nat := bankAddr p 5 (10 * b)

/-- A message as its words: a header, the sender's ID, the payload (R362). The header holds k as NAT (DESIGN CHOICE, log entry
143). -/
def Msg.image (m : Msg) : List TWord := TWord.nat (w32 m.words.length) :: TWord.nat m.sender :: m.words

/-- The message that the words of an image spell. -/
def Msg.ofImage (ws : List TWord) : Msg :=
  ⟨(ws.getD 1 voidWord).pay, (ws.drop 2).take (min 8 (ws.getD 0 voidWord).pay.toNat)⟩

/-- The message in a buffer. -/
def msgAt (s : State) (p b : Nat) : Msg := Msg.ofImage (bankGetList s (bufAddr p b) 10)

/-- A message dropped: MSG_DROP is raised as DROPPED, which saturates, increases (R364, R372, R374). -/
def msgDropped (s : State) : State :=
  if rdF s pgWHRL 0x09C 0 16 = 65535 then s else raiseIrq (bumpSat s pgWHRL 0x09C 0 16 1) pgWHRL 18

/-- A message appended to ply j's queue, in the lowest free buffer of its pillow; one that finds queue or pool full is dropped
(R362, R364). -/
def queueMsg (s : State) (idx j : Nat) (m : Msg) : State :=
  match strand s idx, ply? s idx j with
  | some x, some p =>
    let used := poolBufs s (pilOf p.bob)
    match if p.queue.length < dQueue x.decl then (List.range 2048).find? fun b => decide (b ∉ used) else none with
    | some b =>
      modPly (bankSetList s (bufAddr (pilOf p.bob) b) m.image) idx j fun p => { p with queue := p.queue ++ [b] }
    | none => msgDropped s
  | _, _ => s

/-- The receiver has room: its queue and its pillow's pool, in every ply (R141, R362). -/
def hasRoom (s : State) (x : Strand) : Bool :=
  x.plies.all fun p => decide (p.queue.length + x.held.length < dQueue x.decl) &&
    decide ((poolBufs s (pilOf p.bob)).length < 2048)

/-- A destination on this engine has room: its queues and pools, or the overflow store where it is not resident (R362,
R366). -/
def destRoom (s : State) (x : Strand) : Bool :=
  match x.plies with
  | [p] => if p.slot.isNone then decide (s.whrl.overflow.length < 4096) else hasRoom s x
  | _ => hasRoom s x

/-- The messages held for a plied strand are appended to every ply's queue in one order (R364). -/
def appendHeld (s : State) (idx : Nat) : State :=
  match strand s idx with
  | none => s
  | some x =>
    x.held.foldl (fun u m => (List.range x.plies.length).foldl (fun v j => queueMsg v idx j m) u)
      (modStrand s idx fun y => { y with held := [] })

/-- The address of slot k of the overflow store: its 16 containers hold a message's image (R366, R552; log entry 143). -/
def ovfAddr (s : State) (k : Nat) : Nat := (rd s pgDRA 0x0AC).toNat * 2 ^ 20 + 128 * k

/-- The message in a slot of the overflow store. -/
def ovfAt (s : State) (k : Nat) : Msg :=
  Msg.ofImage ((List.range 10).map fun i => TWord.ofContainer (BitVec.ofNat 64 (leNat (dramBytes s (ovfAddr s k + 8 * i) 8))))

/-- A message put in the lowest free slot of the overflow store, with the most held kept (R366, R372). -/
def ovfPut (s : State) (idx : Nat) (m : Msg) : State :=
  let used := s.whrl.overflow.map (·.2)
  match (List.range 4096).find? fun k => decide (k ∉ used) with
  | none => msgDropped s
  | some k =>
    let s1 := draWrite s (ovfAddr s k) (m.image.flatMap fun w => leBytes 8 w.container.toNat)
    let s2 := { s1 with whrl := { s1.whrl with overflow := s1.whrl.overflow ++ [(idx, k)] } }
    wrF s2 pgWHRL 0x0A0 16 13 (max (rdF s2 pgWHRL 0x0A0 16 13) s2.whrl.overflow.length)

/-! ### SEND of a strand's plies (R364, R365) -/

/-- The engine's ring pair has a lane with LINK: without one no other engine is reachable (DEDUCED, log entry 147). -/
def ringUp (s : State) : Bool := (List.range 96).any fun k => decide (laneMode s k ≠ 0) && laneRing s k && (lane s k).link

/-- The status of a message that is compared and not transmitted (R364). -/
def sendQuiet (s : State) (dest : W32) : Nat :=
  if idEngine dest = s.glb.engineNum then (if (strand s (idIndex dest)).isSome then 0 else 2)
  else if ringUp s then 0 else 3

/-- Ordinal n's messages of the plies compared once every ply that can still send has sent one, or, `closed`, at the next
release, where those that came are compared (DEDUCED, log entry 148): the odd ply of three, or every one (R364). -/
def sendCompare (s : State) (idx n : Nat) (closed : Bool) : State :=
  match strand s idx with
  | none => s
  | some x =>
    let es := x.sends.filter fun e => decide (e.n = n)
    let got := es.map fun e => (e.ply, (e.dest, e.words))
    if !closed && !((sendPlies x).all fun j => decide (j ∈ got.map (·.1))) then s
    else
      let s1 := modStrand s idx fun y => { y with sends := y.sends.filter fun e => decide (e.n ≠ n) }
      let first := match (es.find? (·.out)).or es.head? with | some e => e.words.headD voidWord | none => voidWord
      match judge (got.map (·.1)) got true with
      | .act _ odd => if odd = [] then s1 else plyMismatch s1 idx 0x300 odd first
      | .differ _ => plyMismatch s1 idx 0x300 (livePlies x) first
      | .wait => s1

/-- The comparisons of SENDs that stand open at a release close (R364). -/
def closeSends (s : State) (idx : Nat) : State :=
  match strand s idx with
  | none => s
  | some x => ((x.sends.map (·.n)).eraseDups).foldl (fun u n => sendCompare u idx n true) s

/-! ### Releases (R345, R352, R361) -/

/-- The engine's mode lets the strand be released (R361). -/
def modeReleases (s : State) (d : List W32) : Bool :=
  (curMode s).runs || (decide (curMode s = .armed) && dWake d)

/-- STC seconds of recent releases, for the rate of R394. -/
def noteRelease (s : State) (x : Strand) : List Nat :=
  let t := secOf s.stc.cnt
  t :: x.recent.filter fun u => decide (t < u + 10)

/-- A release (R352 step 5): every STAGED ply that is not waiting for its rebuild becomes READY in one cycle; held
messages are appended; the strand's groups and comparisons of the release before close; a migration still copying
aborts. -/
def release (s : State) (idx tick deadline : Nat) : State :=
  match strand s idx with
  | none => s
  | some _ =>
    let s0 := (pubsOf s idx).foldl pubRelease (abortMigs s idx)
    let s1 := closeSends ((outsOf s0 idx).foldl outRelease s0) idx
    match strand s1 idx with
    | none => s1
    | some x =>
      let s2 := modStrand s1 idx fun y => { y with
        recent := noteRelease s1 y
        plies := y.plies.map fun p =>
          if p.st = .staged ∧ ¬ p.rebuild then
            { p with st := .ready, deadline := deadline, merged := false, missed := false, preempted := false,
                     tick := tick, tickNum := tick, trips := [], pubOpen := [], pubDone := [], ctxCrc := none, sent := 0 }
          else p }
      let s3 := appendHeld s2 idx
      x.plies.foldl (fun u p =>
        if p.st = .staged ∧ ¬ p.rebuild then
          pmcCount (traceRec u (some p.bob) 4 (ctxGet u idx p 32).pay.toNat x.id) p.bob 7 1
        else u) s3

/-- A trigger other than a tick arrives (R345): a STAGED strand is released; on one that is READY, RUNNING or WAITING it
is merged; a PARKED strand is staged for it (R366, R395). The tick of a release that no tick brings is the number of the tick
that closes next on the line that TL names: R336 uses TL for tick triggers only, so R144 leaves it open (DESIGN CHOICE, log
entry 149). -/
def trigger (s : State) (idx : Nat) : State :=
  match strand s idx with
  | none => s
  | some x =>
    if !modeReleases s x.decl then s
    else
      let busy := x.plies.any fun p => decide (p.st = .ready ∨ p.st = .running ∨ p.st = .waiting)
      if busy then modStrand s idx fun y => { y with plies := y.plies.map fun p => { p with merged := true } }
      else if x.plies.any fun p => decide (p.st = .parked) then
        modStrand s idx fun y => { y with plies := y.plies.map fun p =>
          if p.st = .parked then { p with staging := true, merged := true } else p }
      else if x.plies.any fun p => decide (p.st = .staged) then
        release s idx (tline s (dTl x.decl)).tick s.stc.cnt
      else s

/-- Event strands of a KIND and SOURCE are triggered (R344). -/
def triggerEvent (s : State) (kind source : Nat) : State :=
  ((s.whrl.strands.filter fun e => match e.2 with
    | some x => decide (dTrig x.decl = 1 ∧ dKind x.decl = kind ∧ dSource x.decl = source)
    | none => false).map (·.1)).foldl trigger s

/-- A bobbin runs no strand now (R344). -/
def bobIdle (s : State) (b : Nat) : Bool := (core s b).strand.isNone

/-- The message trigger of a strand is judged (R344, R366): at a drain point of its bobbin, `drain`, or while that idles, a STAGED
strand with a message queued is released, and a plied one for which a message is held; a PARKED one whose message lies in the
overflow store is staged. -/
def msgTrigger (s : State) (idx : Nat) (drain : Bool) : State :=
  match strand s idx with
  | none => s
  | some x =>
    if dTrig x.decl ≠ 3 then s
    else if 1 < x.plies.length then
      if x.held ≠ [] ∧ (x.plies.any fun p => decide (p.st = .staged)) = true then trigger s idx else s
    else match x.plies[0]? with
      | none => s
      | some p =>
        if p.st = .parked ∧ (s.whrl.overflow.any fun e => decide (e.1 = idx)) = true then
          modPly s idx 0 fun q => { q with staging := true, merged := true }
        else if p.st = .staged ∧ p.queue ≠ [] ∧ (drain || bobIdle s p.bob) = true then trigger s idx else s

/-- The message triggers of bobbin b's strands, at a drain point or while it idles (R344). -/
def msgRelease (s : State) (b : Nat) : State := (pliesOn s b).foldl (fun u e => msgTrigger u e.1 true) s

/-- A strand in WAITING that a message has reached becomes READY (R142, R342): its queue holds one; of a plied strand every ply
that takes part waits, and the held messages are appended to the queues then, as at a release (DEDUCED, log entry 150). -/
def waitWakes (s : State) (idx : Nat) : State :=
  let ready (u : State) : State := modStrand u idx fun y => { y with plies := y.plies.map fun p =>
    if p.st = .waiting then { p with st := .ready } else p }
  match strand s idx with
  | none => s
  | some x =>
    let js := livePlies x
    if 1 < x.plies.length then
      if x.held ≠ [] ∧ js ≠ [] ∧ (js.all fun j => match x.plies[j]? with
          | some p => decide (p.st = .waiting) | none => false) = true then ready (appendHeld s idx) else s
    else if x.plies.any fun p => decide (p.st = .waiting) && p.slot.isSome && decide (p.queue ≠ []) then ready s else s

/-- A committed message reaches strand idx (R363 to R366): held for a plied strand, put in the overflow store for one
that is not resident, else queued; a strand that waits for a message becomes READY, a message-triggered one is
released. The caller has checked for room. -/
def deliver (s : State) (idx : Nat) (m : Msg) : State :=
  match strand s idx with
  | none => s
  | some x =>
    if 1 < x.plies.length then
      let s1 := waitWakes (modStrand s idx fun y => { y with held := y.held ++ [m] }) idx
      match strand s1 idx with
      | some y => if dTrig y.decl = 3 ∧ y.held ≠ [] then trigger s1 idx else s1
      | none => s1
    else match x.plies[0]? with
      | none => s
      | some p =>
        if p.slot.isNone then
          let s1 := ovfPut s idx m
          if p.st = .waiting then modPly s1 idx 0 fun q => { q with staging := true, merged := true }
          else msgTrigger s1 idx false
        else
          let s1 := queueMsg s idx 0 m
          if p.st = .waiting then waitWakes s1 idx
          else if dTrig x.decl = 3 ∧ (p.st = .ready ∨ p.st = .running) then
            modPly s1 idx 0 fun q => { q with merged := true }
          else msgTrigger s1 idx false

/-- Overflow messages of a strand move to its queue when it is staged (R366). -/
def drainOverflow (s : State) (idx : Nat) : State :=
  ((s.whrl.overflow.filter fun e => decide (e.1 = idx)).map fun e => ovfAt s e.2).foldl (fun u m => queueMsg u idx 0 m)
    { s with whrl := { s.whrl with overflow := s.whrl.overflow.filter fun e => decide (e.1 ≠ idx) } }

/-- A message on its way: the status that SEND gives, and the state after (R141, R365). -/
def sendNow (s : State) (dest : W32) (m : Msg) : Nat × State :=
  if idEngine dest = s.glb.engineNum then
    match strand s (idIndex dest) with
    | none => (2, s)
    | some x => if destRoom s x then (0, deliver s (idIndex dest) m) else (1, s)
  else if !ringUp s then (3, s)
  else (0, interSend s 1 (idEngine dest) (12 + 8 * m.words.length) (.message m.sender dest m.words))

/-- A plied sender's message transmitted: it never receives status 1, and a full receiver loses the message (R364). -/
def sendOne (s : State) (dest : W32) (m : Msg) : Nat × State :=
  match sendNow s dest m with
  | (1, u) => (0, msgDropped u)
  | r => r

/-- A SEND of ply j: the message of the lowest ply that takes part is transmitted, the others' are compared with it (R364). -/
def sendPly (s : State) (idx j : Nat) (x : Strand) (dest : W32) (words : List TWord) : Nat × State :=
  let n := match x.plies[j]? with | some p => p.sent | none => 0
  let lead := decide ((sendPlies x).head? = some j)
  let (st, s1) := if lead then sendOne s dest ⟨x.id, words⟩ else (sendQuiet s dest, s)
  let s2 := modStrand (modPly s1 idx j fun p => { p with sent := p.sent + 1 }) idx fun y =>
    { y with sends := y.sends ++ [⟨n, j, dest, words, lead⟩] }
  (st, sendCompare s2 idx n false)

/-- A ply has left: messages of the ply that is now the lowest, whose ordinal no lower ply has sent, are transmitted, and
comparisons that waited for the ply that left are made (R364). -/
def sendOrphans (s : State) (idx : Nat) : State :=
  match strand s idx with
  | none => s
  | some x =>
    let sent := (x.sends.filter (·.out)).map (·.n)
    let due := x.sends.filter fun e => decide (some e.ply = (sendPlies x).head? ∧ e.n ∉ sent)
    let s1 := due.foldl (fun u e => (sendOne u e.dest ⟨x.id, e.words⟩).2) s
    let s2 := modStrand s1 idx fun y => { y with sends := y.sends.map fun e => if e ∈ due then { e with out := true } else e }
    ((x.sends.map (·.n)).eraseDups).foldl (fun u n => sendCompare u idx n false) s2

/-- A ply that was merged is released again after its YIELD (R345). -/
def afterYield (s : State) (idx : Nat) : State :=
  match strand s idx with
  | none => s
  | some x =>
    if (x.plies.any (·.merged)) && !(x.plies.any fun p => decide (p.st = .ready ∨ p.st = .running ∨ p.st = .waiting)) then
      trigger (modStrand s idx fun y => { y with plies := y.plies.map fun p => { p with merged := false } }) idx
    else s

end Sys2Proof.Machine
end

