-- ==== Sys2Proof/Machine/Stc.lean ====
section
/-!
DEFINITION. The station time counter and its inputs (10_station_time.md R301 to R333): the advance, the servo, sources,
cross-check, holdover, steps, and the meanings of the STC's commands and of REF_IN (01_engine_organisation.md R21).
-/

namespace Sys2Proof.Machine

/-! ### Registers of the page (R331) -/

/-- MODE: 0 free-run, 1 PPS-phased, 2 PPS-servo, 3 PTP-assisted (R312). -/
def stcMode (s : State) : Nat := rdF s pgSTC 0x080 0 2
/-- LOCK_COUNT and UNLOCK_COUNT; 0 is taken as 1. -/
def lockCount (s : State) : Nat := max 1 (rdF s pgSTC 0x08C 8 8)
def unlockCount (s : State) : Nat := max 1 (rdF s pgSTC 0x08C 16 8)
/-- LOCK_THR, UNLOCK_THR, SLEW_LIMIT and CROSS_THR in sixteenths of a nanosecond. -/
def lockThr (s : State) : Nat := rdF s pgSTC 0x090 0 16 * 16
def unlockThr (s : State) : Nat := rdF s pgSTC 0x090 16 16 * 16
def slewLimit (s : State) : Nat := rdF s pgSTC 0x094 0 20 * 16
def crossThr (s : State) : Nat := rdF s pgSTC 0x098 24 8 * 160
/-- WINDOW of the PPS inputs in 2⁻³² ns. -/
def ppsWindow (s : State) : Nat := rdF s pgSTC 0x098 16 8 * 1000 * nsU
/-- PRIO0 to PRIO3 (R318). -/
def prioList (s : State) : List Nat := (List.range 4).map fun i => rdF s pgSTC 0x088 (3 * i) 3

/-- A signed register value. -/
def rdI (s : State) (page off : Nat) : Int := (rd s page off).toInt

/-- A signed number as a register value, saturated. -/
def satReg (x : Int) : W32 := BitVec.ofInt 32 (max (-(2 ^ 31)) (min (2 ^ 31 - 1) x))

/-- Rounding to the nearest whole number, halves away from zero. -/
def roundDiv (a : Int) (b : Nat) : Int :=
  if 0 ≤ a then (2 * a + b) / (2 * b) else -((2 * -a + b) / (2 * b))

/-! ### The advance (R303, R304, R315) -/

/-- The clamp of R303. -/
def trimBound (s : State) : Int :=
  if s.clk.refSel = 0 then 85899346 else if s.clk.refSel = 1 then 42949673 else 34359738

/-- A trim within the clamp. -/
def clampTrim (s : State) (x : Int) : Int := max (-(trimBound s)) (min (trimBound s) x)

/-- The increment of the period that begins, and the part of it that slews: the nominal period plus trim and slewing, or
the internal oscillator's measured period alone (R303, R304, R315). -/
def nextIncr (s : State) : Nat × Int :=
  if s.clk.onIntOsc then (s.clk.intOsc, 0)
  else
    let nom : Int := refPeriod s * 2 ^ 28
    let rate : Int := nom * rdF s pgSTC 0x094 24 8 / 1000000
    let left := s.stc.adjLeft
    let slew : Int :=
      if stcMode s = 1 ∨ stcMode s = 2 then 0
      else if 0 ≤ left then min left rate else max left (-rate)
    ((nom + clampTrim s (rdI s pgSTC 0x0A4) + slew).toNat, slew)

/-- The increment of the next period is taken. -/
def takeIncr (s : State) : State :=
  { s with stc := { s.stc with incr := (nextIncr s).1, slew := (nextIncr s).2 } }

/-! ### States (R307, R308, R321) -/

/-- The trim for a rate of `u` 2⁻²⁰ ns per second (R313). -/
def trimOf (s : State) (u : Int) : Int := clampTrim s (-(roundDiv (u * refPeriod s * 2 ^ 8) 1000000000))

/-- The STC enters a state: LOCKED and UNLOCKED are raised, TRACEABLE moves with it, HOLDOVER freezes the trim at the
estimate, and event strands of KIND 3 SOURCE 1 are triggered (R307, R308, R321, R344). On the internal oscillator the state
does not change (R304), but for the first set, which leaves UNSET (R325; log entry 138). -/
def stcEnter (s : State) (st : StcState) : State :=
  if s.stc.st = st ∨ (s.clk.onIntOsc ∧ s.stc.st ≠ .unset) then s
  else
    let was := s.stc.st
    let tr := match st with
      | .locked => !s.clk.onIntOsc
      | .freeRun | .unset => false
      | _ => s.stc.traceable
    let s1 := { s with stc := { s.stc with
      st := st, expired := false, traceable := tr, wasLocked := s.stc.wasLocked || decide (st = .locked), lockRun := 0, unlockRun := 0 } }
    let s2 := if st = .locked then raiseIrq s1 pgSTC 0 else if was = .locked then raiseIrq s1 pgSTC 1 else s1
    let s3 := if st = .holdover then
        let s' := { s2 with stc := { s2.stc with holdAt := s2.now } }
        if stcMode s' = 2 then wr s' pgSTC 0x0A4 (BitVec.ofInt 32 (trimOf s' s'.stc.est)) else s'
      else s2
    triggerEvent s3 3 1

/-! ### Steps (R317, R351) -/

/-- TL of an SV entry (R471). -/
def svTl (e : List W32) : Nat := bits (dword e 0) 11 3

/-- DEPTH of an SV entry. -/
def svDepth (e : List W32) : Nat := bits (dword e 0) 14 5

/-- Samples noted for a line whose numbers are still to close as its ticks go on: one written for such a number is kept (R57), another
counts for no tick to come (R56). -/
def gotKeep (s : State) (n : Nat) : State :=
  let rate := max 1 (tlRate s n)
  let ahead := fun (x : SvSub) (k : Nat) => decide ((k + rate - (tline s n).tick % rate) % rate + 1 < svDepth x.entry)
  { s with pio := { s.pio with sv := s.pio.sv.map fun e => (e.1, e.2.map fun x =>
      if svTl x.entry = n then { x with got := x.got.filter (ahead x) } else x) } }

/-- A fixed line takes its next tick from a counter value; one less than half a period after the last close is skipped
(R351). -/
def rephase (s : State) (n c : Nat) : State :=
  let rate := tlRate s n
  let l := tline s n
  let (k, nom) := tickFrom rate c
  let (k', nom') := if nom < l.lastClose + secU / (2 * max 1 rate) then tickFrom rate (nom + 1) else (k, nom)
  gotKeep (setLine s n { l with tick := k', nominal := nom', resync := false }) n

/-- A counter value moved by a step. -/
def moved (d : Int) (c : Nat) : Nat := ((c : Int) + d).toNat

/-- The step reaches a Whorl that has power: a line whose window is open finishes its tick on the old base, another re-phases at once
(R351). -/
def whorlStep (s : State) (old : Nat) (d : Int) : State :=
  if !pagePowered s pgWHRL then s
  else
  let s1 := (List.range 8).foldl (fun u n =>
    let l := tline u n
    if !l.running then u
    else
      let l' := { l with lastClose := moved d l.lastClose }
      if tlMode u n = 2 then setLine u n { l' with nominal := moved d l.nominal }
      else if l.nominal ≤ old then setLine u n { l' with nominal := moved d l.nominal, resync := true }
      else rephase (setLine u n l') n (moved d old)) s
  raiseIrq { s1 with whrl := { s1.whrl with resync := true } } pgWHRL 16

/-- A source's last edge as the stepped counter would have shown it. -/
def TSrc.move (x : TSrc) (d : Int) : TSrc :=
  { x with lastEdge := x.lastEdge.map (· + d), out := x.out.map (· + d) }

/-- The counter takes a new value as a step (R317). -/
def stcStep (s : State) (new : Nat) : State :=
  let old := s.stc.cnt
  let d : Int := (new : Int) - old
  let s0 := timersMove s d
  let s1 := { s0 with stc := { s.stc with
    cnt := new, stepCount := (s.stc.stepCount + 1) % 256, lockRun := 0
    pps0 := s.stc.pps0.move d, pps1 := s.stc.pps1.move d, irig := s.stc.irig.move d } }
  let s2 := raiseIrq (soeAt s1 new 8 RUnit.stc.cls 0 0x20 (w32 (nsOf old)) (w32 (secOf old))) pgSTC 3
  triggerEvent (whorlStep s2 old d) 3 0

/-- The time has been written (R308, R325): TRACEABLE falls, and the first set leaves UNSET. -/
def afterSet (s : State) : State :=
  let s1 := { s with stc := { s.stc with traceable := false } }
  if s1.stc.st = .unset then stcEnter s1 (if s1.stc.src ≠ 0 then .acquiring else .freeRun) else s1

/-! ### Sources (R318, R319) -/

/-- A pulse source by its code: 1 PPS_IN0, 2 PPS_IN1, 3 IRIG_IN. -/
def tsrc (s : State) (n : Nat) : TSrc :=
  match n with | 1 => s.stc.pps0 | 2 => s.stc.pps1 | _ => s.stc.irig

/-- A pulse source replaced. -/
def setTsrc (s : State) (n : Nat) (x : TSrc) : State :=
  match n with
  | 1 => { s with stc := { s.stc with pps0 := x } }
  | 2 => { s with stc := { s.stc with pps1 := x } }
  | _ => { s with stc := { s.stc with irig := x } }

/-- A source of the list is qualified. -/
def srcQual (s : State) (n : Nat) : Bool :=
  if n = 0 then false else if n = 4 then s.stc.ptpQual else if n < 4 then (tsrc s n).qual else false

/-- When a source became qualified. -/
def srcQualAt (s : State) (n : Nat) : Nat := if n = 4 then s.stc.ptpQualAt else (tsrc s n).qualAt

/-- The phase of a source in sixteenths of a nanosecond (R320). -/
def srcPhase (s : State) (n : Nat) : Int := if n = 4 then rdI s pgSTC 0x0B0 * 16 else (tsrc s n).phase

/-- The first qualified source that the mode may select (R312, R318). -/
def bestSource (s : State) : Nat :=
  match stcMode s with
  | 0 => 0
  | 3 => if s.stc.ptpQual then 4 else 0
  | _ => ((prioList s).find? fun n => decide (n ≠ 4) && srcQual s n).getD 0

/-- The source in use stays until it is disqualified or a more preferred one has stayed qualified for REVERT_S (R319). -/
def chooseSource (s : State) : Nat :=
  let cur := s.stc.src
  let best := bestSource s
  if stcMode s = 0 ∨ stcMode s = 3 then best
  else if !srcQual s cur ∨ cur = 4 then best
  else
    let rev := rdF s pgSTC 0x088 16 8
    let stayed := ((prioList s).takeWhile fun n => decide (n ≠ cur)).filter fun n =>
      decide (n ≠ 4) && srcQual s n && decide (srcQualAt s n + rev * 1000 * msN ≤ s.now)
    if rev = 0 then cur else stayed.headD cur

/-- SOURCE_SWITCHOVER: the selected source is chosen anew (R319). A write of MODE that leaves none to select is taken as the loss of the
source: HOLDOVER and TIME_LOST from LOCKED (DESIGN CHOICE, log entry 171). -/
def stcSelect (s : State) : State :=
  let cur := s.stc.src
  let n := chooseSource s
  if n = cur then s
  else
    let s1 := { s with stc := { s.stc with src := n, lockRun := 0, crossBad := 0, crossGood := 0 } }
    if n = 0 then
      match s1.stc.st with
      | .locked => raiseErr (stcEnter s1 .holdover) pgSTC 4
      | .acquiring | .holdover => stcEnter s1 .freeRun
      | _ => s1
    else
      let s2 := if cur ≠ 0 then raiseIrq s1 pgSTC 2 else s1
      match s2.stc.st with
      | .locked => if (srcPhase s2 n).natAbs ≤ lockThr s2 then s2 else stcEnter s2 .acquiring
      | .freeRun | .holdover => if s2.stc.disagree then s2 else stcEnter s2 .acquiring
      | _ => s2

/-! ### Lock criterion, cross-check and servo (R313, R314, R320) -/

/-- One phase error counts toward LOCKED or away from it (R314). -/
def lockStep (s : State) (e : Int) : State :=
  match s.stc.st with
  | .acquiring =>
    if e.natAbs ≤ lockThr s then
      let s1 := { s with stc := { s.stc with lockRun := s.stc.lockRun + 1 } }
      if lockCount s ≤ s1.stc.lockRun then stcEnter s1 .locked else s1
    else { s with stc := { s.stc with lockRun := 0 } }
  | .locked =>
    if unlockThr s < e.natAbs then
      let s1 := { s with stc := { s.stc with unlockRun := s.stc.unlockRun + 1 } }
      if unlockCount s ≤ s1.stc.unlockRun then stcEnter s1 .acquiring else s1
    else { s with stc := { s.stc with unlockRun := 0 } }
  | _ => s

/-- The next qualified source after the selected one in the list, which begins again at its end, for the cross-check (R320). -/
def altSource (s : State) : Nat :=
  let l := prioList s
  let after := (l.dropWhile fun n => decide (n ≠ s.stc.src)).drop 1
  ((after ++ l).find? fun n => decide (n ≠ s.stc.src) && srcQual s n).getD 0

/-- A comparison of the selected source with the next qualified one (R320). -/
def crossCheck (s : State) : State :=
  let n := altSource s
  if n = 0 ∨ s.stc.src = 0 then s
  else
    let s0 := wr s pgSTC 0x0AC (satReg (srcPhase s n))
    if crossThr s0 < (srcPhase s0 s0.stc.src - srcPhase s0 n).natAbs then
      let s1 := { s0 with stc := { s0.stc with crossBad := s0.stc.crossBad + 1, crossGood := 0 } }
      if 2 ≤ s1.stc.crossBad ∧ ¬ s1.stc.disagree then
        let s2 := condErr { s1 with stc := { s1.stc with disagree := true } } pgSTC 3
        if s2.stc.st = .unset then s2 else stcEnter s2 .holdover
      else s1
    else
      let s1 := { s0 with stc := { s0.stc with crossBad := 0, crossGood := s0.stc.crossGood + 1 } }
      if s1.stc.disagree ∧ lockCount s1 ≤ s1.stc.crossGood then
        let s2 := condEnd { s1 with stc := { s1.stc with disagree := false } } pgSTC 3
        if s2.stc.st = .holdover ∨ s2.stc.st = .freeRun then stcEnter s2 .acquiring else s2
      else s1

/-- The counter value as an error against the nearest whole second, 2⁻³² ns (R313). -/
def phaseErr (c : Int) : Int :=
  let r := c % (secU : Int)
  if 2 * r < secU then r else r - secU

/-- A step asked for at the next REF_IN edge; it adds to one that already waits for that edge (R317). -/
def askStep (s : State) (d : Int) : State :=
  { s with stc := { s.stc with stepBy := some (s.stc.stepBy.getD 0 + d) } }

/-- The time `sec`, with NS and FRAC 0, for the reference edge that came at counter value `c`: a step at the next REF_IN edge in
place of any that waits (R317, R324, R325). -/
def setAtEdge (s : State) (sec : Nat) (c : Int) : State :=
  { s with stc := { s.stc with setEdge := none, edgeSet := true, stepBy := some (sec * secU - c) } }

/-- The forced alignment of PPS-phased mode: no step, but the instants that sources keep are those of the aligned counter (R310,
R312, R315). -/
def align (s : State) (d : Int) : State :=
  { s with stc := { s.stc with
    cnt := moved d s.stc.cnt, pps0 := s.stc.pps0.move d, pps1 := s.stc.pps1.move d, irig := s.stc.irig.move d } }

/-- The discipline at an accepted edge of the selected source, at counter value `c` (R312 to R316). -/
def discipline (s : State) (c : Int) : State :=
  let err := phaseErr c
  let e := err / 2 ^ 28
  let s1 := wr s pgSTC 0x0A8 (satReg e)
  let s2 := if s1.clk.onIntOsc then s1 else lockStep s1 e
  if s2.stc.disagree then s2
  else match stcMode s2 with
  | 1 =>
    if e.natAbs ≤ slewLimit s2 then align s2 (-err)
    else askStep s2 (-err)
  | 2 =>
    if s2.clk.onIntOsc then s2
    else if slewLimit s2 < e.natAbs then
      if rdB s2 pgSTC 0x080 2 then askStep s2 (-err)
      else wr s2 pgSTC 0x0A4 (BitVec.ofInt 32 (if 0 < e then -(trimBound s2) else trimBound s2))
    else
      let est := s2.stc.est + e * 2 ^ 16 / 2 ^ rdF s2 pgSTC 0x08C 4 4
      let u := e * 2 ^ 16 / 2 ^ rdF s2 pgSTC 0x08C 0 4 + est
      wr { s2 with stc := { s2.stc with est := est } } pgSTC 0x0A4 (BitVec.ofInt 32 (trimOf s2 u))
  | _ => s2

/-! ### Pulse edges (R310, R311) -/

/-- The whole number of seconds, 1 or more, nearest to an elapsed time (R310). -/
def nearSecs (d : Int) : Int := max 1 ((2 * d + secU) / (2 * secU))

/-- An edge at `c` falls in the window of an expected instant (R310). -/
def inWindow (s : State) (x : TSrc) (c : Int) : Bool :=
  match x.lastEdge with
  | none => true
  | some l => decide ((c - l - nearSecs (c - l) * secU).natAbs ≤ ppsWindow s)

/-- REJECTED of an input counts, where the source is a PPS input (R310). -/
def rejected (s : State) (n : Nat) : State :=
  if n = 1 then bumpSat s pgSTC 0x0E8 0 16 1 else if n = 2 then bumpSat s pgSTC 0x0EC 0 16 1 else s

/-- An input is disqualified: its fault, and another source (R311, R319, R333). -/
def disqualify (s : State) (n : Nat) : State :=
  let s1 := setTsrc s n { tsrc s n with qual := false, run := 0, bad := 0, out := [] }
  stcSelect (if n = 1 then condErr s1 pgSTC 1 else if n = 2 then condErr s1 pgSTC 2 else s1)

/-- An expected edge of source n was missing or rejected (R311). -/
def badEdge (s : State) (n : Nat) : State :=
  let x := tsrc s n
  let s1 := setTsrc s n { x with bad := x.bad + 1, run := 0 }
  if x.qual && decide (unlockCount s ≤ x.bad + 1) then disqualify s1 n else s1

/-- An edge is accepted: the run, the qualification, and on the selected source the cross-check, a waiting SET_AT_EDGE and
the discipline (R311, R313, R325). -/
def acceptEdge (s : State) (n sub : Nat) (c : Int) : State :=
  let x := tsrc s n
  let next := match x.lastEdge with
    | some l => decide ((c - l - secU).natAbs ≤ ppsWindow s)
    | none => false
  let run := if next then x.run + 1 else 1
  let q := x.qual || decide (lockCount s ≤ run)
  let s1 := setTsrc s n { x with
    lastEdge := some c, seenAt := s.now + sub, run := run, bad := 0, out := [], qual := q
    qualAt := if q && !x.qual then s.now + sub else x.qualAt, phase := phaseErr c / 2 ^ 28 }
  let s1' := if n = 1 ∧ q then condEnd s1 pgSTC 1 else if n = 2 ∧ q then condEnd s1 pgSTC 2 else s1
  let s2 := stcSelect s1'
  if s2.stc.src ≠ n then s2
  else
    let s3 := crossCheck s2
    match s3.stc.setEdge with
    | some sec => setAtEdge s3 sec c
    | none => discipline s3 c

/-- An edge of source n at counter value c, long enough or not; one inside the window ends a row of edges outside it (R310). -/
def pulseEdge (s : State) (n sub : Nat) (c : Int) (long : Bool) : State :=
  let x := tsrc s n
  if x.qual && !inWindow s x c then
    let out := c :: x.out
    let same := match out with
      | a :: b :: d :: _ => decide ((phaseErr (a - b)).natAbs ≤ 1000 * nsU) && decide ((phaseErr (b - d)).natAbs ≤ 1000 * nsU) &&
          decide ((phaseErr (a - d)).natAbs ≤ 1000 * nsU)
      | _ => false
    if same && long then acceptEdge s n sub c
    else rejected (setTsrc s n { x with out := out }) n
  else if !long then
    let s1 := rejected (setTsrc s n { x with out := [] }) n
    if x.qual then badEdge s1 n else setTsrc s1 n { tsrc s1 n with run := 0 }
  else acceptEdge s n sub c

/-! ### Commands -/

/-- PPS_EDGE: the edge that POLn makes the active one (R305, R309 to R314). -/
def execPpsEdge (e : PpsEdge) (s : State) : Host.Outcome State Fault Refusal :=
  .next (
    if curMode s = .off ∨ 2 ≤ e.input ∨ e.rising = rdB s pgSTC 0x098 e.input then s
    else
      let n := e.input + 1
      let s2 := setTsrc s n { tsrc s n with swing := e.swing }
      pulseEdge s2 n e.sub (cntAt s2 e.sub) (decide (rdF s2 pgSTC 0x098 8 8 ≤ e.width)))

/-- PPS_EDGE_MISSED: the window of the next expected edge has passed without one (R311); before that nothing happens. -/
def execPpsEdgeMissed (input : Nat) (s : State) : Host.Outcome State Fault Refusal :=
  .next (
    if 2 ≤ input then s
    else match (tsrc s (input + 1)).lastEdge with
      | none => s
      | some l =>
        let x := tsrc s (input + 1)
        if l + (x.bad + 1) * secU + ppsWindow s ≤ s.stc.cnt + s.stc.incr then badEdge s (input + 1) else s)

/-- Days from 1970-01-01 to the first day of a year. -/
def yearDays (y : Nat) : Nat := (y - 1970) * 365 + ((y - 1) / 4 - (y - 1) / 100 + (y - 1) / 400) - 477

/-- The station seconds an IRIG-B frame carries (R323, R324); the year of B004 to B007 is 2000 and the two digits
(DEDUCED, log entry 26). -/
def irigSeconds (s : State) (f : IrigFrame) : Int :=
  let y := if 4 ≤ rdF s pgSTC 0x0F0 1 3 then 2000 + f.year else rdF s pgSTC 0x0F4 0 16
  let utc : Int := ((yearDays y + f.day - 1) * 86400 + f.hour * 3600 + f.minute * 60 + f.second : Nat)
  utc - 900 * (BitVec.ofNat 8 (rdF s pgSTC 0x0F0 8 8)).toInt + utcOff s

/-- No valid IRIG frame within the last 2 s, or since the decoder was enabled (R331, R333). -/
def irigStale (s : State) : Bool := decide (s.stc.irigAt + 2000 * msN < s.now)

/-- The seconds decoded for a reference edge that came `part` after the last edge of the clock are loaded at the next one, as a step
(R316, R324). It is no write of the time: TRACEABLE and UNSET stay (R308, R325). -/
def irigLoadAt (s : State) (sec part : Nat) : State :=
  if s.stc.edgeSet then s
  else { s with stc := { s.stc with stepBy := some ((sec * secU : Nat) - ((s.stc.cnt + part : Nat) : Int)) } }

/-- IRIG_FRAME: a frame that R323 accepts gives its time and an edge; SEC_IRIG loads the seconds after two valid frames that
differ from SEC at the reference edge (R324), in place of whatever phase correction that edge asks for, but after a SET_AT_EDGE that
it serves. Where no valid frame stands before it, or none for 2 s, a frame that is else in order is only remembered, as the one its
successor must follow (DESIGN CHOICE, log entries 140 and 172). -/
def execIrigFrame (f : IrigFrame) (s : State) : Host.Outcome State Fault Refusal :=
  .next (
    let sane := f.markersOk && f.digitsOk && (decide (f.second < 60) || (decide (f.second = 60) && rdB s pgSTC 0x0DC 16))
    if curMode s = .off ∨ !rdB s pgSTC 0x0F0 0 ∨ !sane then s
    else
      let t := irigSeconds s f
      let ok := match s.stc.irigPrev with | some p => decide (t = p + 1) | none => false
      let s1 := if ok || irigStale s || s.stc.irigPrev.isNone then
          { s with stc := { s.stc with irigPrev := some t.toNat } } else s
      if !ok then s1
      else
        let c := cntAt s1 f.sub
        let s2 := condEnd (wr (wr s1 pgSTC 0x0F8 (BitVec.ofInt 32 t)) pgSTC 0x0FC (setBit (f.cf &&& 0x07FFFFFF) 31)) pgSTC 6
        let s3 := { s2 with stc := { s2.stc with irigAt := s2.now + f.sub } }
        let s4 := pulseEdge s3 3 f.sub c true
        if rdB s3 pgSTC 0x080 4 && decide (t ≠ (secOf c : Int)) then
          if s3.stc.irigLoad then irigLoadAt { s4 with stc := { s4.stc with irigLoad := false, irigDiff := 0 } } t.toNat (c - s3.stc.cnt)
          else { s4 with stc := { s4.stc with irigDiff := s3.stc.irigDiff + 1, irigLoad := decide (2 ≤ s3.stc.irigDiff + 1) } }
        else { s4 with stc := { s4.stc with irigDiff := 0, irigLoad := false } })

/-- STC_IRIG_CFG written: the decoder that is enabled starts its 2 s and has seen no frame; one that is off is no longer at
fault (R333). -/
def irigCfg (s : State) (was now' : Bool) : State :=
  if now' && !was then
    let s1 := wr s pgSTC 0x0FC (clrBit (rd s pgSTC 0x0FC) 31)
    { s1 with stc := { s1.stc with irigAt := s1.now, irigPrev := none, irigDiff := 0, irigLoad := false } }
  else if was && !now' then condEnd s pgSTC 6 else s

/-- IRIG_TIMEOUT: no valid frame for 2 s: the source is disqualified, and a decoder that is enabled is at fault (R333). -/
def execIrigTimeout (s : State) : Host.Outcome State Fault Refusal :=
  .next (
    if dueBy s (s.stc.irigAt + 2000 * msN) then
      let s1 := if rdB s pgSTC 0x0F0 0 then condErr s pgSTC 6 else s
      if s1.stc.irig.qual then disqualify s1 3 else s1
    else s)

/-- STC_PTP_OFFSET_WRITE: the offset is kept, PTP is qualified while it is written, and in mode 3 it is the phase error
(R314, R318, R320). -/
def execStcPtpOffsetWrite (v : W32) (s : State) : Host.Outcome State Fault Refusal :=
  .next (
    if curMode s = .off then s
    else
      let s1 := wr s pgSTC 0x0B0 v
      let s2 := { s1 with stc := { s1.stc with
        ptpAt := s1.now, ptpQual := true, ptpQualAt := if s1.stc.ptpQual then s1.stc.ptpQualAt else s1.now } }
      let s3 := stcSelect s2
      if s3.stc.src = 4 then
        let s4 := wr s3 pgSTC 0x0A8 (satReg (v.toInt * 16))
        crossCheck (if s4.clk.onIntOsc then s4 else lockStep s4 (v.toInt * 16))
      else s3)

/-- PTP_LATE: 2 s have passed without a write of STC_PTP_OFFSET (R318, R333). -/
def execPtpLate (s : State) : Host.Outcome State Fault Refusal :=
  .next (
    if dueBy s (s.stc.ptpAt + 2000 * msN) then
      let s1 := if 4 ∈ prioList s then raiseIrq s pgSTC 5 else s
      stcSelect { s1 with stc := { s1.stc with ptpQual := false, ptpAt := s1.now } }
    else s)

/-- STC_ADJ_WRITE (R315, R316). -/
def execStcAdjWrite (v : W32) (s : State) : Host.Outcome State Fault Refusal :=
  .next (
    if curMode s = .off then s
    else if stcMode s = 1 ∨ stcMode s = 2 then warnEvent s pgSTC
    else if slewLimit s < v.toInt.natAbs * 16 then askStep s (v.toInt * nsU)
    else { s with stc := { s.stc with adjLeft := s.stc.adjLeft + v.toInt * nsU } })

/-- SLEW_DONE: nothing is left to slew. The trim has returned to normal by the increment that the next period takes, and the period in
progress keeps its own (R303, R315): REF_IN_EDGE does all of it. -/
def execSlewDone (s : State) : Host.Outcome State Fault Refusal := .next s

/-- SEC that the SET registers hold. -/
def setSec (s : State) : Nat := rdF s pgSTC 0x0C0 0 16 * 2 ^ 32 + (rd s pgSTC 0x0C4).toNat

/-- STC_SET_NOW: the time is loaded at the next REF_IN edge; an NS out of range refuses it (R325). -/
def execStcSetNow (s : State) : Host.Outcome State Fault Refusal :=
  .next (
    if curMode s = .off then s
    else if 999999999 < rdF s pgSTC 0x0C8 0 30 then warnEvent s pgSTC
    else { s with stc := { s.stc with setNow := some (setSec s, rdF s pgSTC 0x0C8 0 30) } })

/-- STC_SET_AT_EDGE: the seconds are loaded at the next accepted edge of the selected source (R325). -/
def execStcSetAtEdge (s : State) : Host.Outcome State Fault Refusal :=
  .next (
    if curMode s = .off then s
    else if 999999999 < rdF s pgSTC 0x0C8 0 30 then warnEvent s pgSTC
    else
      { s with stc := { s.stc with setEdge := some (setSec s) } })

/-- STC_SNAP: the interpolated counter is copied (R305, R306). -/
def execStcSnap (sub : Nat) (s : State) : Host.Outcome State Fault Refusal :=
  .next (
    if curMode s = .off then s
    else
      let c := cntAt s sub
      wr (wr (wr (wr s pgSTC 0x0CC (w32 (secOf c / 2 ^ 32))) pgSTC 0x0D0 (w32 (secOf c))) pgSTC 0x0D4 (w32 (nsOf c)))
        pgSTC 0x0D8 (w32 (fracOf c)))

/-- STC_CNT_CLR: REJECTED of both inputs (R331). -/
def execStcCntClr (s : State) : Host.Outcome State Fault Refusal :=
  .next (if curMode s = .off then s else wrF (wrF s pgSTC 0x0E8 0 16 0) pgSTC 0x0EC 0 16 0)

/-- STC_HOLD_EST in nanoseconds: FREQ_ERR × 10⁻¹¹ × the time in holdover, saturating (R321, R331). -/
def holdEst (s : State) : Nat :=
  if s.stc.st = .holdover then
    min (2 ^ 32 - 1) (rdF s pgSTC 0x09C 0 16 * (s.now - s.stc.holdAt) / 1600000000000)
  else (rd s pgSTC 0x0A0).toNat

/-- The estimate, not rounded, exceeds HOLD_LIMIT (R321, R322). -/
def holdOver (s : State) : Bool :=
  decide (rdF s pgSTC 0x09C 16 16 * 10 * 1600000000000 < rdF s pgSTC 0x09C 0 16 * (s.now - s.stc.holdAt))

/-- HOLDOVER_EXPIRED: the estimate exceeds HOLD_LIMIT (R321); the estimate keeps its last value, and the condition stands while
FREE_RUN does (R9). -/
def execHoldoverExpired (s : State) : Host.Outcome State Fault Refusal :=
  .next (
    if s.stc.st = .holdover ∧ !s.clk.onIntOsc ∧ holdOver s then
      let s0 := stcEnter (wr s pgSTC 0x0A0 (w32 (holdEst s))) .freeRun
      let s1 := raiseErr { s0 with stc := { s0.stc with expired := true } } pgSTC 5
      if rdB s1 pgSTC 0x080 3 then s1 else { s1 with stc := { s1.stc with ppsOut := false } }
    else s)

/-- LEAP_APPLY: SEC has become LEAP_AT with a flag set (R326). -/
def execLeapApply (s : State) : Host.Outcome State Fault Refusal :=
  .next (
    let at' := rdF s pgSTC 0x0E4 0 16 * 2 ^ 32 + (rd s pgSTC 0x0E0).toNat
    let u := rd s pgSTC 0x0DC
    if (bit u 16 || bit u 17) && decide (secOf s.stc.cnt = at') then
      let d := if bit u 16 then 1 else 65535
      raiseIrq (wr s pgSTC 0x0DC (w32 ((bits u 0 16 + d) % 65536))) pgSTC 4
    else s)

/-- PPS_OUT is driven (R327). -/
def ppsOutOn (s : State) : Bool := decide (s.stc.st = .locked ∨ s.stc.st = .holdover) || rdB s pgSTC 0x080 3

/-- PPS_OUT_PULSE: the STC plus OFFSET reaches a whole second (R327); at another moment nothing happens. -/
def execPpsOutPulse (s : State) : Host.Outcome State Fault Refusal :=
  .next (
    let off : Int := (BitVec.ofNat 16 (rdF s pgSTC 0x100 16 16)).toInt * nsU
    if curMode s ≠ .off ∧ ppsOutOn s ∧ (phaseErr (s.stc.cnt + off)).natAbs ≤ s.stc.incr then
      { s with stc := { s.stc with ppsOut := true, ppsOutUntil := s.now + rdF s pgSTC 0x100 0 10 * msN } }
    else s)

/-- A time waiting for this edge is loaded (R317, R325). -/
def loadTime (s : State) : State :=
  match s.stc.setNow with
  | some (sec, ns) =>
    afterSet (stcStep { s with stc := { s.stc with setNow := none, stepBy := none, edgeSet := false } } (sec * secU + ns * nsU))
  | none => match s.stc.stepBy with
    | some d =>
      let s1 := stcStep { s with stc := { s.stc with stepBy := none, edgeSet := false } } (moved d s.stc.cnt)
      if s.stc.edgeSet then afterSet s1 else s1
    | none => s

/-- The interpolator's calibration against REF_IN, which keeps its last result on the internal oscillator: INTERP_FAULT arises as it
leaves its range, and its condition stands until it is back (R9, R304, R305). -/
def calibrate (s : State) (ok : Bool) : State :=
  if s.clk.onIntOsc ∨ s.stc.calBad = !ok then s
  else
    let s1 := { s with stc := { s.stc with calBad := !ok } }
    if ok then s1 else raiseErr s1 pgSTC 7

/-- REF_IN_EDGE: an edge of the always-on clock, REF_IN's or the internal oscillator's (R303, R304): the counter advances
by the increment of the period that ends, a waiting time is loaded, and the next increment is taken. The checker of R589
watches the advance, and what the units' own checks have found in the period arises (R572). -/
def execRefInEdge (o : EdgeObs) (s : State) : Host.Outcome State Fault Refusal :=
  .next (
    if curMode s = .off then s
    else
      let s1 := { s with
        now := s.now + clkPeriod s / 2 ^ 28
        stc := { s.stc with cnt := s.stc.cnt + s.stc.incr, adjLeft := s.stc.adjLeft - s.stc.slew } }
      let s2 := loadTime s1
      let s3 := if s2.stc.ppsOut && (decide (s2.stc.ppsOutUntil ≤ s2.now) || !ppsOutOn s2) then
          { s2 with stc := { s2.stc with ppsOut := false } } else s2
      let s4 := calibrate (takeIncr s3) o.calOk
      o.seen.foldl selfCheck (if o.agree then s4 else raiseErr s4 pgSELV 4))

/-- REF_IN_LOST: the always-on domain runs on the internal oscillator; its time is not traceable (R21, R304, R308). -/
def execRefInLost (s : State) : Host.Outcome State Fault Refusal :=
  .next (
    if curMode s = .off ∨ s.clk.onIntOsc then s
    else
      let s1 := { s with clk := { s.clk with onIntOsc := true }, stc := { s.stc with traceable := false } }
      takeIncr (raiseIrq (condErr s1 pgSTC 0) pgCLK 0))

/-- The state that the STC takes as REF_IN returns, after a time in which it did not change (R304): what its sources have become
by then (R319, R320). -/
def stcResume (s : State) : State :=
  match s.stc.st with
  | .locked => if s.stc.src = 0 ∨ s.stc.disagree then stcEnter s .holdover else s
  | .acquiring => if s.stc.src = 0 then stcEnter s .freeRun else if s.stc.disagree then stcEnter s .holdover else s
  | .freeRun | .holdover => if s.stc.src ≠ 0 ∧ !s.stc.disagree then stcEnter s .acquiring else s
  | .unset => s

/-- REF_IN_RETURN: the domain switches back; the counter goes on from its value (R21, R304). -/
def execRefInReturn (s : State) : Host.Outcome State Fault Refusal :=
  .next (
    if curMode s = .off ∨ !s.clk.onIntOsc then s
    else takeIncr (raiseIrq (stcResume (condEnd { s with clk := { s.clk with onIntOsc := false } } pgSTC 0)) pgCLK 0))

end Sys2Proof.Machine
end

