-- ==== Sys2Proof/Machine/Port.lean ====
section
/-!
DEFINITION. Field ports (14_field_ports.md R439 to R470): signal and link, the receive path, redundancy, firmware rings,
egress and the guard, and the meanings of the lane commands that write no bank.
-/

namespace Sys2Proof.Machine

/-! ### Signal and link (R442, R443, R470) -/

/-- A lane in service: its port group has power and its mode is not OFF. -/
def laneOn (s : State) (k : Nat) : Bool :=
  decide (k < 96) && decide (domSt s (402 + k / 8) = .on) && decide (laneMode s k ≠ 0)

/-- A lane carries no traffic: it is under a loopback test or retired, or its port group is (R462, R579, R583; log entry 186). -/
def laneAway (s : State) (k : Nat) : Bool :=
  (lane s k).inProof || (unitRec s (laneUnit k)).retired || unitOff s ⟨RUnit.pg.cls, k / 8, 0⟩

/-- LINK takes a value; a change is reported (R443, R470). -/
def setLink (s : State) (k : Nat) (up : Bool) : State :=
  if (lane s k).link = up then s else raiseIrq (modLane s k fun l => { l with link := up }) (pgLANE k) 0

/-- A loopback test of a lane aborts because its partner has lost LINK: the lane returns to service and its step is
skipped (R462, R399). -/
def abortLoopback (s : State) (k : Nat) : State :=
  let p := partner k
  if (lane s p).inProof then
    let s0 := modLane s p fun l => { l with inProof := false }
    let open' := s0.selv.tests.filter fun t => decide (t.unit = ⟨RUnit.lane.cls, p, 0⟩)
    let s1 := (open'.flatMap (·.codes)).foldl (fun u c =>
      soe u 10 4 c.1 (TWord.nat 0).tag (setField c.2 21 3 5) 0) s0
    { s1 with
      selv := { s1.selv with tests := s1.selv.tests.filter fun t => decide (t.unit ≠ ⟨RUnit.lane.cls, p, 0⟩) }
      prck := { s1.prck with
        proving := s1.prck.proving.filter fun r => decide (r ≠ .lane p)
        skipped := s1.prck.skipped ++ [.lane p] } }
  else s

/-- LINK falls: a frame being received is discarded and counted in RX_LEN (R443). -/
def linkFalls (s : State) (k : Nat) (inFrame : Bool) : State :=
  let s1 := setLink s k false
  let s2 := lineSends (abortLoopback (modLane s1 k fun l => { l with anDone := false, c37Good := 0 }) k) k
  if inFrame then laneCount s2 k 0x0B0 else s2

/-- LOS_MIN of a lane in millivolts (R468). -/
def losMin (s : State) (k : Nat) : Nat := rdF s (pgLANE k) 0x094 0 8 * 10

/-- A swing is a loss of signal: below LOS_MIN for 10 µs. The detection of a C37.94 lane is that of its standard, which the command
reports (R440, R442). -/
def swingLost (s : State) (o : SwingObs) : Bool :=
  decide (laneMode s o.lane = 3) || decide (o.swing < losMin s o.lane ∧ 10000 ≤ o.held)

/-- A swing is signal again: above LOS_MIN + 20 mV for 100 µs (R442). -/
def swingBack (s : State) (o : SwingObs) : Bool :=
  decide (laneMode s o.lane = 3) || decide (losMin s o.lane + 20 < o.swing ∧ 100000 ≤ o.held)

/-- LANE_SIGNAL_LOSS (R442). -/
def execLaneSignalLoss (o : SwingObs) (inFrame : Bool) (s : State) : Host.Outcome State Fault Refusal :=
  .next (
    let k := o.lane
    if !laneOn s k ∨ swingLost s o = false then s
    else condErr (linkFalls (modLane s k fun l => { l with signal := false }) k (inFrame && (lane s k).link)) (pgLANE k) 0)

/-- LANE_SIGNAL_RESTORE (R442); a 100BASE-FX lane ends its far-end fault indication (R440). -/
def execLaneSignalRestore (o : SwingObs) (s : State) : Host.Outcome State Fault Refusal :=
  .next (
    let k := o.lane
    if !laneOn s k ∨ swingBack s o = false then s
    else condEnd (lineSends (modLane s k fun l => { l with signal := true }) k) (pgLANE k) 0)

/-- LANE_LINK_UP: symbol lock and, where enabled, auto-negotiation are complete (R440, R443); a partner of half duplex
only is refused. -/
def execLaneLinkUp (k : Nat) (halfDuplexOnly : Bool) (s : State) : Host.Outcome State Fault Refusal :=
  .next (
    let an := decide (laneMode s k = 2) && portB s (pgLANE k) 0x080 7
    if !laneOn s k ∨ laneMode s k = 3 ∨ !(lane s k).signal ∨ (an && halfDuplexOnly) then s
    else setLink (modLane s k fun l => { l with anDone := an, fefRx := false }) k true)

/-- LANE_LINK_DOWN (R443); a 100BASE-FX lane loses LINK by the far end's fault indication too (R440). -/
def execLaneLinkDown (o : LinkFall) (inFrame : Bool) (s : State) : Host.Outcome State Fault Refusal :=
  .next (
    let k := o.lane
    if !laneOn s k then s
    else linkFalls (modLane s k fun l => { l with fefRx := o.farFault && decide (laneMode s k = 1) }) k (inFrame && (lane s k).link))

/-- LANE_EYE_MEASURE: the millisecond's eye and equaliser settings; the signal-detect threshold follows half the mean swing (R442). -/
def execLaneEyeMeasure (e : EyeMeas) (s : State) : Host.Outcome State Fault Refusal :=
  .next (
    let k := e.lane
    if !laneOn s k ∨ laneMode s k = 3 then s
    else
      let n := if e.atEnd then (lane s k).eqEnd + 1 else 0
      let s1 := modLane s k fun l => { l with
        ctle := e.ctle, dfe := e.dfe.take 5, thresh := e.swing / 2, eyeV := e.eyeV, eyeH := e.eyeH, eqEnd := n, eqLocked := !e.atEnd
        eyeLowAt := if e.eyeV ≤ rdF s (pgLANE k) 0x094 8 8 then some s.now else l.eyeLowAt }
      if 10 ≤ n then condErr s1 (pgLANE k) 1 else if e.atEnd then s1 else condEnd s1 (pgLANE k) 1)

/-- LANE_SYMBOL_ERROR: counted; more than 16 within 1 ms are a burst, and the next one is counted anew (R470). -/
def execLaneSymbolError (k : Nat) (s : State) : Host.Outcome State Fault Refusal :=
  .next (
    if !laneOn s k then s
    else
      let s1 := modLane (laneCount s k 0x0C4) k fun x => { x with symAt := some s.now }
      let l := lane s1 k
      let times := s1.now :: l.symTimes.filter fun t => decide (s1.now < t + msN)
      if 16 < times.length then raiseErr (setLane s1 k { l with symTimes := [] }) (pgLANE k) 4
      else setLane s1 k { l with symTimes := times })

/-- LANE_CNT_CLR: the counters of the page (R468). -/
def execLaneCntClr (k : Nat) (s : State) : Host.Outcome State Fault Refusal :=
  .next (
    if 96 ≤ k then s
    else if !pagePowered s (pgLANE k) then warnEvent s (pgLANE k)
    else (List.range 11).foldl (fun u i => wr u (pgLANE k) (0x0A8 + 4 * i) 0) s)

/-- EQ_RESTART: adaptation starts again, in SERVICE only (R468). -/
def execEqRestart (k : Nat) (s : State) : Host.Outcome State Fault Refusal :=
  .next (
    if 96 ≤ k then s
    else if !pagePowered s (pgLANE k) then warnEvent s (pgLANE k)
    else if curMode s = .service then
      condEnd (modLane s k fun l => { l with eqLocked := false, eqEnd := 0 }) (pgLANE k) 1
    else s)

/-- C3794_FRAME_RX: two valid frames in a row give LINK; RDI or another N is an alarm; the lane sends RDI while none is valid (R440,
R443, R470). -/
def execC3794FrameRx (f : C37Frame) (s : State) : Host.Outcome State Fault Refusal :=
  .next (
    let k := f.lane
    if !laneOn s k ∨ laneMode s k ≠ 3 ∨ laneAway s k then s
    else if !f.valid then lineSends (modLane s k fun l => { l with c37Good := 0 }) k
    else
      let s1 := lineSends (modLane s k fun l => { l with c37Good := l.c37Good + 1, rdi := f.rdi, nRx := f.n }) k
      let s2 := if 2 ≤ (lane s1 k).c37Good && (lane s1 k).signal then setLink s1 k true else s1
      if f.rdi || decide (f.n ≠ portF s2 (pgLANE k) 0x080 3 4) then condErr s2 (pgLANE k) 6 else condEnd s2 (pgLANE k) 6)

/-! ### The receive path (R444 to R455) -/

/-- The classes of the ingress processor (R446). -/
inductive FrameClass where
  | sv | goose | ptp | inter | supervision | other
  deriving DecidableEq, Repr

/-- The class of a frame by its EtherType; a second VLAN tag or an S-tag makes it OTHER (R445, R446). -/
def frameClass (s : State) (f : Frame) : FrameClass :=
  if f.stacked then .other
  else if f.etype = 0x88BA then .sv
  else if f.etype = 0x88B8 then .goose
  else if f.etype = 0x88F7 then .ptp
  else if f.etype = 0x88FB then .supervision
  else if f.etype = portF s (pgPG (f.lane / 8)) 0x088 0 16 then .inter
  else .other

/-- A PAUSE frame, by the EtherType of MAC control frames (IEEE 802.3; PRESUMED, log entry 27). -/
def isPause (f : Frame) : Bool := !f.stacked && decide (f.etype = 0x8808)

/-- A frame is forwarded on an HSR pair unless it is for this engine alone or was sent by it; a PAUSE frame is ignored (R440, R455). It
has its HSR tag in its bytes. -/
def hsrForward (s : State) (f : Frame) : State :=
  if laneRed s f.lane ≠ 2 ∨ f.da = laneMac s f.lane ∨ f.sa = laneMac s f.lane ∨ isPause f then s
  else
    laneQueue s (partner f.lane)
      ⟨if frameClass s f = .inter then 1 else 3, f.len, .forwarded f.bytes, none, none, .none, s.now + f.sub, false⟩

/-- The duplicate-discard table of a pair answers a frame: its first copy is kept, a second is not; entries whose 400 ms have
passed are forgotten (R454). -/
def dupCheck (s : State) (f : Frame) : Bool × State :=
  match f.seq with
  | none => (false, s)
  | some n =>
    let p := f.lane / 2
    let tbl := (SMap.get s.fport.dup [] p).filter fun e => decide (s.now + f.sub < e.at' + 400 * msN)
    let put (t : List DupEnt) : State := { s with fport := { s.fport with dup := SMap.set s.fport.dup [] p t } }
    match tbl.find? fun e => decide (e.src = f.sa) with
    | some e =>
      if n ∈ e.seen then (true, put (tbl.map fun d => if d.src = f.sa then { d with at' := s.now + f.sub } else d))
      else (false, put (tbl.map fun d => if d.src = f.sa then
        { d with high := n, seen := (n :: d.seen).take 64, at' := s.now + f.sub } else d))
    | none =>
      let t := if 1024 ≤ tbl.length then
          match minBy (·.at') tbl with | some o => tbl.filter fun d => decide (d.src ≠ o.src) | none => tbl
        else tbl
      (false, put (t ++ [⟨f.sa, n, [n], s.now + f.sub⟩]))

/-- Group addresses of PTP over IEEE 802.3 (IEEE 1588; PRESUMED, log entry 27). -/
def ptpGroup (da : Nat) : Bool := decide (da = 0x011B19000000 ∨ da = 0x0180C200000E)

/-- A subscription entry's destination address (R473). -/
def entryDa (e : List W32) : Nat := (dword e 2).toNat + bits (dword e 3) 0 16 * 2 ^ 32

/-- Bytes of an address in the order of the wire: word 3 of an entry holds the first two bytes (R473). -/
def daWanted (s : State) (k da : Nat) : Bool :=
  decide (da = laneMac s k ∨ da = 0xFFFFFFFFFFFF ∨ da = interMac s k) || ptpGroup da ||
    s.pio.sv.any (fun e => match e.2 with | some x => decide (entryDa x.entry = da) | none => false) ||
    s.pio.goose.any (fun e => match e.2 with | some x => decide (entryDa x.entry = da) | none => false)

/-- A use for a frame's destination (R446). A PAUSE frame goes to its own group address and is counted all the same (R440), and so does
a supervision frame, which the redundancy unit uses. -/
def wanted (s : State) (f : Frame) : Bool :=
  daWanted s f.lane f.da || isPause f || decide (frameClass s f = .supervision)

/-- What a frame occupies of its lane's buffer (R451). -/
def bufNeed (f : Frame) : Nat := 64 + (f.len + 63) / 64 * 64

/-- A frame stored in its lane's buffer once it has arrived whole, after what has been drained; none where it does not fit (R450 to
R452). When a held frame is drained within R452's bound the command says (log entry 179). -/
def bufStore (s : State) (f : Frame) : Option State :=
  let held := (lane s f.lane).buf.drop f.drained
  if portF s (pgLANE f.lane) 0x084 0 5 * 4096 < held.foldl (· + ·) 0 + bufNeed f then none
  else some (modLane s f.lane fun l => { l with buf := held ++ [bufNeed f] })

/-- Checks 1 to 3 of R447 and what the lane buffer answers (R451, R452); a frame that passes them, and whose destination the
engine has a use for, goes on to its class. -/
def rxChecks (s : State) (f : Frame) : Bool × State :=
  let k := f.lane
  if !laneOn s k ∨ laneMode s k = 3 ∨ !(lane s k).link ∨ laneAway s k then (false, s)
  else if f.len < 64 ∨ 1536 < f.len then (false, laneCount s k 0x0B0)
  else if !f.fcsOk then (false, laneCount s k 0x0AC)
  else match bufStore s f with
    | none => (false, raiseIrq (laneCount s k 0x0B4) (pgLANE k) 2)
    | some s' =>
      match f.ecc with
      | .double => (false, raiseErr s' (pgLANE k) 3)
      | e =>
        let s0 := match e with | .single | .miscorrected => raiseErr s' (pgLANE k) 2 | _ => s'
        let s1 := hsrForward s0 f
        if (laneRed s1 k = 2 ∧ f.sa = laneMac s1 k) ∨ wanted s1 f = false then (false, s1)
        else
          let (dup, s2) := if laneRed s1 k = 0 then (false, s1) else dupCheck s1 f
          if dup then (false, laneCount s2 k 0x0BC) else (true, s2)

/-- A key entry serves an authentication extension (R448): the identifier, the period, the algorithm, the MAC. -/
def authOk (s : State) (a : Option AuthExt) : Bool :=
  match a with
  | none => false
  | some x =>
    s.sec.keys.any fun e => match e.2 with
      | none => false
      | some key => decide (key.kid = x.kid ∧ key.alg = x.alg ∧ key.tagLen = x.tagLen) && keyInPeriod s key && x.macOk

/-- RX_AUTH counts a frame (R447, R470). -/
def authFail (s : State) (k : Nat) : State := raiseIrq (laneCount s k 0x0B8) (pgLANE k) 1

/-- RX_GOOD counts a frame that has passed (R468). -/
def rxGood (s : State) (k : Nat) : State := laneCount s k 0x0A8

/-! ### Firmware rings (R461) -/

/-- The base of a port group's rings. -/
def fwqBase (s : State) (g : Nat) : Nat := (portEff s (pgPG g) 0x098).toNat + portF s (pgPG g) 0x09C 0 16 * 2 ^ 32

/-- HIF's DMA port takes an access of one of its users, which waits while the host's clock stands (R20). -/
def hifDma (s : State) (w : DmaWait) (run : State → State) : State :=
  if s.hif.hostClock then run s else { s with hif := { s.hif with dma := s.hif.dma ++ [w] } }

/-- A firmware-ring access meets a bus error: FWQ_BUS, and DMA_BUS of HIF (R461, R466, R544). -/
def fwqBus (s : State) (g : Nat) : State := raiseErr (raiseErr s (pgPG g) 1) pgHIF 0

/-- A received frame fills the receive entry at RX_HEAD, whose length is that of R444; a full ring or a bus error discards it, and at a full
ring it is counted in RX_OVF, whose interrupt follows (R452, R461, R466, R470; DESIGN CHOICE, log entry 180). -/
def fwqStore (s : State) (k len : Nat) (stamp : Option (Nat × Nat)) (bytes : List Byte) (busErr : Bool) : State :=
  let g := k / 8
  let h := rdF s (pgPG g) 0x0A0 0 6
  if (h + 1) % 64 = rdF s (pgPG g) 0x0A4 0 6 then raiseIrq (raiseIrq (laneCount s k 0x0B4) (pgLANE k) 2) (pgPG g) 2
  else if busErr || physBad s (fwqBase s g + 2048 * h) (0x40 + bytes.length) then fwqBus s g
  else
    let (sec, ns) := stamp.getD (0, 0)
    let w0 := w32 (len % 2048 + k % 8 * 2 ^ 12 + at' stamp.isSome 15 + 2 ^ 31)
    let a := fwqBase s g + 2048 * h
    let s1 := hostSetList (hostSetList s a (wordBytes [w0, 0, w32 sec, w32 ns])) (a + 0x40) bytes
    raiseIrq (wr s1 (pgPG g) 0x0A0 (w32 ((h + 1) % 64))) (pgPG g) 0

/-- The same through HIF. -/
def fwqPut (s : State) (k len : Nat) (stamp : Option (Nat × Nat)) (bytes : List Byte) (busErr : Bool) : State :=
  hifDma s (.rx k len stamp bytes busErr) fun u => fwqStore u k len stamp bytes busErr

/-! ### PTP frames (R328, R456) -/

/-- Where the PTP header begins in a frame given from its destination address on: after the EtherType, behind one VLAN tag or none and
an HSR tag of 6 bytes or none (R446; IEC 62439-3's EtherType 0x892F is PRESUMED, log entry 27). -/
def ptpHeader (bytes : List Byte) : Option Nat :=
  let et (o : Nat) : Nat := (bytes.getD o 0).toNat * 256 + (bytes.getD (o + 1) 0).toNat
  let v := if et 12 = 0x8100 then 16 else 12
  let h := if et v = 0x892F then v + 6 else v
  if et h = 0x88F7 then some (h + 2) else none

/-- messageType of a PTP frame: 0 Sync, 1 Delay_Req, 2 Pdelay_Req, 3 Pdelay_Resp, the event messages (IEEE 1588; PRESUMED, log
entry 142). -/
def ptpType (bytes : List Byte) : Option Nat := (ptpHeader bytes).map fun o => (bytes.getD o 0).toNat % 16

/-- A frame is a PTP event message (R328, R456). -/
def ptpEvent (bytes : List Byte) : Bool := match ptpType bytes with | some t => decide (t < 4) | none => false

/-- n bytes of a number in the order of the wire. -/
def beBytes (n v : Nat) : List Byte := (leBytes n v).reverse

/-- Bytes of a list replaced from place o on. -/
def setBytes (bs : List Byte) (o : Nat) (v : List Byte) : List Byte := bs.take o ++ v ++ bs.drop (o + v.length)

/-- The correctionField of a PTP frame, bytes 8 to 15 of its header in 2⁻¹⁶ ns, changed by d of them. -/
def addCorrField (bytes : List Byte) (d : Int) : List Byte :=
  match ptpHeader bytes with
  | none => bytes
  | some o =>
    let v := leNat ((bytes.drop (o + 8)).take 8).reverse
    setBytes bytes (o + 8) (beBytes 8 (((v : Int) + d) % 2 ^ 64).toNat)

/-- The correctionField changed by some nanoseconds. -/
def addCorrection (bytes : List Byte) (ns : Int) : List Byte := addCorrField bytes (ns * 65536)

/-- A forwarded PTP event message with its residence time, in sixteenths of a nanosecond, in its correctionField (R455). -/
def resided (bytes : List Byte) (d : Nat) : List Byte :=
  if ptpEvent bytes then addCorrField bytes ((d : Int) * 4096) else bytes

/-- DELAY_ASYM of a lane, signed nanoseconds (R468). -/
def delayAsym (s : State) (k : Nat) : Int := (rd s (pgLANE k) 0x0A0).toInt

/-- A lane timestamps PTP event messages (R456). -/
def ptpOn (s : State) (k : Nat) : Bool := portB s (pgLANE k) 0x080 11

/-- A received PTP frame corrected for DELAY_ASYM: Sync, and Pdelay_Resp of the peer delay mechanism (R456; the messages are
those of IEEE 1588, log entry 142). -/
def ptpRxBytes (s : State) (k : Nat) (bytes : List Byte) : List Byte :=
  match ptpType bytes with
  | some 0 => addCorrection bytes (delayAsym s k)
  | some 3 => if portB s (pgLANE k) 0x080 13 then addCorrection bytes (delayAsym s k) else bytes
  | _ => bytes

/-- A PTP event message as the lane sends it at counter value c: corrected for DELAY_ASYM, Delay_Req end to end and Pdelay_Req
between peers; in one-step operation with the originTimestamp of Sync, bytes 34 to 43 of its header, and the turnaround of
Pdelay_Resp since `rxNs` (R456, R461; log entry 142). -/
def ptpTxBytes (s : State) (k : Nat) (bytes : List Byte) (oneStep : Bool) (rxNs c : Nat) : List Byte :=
  match ptpHeader bytes, ptpType bytes with
  | some o, some 0 => if oneStep then setBytes bytes (o + 34) (beBytes 6 (secOf c) ++ beBytes 4 (nsOf c)) else bytes
  | some _, some 1 => if portB s (pgLANE k) 0x080 13 then bytes else addCorrection bytes (-delayAsym s k)
  | some _, some 2 => if portB s (pgLANE k) 0x080 13 then addCorrection bytes (-delayAsym s k) else bytes
  | some _, some 3 => if oneStep then addCorrection bytes (((nsOf c : Int) - rxNs) % 1000000000) else bytes
  | _, _ => bytes

/-- A PTP frame goes to the receive ring; an event message is stamped on a lane with PTP_EN, RX_EXT taken off (R446, R456, R461). -/
def rxPtp (s : State) (f : Frame) : State :=
  let k := f.lane
  let s1 := rxGood s k
  let c := cntAt s1 f.sub - rdF s1 (pgLANE k) 0x0A4 0 16 * nsU
  if ptpEvent f.bytes && ptpOn s1 k then
    fwqPut s1 k f.len (some (secOf c % 2 ^ 32, nsOf c)) (ptpRxBytes s1 k f.bytes) f.busErr
  else fwqPut s1 k f.len none f.bytes f.busErr

/-- A frame of class OTHER (R445, R446); a PAUSE frame is counted and goes no further (R440). -/
def rxOther (s : State) (f : Frame) : State :=
  let s1 := laneCount s f.lane 0x0C0
  if !isPause f && portB s1 (pgPG (f.lane / 8)) 0x080 0 then fwqPut s1 f.lane f.len none f.bytes f.busErr else s1

/-- The handling of a frame whose command gives no more of it than its header (R446): an SV or GOOSE frame matches no subscription, an
inter-engine frame is of another TYPE (R460), a supervision frame is consumed by the redundancy unit and counted. -/
def rxClass (s : State) (f : Frame) : State :=
  match frameClass s f with
  | .sv | .goose => rxGood s f.lane
  | .ptp => rxPtp s f
  | .inter => laneCount s f.lane 0x0C0
  | .supervision => if laneRed s f.lane ≠ 0 then rxGood s f.lane else s
  | .other => rxOther s f

/-- A received frame: the checks, then the handling of its class (R446, R447). -/
def rxFrame (s : State) (f : Frame) : State :=
  let (ok, s1) := rxChecks s f
  if ok then rxClass s1 f else s1

/-- PTP_FRAME_RX (R446, R456, R461). -/
def execPtpFrameRx (f : Frame) (s : State) : Host.Outcome State Fault Refusal := .next (rxFrame s f)

/-- OTHER_FRAME_RX (R440, R446). -/
def execOtherFrameRx (f : Frame) (s : State) : Host.Outcome State Fault Refusal := .next (rxFrame s f)

/-- SUPERVISION_FRAME_RX (R446, R453). -/
def execSupervisionFrameRx (f : Frame) (s : State) : Host.Outcome State Fault Refusal := .next (rxFrame s f)

/-- DUP_ENTRY_EXPIRE: an entry is forgotten 400 ms after its last frame (R454). -/
def execDupEntryExpire (pair src : Nat) (s : State) : Host.Outcome State Fault Refusal :=
  .next (
    let tbl := SMap.get s.fport.dup [] pair
    { s with fport := { s.fport with
      dup := SMap.set s.fport.dup [] pair (tbl.filter fun e => !(decide (e.src = src) && dueBy s (e.at' + 400 * msN))) } })

/-! ### Inter-engine frames (R365, R460) -/

/-- The key entry of a group's inter-engine GMAC can be used (R464, R646). -/
def interKey (s : State) (g : Nat) : Bool :=
  match SMap.get s.sec.keys none (portF s (pgPG g) 0x094 0 10) with
  | some k => keyInPeriod s k
  | none => false

/-- An inter-engine frame passes: its class, its version and destination, its tag, and its sequence, whose gaps count in LOST. -/
def interRx (s : State) (h : InterFrame) : Bool × State :=
  let k := h.f.lane
  let (ok, s1) := rxChecks s h.f
  if !ok then (false, s1)
  else if frameClass s1 h.f ≠ .inter then (false, rxClass s1 h.f)
  else if h.ver ≠ 1 then (false, laneCount s1 k 0x0C0)
  else if h.dst ≠ s1.glb.engineNum ∧ h.dst ≠ 0x7FF then (false, s1)
  else if portB s1 (pgPG (k / 8)) 0x080 1 && !(h.tagOk && interKey s1 (k / 8)) then (false, authFail s1 k)
  else
    let key := h.src * 2048 + h.dst
    let gap := match SMap.get s1.whrl.seqRx 65536 key with
      | 65536 => 0
      | last => (h.seq + 65536 - (last + 1) % 65536) % 65536
    let s2 := rxGood { s1 with whrl := { s1.whrl with seqRx := SMap.set s1.whrl.seqRx 65536 key h.seq } } k
    (true, if gap = 0 ∨ rdF s2 pgWHRL 0x09C 16 16 = 65535 then s2
      else raiseIrq (bumpSat s2 pgWHRL 0x09C 16 16 gap) pgWHRL 18)

/-- INTER_ENGINE_MESSAGE_RX: the message joins its receiver's queue, or is dropped at a full one (R363 to R366, R402). -/
def execInterEngineMessageRx (m : InterMsg) (s : State) : Host.Outcome State Fault Refusal :=
  .next (
    let (ok, s1) := interRx s m.h
    if !ok then s1
    else match strand s1 (idIndex m.dest) with
      | none => s1
      | some x =>
        if decide (x.id = m.dest) && destRoom s1 x then
          deliver s1 (idIndex m.dest) ⟨m.sender, m.containers.map TWord.ofContainer⟩
        else if x.id = m.dest then msgDropped s1 else s1)

/-! ### Egress (R453, R457, R458) -/

/-- The header of a supervision frame: the group address and EtherType of IEC 62439-3 (PRESUMED, log entry 27), and the 802.1Q tag of
what PG_INTER_CFG gives, with priority 7 (R445, R460; DEDUCED, log entry 181). -/
def supHead (s : State) (k : Nat) : TxHead := ⟨0x01154E000100, laneMac s k, (interHead s k).vid, (interHead s k).prio, 0x88FB⟩

/-- A pair's supervision frames are due: none yet, or the last ones 2 s ago (R453). -/
def supDue (s : State) (pair : Nat) : Bool :=
  match SMap.get s.fport.supAt none pair with
  | none => true
  | some t => dueBy s (t + 2000 * msN)

/-- SUPERVISION_FRAME_TX: a pair's supervision frames in class 3, every 2 s (R453). Their length is IEC 62439-3's: a free value within
R444 (log entry 23). -/
def execSupervisionFrameTx (pair : Nat) (s : State) : Host.Outcome State Fault Refusal :=
  .next (
    let k := 2 * pair
    if 48 ≤ pair ∨ !laneOn s k ∨ laneRed s k = 0 ∨ supDue s pair = false then s
    else
      let (v, s1) := free32 { s with fport := { s.fport with supAt := SMap.set s.fport.supAt none pair (some s.now) } }
      laneSend s1 k ⟨3, 64 + v.toNat % 1473, .supervision, some (supHead s1 k), none, .none, s1.now, false⟩)

/-- The frame that stands first: the lowest class, and within it the earliest queued (R457). -/
def firstFrame (l : Lane) : Option TxFrame := minBy (·.cls) l.tx

/-- The list without the first frame equal to f. -/
def dropFrame (f : TxFrame) : List TxFrame → List TxFrame
  | [] => []
  | g :: t => if g = f then t else g :: dropFrame f t

/-- The address of transmit entry i of a group's ring (R461). -/
def fwqTxAddr (s : State) (g i : Nat) : Nat := fwqBase s g + 2048 * (64 + i)

/-- A transmit entry is done with: DONE, with its timestamp, and TX_TAIL advances by one entry, in whatever order the two classes send
them (R456, R461; DESIGN CHOICE, log entry 142). -/
def fwqDone (s : State) (k entry : Nat) (stamp : Option (Nat × Nat)) : State :=
  let g := k / 8
  let a := fwqTxAddr s g entry
  let w0 := leNat (hostBytes (coherentView s) a 4)
  let s1 := hostSetList s a (wordBytes [w32 (w0 % 2 ^ 31 - (if w0 / 2 ^ 15 % 2 = 1 then 2 ^ 15 else 0) + at' stamp.isSome 15 + 2 ^ 31)])
  let s2 := match stamp with
    | some (sec, ns) => hostSetList s1 (a + 8) (wordBytes [w32 sec, w32 ns])
    | none => s1
  raiseIrq (wr s2 (pgPG g) 0x0AC (w32 ((rdF s2 (pgPG g) 0x0AC 0 5 + 1) % 32))) (pgPG g) 1

/-- The name of a transmit entry among those of all groups. -/
def fwqName (g entry : Nat) : Nat := g * 32 + entry

/-- A transmit entry waits no longer for its frame. -/
def fwqClose (s : State) (g entry : Nat) : State :=
  { s with fport := { s.fport with fwqOpen := s.fport.fwqOpen.filter fun e => decide (e.1 ≠ fwqName g entry) } }

/-- A transmit entry waits for its frame under a new serial number. -/
def fwqOpenNew (s : State) (g entry : Nat) : Nat × State :=
  let n := s.fport.fwqSerial + 1
  let s1 := fwqClose s g entry
  (n, { s1 with fport := { s1.fport with fwqOpen := s1.fport.fwqOpen ++ [(fwqName g entry, n)], fwqSerial := n } })

/-- The time from a frame's start to the first bit after its start-of-frame delimiter, the timestamp point of R328: 8 byte
times. -/
def preamble (s : State) (k : Nat) : Nat := 8 * (if laneMode s k = 1 then 1280 else 128)

/-- A firmware frame leaves lane k: a PTP event message of a lane with PTP_EN is stamped at its timestamp point, TX_EXT added, and
corrected; its entry is DONE (R328, R456, R461). Of the copies of a pair the first to leave answers for both (R453, R461; DESIGN
CHOICE, log entry 142). -/
def fwqSent (s : State) (k sub : Nat) (f : TxFrame) (bytes : List Byte) (entry serial : Nat) (oneStep : Bool) (rxNs : Nat) : State :=
  let done (u : State) (stamp : Option (Nat × Nat)) : State :=
    if (fwqName (k / 8) entry, serial) ∈ s.fport.fwqOpen then
      hifDma (fwqClose u (k / 8) entry) (.sent k entry stamp) fun v => fwqDone v k entry stamp
    else u
  if ptpEvent bytes && ptpOn s k then
    let c := cntAt s (sub + preamble s k) + rdF s (pgLANE k) 0x0A4 16 16 * nsU
    let b := ptpTxBytes s k bytes (portB s (pgLANE k) 0x080 12 && oneStep) rxNs c
    done (modLane s k fun l => { l with lastTx := some { f with body := .firmware b entry serial oneStep rxNs } })
      (some (secOf c % 2 ^ 32, nsOf c))
  else done s none

/-- The first frame equal to f has been held back (R458). -/
def markHeld (f : TxFrame) : List TxFrame → List TxFrame
  | [] => []
  | g :: t => if g = f then { g with heldOnce := true } :: t else g :: markHeld f t

/-- FRAME_TX_START: the first queued frame starts, subject to the guard; one held back is counted once in TX_HELD
(R457, R458); a forwarded PTP event message takes its residence time along (R455). -/
def execFrameTxStart (k sub : Nat) (s : State) : Host.Outcome State Fault Refusal :=
  .next (
    let t := s.now + sub
    if !laneOn s k ∨ laneMode s k = 3 ∨ !(lane s k).link ∨ laneAway s k ∨ t < (lane s k).busyUntil then s
    else
      let s1 := guardUpdate s k
      let l := lane s1 k
      match firstFrame l with
      | none => s1
      | some f =>
        let endAt := cntAt s1 sub + frameTime s1 k f.len * 2 ^ 28
        let fits := match nextGuard s1 k with | some g => decide (endAt < g) | none => true
        if decide (f.cls ≠ 0) && (l.guardOpen || !fits) then
          if f.heldOnce then s1 else laneCount (setLane s1 k { l with tx := markHeld f l.tx }) k 0x0CC
        else
          let s2 := setLane s1 k { l with
            tx := dropFrame f l.tx, lastTx := some f, busyUntil := t + frameTime s1 k (f.len + 12) }
          let s3 := laneCount s2 k 0x0C8
          match f.body with
          | .firmware bytes entry serial oneStep rxNs => fwqSent s3 k sub f bytes entry serial oneStep rxNs
          | .forwarded bytes => modLane s3 k fun x => { x with
              lastTx := some { f with body := .forwarded (resided bytes (t - f.at')) } }
          | _ => s3)

/-- LANE_GUARD_OPEN: at the nominal instant of a tick of a line that GUARD_MASK names (R458). -/
def execLaneGuardOpen (k line : Nat) (s : State) : Host.Outcome State Fault Refusal :=
  .next (
    let l := tline s line
    if laneOn s k ∧ line < 8 ∧ rdB s (pgLANE k) 0x090 line ∧ l.running ∧ l.nominal ≤ s.stc.cnt + s.stc.incr then
      modLane s k fun x => { x with
        guardOpen := true, guardTl := (x.guardTl.filter fun e => decide (e % 8 ≠ line)) ++ [line + 8 * l.tick] }
    else s)

/-- A transmit entry that meets a bus error: its frame is discarded, and TX_TAIL advances (R461, R466). -/
def fwqSkip (s : State) (g : Nat) : State :=
  fwqBus (wr s (pgPG g) 0x0AC (w32 ((rdF s (pgPG g) 0x0AC 0 5 + 1) % 32))) g

/-- One transmit entry is taken from the ring, as a coherent reader finds it: class 2 for PTP, which runs on each lane of a pair by
itself, else 3 (R456, R457, R461). Its length is that of R444, so the bytes lack the FCS; a copy on a pair has 6 bytes of trailer or tag
more. A frame that no lane can take, or whose length is beyond R444, is not sent: its entry is done with (DESIGN CHOICE, log entry 142). -/
def fwqTake (s : State) (g i : Nat) : State :=
  let a := fwqTxAddr s g i
  let v := coherentView s
  let w0 := w32 (leNat (hostBytes v a 4))
  let k := 8 * g + bits w0 12 3
  let len := bits w0 0 11
  let bytes := hostBytes v (a + 0x40) (min (len - 4) 1536)
  let single := (ptpHeader bytes).isSome || decide (laneRed s k = 0)
  let size := max 64 (len + (if single then 0 else 6))
  let lanes := if single then [k] else [k / 2 * 2, k / 2 * 2 + 1]
  let (n, s1) := fwqOpenNew s g i
  let f : TxFrame := ⟨if (ptpHeader bytes).isSome then 2 else 3, size, .firmware bytes i n (bit w0 16) (leNat (hostBytes v (a + 4) 4)),
    none, none, .none, s.now, false⟩
  if physBad s a (0x40 + bytes.length) then fwqSkip s g
  else if 1536 < size then fwqDone (fwqClose s1 g i) k i none
  else
    let s2 := if single then laneQueue s1 k f else laneSend s1 k f
    if lanes.any fun q => laneTakes s1 q size then s2 else fwqDone (fwqClose s2 g i) k i none

/-- n transmit entries from h0 on are taken; a bus error discards the frame it meets, the first (R461, R466). -/
def fwqFetch (s : State) (g h0 n : Nat) (busErr : Bool) : State :=
  if n ≠ 0 ∧ busErr then
    (List.range (n - 1)).foldl (fun u i => fwqTake u g ((h0 + 1 + i) % 32)) (fwqSkip s g)
  else (List.range n).foldl (fun u i => fwqTake u g ((h0 + i) % 32)) s

/-- PG_FWQ_TX_HEAD_WRITE: the entries up to the new head are fetched and queued (R461, R466). -/
def execPgFwqTxHeadWrite (g : Nat) (v : W32) (busErr : Bool) (s : State) : Host.Outcome State Fault Refusal :=
  .next (
    if 12 ≤ g then s
    else if !pagePowered s (pgPG g) then warnEvent s (pgPG g)
    else
      let h0 := rdF s (pgPG g) 0x0A8 0 5
      let h1 := bits v 0 5
      let n := (h1 + 32 - h0) % 32
      hifDma (wr s (pgPG g) 0x0A8 (w32 h1)) (.tx g h0 n busErr) fun u => fwqFetch u g h0 n busErr)

end Sys2Proof.Machine
end

