-- ==== Sys2Proof/Machine/Subs.lean ====
section
/-!
DEFINITION. Ingress of SV and GOOSE (15_publish_trip_io.md R471 to R483, 02_tagged_words.md R52 to R58), binary inputs
(R497 to R500), and the meanings of their commands and of the commands of TRIP and the publication builder.
-/

namespace Sys2Proof.Machine

/-! ### Routes and maps (R473, R475, R387) -/

/-- Strand and CELL of a consumer-list entry (R471). -/
def consStrand (c : W32) : Nat := bits c 0 21
def consCell (c : W32) : Nat := bits c 21 5

/-- The pillows that hold a subscription's ring: those of its consumers' plies, and the targets of their migrations
(R387, R391). -/
def routeOfCons (s : State) (cons : List W32) : List Nat :=
  let idxs := cons.map consStrand
  let at0 := idxs.flatMap fun i => match strand s i with | some x => x.plies.map fun p => pilOf p.bob | none => []
  let tgt := (s.prck.migs.filter fun m => decide (m.idx ∈ idxs)).map fun m => pilOf m.dst
  (at0 ++ tgt).eraseDups

/-- A word written at a pillow-relative offset of every pillow of a route (R449); none is routed to a pillow whose fabric is
down (R428). -/
def routeSet (s : State) (ps : List Nat) (off : Nat) (w : TWord) : State :=
  ps.foldl (fun u p => if domSt u (384 + p) = .on then bankSet u (p * 2 ^ 18 + off) w else u) s

/-- The used maps of an entry: pairs of their two words (R473, R476). -/
def usedMaps (e : List W32) (usedBit : Nat) : List (W32 × W32) :=
  ((List.range 12).map fun j => (dword e (8 + 2 * j), dword e (9 + 2 * j))).filter fun m => bit m.1 usedBit


/-- The value rings of an SV entry in order: TYPE of each, with the map and whether it carries the quality word (R475). -/
def svRings (e : List W32) : List ((W32 × W32) × Bool) :=
  (usedMaps e 7).flatMap fun m => if bit m.1 6 then [(m, false), (m, true)] else [(m, false)]

/-- TYPE of a ring's words. -/
def ringTy (r : (W32 × W32) × Bool) : Ty := if r.2 then .nat else if bit r.1.1 5 then .flt else .int

/-! ### Tags from quality (R52, R53) -/

/-- Validity of the two validity bits of a quality attribute: good 0, invalid 1, reserved 2, questionable 3 (R53, the
codes of IEC 61850-7-3, log entry 22). -/
def valOfBits : Nat → Val
  | 0 => .good | 3 => .questionable | _ => .invalid

/-- The tag of an SV value with quality attribute `q` (R53): test in bit 11, source in bit 10, derived in bit 13. -/
def svQual (e : List W32) (q : W32) (sim syncLow : Bool) : Qual :=
  let v := valOfBits (bits q 0 2)
  let v' := if syncLow then v.worst .questionable else v
  ⟨v', bit q 11 || sim, bit q 10 || (bit q 13 && bit (dword e 0) 19)⟩

/-- A raw SV value as its TYPE: INT, or the value times SCALE rounded once to nearest even (R52, log entry 29). -/
def svPay (m : W32 × W32) (v : W32) : W32 :=
  if !bit m.1 5 then v
  else
    let sc := m.2.toNat
    let neg := decide (v.toInt < 0)
    if f32.expo sc = f32.emax then w32 (f32.mul .rne (f32.ofInt .rne v.toInt 0).1 sc).1
    else w32 (f32.pack .rne (neg != f32.sign sc) (v.toInt.natAbs * f32.sig sc) (f32.uexp sc) false).1

/-! ### SV frames -/

/-- A loaded SV subscription put back. -/
def setSv (s : State) (i : Nat) (x : SvSub) : State :=
  { s with pio := { s.pio with sv := SMap.set s.pio.sv none i (some x) } }

/-- A status count raised (R483). -/
def statUp (st : List W32) (i n : Nat) : List W32 := modAt (fun v => w32 (v.toNat + n)) i st

/-- The lane or pair, VID and APPID of an entry match a frame (R473, R474). -/
def entryMatches (e : List W32) (f : Frame) (appid : Nat) : Bool :=
  let w0 := dword e 0
  let l := bits w0 4 7
  (decide (l = f.lane) || (bit w0 3 && decide (l + 1 = f.lane))) && decide (entryDa e = f.da) &&
    (bit (dword e 1) 28 || decide (f.vid = some (bits (dword e 1) 16 12))) && decide (bits (dword e 1) 0 16 = appid)

/-- One ASDU at one matching entry (R348, R474, R475, R57). -/
def svAsdu (s : State) (i : Nat) (sim : Bool) (a : Asdu) : State :=
  match SMap.get s.pio.sv none i with
  | none => s
  | some x =>
    let e := x.entry
    if a.svId ≠ x.ident then s
    else
      let x1 := { x with stat := x.stat.set 7 a.confRev }
      let maps := usedMaps e 7
      if a.confRev ≠ dword e 4 ∨ maps.any (fun m => decide (a.members.length ≤ bits m.1 0 5)) then
        setSv s i { x1 with stat := statUp x1.stat 2 1 }
      else
        let n := svTl e
        let l := tline s n
        let rate := tlRate s n
        let low := bit (dword e 0) 2 && decide (a.smpSynch = 0)
        let x2 := { x1 with stat := statUp ((if low then statUp x1.stat 5 1 else x1.stat).set 6 (w32 a.smpCnt)) 0 1 }
        if !l.running then setSv s i x1
        else
          let d := (a.smpCnt + rate - l.tick % max 1 rate) % max 1 rate
          if rate ≤ a.smpCnt ∨ svDepth e ≤ d + 1 then
            let late := setSv s i { x1 with stat := statUp x1.stat 3 maps.length }
            wr late pgWHRL (tlOff n 0x24) (w32 ((rd late pgWHRL (tlOff n 0x24)).toNat + maps.length))
          else
            let ps := routeOfCons s x.cons
            let words := (svRings e).map fun r =>
              let mem := a.members.getD (bits r.1.1 0 5) (0, 0)
              if r.2 then TWord.mk' .nat ⟨.good, sim, false⟩ mem.2
              else TWord.mk' (ringTy r) (svQual e mem.2 sim low) (svPay r.1 mem.1)
            let s1 := (List.range words.length).foldl (fun u r =>
              routeSet u ps (x.ring + r * svDepth e + a.smpCnt % svDepth e) (words.getD r voidWord)) s
            setSv s1 i { x2 with
              got := if a.smpCnt ∈ x2.got then x2.got else x2.got ++ [a.smpCnt]
              tst := words.map (·.q.tst), sim := x2.sim || sim }

/-- A subscription takes a simulated frame, or one without the bit, in the present mode (R481). -/
def simOk (s : State) (sim seen : Bool) : Bool :=
  if curMode s = .test then sim || !seen else !sim

/-- Authentication is required of a frame: by its group, or by an entry that it matches (R448, R464). -/
def authNeeded (s : State) (k : Nat) (es : List (List W32)) : Bool :=
  portB s (pgPG (k / 8)) 0x080 2 || es.any fun e => bit (dword e 0) 1

/-- The subscriptions that a sampled-value frame matches (R474). -/
def svHits (s : State) (f : SvFrame) : List (Nat × SvSub) :=
  s.pio.sv.filterMap fun p => match p.2 with
    | some x => if entryMatches x.entry f.f f.appid then some (p.1, x) else none
    | none => none
/-- SV_FRAME_RX (R447 to R449, R474, R481). The checker of the ingress path may discard what it disagrees with (R589). -/
def execSvFrameRx (f : SvFrame) (s : State) : Host.Outcome State Fault Refusal :=
  .next (
    let k := f.f.lane
    let (ok, s0) := rxChecks (snagFire s (pgLANE k) [1]).2 f.f
    if !ok then s0
    else if frameClass s0 f.f ≠ .sv then rxClass s0 f.f
    else
      let hit := svHits s0 f
      if authNeeded s0 k (hit.map (·.2.entry)) && !authOk s0 f.auth then
        hit.foldl (fun u p => setSv u p.1 { p.2 with stat := statUp p.2.stat 1 1 }) (authFail s0 k)
      else
        let s1 := rxGood s0 k
        if !f.agree then raiseErr s1 pgSELV 0
        else if 8 < f.asdus.length then
          hit.foldl (fun u p => setSv u p.1 { p.2 with stat := statUp p.2.stat 2 1 }) s1
        else hit.foldl (fun u p =>
          if simOk u f.sim p.2.sim then f.asdus.foldl (fun v a => svAsdu v p.1 f.sim a) u
          else if f.sim then setSv u p.1 { p.2 with stat := statUp p.2.stat 4 1 }
          else u) s1)

/-! ### GOOSE areas (R476 to R482) -/

/-- A loaded GOOSE subscription put back. -/
def setGo (s : State) (i : Nat) (x : GoSub) : State :=
  { s with pio := { s.pio with goose := SMap.set s.pio.goose none i (some x) } }

/-- FORM of a GOOSE map. -/
def goForm (m : W32 × W32) : Nat := bits m.1 6 3

/-- Words of a map: a UtcTime has two (R477). -/
def goWidth (m : W32 × W32) : Nat := if goForm m = 5 then 2 else 1

/-- The words mapped, W of R479. -/
def goW (e : List W32) : Nat := ((usedMaps e 15).map goWidth).foldl (· + ·) 0

/-- A write of an area: the half that is not current, then the header (R479). -/
def areaWrite (s : State) (i : Nat) (x : GoSub) (vals : List TWord) : State :=
  let ps := routeOfCons s x.cons
  let w := goW x.entry
  let h := 1 - x.hdr % 2
  let s1 := (List.range vals.length).foldl (fun u n =>
    routeSet u ps (x.area + 1 + h * w + n) (vals.getD n voidWord)) s
  let hdr := (x.hdr / 2 + 1) % 2 ^ 31 * 2 + h
  setGo (routeSet s1 ps x.area (TWord.nat (w32 hdr))) i { x with hdr := hdr, vals := vals }

/-- A TIM pair of seconds and nanoseconds (R45). -/
def timPair (sec ns : Nat) (q : Qual) : List TWord :=
  [TWord.mk' .tim q (w32 sec), TWord.mk' .tim q (w32 (ns + 2 ^ 30))]

/-- The quality of TimeQuality bits: ClockFailure 0x40, ClockNotSynchronized 0x20 (R53; their places are PRESUMED,
log entry 22). -/
def tqVal (tq : Nat) (v : Val) : Val :=
  if tq / 0x40 % 2 = 1 then v.worst .invalid else if tq / 0x20 % 2 = 1 then v.worst .questionable else v

/-- A leaf under a FORM as words with quality `q`; none when its type differs (R477, R478, R54). -/
def leafWords (s : State) (form : Nat) (q : Qual) : Leaf → Option (List TWord)
  | .bool b => if form = 0 then some [TWord.mk' .nat q (if b then 1 else 0)] else none
  | .int32 v => if form = 1 then some [TWord.mk' .int q v] else none
  | .int32u v => if form = 2 then some [TWord.mk' .nat q v] else none
  | .float32 v => if form = 3 then some [TWord.mk' .flt q v] else none
  | .bits n v => if form = 4 ∧ 1 ≤ n ∧ n ≤ 32 then some [TWord.mk' .nat q (w32 (bits v 0 n))] else none
  | .utc sec frac tq =>
    if form = 5 then
      some (timPair (((sec : Int) + utcOff s) % 2 ^ 32).toNat (frac % 2 ^ 24 * 1000000000 / 2 ^ 24)
        { q with val := tqVal tq q.val })
    else none
  | .quality v => if form = 6 then some [TWord.mk' .nat q (w32 (v % 2 ^ 13))] else none
  | .other => none

/-- The tag that a Quality leaf gives: its first bit is [12] (R53, R477). -/
def leafQual (q : Nat) (sim : Bool) : Qual :=
  let v := match q / 2 ^ 11 % 4 with | 0 => Val.good | 3 => Val.questionable | _ => Val.invalid
  ⟨v, (q / 2 % 2 == 1) || sim, q / 4 % 2 == 1⟩

/-- The words of a map of an accepted frame; none when a leaf is not of its type (R478). -/
def mapWords (s : State) (leaves : List Leaf) (sim : Bool) (m : W32 × W32) : Option (List TWord) :=
  let q : Option Qual :=
    if bit m.2 6 then
      match leaves[bits m.2 0 6]? with
      | some (.quality v) => some (leafQual v sim)
      | _ => none
    else some ⟨.good, sim, false⟩
  match q, leaves[bits m.1 0 6]? with
  | some q, some l => leafWords s (goForm m) q l
  | _, _ => none

/-- All maps of an entry. -/
def allWords (s : State) (leaves : List Leaf) (sim : Bool) : List (W32 × W32) → Option (List TWord)
  | [] => some []
  | m :: t => match mapWords s leaves sim m, allWords s leaves sim t with
    | some a, some b => some (a ++ b)
    | _, _ => none

/-- One matched subscription takes a GOOSE frame (R478, R480, R481). -/
def goFrame (s : State) (i : Nat) (f : GooseFrame) : State :=
  match SMap.get s.pio.goose none i with
  | none => s
  | some x =>
    if !simOk s f.sim x.sim then
      if f.sim then setGo s i { x with stat := statUp x.stat 4 1 } else s
    else
      let maps := usedMaps x.entry 15
      match allWords s f.leaves f.sim maps with
      | none => setGo s i { x with stat := statUp x.stat 2 1 }
      | some ws =>
        if f.confRev ≠ dword x.entry 4 ∨ f.ndsCom then setGo s i { x with stat := statUp x.stat 2 1 }
        else
          let x1 := { x with
            tal := some (s.now + f.f.sub + f.tal * msN), sim := x.sim || f.sim
            stat := (x.stat.set 6 f.stNum).set 7 f.sqNum }
          let isNew := decide (x.last ≠ some f.stNum.toNat)
          if isNew || x.force then
            let s1 := areaWrite s i { x1 with last := some f.stNum.toNat, force := false, stat := statUp x1.stat 0 1 } ws
            if isNew then triggerEvent s1 0 i else s1
          else setGo s i { x1 with stat := statUp x1.stat 3 1 }

/-- The subscriptions that a GOOSE frame matches (R478). -/
def goHits (s : State) (f : GooseFrame) : List (Nat × GoSub) :=
  s.pio.goose.filterMap fun p => match p.2 with
    | some x => if !bit (dword x.entry 0) 11 && entryMatches x.entry f.f f.appid && decide (x.ident = f.ref) then
        some (p.1, x) else none
    | none => none
/-- GOOSE_FRAME_RX (R447 to R449, R478 to R481). -/
def execGooseFrameRx (f : GooseFrame) (s : State) : Host.Outcome State Fault Refusal :=
  .next (
    let k := f.f.lane
    let (ok, s0) := rxChecks (snagFire s (pgLANE k) [1]).2 f.f
    if !ok then s0
    else if frameClass s0 f.f ≠ .goose then rxClass s0 f.f
    else
      let hit := goHits s0 f
      if authNeeded s0 k (hit.map (·.2.entry)) && !authOk s0 f.auth then
        hit.foldl (fun u p => setGo u p.1 { p.2 with stat := statUp p.2.stat 1 1 }) (authFail s0 k)
      else
        let s1 := rxGood s0 k
        if !f.agree then raiseErr s1 pgSELV 0
        else hit.foldl (fun u p => goFrame u p.1 f) s1)

/-- GOOSE_TAL_EXPIRY: the last values are written again with VAL invalid (R58, R480). -/
def execGooseTalExpiry (sub : Nat) (s : State) : Host.Outcome State Fault Refusal :=
  .next (match SMap.get s.pio.goose none sub with
    | none => s
    | some x => match x.tal with
      | none => s
      | some t =>
        if dueBy s t then
          areaWrite s sub { x with tal := none, force := true, stat := statUp x.stat 5 1 }
            (x.vals.map fun w => { w with q := { w.q with val := .invalid } })
        else s)

/-! ### The publication builder's commands -/

/-- PUB_COMPARE_CLOSE: PUB_WIN has passed since the comparison opened (R487). -/
def execPubCompareClose (slot : Nat) (agree : Bool) (s : State) : Host.Outcome State Fault Refusal :=
  .next (match (pub? s slot).bind (·.open') with
    | none => s
    | some (t, _, _) => if dueBy s (t + pubWin s) then guardAll (pubClose s slot agree) else s)

/-- GOOSE_RETRANSMIT: the interval has ended; the frame is sent again with the next sqNum, and the interval doubles up to
T_MAX (R488, R489). Nothing is sent while publications are stopped (R494). -/
def execGooseRetransmit (slot : Nat) (s : State) : Host.Outcome State Fault Refusal :=
  .next (match pub? s slot with
    | none => s
    | some x => match x.due with
      | none => s
      | some t =>
        if !dueBy s t then s
        else
          let tmax := bits (dword x.entry 10) 16 16 * 10
          let iv := min (2 * x.interval) tmax
          let y0 := { x with interval := iv, due := some (t + iv * 1600000) }
          if !pubOpenFor s (pubOwner x.entry) then setPub s slot y0
          else
            let sq := if x.sqNum = 4294967295 then 1 else x.sqNum + 1
            let y := { pubStat y0 0 1 with sqNum := sq, stat := (pubStat y0 0 1).stat.set 7 (w32 sq) }
            pubSend (setPub s slot y) y (.goose slot x.stNum sq (2 * iv) x.tSec x.tNs x.tq
              (decide (curMode s = .test)) x.last))

/-- The base of the table region (R552, R553). -/
def tblBase (s : State) : Nat := (rd s pgDRA 0x0A8).toNat * 2 ^ 20

/-- The status records of one table, at its base (R483, R553). -/
def statusPut (base : Nat) (l : List (Nat × List W32)) (s : State) : State :=
  l.foldl (fun u p => draWrite u (base + 32 * p.1) (wordBytes p.2)) s
/-- STATUS_RECORD_WRITE: each loaded entry's status record (R483, R553); the channel drops nothing while READY. -/
def execStatusRecordWrite (s : State) : Host.Outcome State Fault Refusal :=
  .next (
    if s.dra.st ≠ .ready then s
    else
      let s1 := statusPut (tblBase s + 0x418000) (s.pio.sv.filterMap fun p => p.2.map fun x => (p.1, x.stat)) s
      let s2 := statusPut (tblBase s + 0x438000) (s.pio.goose.filterMap fun p => p.2.map fun x => (p.1, x.stat)) s1
      statusPut (tblBase s + 0x4B8000) (s.pio.pubs.filterMap fun p => p.2.map fun x => (p.1, x.stat)) s2)

/-! ### TRIP's commands -/

/-- TRIP_VOTE_CLOSE: VOTE_WIN has passed since group k of output n opened (R492); its edge comes at that instant (R305). -/
def execTripVoteClose (n k : Nat) (agree : Bool) (s : State) : Host.Outcome State Fault Refusal :=
  .next (match (outp s n).groups.find? fun g => decide (g.k = k) with
    | none => s
    | some g => if dueBy s (g.since + voteWin s) then groupClose s n k (g.since + voteWin s - s.now) agree else s)

/-- TRIP_DEFERRED_RESET: MIN_ON has ended, and the deferred reset is driven at that instant (R305, R493), unless the output is
held; a simulated one leaves the pin unchanged (R60). -/
def execTripDeferredReset (n : Nat) (s : State) : Host.Outcome State Fault Refusal :=
  .next (match (outp s n).deferred with
    | none => s
    | some (t, c) =>
      if !dueBy s t then s
      else
        let s1 := setOut s n { outp s n with deferred := none }
        if outHeld s n then s1
        else if c.q.tst && decide (curMode s ≠ .test) then
          raiseIrq (bumpWrap (tripSoe s1 n (t - s.now) 2 c) pgTRIP 0x09C 2) pgTRIP 1
        else drivePin s1 n (t - s.now) false (some c))

/-- RB_DELAY in sixteenths of a nanosecond (R507). -/
def rbDelay (s : State) (n : Nat) : Nat := bits (outCfg s n) 16 8 * 100 * usN

/-- TRIP_READBACK_FAULT: the readback has disagreed for longer than RB_DELAY, which it has until then after an edge (R496). -/
def execTripReadbackFault (n : Nat) (level : Bool) (s : State) : Host.Outcome State Fault Refusal :=
  .next (
    let o := outp s n
    if 32 ≤ n ∨ !pagePowered s pgTRIP then s
    else
      let s0 := setOut s n { o with rb := level }
      let want := o.operated != bit (outCfg s n) 6
      if !bit (outCfg s n) 24 || o.rbFault || decide (level = want) || !dueBy s (o.onSince + rbDelay s n) then s0
      else
        let s1 := raiseIrq (raiseErr (setOut s n { o with rb := level, rbFault := true }) pgTRIP 2) pgTRIP 0
        triggerEvent (soe s1 5 RUnit.trip.cls n (TWord.nat 0).tag (w32 (if level then 1 else 0)) (ownerId s1 n)) 2 n)

/-- TRIP_CNT_CLR: the three counts (R507). -/
def execTripCntClr (s : State) : Host.Outcome State Fault Refusal :=
  .next (
    if !pagePowered s pgTRIP then warnEvent s pgTRIP
    else wr (wr (wr s pgTRIP 0x098 0) pgTRIP 0x09C 0) pgTRIP 0x0A0 0)

/-- RB_CLR: each fault bit whose readback agrees is cleared (R496, R507); `levels` are the levels of TRB. -/
def execRbClr (levels : W32) (s : State) : Host.Outcome State Fault Refusal :=
  .next (
    if !pagePowered s pgTRIP then warnEvent s pgTRIP
    else (List.range 32).foldl (fun u n =>
      let o := outp u n
      let lv := bit levels n
      if o.rbFault && decide (lv = (o.operated != bit (outCfg u n) 6)) then
        raiseIrq (setOut u n { o with rb := lv, rbFault := false }) pgTRIP 0
      else if o.rb = lv then u else setOut u n { o with rb := lv }) s)

/-- The readback of output n, last seen to disagree, disagrees still: the condition of RB_FAULT (R9, R496). -/
def rbStands (s : State) (n : Nat) : Bool :=
  (outp s n).rbFault && decide ((outp s n).rb ≠ ((outp s n).operated != bit (outCfg s n) 6))

/-! ### Binary inputs (R497 to R500) -/

/-- An input. -/
def bin (s : State) (n : Nat) : Bin := SMap.get s.pio.bins Bin.reset n

/-- An input replaced. -/
def setBin (s : State) (n : Nat) (x : Bin) : State :=
  { s with pio := { s.pio with bins := SMap.set s.pio.bins Bin.reset n x } }

/-- BIO_CFGn. -/
def binCfg (s : State) (n : Nat) : W32 := rd s pgBIO (0x100 + 4 * n)

/-- The unit and input n are enabled, from BOOT onward (R497, R503). -/
def binEnabled (s : State) (n : Nat) : Bool :=
  decide (n < 64) && pagePowered s pgBIO && rdB s pgBIO 0x080 0 && bit (binCfg s n) 9

/-- BIO as a unit. -/
def bioUnit : UnitId := ⟨RUnit.bio.cls, 0, 0⟩

/-- BIO samples input n: it is enabled, and BIO is not offline for a test, or retired (R579, R583; log entry 186). -/
def binOn (s : State) (n : Nat) : Bool := binEnabled s n && !unitOff s bioUnit

/-- The words of the BIO areas' maps of an entry (R482); while BIO is retired every one carries VAL invalid (R583). -/
def binWords (s : State) (maps : List (W32 × W32)) : List TWord :=
  maps.flatMap fun m =>
    let n := bits m.1 0 6
    let b := bin s n
    let off := (unitRec s bioUnit).retired
    let v : Val := if b.supp || !binEnabled s n || off then .invalid else .good
    if goForm m = 5 then timPair b.chgSec b.chgNs (if off then { b.chgQ with val := .invalid } else b.chgQ)
    else [TWord.mk' .nat ⟨v, false, false⟩ (if b.stable then 1 else 0)]

/-- The areas that map input n are written (R482). -/
def binAreas (s : State) (n : Nat) : State :=
  s.pio.goose.foldl (fun u p => match p.2 with
    | some x =>
      let maps := usedMaps x.entry 15
      if bit (dword x.entry 0) 11 && maps.any (fun m => decide (bits m.1 0 6 = n)) then
        areaWrite u p.1 { x with stat := statUp x.stat 0 1 } (binWords u maps)
      else u
    | none => u) s

/-- A stable change is counted, reported or not (R503). -/
def binCount (s : State) : State := bumpWrap s pgBIO 0x09C 2

/-- A change is reported (R500): the record, the areas, the event strands. -/
def binReport (s : State) (n : Nat) (level : Bool) (sec ns tval : Nat) (der : Bool) : State :=
  let q : Qual := ⟨Val.ofCode tval, false, der⟩
  let s1 := setBin s n { bin s n with stable := level, reported := level, chgSec := sec, chgNs := ns, chgQ := q }
  let w := TWord.mk' .nat ⟨.good, false, der⟩ (if level then 1 else 0)
  let s2 := submit s1 ⟨6, RUnit.bio.cls, n, sec, ns, tval, w.tag, w.pay, 0⟩
  triggerEvent (binAreas (raiseIrq s2 pgBIO 0) n) 1 n

/-- A stable change of input n: reported, or the one that suppresses the input, or unreported while it is suppressed
(R498 to R500); BIO_STATE follows it either way (R503). -/
def binChange (s : State) (n : Nat) (level : Bool) (sec ns tval : Nat) : State :=
  let b := bin s n
  let cfg := binCfg s n
  let win := bits cfg 16 8 * 100 * msN
  let rec' := (s.now :: b.recent).filter fun t => decide (s.now < t + win)
  let s1 := binCount (setBin s n { b with stable := level, first := none, recent := rec' })
  if b.supp then s1
  else if bits cfg 12 4 ≠ 0 ∧ bits cfg 12 4 < rec'.length then
    let s2 := raiseIrq (setBin s1 n { bin s1 n with supp := true }) pgBIO 1
    binAreas (soe s2 7 RUnit.bio.cls n 0x20 1 0) n
  else binReport s1 n level sec ns tval false

/-- BI_EDGE: an edge of an enabled input at its level after INV; the first away from the stable level gives the change
its time, kept over bounces shorter than DEB, and a return for DEB undoes it; with DEB 0 every edge is a change (R497, R498). -/
def execBiEdge (n : Nat) (level : Bool) (sub : Nat) (s : State) : Host.Outcome State Fault Refusal :=
  .next (
    if !binOn s n then s
    else
      let b := bin s n
      let lv := level != bit (binCfg s n) 8
      let t := s.now + sub
      let c := cntAt s sub
      let s1 := setBin s n { b with raw := lv, lastEdge := t }
      if bits (binCfg s n) 0 8 = 0 then
        if lv = b.stable then s1 else binChange s1 n lv (secOf c) (nsOf c) (stcQual s).val.code
      else if lv = b.stable then s1
      else if b.first.isSome ∧ t < b.lastEdge + bits (binCfg s n) 0 8 * 100 * usN then
        setBin s1 n { bin s1 n with firstNow := t }
      else setBin s1 n { bin s1 n with first := some (secOf c, nsOf c, (stcQual s).val.code), firstNow := t })

/-- BI_CHANGE: the input has held its new level for DEB (R498 to R500). -/
def execBiChange (n : Nat) (s : State) : Host.Outcome State Fault Refusal :=
  .next (
    let b := bin s n
    match b.first with
    | some (sec, ns, tv) =>
      if binOn s n ∧ b.raw ≠ b.stable ∧ dueBy s (b.firstNow + bits (binCfg s n) 0 8 * 100 * usN) then
        binChange s n b.raw sec ns tv
      else s
    | none => s)

/-- BI_CHATTER_RELEASE: CHAT_REL has passed without an edge (R499); a level that differs from the last reported is reported
as a change timed at the release, with DER. -/
def execBiChatterRelease (n sub : Nat) (s : State) : Host.Outcome State Fault Refusal :=
  .next (
    let b := bin s n
    if !(binOn s n && b.supp) || !dueBy s (b.lastEdge + bits (binCfg s n) 24 8 * 100 * msN) then s
    else
      let s0 := setBin s n { b with supp := false, recent := [], first := none, stable := b.raw }
      let s1 := raiseIrq (soeAt (if b.raw = b.stable then s0 else binCount s0) (cntAt s sub) 7 RUnit.bio.cls n 0x20 0 0) pgBIO 1
      if b.raw = b.reported then binAreas s1 n
      else
        let c := cntAt s1 sub
        binReport s1 n b.raw (secOf c) (nsOf c) (stcQual s1).val.code true)

/-- The areas of the inputs that a write of BIO's configuration enables or disables are written (R482, R503). -/
def binEnables (old new : State) : State :=
  ((List.range 64).filter fun n => decide (binEnabled old n ≠ binEnabled new n)).foldl binAreas new

/-- Every BIO area is written anew, as BIO is retired or returns (R583). -/
def bioAreas (s : State) : State := (List.range 64).foldl binAreas s

/-- BIO_CNT_CLR (R503). -/
def execBioCntClr (s : State) : Host.Outcome State Fault Refusal :=
  .next (if !pagePowered s pgBIO then warnEvent s pgBIO else wr s pgBIO 0x09C 0)

end Sys2Proof.Machine
end

