-- ==== Sys2Proof/Machine/Prck.lean ====
section
/-!
DEFINITION. The Pricking unit (12_pricking_plying.md R375 to R410): constraints, placement, segments and ownership,
clock floors, migration, rebuild, residency, shortage, the rota, and the meanings of its commands.
-/

namespace Sys2Proof.Machine

/-! ### Units in and out of service -/

/-- A bank of a pillow, and its fabric with code memory, as units (R576). -/
def bankUnit (p k : Nat) : UnitId := ⟨RUnit.pil.cls, p, k⟩
def fabricUnit (p : Nat) : UnitId := ⟨RUnit.pil.cls, p, 8⟩
/-- A unit is under test, or waits for one. -/
def unitTested (s : State) (u : UnitId) : Bool := s.selv.tests.any fun t => decide (t.unit = u)

/-- A bobbin takes placements (R378): neither retired, locked up, vacated, tested nor drained for a halt; its fabric is in
service and its page enabled (R690). -/
def bobOk (s : State) (b : Nat) : Bool :=
  !(unitRec s (bobUnit b)).retired && decide ((core s b).pstate ≠ .lockedUp ∧ (core s b).pstate ≠ .halted) &&
    decide (RotaUnit.bobbin b ∉ s.prck.proving) && !unitTested s (bobUnit b) && decide (b ∉ s.dbg.drains) &&
    !(unitRec s (fabricUnit (pilOf b))).retired && !unitTested s (fabricUnit (pilOf b)) && rdB s (pgBOB b) 0x008 0 &&
    rdB s (pgPIL (pilOf b)) 0x008 0

/-- A bank takes segments: neither retired, tested, vacated nor leased (R378, R430). -/
def bankOk (s : State) (p k : Nat) : Bool :=
  !(unitRec s (bankUnit p k)).retired && !unitTested s (bankUnit p k) && decide (RotaUnit.bank p k ∉ s.prck.proving) &&
    decide (SMap.get s.mem.lease .free (p * 8 + k) = .free)

/-! ### Check bits (R49, R423, R425) -/

/-- A corrected word of bank k is counted; the count saturates at 255 (R436). -/
def secCount (s : State) (p k : Nat) : State :=
  let off := if k < 4 then 0x090 else 0x094
  let v := rdF s (pgPIL p) off (8 * (k % 4)) 8
  let s1 := raiseErr (wrF s (pgPIL p) off (8 * (k % 4)) 8 (min 255 (v + 1))) (pgPIL p) 0 k [bankUnit p k]
  if v = 254 then raiseIrq s1 (pgPIL p) 2 else s1

/-- The first uncorrectable address since clear is latched, and the count rises (R436). -/
def dedLatch (s : State) (p addr source : Nat) : State :=
  let s1 := if rdB s (pgPIL p) 0x098 31 then s else wr s (pgPIL p) 0x098 (w32 (addr % 2 ^ 24 + source * 2 ^ 24 + 2 ^ 31))
  let s2 := bumpSat s1 (pgPIL p) 0x09C 0 16 1
  if rdF s1 (pgPIL p) 0x09C 0 16 = 65534 then raiseIrq s2 (pgPIL p) 2 else s2

/-- An uncorrectable bank word is reported: latch, count, BANK_DED naming the bank (R425, R438). -/
def dedReport (s : State) (addr source : Nat) : State :=
  let p := addr / 2 ^ 18
  let k := addr / 2 ^ 15 % 8
  raiseErr (dedLatch s p addr source) (pgPIL p) 1 k [bankUnit p k]

/-- An uncorrectable bank word is found: it stays so until it is written, and is reported. -/
def bankDed (s : State) (addr source : Nat) : State :=
  dedReport { s with mem := { s.mem with bankBad := if addr ∈ s.mem.bankBad then s.mem.bankBad else addr :: s.mem.bankBad } } addr source

/-- A word read from a bank with what the array answers (R49): none for an uncorrectable error; a pattern of three or more
bits gives a free word, reported as a correction or not at all. -/
def bankRead (s : State) (addr source : Nat) (ecc : Ecc) : Option TWord × State :=
  let p := addr / 2 ^ 18
  let k := addr / 2 ^ 15 % 8
  if addr ∈ s.mem.bankBad then (none, bankDed s addr source)
  else match ecc with
    | .clean => (some (bankGet s addr), s)
    | .single => (some (bankGet s addr), secCount s p k)
    | .double => (none, bankDed s addr source)
    | .miscorrected =>
      let (v, s1) := freeWord s
      let w := TWord.ofTag (v.toNat / 2 ^ 32 % 256) (v.setWidth 32)
      (some w, secCount (bankSet s1 addr w) p k)
    | .unnoticed =>
      let (v, s1) := freeWord s
      let w := TWord.ofTag (v.toNat / 2 ^ 32 % 256) (v.setWidth 32)
      (some w, bankSet s1 addr w)

/-- The context words of a strand-cache slot are read by user `source`, with what the array answers at one of them, which one is a free
value; answers whether a word cannot be read (R367, R425). -/
def slotRead (s : State) (p slot source : Nat) (ecc : Ecc) : Bool × State :=
  match ((List.range 64).map (ctxAddr p slot)).find? fun a => decide (a ∈ s.mem.bankBad) with
  | some a => (true, bankDed s a source)
  | none =>
    if ecc = .clean then (false, s)
    else
      let (v, s1) := free32 s
      let (w, s2) := bankRead s1 (ctxAddr p slot (v.toNat % 64)) source ecc
      (w.isNone, s2)

/-- The banks that hold contexts, message queues and gate tables of a pillow's plies are in service: a pillow in which one of
banks 5 to 7 is retired carries no ply (R378, R400, R421). -/
def ctxBanksOk (s : State) (p : Nat) : Bool := [5, 6, 7].all fun k => !(unitRec s (bankUnit p k)).retired

/-- A pillow is excluded (R385). -/
def excluded (s : State) (p : Nat) : Bool := rdB s pgPRCK 0x094 p

/-! ### Release fit, spare fit and FLOOR (R379 to R381) -/

/-- The rate of a strand's line in 0.01 ticks per second, and its window in µs, as last written (R379). -/
def fitRate (s : State) (d : List W32) : Nat × Nat :=
  let n := dTl d
  if tlModeW s n = 2 then (rdF s pgWHRL (tlOff n 8) 0 12 * rdF s pgWHRL (tlOff n 0xC) 16 16, 0)
  else (tlRateW s n * 100, tlWindowW s n)

/-- Class P or C. -/
def isPC (d : List W32) : Bool := decide (dCls d < 2)

/-- A bobbin that carries these strands is in release fit at a clock of `f` MHz (R379); one without P- or C-class strands
always is (R378). -/
def relFit (s : State) (f : Nat) (ds : List (List W32)) : Bool :=
  let sum := ((ds.filter isPC).map fun d => dBudget d + 1168).foldl (· + ·) 0
  !(ds.any isPC) || (ds.filter fun d => decide (dTrig d = 0)).all fun d =>
    let (r, w) := fitRate s d
    decide ((sum + 584) * r + f * r * (1 + w) ≤ f * dDiv d * 100000000)

/-- The strands of `ds` can be spread over bobbins carrying `loads`, each staying in release fit. -/
def spread (s : State) (f : Nat) : List (List W32) → List (List (List W32)) → Bool
  | [], _ => true
  | d :: t, loads => (List.range loads.length).any fun i =>
      relFit s f (d :: loads.getD i []) && spread s f t (modAt (fun l => d :: l) i loads)

/-- What a bobbin carries, and whether it takes placements. -/
abbrev Load := Bool × List (List W32)

/-- A pillow whose bobbins carry `loads` is in spare fit: each one's P- and C-class strands could move to the others that take
placements (R380). -/
def spareFit (s : State) (f : Nat) (loads : List Load) : Bool :=
  (List.range loads.length).all fun i =>
    spread s f ((loads.getD i (true, [])).2.filter isPC) (((loads.eraseIdx i).filter (·.1)).map (·.2))

/-- The strands that bobbin b carries, with those a migration brings there and without ply `skip`; one suspended for capacity has
given up its load (R401). -/
def bobLoad (s : State) (b : Nat) (skip : Option (Nat × Nat)) : List (List W32) :=
  (((pliesOn s b).filter fun e => decide (some e ≠ skip ∧ e.1 ∉ s.prck.capSusp)) ++
    (s.prck.migs.filter fun m => decide (m.dst = b ∧ m.src ≠ b)).map fun m => (m.idx, m.ply)).filterMap fun e =>
      (strand s e.1).map (·.decl)

/-- The loads of a pillow's bobbins. -/
def pilLoads (s : State) (p : Nat) (skip : Option (Nat × Nat)) : List (Nat × Load) :=
  (List.range 16).map fun i => (16 * p + i, bobOk s (16 * p + i), bobLoad s (16 * p + i) skip)

/-- Every bobbin of the pillow is in release fit and the pillow in spare fit at `f` MHz. -/
def pilFits (s : State) (f : Nat) (loads : List Load) : Bool :=
  (loads.all fun l => relFit s f l.2) && spareFit s f loads

/-- FMAX_ACH, which stands in place of 1,400 MHz (R612). -/
def fmaxAch (s : State) (p : Nat) : Nat := SMap.get s.pwr.fmax 1400 p

/-- FLOOR of a pillow (R381); FMAX_ACH where none fits (log entry 30). -/
def floorFor (s : State) (p : Nat) : Nat :=
  let loads := (pilLoads s p none).map (·.2)
  (((List.range 53).map fun i => 100 + 25 * i).find? fun f => decide (f ≤ fmaxAch s p) && pilFits s f loads).getD (fmaxAch s p)

/-- FLOOR in force. -/
def pilFloor (s : State) (p : Nat) : Nat := SMap.get s.prck.floor 100 p

/-- FLOOR_CHANGE: the pillow's FLOOR is set anew, and a change is logged (R381, R406). -/
def setFloor (s : State) (p : Nat) : State :=
  let f := floorFor s p
  if f = pilFloor s p then s
  else
    prckLog { s with prck := { s.prck with floor := SMap.set s.prck.floor 100 p f } }
      { kind := 13, reason := 0, src := p, sec := secOf (nowAt s s.prck.logSeq), ns := nsOf (nowAt s s.prck.logSeq), dur := f }

/-- The frequency a pillow runs at (R611). -/
def pilFreq (s : State) (p : Nat) : Nat := SMap.get s.pwr.freq 0 p

/-- A placement that needs a higher FLOOR is committed once the pillow runs at it (R611): CREATE lasts until then. -/
def rampUp (s : State) (p : Nat) : State :=
  if domSt s (384 + p) = .on ∧ pilFreq s p < pilFloor s p then
    { s with pwr := { s.pwr with freq := SMap.set s.pwr.freq 0 p (pilFloor s p) } }
  else s

/-- Every pillow is in spare fit (PRCK_STATUS SPARE_FIT, R380). -/
def allSpareFit (s : State) : Bool :=
  (List.range 16).all fun p => spareFit s (pilFloor s p) ((pilLoads s p none).map (·.2))

/-! ### Ownership and segments (R386, R420, R422) -/

/-- The ownership entry of a block of a pillow: KIND + 4 × SLOT. -/
def ownOf (s : State) (p b : Nat) : Nat := SMap.get s.prck.own 0 (p * 10240 + b)

/-- Blocks [b, b + n) of a pillow take an entry. -/
def ownSet (s : State) (p b n v : Nat) : State :=
  { s with prck := { s.prck with own := (List.range n).foldl (fun m i => SMap.set m 0 (p * 10240 + b + i) v) s.prck.own } }

/-- The first block and the number of blocks of a range of a bank. -/
def segBlocks (g : Seg) : Nat × Nat := ((g.bank * 32768 + g.off) / 16, (g.len + 15) / 16)

/-- A bank of a pillow, and its power (R426). -/
def bankPwr (s : State) (p k : Nat) : BankPwr := SMap.get s.mem.bankPwr .off (p * 8 + k)

/-- The range is free in the pillow, outside what migrations have reserved there. -/
def segFree (s : State) (p : Nat) (g : Seg) : Bool :=
  bankOk s p g.bank && (List.range (segBlocks g).2).all fun i => decide (ownOf s p ((segBlocks g).1 + i) = 0)

/-- The bank is turned ON, and its words hold VOID, before a block of it is assigned (R426, R427). -/
def bankOn (s : State) (p k : Nat) : State :=
  if bankPwr s p k = .on then s
  else
    let s1 := countUp (bankFill s (bankAddr p k 0) 32768) (256 + 8 * p + k)
    { s1 with mem := { s1.mem with bankPwr := SMap.set s1.mem.bankPwr .off (p * 8 + k) .on } }

/-- A segment's or ring's blocks are assigned in a pillow, VOID-filled (R422). -/
def assign (s : State) (p : Nat) (g : Seg) (v : Nat) : State :=
  let s1 := bankOn s p g.bank
  ownSet (bankFill s1 (bankAddr p g.bank g.off) (16 * (segBlocks g).2)) p (segBlocks g).1 (segBlocks g).2 v

/-- Freed blocks return to FREE (R422). -/
def unassign (s : State) (p : Nat) (g : Seg) : State := ownSet s p (segBlocks g).1 (segBlocks g).2 0

/-- Two ranges share a block. -/
def overlaps (g h : Seg) : Bool :=
  decide ((segBlocks g).1 < (segBlocks h).1 + (segBlocks h).2 ∧ (segBlocks h).1 < (segBlocks g).1 + (segBlocks g).2)

/-- The lowest offset of a bank at which a segment is free in every pillow listed, outside the ranges `keep`. -/
def findSeg (s : State) (ps : List Nat) (keep : List Seg) (bank len : Nat) : Option Seg :=
  ((List.range 2048).find? fun i =>
    decide (16 * i + len ≤ 32768) && (ps.all fun p => segFree s p ⟨bank, 16 * i, len⟩) &&
      !(keep.any (overlaps ⟨bank, 16 * i, len⟩))).map fun i => ⟨bank, 16 * i, len⟩

/-- Rings and areas of the subscriptions that name the strand, as ranges of a pillow (R475, R479). -/
def ringRanges (s : State) (idx : Nat) : List Seg :=
  (s.pio.sv.filterMap fun p => match p.2 with
    | some x => if x.cons.any (fun c => decide (consStrand c = idx)) then
        some ⟨x.ring / 32768, x.ring % 32768, (svRings x.entry).length * svDepth x.entry⟩ else none
    | none => none) ++
  (s.pio.goose.filterMap fun p => match p.2 with
    | some x => if x.cons.any (fun c => decide (consStrand c = idx)) then
        some ⟨x.area / 32768, x.area % 32768, 1 + 2 * goW x.entry⟩ else none
    | none => none)

/-- The rings and areas that a strand owns: only pinned strands own any (R378). -/
def ringSegs (s : State) (idx : Nat) : List Seg :=
  match strand s idx with
  | some x => if dPinned x.decl then ringRanges s idx else []
  | none => []

/-- A ring of the strand is held in the pillow for another consumer (R387). -/
def ringShared (s : State) (idx p : Nat) (g : Seg) : Bool :=
  (strandIdx s).any fun i => decide (i ≠ idx) && (ringSegs s i).any (fun h => decide (h = g)) &&
    (match strand s i with | some x => x.plies.any fun y => decide (pilOf y.bob = p) | none => false)

/-- Plies with state in a bank of a pillow: those whose segments or rings lie there, and, in banks 5 to 7, all that are resident in
the pillow (R400, R421). -/
def strandsInBank (s : State) (p k : Nat) : List (Nat × Nat) :=
  s.whrl.strands.flatMap fun e => match e.2 with
    | none => []
    | some x =>
      let data := (x.segs ++ ringSegs s e.1).any fun g => decide (g.bank = k)
      ((List.range x.plies.length).filter fun j => match x.plies[j]? with
        | some y => decide (pilOf y.bob = p) && (data || decide (5 ≤ k ∧ k < 8) && y.slot.isSome) | none => false).map fun j => (e.1, j)

/-- A bank holds a segment of a PILLOW_FIX strand, or is one that a test does not vacate (R397). -/
def provedInPlace (s : State) (p k : Nat) : Bool :=
  decide (5 ≤ k) || decide (SMap.get s.mem.lease .free (p * 8 + k) = .leased) ||
    (strandsInBank s p k).any fun e => match strand s e.1 with | some x => dPillowFix x.decl | none => false

/-- A strand's data may stay in a bank of its pillow: the bank takes segments, or is proved in place (R397). -/
def dataStays (s : State) (p : Nat) (g : Seg) : Bool :=
  bankOk s p g.bank || (!(unitRec s (bankUnit p g.bank)).retired && provedInPlace s p g.bank)

/-- A pillow has room for ranges of rings of the strand: each is held there for another consumer, or free (R386, R387). -/
def roomFor (s : State) (idx p : Nat) (gs : List Seg) : Bool := gs.all fun g => ringShared s idx p g || segFree s p g
/-- A pillow has room for the rings that the strand consumes. -/
def ringRoom (s : State) (idx p : Nat) : Bool := roomFor s idx p (ringSegs s idx)

/-! ### Choosing a place (R376, R378, R383) -/

/-- AFF_HARD is in force for a group, counting a record that may join (R376). -/
def affHard (s : State) (g : Nat) (d : List W32) : Bool :=
  decide (g ≠ 0) && ((decide (dAff d = g) && dAffHard d) ||
    s.whrl.strands.any fun e => match e.2 with | some x => decide (dAff x.decl = g) && dAffHard x.decl | none => false)

/-- The pillows of ply j of a strand: where it is, and where a move under way brings it. -/
def plyPillows (s : State) (idx j : Nat) (p : Ply) : List Nat :=
  pilOf p.bob :: (s.prck.migs.filter fun m => decide (m.idx = idx ∧ m.ply = j)).map fun m => pilOf m.dst

/-- Pillows of ply j of the other members of a strand's AFF group. -/
def affPillows (s : State) (idx j : Nat) (d : List W32) : List Nat :=
  s.whrl.strands.flatMap fun e => match e.2 with
    | some x => if e.1 ≠ idx ∧ dAff d ≠ 0 ∧ dAff x.decl = dAff d then
        match x.plies[j]? with | some p => plyPillows s e.1 j p | none => [] else []
    | none => []

/-- Pillows of every ply of the other members of a strand's ANTI group. -/
def antiPillows (s : State) (idx : Nat) (d : List W32) : List Nat :=
  s.whrl.strands.flatMap fun e => match e.2 with
    | some x => if e.1 ≠ idx ∧ dAnti d ≠ 0 ∧ dAnti x.decl = dAnti d then
        (List.range x.plies.length).flatMap fun j => match x.plies[j]? with | some p => plyPillows s e.1 j p | none => []
      else []
    | none => []

/-- Ply j of a strand with declaration d may go to bobbin b beside plies in the pillows `taken` (R378). `old` is the ply as
it stands, whose load leaves with it. -/
def placeOk (s : State) (idx j : Nat) (d : List W32) (segs : List Seg) (taken : List Nat) (old : Option Nat) (b : Nat) :
    Bool :=
  let p := pilOf b
  let same := decide (old.map pilOf = some p)
  bobOk s b && ctxBanksOk s p && decide (old ≠ some b) && !excluded s p && decide (p ∉ taken) &&
    (!(dPillowFix d && decide (j = 0)) || decide (p = dPillow d)) &&
    (!affHard s (dAff d) d || (affPillows s idx j d).all fun q => decide (q = p)) &&
    decide (p ∉ antiPillows s idx d) &&
    (if same then (segs ++ ringSegs s idx).all (dataStays s p) else segs.all (segFree s p) && ringRoom s idx p) &&
    (let loads := (pilLoads s p (old.map fun _ => (idx, j))).map fun e => if e.1 = b then (e.2.1, d :: e.2.2) else e.2
     pilFits s (fmaxAch s p) loads)

/-- Insertion of an element before the first that is not smaller. -/
def insertBy {α : Type} (f : α → Nat) (a : α) : List α → List α
  | [] => [a]
  | b :: t => if f a ≤ f b then a :: b :: t else b :: insertBy f a t

/-- A list in rising order of a measure. -/
def sortBy {α : Type} (f : α → Nat) : List α → List α
  | [] => []
  | a :: t => insertBy f a (sortBy f t)

/-- The order of R383 as one number: the same pillow, lowest TEMP, highest HEAD, lowest UTIL, a soft affinity (log entry
31), then pillow and bobbin. -/
def placeRank (s : State) (idx j : Nat) (d : List W32) (old : Option Nat) (b : Nat) : Nat :=
  let p := pilOf b
  let same := if old.map pilOf = some p then 0 else 1
  let temp := (SMap.get s.prck.temp 0 p + 512).toNat % 1024
  let head := 255 - min 255 (SMap.get s.prck.head 0 p)
  let util := min 127 (SMap.get s.prck.util 0 p)
  let soft := if p ∈ affPillows s idx j d then 0 else 1
  ((((same * 1024 + temp) * 256 + head) * 128 + util) * 2 + soft) * 256 + b

/-- The places of ply j in order of preference. -/
def places (s : State) (idx j : Nat) (d : List W32) (segs : List Seg) (taken : List Nat) (old : Option Nat) : List Nat :=
  sortBy (placeRank s idx j d old) ((List.range 256).filter (placeOk s idx j d segs taken old))

/-- The first answer that a list of choices leads to. -/
def firstSome {α β : Type} (f : α → Option β) : List α → Option β
  | [] => none
  | a :: t => match f a with | some b => some b | none => firstSome f t

/-- Bobbins for `n` more plies beside those of `got`: distinct pillows, the preferred places first, the first choice that
`fits` as a whole (R377, R378, R383). -/
def choosePlies (s : State) (idx : Nat) (d : List W32) (fits : List Nat → Bool) : Nat → List Nat → Option (List Nat)
  | 0, got => if fits got then some got else none
  | n + 1, got => firstSome (fun b => choosePlies s idx d fits n (got ++ [b]))
      (places s idx got.length d [] (got.map pilOf) none)

/-! ### Residency (R378, R394) -/

/-- Never parked (R378). -/
def neverParked (s : State) (d : List W32) : Bool :=
  dPinned d || (decide (dTrig d = 0) && decide (tlModeW s (dTl d) = 1) && decide (1000 < tlRateW s (dTl d)))

/-- The expected release rate in thousandths per second (R394). -/
def releaseRate (s : State) (x : Strand) : Nat :=
  match dTrig x.decl with
  | 0 => (fitRate s x.decl).1 * 10 / max 1 (dDiv x.decl)
  | 2 => 1000000000 / max 1 (dPeriod x.decl)
  | _ => (x.recent.filter fun t => decide (secOf s.stc.cnt < t + 10)).length * 100

/-- Slots that stay free for staging in each pillow (R394). -/
def stageSlots (s : State) : Nat := rdF s pgPRCK 0x098 8 8 * 8

/-- The ranking places an unpinned strand in its pillow's resident set (R394). -/
def wantsResident (s : State) (idx : Nat) (x : Strand) : Bool :=
  neverParked s x.decl || match x.plies[0]? with
    | none => false
    | some p =>
      let here := s.whrl.strands.filterMap fun e => match e.2 with
        | some y => match y.plies.find? fun q => decide (pilOf q.bob = pilOf p.bob) with
          | some _ => some (e.1, neverParked s y.decl, releaseRate s y)
          | none => none
        | none => none
      let pinned := (here.filter (·.2.1)).length
      let above := (here.filter fun e => !e.2.1 && (decide (releaseRate s x < e.2.2) ||
        (decide (e.2.2 = releaseRate s x) && decide (e.1 < idx)))).length
      decide (above + pinned + stageSlots s < 1024)

/-- The resident strand of a pillow that parks first to make room: of those that may park and stand STAGED the one with the lowest
expected release rate, the highest index among equals (R394). -/
def lastResident (s : State) (p : Nat) : Option (Nat × Nat) :=
  let xs := s.whrl.strands.filterMap fun e => match e.2 with
    | some x => match x.plies[0]? with
      | some y => if pilOf y.bob = p ∧ y.slot.isSome = true ∧ y.st = .staged ∧ neverParked s x.decl = false then
          some (e.1, releaseRate s x) else none
      | none => none
    | none => none
  (minBy (fun e => e.2 * 2 ^ 21 + (2 ^ 21 - 1 - e.1)) xs)

/-- Parking and staging traffic of this millisecond still has room for one image behind `ahead` others, and is charged for it
(R395): PARK_BW in 100 MB/s, never above 8 GB/s (R16). -/
def parkBandwidth (s : State) (ahead : Nat := 0) : Bool × State :=
  let ms := s.now / msN
  let used := if s.prck.parkMs = ms then s.prck.parkBytes else 0
  if used + 512 * (ahead + 1) ≤ min 80 (rdF s pgPRCK 0x098 0 7) * 100000 then
    (true, { s with prck := { s.prck with parkMs := ms, parkBytes := used + 512 } })
  else (false, s)

/-- A strand is parked: its image goes to the parking region, its slot is free (R367). It stays where it is while the channel
cannot take the image or PARK_BW is spent (R20, R395, R557); a slot that cannot be read places it in FAULTED. -/
def parkStrand (s : State) (idx reason : Nat) : State :=
  match strand s idx, ply? s idx 0 with
  | some _, some p => match p.slot with
    | none => s
    | some k =>
      if s.dra.st ≠ .ready ∨ s.hif.hostClock = false then s
      else match slotRead s (pilOf p.bob) k 1 .clean with
        | (true, u) => modPly u idx 0 fun q => { q with st := .faulted }
        | (false, _) => match parkBandwidth s with
        | (false, u) => u
        | (true, u) =>
          let ws := (List.range 64).map fun j => ctxGet u idx p j
          let s1 := modPly u idx 0 fun q => { q with slot := none, st := if q.st = .staged then .parked else q.st }
          let s2 := draPut s1 (parkAddr s1 idx 0) (ws.flatMap fun w => leBytes 8 w.container.toNat)
          prckLogNow s2 4 reason idx 0 p.bob p.bob 64
  | _, _ => s

/-- The image of a strand in the parking region cannot be restored (R50, R367): a container with a 1 in [63:40] or in bit 32, or
a word 38 that is not the strand's ID. -/
def imageRefused (ws : List TWord) (id : W32) : Bool := ws.any (·.rsv) || decide ((ws.getD 38 voidWord).pay ≠ id)

/-! ### Moves (R391 to R393, R400) -/

/-- The words a move copies: the context, the segments and the rings (R391). -/
def moveWords (s : State) (idx : Nat) (x : Strand) : Nat :=
  64 + ((x.segs ++ ringSegs s idx).map (·.len)).foldl (· + ·) 0

/-- The ply may be copied now (R391, R392). -/
def copyable (p : Ply) : Bool :=
  decide (p.st ≠ .ready ∧ p.st ≠ .running ∧ p.st ≠ .free)

/-- The copy of a tick strand fits between its YIELD and its next matching close (R392), at the slower pillow's FLOOR. -/
def copyFits (s : State) (idx : Nat) (x : Strand) (src dst : Nat) : Bool :=
  if dTrig x.decl ≠ 0 then true
  else
    let f := max 1 (min (pilFloor s (pilOf src)) (pilFloor s (pilOf dst)))
    let (r, w) := fitRate s x.decl
    let cycles := moveWords s idx x / 2 + 400 + dBudget x.decl + 1752
    decide (cycles * r + f * r * w ≤ f * dDiv x.decl * 100000000)

/-- An intact ply of a strand other than j: the lowest that is resident and on a bobbin in service (R390, R580). -/
def intactPly (s : State) (x : Strand) (j : Nat) : Option Nat :=
  (livePlies x).find? fun i => decide (i ≠ j) && (match x.plies[i]? with
    | some p => !plyGone x i && !(unitRec s (bobUnit p.bob)).retired && !unitTested s (bobUnit p.bob) &&
        x.segs.all fun g => !(unitRec s (bankUnit (pilOf p.bob) g.bank)).retired
    | none => false)

/-- What a move copies from and the ply that it moves both stand still (R391 step 3, R392). -/
def moveStill (s : State) (m : Mig) : Bool :=
  [m.ply, m.rebuildFrom.getD m.ply].all fun j => match ply? s m.idx j with | some p => copyable p | none => false

/-- A move takes its copy as soon as its plies stand still (R391, step 3). -/
def copyStart (s : State) (idx : Nat) : State :=
  let go := fun (m : Mig) =>
    if decide (m.idx = idx) && !m.copying && moveStill s m then
      { m with copying := true, since := nowAt s s.prck.logSeq }
    else m
  { s with prck := { s.prck with migs := s.prck.migs.map go } }

/-- Pillows that a move of ply j must not take: those of the other plies, and its own where work moves away from the pillow
(R378, R382, R384). -/
def moveTaken (x : Strand) (j : Nat) (p : Ply) (reason : Nat) : List Nat :=
  (x.plies.map fun q => pilOf q.bob).eraseIdx j ++ if 1 ≤ reason ∧ reason ≤ 3 then [pilOf p.bob] else []

/-- Moves of this reason are switched off: AUTO enables those for UTIL, TEMP, HEAD and exclusion, CONSOL the emptying of pillows
(R384, R408). -/
def moveOff (s : State) (reason : Nat) : Bool :=
  decide (reason = 1 ∨ reason = 2 ∨ reason = 3 ∨ reason = 7) && !rdB s pgPRCK 0x080 0 &&
    !(decide (reason = 1) && rdB s pgPRCK 0x080 4)

/-- The blocks that a move takes in its target's pillow: reserved and VOID-filled, as blocks newly assigned are (R391, R422). -/
def reserve (s : State) (p slot : Nat) (segs take : List Seg) : State :=
  take.foldl (fun u g => assign u p g (if g ∈ segs then 1 + 4 * slot else 2)) s

/-- MIGRATION_DECIDE: a wanted move finds a destination, its reservations are made and the routes extended (R383, R391); a
ply whose place is suspect, or that is odd, is rebuilt from an intact one (R390, R400). -/
def decide' (s : State) (w : Want) : State :=
  match strand s w.idx, ply? s w.idx w.ply with
  | some x, some p =>
    if (migOf s w.idx w.ply).isSome ∨ s.prck.migs.any (fun m => decide (m.idx = w.idx)) ∨ moveOff s w.reason = true then s
    else
      let suspect := decide (w.reason = 5 ∨ w.reason = 6) && decide (1 < x.plies.length)
      let from' := if suspect then intactPly s x w.ply else none
      let own := decide (w.reason = 6) && !(unitRec s (bobUnit p.bob)).retired
      let taken := moveTaken x w.ply p w.reason
      let rings := ringSegs s w.idx
      let src := match from'.bind fun i => x.plies[i]? with | some q => q.bob | none => p.bob
      let dst := if own then some p.bob
        else (places s w.idx w.ply x.decl x.segs taken (some p.bob)).head?
      match dst with
      | none => s
      | some b =>
        if suspect && from'.isNone then s
        else if !copyFits s w.idx x src b then s
        else
          let slot := if own then p.slot else freeSlot s (pilOf b)
          match slot with
          | none => s
          | some k =>
            let take := if pilOf b = pilOf p.bob then []
              else x.segs ++ rings.filter fun g => !ringShared s w.idx (pilOf b) g
            let s1 := reserve s (pilOf b) k x.segs take
            let res := take.flatMap fun g => (List.range (segBlocks g).2).map fun i => pilOf b * 10240 + (segBlocks g).1 + i
            let m : Mig := ⟨w.idx, w.ply, p.bob, b, k, w.reason, false, nowAt s s.prck.logSeq, moveWords s w.idx x, from',
              secOf (nowAt s s.prck.logSeq), nsOf (nowAt s s.prck.logSeq), (tline s (dTl x.decl)).tick, res⟩
            let s2 := bankOn (bankOn s1 (pilOf b) 6) (pilOf b) 7
            setFloor (copyStart { s2 with prck := { s2.prck with migs := s2.prck.migs ++ [m] } } w.idx) (pilOf b)
  | _, _ => s

/-- The order in which reasons are served (R383): retirement, rebuild, rota, headroom, temperature, utilisation, exclusion, and
then a request. -/
def wantOrder (reason : Nat) : Nat := match reason with
  | 5 => 0 | 6 => 1 | 4 => 2 | 3 => 3 | 2 => 4 | 1 => 5 | 7 => 6 | _ => 7

/-- The wanted moves of a strand that satisfy a condition are decided in that order. -/
def decideWants (s : State) (idx : Nat) (now : Want → Bool) : State :=
  (sortBy (fun w => wantOrder w.reason) (s.prck.wants.filter fun w => decide (w.idx = idx) && now w)).foldl decide' s

/-- The wanted moves of a strand are decided, as at a close at which it is released (R383, R391). -/
def decideStrand (s : State) (idx : Nat) : State := decideWants s idx fun _ => true

/-- A move that waits for no close: of a strand not on a tick line, of a ply that will not be released, a rebuild (R391, R580). -/
def movesNow (s : State) (w : Want) : Bool :=
  match strand s w.idx, ply? s w.idx w.ply with
  | some x, some p => decide (dTrig x.decl ≠ 0 ∨ p.st = .suspended ∨ p.st = .faulted ∨ p.st = .parked ∨ w.reason = 6) ||
      p.rebuild || !(curMode s).runs
  | _, _ => false

/-- What waits for no close is decided. -/
def decideNow (s : State) (idx : Nat) : State := decideWants s idx (movesNow s)

/-- A move is wanted, beside the wants of other plies; one that stands with a reason served earlier stays (R383). -/
def want (s : State) (idx j reason : Nat) : State :=
  match ply? s idx j with
  | none => s
  | some _ =>
    let mine := fun (w : Want) => decide (w.idx = idx) && decide (w.ply = j)
    let s1 := if s.prck.wants.any fun w => mine w && decide (wantOrder w.reason ≤ wantOrder reason) then s
      else { s with prck := { s.prck with wants := (s.prck.wants.filter fun w => !mine w) ++ [⟨idx, j, reason, 0⟩] } }
    decideNow s1 idx

/-- A bank word copied: one that cannot be read is written with check bits that say so, and never as a good word (R415, R425). -/
def bankCopy (s : State) (src dst : Nat) : State :=
  let s1 := bankSet s dst (bankGet s src)
  if src ∈ s.mem.bankBad ∧ dst ∉ s1.mem.bankBad then { s1 with mem := { s1.mem with bankBad := dst :: s1.mem.bankBad } } else s1

/-- The words of ranges copied from pillow p to pillow q. -/
def copySegs (s : State) (p q : Nat) (gs : List Seg) : State :=
  if p = q then s
  else gs.foldl (fun u g => (List.range g.len).foldl (fun v i =>
    bankCopy v (bankAddr p g.bank g.off + i) (bankAddr q g.bank g.off + i)) u) s

/-- The bank words that a move reads: the context of the ply it copies, and the ranges where the pillow changes (R391). -/
def moveReads (s : State) (m : Mig) : List Nat :=
  match strand s m.idx, ply? s m.idx (m.rebuildFrom.getD m.ply) with
  | some x, some q =>
    let p := pilOf q.bob
    (match q.slot with | some k => (List.range 64).map (ctxAddr p k) | none => []) ++
      if p = pilOf m.dst then [] else (x.segs ++ ringSegs s m.idx).flatMap fun g => (List.range g.len).map (bankAddr p g.bank g.off + ·)
  | _, _ => []

/-- A context copied from slot `from'` of pillow p, as `old` holds it, to a slot of pillow q: its words that cannot be read cannot be
read there (R415, R425). -/
def badContext (s old : State) (from' : Option Nat) (p q slot : Nat) : State :=
  match from' with
  | none => s
  | some k =>
    let lost := ((List.range 64).filter fun i => decide (ctxAddr p k i ∈ old.mem.bankBad)).map (ctxAddr q slot)
    { s with mem := { s.mem with bankBad := lost.filter (fun a => decide (a ∉ s.mem.bankBad)) ++ s.mem.bankBad } }

/-- The commit of a migration (R391 step 4, R392, R400): the context and data are at the target, the ply's place moves, the
source is freed, the record is written. -/
def commitMig (s : State) (m : Mig) (ded : Bool) : State :=
  match strand s m.idx, ply? s m.idx m.ply with
  | some x, some p =>
    let from' := m.rebuildFrom.getD m.ply
    match x.plies[from']? with
    | none => s
    | some q =>
      let ctx := (List.range 64).map fun j => ctxGet s m.idx q j
      let rings := ringSegs s m.idx
      let srcP := pilOf q.bob
      let dstP := pilOf m.dst
      let s1 := copySegs s srcP dstP (x.segs ++ rings)
      let s2 := if pilOf p.bob = dstP then s1
        else x.segs.foldl (fun u g => unassign u (pilOf p.bob) g)
          ((rings.filter fun g => !ringShared s m.idx (pilOf p.bob) g).foldl (fun u g => unassign u (pilOf p.bob) g) s1)
      let s3 := x.segs.foldl (fun u g => ownSet u dstP (segBlocks g).1 (segBlocks g).2 (1 + 4 * m.dstSlot)) s2
      let bad := (ded && decide (x.plies.length = 1)) || (q.slot.isNone && imageRefused ctx x.id)
      let msgs := q.queue.map (msgAt s srcP)
      let s4 := modPly s3 m.idx m.ply fun y => { y with
        bob := m.dst, slot := some m.dstSlot, rebuild := false
        st := if bad then .faulted else if y.st = .parked then .staged else if m.rebuildFrom.isSome then q.st else y.st
        queue := []
        side := if m.rebuildFrom.isSome then q.side else y.side }
      let s4 := msgs.foldl (fun u g => queueMsg u m.idx m.ply g) s4
      let s5 := match ply? s4 m.idx m.ply with
        | some y => badContext (ctxPlace (ctxSetList s4 m.idx y 0 ctx) m.idx m.ply) s q.slot srcP dstP m.dstSlot
        | none => s4
      let s6 := { s5 with prck := { s5.prck with
        migs := s5.prck.migs.filter fun n => decide (n ≠ m)
        wants := s5.prck.wants.filter fun w => !(decide (w.idx = m.idx) && decide (w.ply = m.ply)) } }
      let s7 := bumpWrap (stuckEnd s6) pgPRCK 0x0C4 4
      let s8 := prckLog s7 ⟨if m.rebuildFrom.isSome then 6 else 2, m.reason, m.ply, x.id, m.src, m.dst, m.words, m.atSec,
        m.atNs, (nowAt s s.prck.logSeq - m.since) / nsU, dTl x.decl, m.tick⟩
      setFloor (setFloor s8 (pilOf p.bob)) dstP
  | _, _ => s

/-- An odd ply is not released until it has been rebuilt from an intact ply (R390). -/
def startRebuild (s : State) (idx j : Nat) : State :=
  want (modPly s idx j fun p => { p with rebuild := true }) idx j 6

/-! ### Vacating (R397, R400, R580) -/

/-- Every ply on a bobbin is wanted elsewhere. -/
def vacateBob (s : State) (b reason : Nat) : State :=
  (pliesOn s b).foldl (fun u e => want u e.1 e.2 reason) s

/-- Every ply with state in the bank is wanted elsewhere; a bank that is tested in place keeps it, unless it is retired (R397,
R400). -/
def vacateBank (s : State) (p k reason : Nat) : State :=
  if provedInPlace s p k ∧ (unitRec s (bankUnit p k)).retired = false then s
  else (strandsInBank s p k).foldl (fun u e => want u e.1 e.2 reason) s

/-- A place in a pillow uses a unit: its bobbin, a bank that holds its data or, retired, its context, the fabric. -/
def placeUses (s : State) (u : UnitId) (idx bob : Nat) : Bool :=
  if u.cls = RUnit.bob.cls then decide (bob = u.inst)
  else if u.cls = RUnit.pil.cls ∧ pilOf bob = u.inst then
    decide (u.sub = 8) || (match strand s idx with
      | some x => (x.segs ++ ringSegs s idx).any fun g => decide (g.bank = u.sub)
      | none => false) || (decide (5 ≤ u.sub) && (unitRec s u).retired)
  else false

/-- What a retirement or a vacating does to moves under way (R393): one whose target uses the unit aborts, and of a retired unit one
whose source does; the strand's moves are decided again. -/
def abortUnit (s : State) (u : UnitId) : State :=
  (s.prck.migs.filter fun m => placeUses s u m.idx m.dst && !(decide (u.cls = RUnit.pil.cls ∧ u.sub < 8) && provedInPlace s u.inst u.sub &&
      !(unitRec s u).retired) ||
    ((unitRec s u).retired && placeUses s u m.idx m.src && decide (m.reason ≠ 5))).foldl
      (fun v m => decideNow (abortMig v m) m.idx) s

/-- A unit carries no work: a bobbin no ply, a bank to be vacated no data, a fabric no ply on its bobbins. -/
def unitEmpty (s : State) (u : UnitId) : Bool :=
  let here (b : Nat) : Bool := (pliesOn s b).all fun e => match ply? s e.1 e.2 with
    | some p => decide (e.1 ∈ s.prck.capSusp) && p.slot.isNone | none => true
  if u.cls = RUnit.bob.cls then here u.inst && (core s u.inst).strand.isNone
  else if u.cls = RUnit.pil.cls ∧ u.sub = 8 then (List.range 16).all fun i => here (16 * u.inst + i)
  else if u.cls = RUnit.pil.cls then provedInPlace s u.inst u.sub || (strandsInBank s u.inst u.sub).isEmpty
  else true

/-- The unit is vacated for a test (R580), a rota step (R397) or its retirement (R400). -/
def vacate (s : State) (u : UnitId) (reason : Nat) : State :=
  let s := abortUnit s u
  if u.cls = RUnit.bob.cls then vacateBob s u.inst reason
  else if u.cls = RUnit.pil.cls ∧ u.sub = 8 then
    (List.range 16).foldl (fun v i => vacateBob v (16 * u.inst + i) reason) s
  else if u.cls = RUnit.pil.cls then vacateBank s u.inst u.sub reason
  else s

/-! ### Shortage (R401) -/

/-- Strands that may be suspended for capacity, in the order of R401: B, M, single-ply C, plied C; the highest index
first. -/
def suspendOrder (s : State) : List Nat :=
  let rank (e : Nat × Option Strand) : Nat := match e.2 with
    | none => 9
    | some x => match dCls x.decl with
      | 3 => 0 | 2 => 1 | 1 => if 1 < x.plies.length then 3 else 2 | _ => 9
  (sortBy (fun e => rank e * 2 ^ 21 + (2 ^ 21 - 1 - e.1)) (s.whrl.strands.filter fun e => decide (rank e < 9))).map (·.1)

/-- A strand is suspended for capacity: its plies leave at once, a running one at its drain point; it gives up its load, and a
single-ply strand its slot, its image going to the parking region (R369, R401). -/
def capSuspend (s : State) (idx : Nat) : State :=
  match strand s idx with
  | none => s
  | some x =>
    if x.plies.any fun p => decide (p.st = .suspended ∨ p.st = .faulted) then s
    else
      let s1 := modStrand (abortMigs s idx) idx fun y => { y with plies := y.plies.map fun p =>
        if p.st = .running then { p with atDrain := some 2 } else { p with st := .suspended } }
      let s2 := { s1 with prck := { s1.prck with capSusp := s1.prck.capSusp ++ [idx] } }
      let s3 := prckLogNow s2 9 9 idx 0 (match x.plies[0]? with | some p => p.bob | none => 0) 0 0
      if x.plies.length = 1 ∧ (x.plies.all fun p => decide (p.st ≠ .running)) = true then parkStrand s3 idx 9 else s3

/-- A wanted move has a place. -/
def hasPlace (s : State) (w : Want) : Bool :=
  match strand s w.idx, ply? s w.idx w.ply with
  | some x, some p => !(places s w.idx w.ply x.decl x.segs (moveTaken x w.ply p w.reason) (some p.bob)).isEmpty &&
      ((places s w.idx w.ply x.decl x.segs (moveTaken x w.ply p w.reason) (some p.bob)).any fun b => (freeSlot s (pilOf b)).isSome)
  | _, _ => true

/-- A mandatory move that no place can take: unpinned strands are parked until there is one, then others suspended in order, where
that makes a place; else a P-class strand runs short of that ply, its last ply staying where it is, and another strand is
suspended itself (R401). That nothing is suspended in vain is DEDUCED, log entry 162. -/
def shortage (s : State) (w : Want) : State :=
  if hasPlace s w then s
  else
    let parked := (strandIdx s).foldl (fun u i => if hasPlace u w then u else match strand u i with
      | some x => if !neverParked u x.decl && (match ply? u i 0 with | some p => decide (p.st = .staged) | none => false) then
          parkStrand u i 9 else u
      | none => u) s
    let s1 := (suspendOrder parked).foldl (fun u i => if hasPlace u w ∨ i = w.idx then u else capSuspend u i) parked
    if hasPlace s1 w then s1
    else match strand parked w.idx with
      | some x =>
        if dCls x.decl = 0 ∧ ((livePlies x).filter (· ≠ w.ply)) = [] then parked
        else if dCls x.decl = 0 then
          condErr { modPly parked w.idx w.ply fun p => { p with rebuild := true } with
            prck := { parked.prck with plyShort := true } } pgPRCK 0
        else capSuspend parked w.idx
      | none => parked

/-- Wanted mandatory moves are decided again, after what R401 does for want of room; a strand suspended for capacity waits for room
to return. -/
def serveWants (s : State) : State :=
  (s.prck.wants.filter fun w => decide ((w.reason = 5 ∨ w.reason = 7) ∧ w.idx ∉ s.prck.capSusp)).foldl (fun u w =>
    let u1 := shortage u w
    if movesNow u1 w then decide' u1 w else u1) s

/-- Room has returned: plies are restored first, then suspended strands resume in the reverse order (R401). -/
def roomReturns (s : State) : State :=
  let s1 := (s.prck.wants.filter fun w => match ply? s w.idx w.ply with | some p => p.rebuild | none => false).foldl decide' s
  let short := (strandIdx s1).any fun i => match strand s1 i with
    | some x => decide (dCls x.decl = 0) && x.plies.any fun p => p.rebuild && !(migOf s1 i 0).isSome
    | none => false
  let s2 := if s1.prck.plyShort && !short then condEnd { s1 with prck := { s1.prck with plyShort := false } } pgPRCK 0 else s1
  let s3 := s2.prck.capSusp.reverse.foldl decideNow s2
  s3.prck.capSusp.reverse.foldl (fun u i => match strand u i with
    | none => { u with prck := { u.prck with capSusp := u.prck.capSusp.filter (· ≠ i) } }
    | some x =>
      let fits := x.plies.all fun p => (p.slot.isSome || decide (u.dra.st ≠ .failed)) && bobOk u p.bob && !excluded u (pilOf p.bob) &&
        ctxBanksOk u (pilOf p.bob) &&
        pilFits u (fmaxAch u (pilOf p.bob)) ((pilLoads { u with prck := { u.prck with capSusp := u.prck.capSusp.filter (· ≠ i) } }
          (pilOf p.bob) none).map (·.2))
      if !fits || (x.plies.any fun p => decide (p.st = .running)) then u
      else
        let u1 := modStrand u i fun y => { y with plies := y.plies.map fun p =>
          { p with st := if p.slot.isSome then .staged else .parked } }
        msgTrigger (prckLogNow { u1 with prck := { u1.prck with capSusp := u1.prck.capSusp.filter (· ≠ i) } } 10 9 i 0 0
          (match x.plies[0]? with | some p => p.bob | none => 0) 0) i false) s3

/-! ### Creation and freeing (R337, R339, R377) -/

/-- A record that R337 or R377 refuses (RESULT 5). -/
def badRecord (s : State) (idx : Nat) (d : List W32) : Bool :=
  let cls := dCls d
  let trig := dTrig d
  let rate := tlRateW s (dTl d)
  let group := s.whrl.strands.filterMap fun e => match e.2 with
    | some x => if e.1 ≠ idx ∧ dAnti d ≠ 0 ∧ dAnti x.decl = dAnti d then some x else none
    | none => none
  let affs := s.whrl.strands.any fun e => match e.2 with
    | some x => decide (e.1 ≠ idx) && decide (dAff d ≠ 0) && decide (dAff x.decl = dAff d) && decide (dAnti d ≠ 0) &&
        decide (dAnti x.decl = dAnti d) && affHard s (dAff d) d
    | none => false
  let affs2 := (strandIdx s).any fun i => (strandIdx s).any fun k => match strand s i, strand s k with
    | some x, some y => decide (i ≠ k) && decide (dAff d ≠ 0) && decide (dAff x.decl = dAff d) && decide (dAff y.decl = dAff d) &&
        decide (dAnti x.decl ≠ 0) && decide (dAnti x.decl = dAnti y.decl) && affHard s (dAff d) d
    | _, _ => false
  !dValid d || decide (dPlies d = 0) || decide (dOvr d = 3) ||
    (decide (cls = 0) && decide (trig ≠ 0)) || (decide (2 ≤ cls) && decide (1 < dPlies d)) ||
    (decide (dOvr d = 0) && decide (cls < 2)) || (decide (dOvr d = 2) && decide (cls = 0)) ||
    (decide (trig = 0) && (decide (dDiv d = 0) || decide (dDiv d ≤ dPhase d) ||
      (decide (tlModeW s (dTl d) = 1) && decide (rate < dDiv d)))) ||
    (decide (trig = 2) && decide (dPeriod d < 1000)) ||
    (decide (trig = 1) && ((decide (dKind d = 1) && decide (64 ≤ dSource d)) || (decide (dKind d = 2) && decide (32 ≤ dSource d)) ||
      (decide (dKind d = 3) && decide (3 ≤ dSource d)))) ||
    (decide (cls = 0) && (decide (dWcet d = 0) || decide (dBudget d < dWcet d))) ||
    decide (dEntry d / 1024 ∈ s.mem.loading) ||
    (dPillowFix d && (decide (cls = 0) || decide (1 < dPlies d))) || (dShadowReq d && decide (cls ≠ 0)) ||
    decide (16 < (group.map fun x => x.plies.length).foldl (· + ·) (if dAnti d = 0 then 0 else dPlies d)) || affs || affs2

/-- A ply as it stands after creation. -/
def newPly (b : Nat) (slot : Option Nat) (st : SState) : Ply where
  bob := b
  slot := slot
  st := st
  deadline := 0
  preempted := false
  merged := false
  missed := false
  queue := []
  waitFor := none
  atDrain := none
  rebuild := false
  ctxCrc := none
  sent := 0
  tick := 0
  tickNum := 0
  trips := []
  pubOpen := []
  pubDone := []
  staging := false
  side := Side.reset

/-- The segments a strand declares are placed at one bank and offset in every pillow of its plies, outside the ranges `keep` of its
rings (R386, R422). -/
def placeSegs (s : State) (places : List (Nat × Nat)) (keep : List Seg) : List SegReq → Option (List Seg × State)
  | [] => some ([], s)
  | r :: t =>
    match findSeg s (places.map fun e => pilOf e.1) keep r.bank r.len with
    | none => none
    | some g =>
      let s1 := places.foldl (fun u e => assign u (pilOf e.1) g (1 + 4 * e.2)) s
      (placeSegs s1 places keep t).map fun e => (g :: e.1, e.2)

/-- An entry of the shadow directory put in place of the one with its shadow; the directory's generation rises (R402, R460). -/
def dirSet (s : State) (e : DirEnt) : State :=
  { s with prck := { s.prck with
    dir := (s.prck.dir.filter fun d => decide (d.shadow ≠ e.shadow)) ++ [e], dirGen := (s.prck.dirGen + 1) % 2 ^ 32 } }

/-- The entry of a primary changes its state. -/
def dirPrimary (s : State) (primary : W32) (st : DirState) : State :=
  match s.prck.dir.find? fun d => decide (d.primary = primary) with
  | some d => dirSet s { d with st := st }
  | none => s

/-- A shadow's entry changes its state. -/
def dirState (s : State) (shadow : W32) (st : DirState) : State :=
  match s.prck.dir.find? fun d => decide (d.shadow = shadow) with
  | some d => dirSet s { d with st := st }
  | none => s

/-- A shadow of a primary may be assigned to this engine (R24, R376, R402): a manager is active, the declaration asks for a
shadow, and with SHADOW_RING both engines lie on one ring. -/
def shadowAssigned (s : State) (d : List W32) (primary : W32) : Bool :=
  (s.glb.present || decide (s.glb.role = 2)) && dShadowReq d &&
    (!dShadowRing d || decide (idEngine primary / 64 = s.glb.engineNum / 64))

/-- A GOOSE area's words as a pillow that joins its route gets them: header, and the values in both halves (R479). -/
def areaWords (x : GoSub) : List TWord := TWord.nat (w32 x.hdr) :: (x.vals ++ x.vals)

/-- A strand created beside loaded subscriptions that name it gets their rings and areas in its plies' pillows (R386, R387); what
an area that joins a route holds at first is not stated (DEDUCED, log entry 152). -/
def joinRings (s : State) (idx : Nat) (bobs : List Nat) : State :=
  let ps := (bobs.map pilOf).eraseDups
  let s1 := ps.foldl (fun u p => (ringSegs s idx).foldl (fun v g => if ringShared s idx p g then v else assign v p g 2) u) s
  if ringSegs s idx = [] then s1
  else s1.pio.goose.foldl (fun u e => match e.2 with
    | some x => if x.cons.any (fun c => decide (consStrand c = idx)) then
        (ps.filter fun p => !ringShared s idx p ⟨x.area / 32768, x.area % 32768, 1 + 2 * goW x.entry⟩).foldl (fun v p =>
          bankSetList v (p * 2 ^ 18 + x.area) (areaWords x)) u
      else u
    | none => u) s1

/-- Room for one more resident strand in a pillow: a free slot beside those that stay free for staging where the strand may park,
`parks`, and any free slot where not (R394). -/
def slotRoom (s : State) (p : Nat) (parks : Bool) : Bool :=
  decide ((slotsUsed s p).eraseDups.length + (if parks then stageSlots s else 0) < 1024)

/-- A slot is freed in a pillow for a strand by parking the resident one that ranks last: any where the new one must be resident,
else one with a lower rate than the new one's (R377, R394). -/
def makeRoom (s : State) (p : Nat) (rate : Option Nat) : State :=
  if slotRoom s p rate.isSome then s
  else match lastResident s p with
    | some (i, r) => if (match rate with | some n => decide (r < n) | none => true) then parkStrand s i 10 else s
    | none => s

/-- CREATE of strand idx (R337, R339, R369, R377): the RESULT code, and the state it leaves. Only pinned strands own
segments (R378). The manager enters a strand of its own that asks for a shadow in its directory (R402); whom it assigns, and under
which ID, is its own choice: a free value (log entry 151). -/
def createStrand (s : State) (idx : Nat) (segs : List SegReq) (shadowOf : Option W32) : Nat × State :=
  let d := dramWords s ((rd s pgDRA 0x0A4).toNat * 2 ^ 20 + 32 * idx) 8
  if (strand s idx).isSome then (4, s)
  else if s.dra.st = .failed then (6, s)
  else if badRecord s idx d then (5, s)
  else
    let never := neverParked s d
    let reqs := if dPinned d then segs else []
    let rings := if dPinned d then ringRanges s idx else []
    let id := w32 (rdF s pgGLB 0x080 0 11 * 2 ^ 21 + idx)
    let asIf : Strand := {
      id := id, decl := d, plies := [], segs := [], vector := 0, held := [], shadowOf := shadowOf
      shadowed := false, taken := false, handback := false, yielded := false, recent := [], timerAt := 0, sends := [] }
    let rate := if never then none else some (releaseRate s asIf)
    let room (bobs : List Nat) : State := bobs.foldl (fun u b => makeRoom u (pilOf b) rate) s
    let slots (u : State) (bobs : List Nat) : List (Nat × Option Nat) := bobs.map fun b => (b, freeSlot u (pilOf b))
    let full (u : State) (bobs : List Nat) : Bool := bobs.any fun b => !slotRoom u (pilOf b) (!never)
    let segsAt (u : State) (bobs : List Nat) := placeSegs u ((slots u bobs).map fun e => (e.1, e.2.getD 0)) rings reqs
    match choosePlies s idx d (fun bobs => !(never && full (room bobs) bobs) && (segsAt s bobs).isSome &&
        bobs.all fun b => roomFor s idx (pilOf b) rings) (dPlies d) [] with
    | none => (6, s)
    | some bobs => match segsAt (room bobs) bobs with
      | none => (6, s)
      | some (gs, s1) =>
        let parked := full (room bobs) bobs
        let plies := (slots (room bobs) bobs).map fun e =>
          newPly e.1 (if parked then none else e.2) (if parked then .parked else .staged)
        let x : Strand := { asIf with plies := plies, segs := gs }
        let s2 := setStrand (bobs.foldl (fun u b => bankOn (bankOn u (pilOf b) 6) (pilOf b) 7) s1) idx (some x)
        let s3 := joinRings ((List.range plies.length).foldl (fun u j => ctxPlace (ctxReset u idx j) idx j) s2) idx bobs
        let s4 := (List.range plies.length).foldl (fun u j =>
          prckLogNow u 1 0 idx j 0 (bobs.getD j 0) 64) s3
        let s5 := match shadowOf with
          | some p => dirSet s4 ⟨p, id, .running⟩
          | none => if dShadowReq d = true ∧ s.glb.role = 2 then
              let (v, u) := free32 s4
              let e := if dShadowRing d then s.glb.engineNum / 64 * 64 + idEngine v % 64 else idEngine v
              dirSet u ⟨id, w32 (e * 2 ^ 21 + idIndex v), .assigned⟩
            else s4
        (2, (bobs.map pilOf).eraseDups.foldl (fun u p => rampUp (setFloor u p) p)
          { s5 with prck := { s5.prck with judged := true } })

/-- FREE of a strand: its slots, segments and rings are free, its migrations end (R369, R393). -/
def freeStrand (s : State) (idx : Nat) : State :=
  match strand s idx with
  | none => s
  | some x =>
    let s := abortMigs s idx
    let rings := ringSegs s idx
    let s1 := x.plies.foldl (fun u p =>
      let own := x.segs ++ rings.filter fun g => !ringShared s idx (pilOf p.bob) g
      own.foldl (fun v g => unassign v (pilOf p.bob) g) u) s
    let s2 := setStrand s1 idx none
    let s3 := { s2 with
      prck := { s2.prck with
        migs := s2.prck.migs.filter fun m => decide (m.idx ≠ idx)
        wants := s2.prck.wants.filter fun w => decide (w.idx ≠ idx)
        capSusp := s2.prck.capSusp.filter (· ≠ idx) }
      whrl := { s2.whrl with overflow := s2.whrl.overflow.filter fun e => decide (e.1 ≠ idx) } }
    roomReturns ((x.plies.map fun p => pilOf p.bob).eraseDups.foldl setFloor (stuckEnd s3))

/-! ### The context check (R389, R390) -/

/-- The words the check covers: 0 to 36 and 40 to 63, entries at or above a depth as zero, each as its container. -/
def ctxCrcOf (s : State) (idx : Nat) (p : Ply) : W32 :=
  let ws := (List.range 64).map fun j => ctxGet s idx p j
  let st := (ws.getD 33 voidWord).pay
  let dsd := bits st 19 5
  let rsd := bits st 24 5
  crc32c ((List.range 64).flatMap fun j =>
    if 37 ≤ j ∧ j < 40 then []
    else if (j < 16 ∧ dsd ≤ j) ∨ (16 ≤ j ∧ j < 32 ∧ rsd + 16 ≤ j) then leBytes 8 0
    else leBytes 8 (ws.getD j voidWord).container.toNat)

/-- CTX_CHECK_COMPARE: after the last ply's save the values are compared; a mismatch raises CTX_MISMATCH, and the odd ply is
rebuilt or every ply restarts with its segments VOID (R389, R390). -/
def ctxCompare (s : State) (idx : Nat) : State :=
  match strand s idx with
  | none => s
  | some x =>
    let js := (livePlies x).filter fun j => !plyGone x j
    let got := js.filterMap fun j => (x.plies[j]?).bind fun p => p.ctxCrc.map fun c => (j, c)
    let clear (u : State) : State := modStrand u idx fun y => { y with plies := y.plies.map fun p => { p with ctxCrc := none } }
    if !rdB s pgPRCK 0x080 2 ∨ js.length < 2 ∨ got.length < js.length then s
    else match judge js got true with
      | .act _ [] | .wait => clear s
      | .act _ odd =>
        let s1 := raiseErr (abortMigs (clear s) idx) pgPRCK 1 0 (plyUnits x odd)
        odd.foldl (fun u j => startRebuild u idx j) s1
      | .differ _ =>
        let s1 := raiseErr (abortMigs (clear s) idx) pgPRCK 1 0 (plyUnits x js)
        let s2 := js.foldl (fun u j => ctxReset u idx j) s1
        x.plies.foldl (fun u p => x.segs.foldl (fun v g => bankFill v (bankAddr (pilOf p.bob) g.bank g.off) g.len) u) s2

/-! ### Commands -/

/-- Moves left this second under MIG_MAX (R384, R408). -/
def moveAllowed (s : State) : Bool × State :=
  let sec := secOf s.stc.cnt
  let n := if s.prck.moveSec = sec then s.prck.moveCount else 0
  if n < max 1 (rdF s pgPRCK 0x08C 0 8) then
    (true, { s with prck := { s.prck with moveSec := sec, moveCount := n + 1 } })
  else (false, s)

/-- Work of a pillow in the order in which it is moved: B, M, C, then plies of P (R382). -/
def workOf (s : State) (p : Nat) : List (Nat × Nat) :=
  let all := (List.range 16).flatMap fun i => pliesOn s (16 * p + i)
  let free := all.filter fun e => !(s.prck.wants.any fun w => decide (w.idx = e.1)) &&
    (match strand s e.1 with | some x => !(dPillowFix x.decl) | none => false)
  sortBy (fun e => 3 - (match strand s e.1 with | some x => dCls x.decl | none => 0)) free

/-- One limited move away from a pillow, for a reason (R382, R384). -/
def moveAway (s : State) (p reason : Nat) : State :=
  match workOf s p with
  | [] => s
  | e :: _ => match moveAllowed s with
    | (false, u) => u
    | (true, u) => want u e.1 e.2 reason

/-- An input of a pillow against its threshold: beyond it, or returned past it by the margin (R382). -/
def inputState (s : State) (o : PilSample) (i : Nat) : Bool × Bool :=
  let th := rd s pgPRCK 0x088
  let hy := rd s pgPRCK 0x090
  match i with
  | 0 => (decide (bits th 0 8 < o.util), decide (o.util + bits hy 0 8 ≤ bits th 0 8))
  | 1 => (decide ((bits th 8 8 : Int) < o.temp), decide (o.temp + (bits hy 8 8 : Int) ≤ (bits th 8 8 : Int)))
  | _ => (decide (o.head < bits th 16 8), decide (bits th 16 8 + bits hy 16 8 ≤ o.head))

/-- One input of one pillow at a sample: acting starts after DWELL beyond the threshold and stops past the margin, and with it the
moves that it asked for and that are not yet decided (R382). -/
def loopInput (s : State) (p i : Nat) (o : PilSample) : State :=
  let key := p * 4 + i
  let (past, back) := inputState s o i
  let since := SMap.get s.prck.beyond 0 key
  let dwell := rdF s pgPRCK 0x08C 8 8 * 10 * msN
  let since' := if past then (if since = 0 then s.now + 1 else since) else 0
  let reason := match i with | 2 => 3 | 1 => 2 | _ => 1
  let stops := decide (key ∈ s.prck.acting) && back
  let here (w : Want) : Bool := match ply? s w.idx w.ply with | some q => decide (pilOf q.bob = p) | none => false
  let acting := if back then s.prck.acting.filter (· ≠ key)
    else if past && decide (since' + dwell ≤ s.now + 1) && decide (key ∉ s.prck.acting) then s.prck.acting ++ [key]
    else s.prck.acting
  { s with prck := { s.prck with
    beyond := SMap.set s.prck.beyond 0 key since', acting := acting
    wants := if stops then s.prck.wants.filter fun w => !(decide (w.reason = reason) && here w) else s.prck.wants } }

/-- Every ply of a pillow has a place in other pillows, and every place that it could take keeps its pillow below `hi` with all the
pillow's work (R384). -/
def fitsElsewhere (s : State) (p hi : Nat) : Bool :=
  (List.range 16).all fun i => (pliesOn s (16 * p + i)).all fun e => match strand s e.1, ply? s e.1 e.2 with
    | some x, some q =>
      let ps := places s e.1 e.2 x.decl x.segs (moveTaken x e.2 q 1) (some q.bob)
      !ps.isEmpty && ps.all fun b => decide (SMap.get s.prck.util 0 (pilOf b) + SMap.get s.prck.util 0 p < hi)
    | _, _ => true

/-- PRCK_LOOP_SAMPLE: the inputs of the 16 pillows, the moves they start, exclusion, consolidation and the clock floors
(R381, R382, R384, R385); and the migrations that firmware has requested since the last sample, by strand and ply (R375): how a
request reaches the unit is not stated (DESIGN CHOICE, log entry 146). -/
def execPrckLoopSample (o : LoopObs) (s : State) : Host.Outcome State Fault Refusal :=
  .next (
    if !pagePowered s pgPRCK then s
    else
      let ps := (List.range 16).filterMap fun p => (o.pils[p]?).map fun x => (p, x)
      let s1 := ps.foldl (fun u e => { u with prck := { u.prck with
        util := SMap.set u.prck.util 0 e.1 e.2.util, temp := SMap.set u.prck.temp 0 e.1 e.2.temp
        head := SMap.set u.prck.head 0 e.1 e.2.head } }) s
      let s2 := ps.foldl (fun u e => (List.range 3).foldl (fun v i => loopInput v e.1 i e.2) u) s1
      let s3 :=
        if !rdB s2 pgPRCK 0x080 0 then s2
        else
          let reasonOf (i : Nat) : Nat := match i with | 2 => 3 | 1 => 2 | _ => 1
          let u1 := [2, 1, 0].foldl (fun u i => (List.range 16).foldl (fun v p =>
            if p * 4 + i ∈ v.prck.acting then moveAway v p (reasonOf i) else v) u) s2
          (List.range 16).foldl (fun v p => if excluded v p then moveAway v p 7 else v) u1
      let hi := rdF s3 pgPRCK 0x088 0 8 - rdF s3 pgPRCK 0x090 0 8
      let s4 :=
        if rdB s3 pgPRCK 0x080 4 then
          match (List.range 16).find? fun p => !(workOf s3 p).isEmpty && fitsElsewhere s3 p hi with
          | some p => moveAway s3 p 1
          | none => s3
        else s3
      let s5 := o.asked.foldl (fun u e => if (migOf u e.1 e.2).isSome then u else want u e.1 e.2 8) s4
      let s6 := serveWants s5
      (List.range 16).foldl setFloor { s6 with prck := { s6.prck with judged := true } })

/-- What the copy of a move meets (R424, R425, R436, R438): a corrected word is counted; an uncorrectable one, or one that the bank is
known to hold, raises BANK_DED and latches its address; at which word an outcome falls is a free value. A copy from the parking region
reads no bank for the context. Answers whether a word could not be read. -/
def moveMeets (s : State) (m : Mig) (ecc : Ecc) : Bool × State :=
  let reads := moveReads s m
  match reads.find? fun a => decide (a ∈ s.mem.bankBad) with
  | some a => (true, bankDed s a 1)
  | none =>
    if ecc = .clean ∨ reads = [] then (decide (ecc = .double), s)
    else
      let (v, s1) := free32 s
      let (w, s2) := bankRead s1 (reads.getD (v.toNat % reads.length) 0) 1 ecc
      (w.isNone, s2)

/-- MIGRATION_COPY_DONE: the copy ends and the move commits while its source stands still (R391, R392), once the target's
pillow runs at the FLOOR that the placement needs (R611). A copy from the parking region waits for the host's clock (R20). -/
def execMigrationCopyDone (idx ply : Nat) (ecc : Ecc) (s : State) : Host.Outcome State Fault Refusal :=
  .next (match migOf s idx ply with
    | none => s
    | some m =>
      let waits : Bool := !s.hif.hostClock && (match ply? s idx (m.rebuildFrom.getD ply) with
        | some q => q.slot.isNone | none => false)
      if !m.copying ∨ pilFreq s (pilOf m.dst) < pilFloor s (pilOf m.dst) ∨ waits = true then s
      else match ply? s idx (m.rebuildFrom.getD ply) with
        | none => s
        | some _ =>
          if !moveStill s m then abortMig s m
          else
            let plied := match strand s idx with | some x => decide (1 < x.plies.length) | none => false
            let (bad, s1) := moveMeets s m ecc
            if bad && plied then abortMig s1 m
            else decideNow (commitMig s1 m bad) idx)

/-- When a parked strand is released next: the close or the timer instant, or at once where its trigger has come (R395). -/
def releaseAt (s : State) (x : Strand) (p : Ply) : Option Nat :=
  match dTrig x.decl with
  | 0 =>
    let l := tline s (dTl x.decl)
    let n := dTl x.decl
    let k := l.tick + (dPhase x.decl + dDiv x.decl - l.tick % max 1 (dDiv x.decl)) % max 1 (dDiv x.decl)
    if tlMode s n = 2 then some (l.nominal + (k - l.tick) * l.period)
    else
      let sec := l.nominal / secU
      some ((if k < tlRate s n then tickNominal sec k (tlRate s n) else tickNominal (sec + 1) (dPhase x.decl) (tlRate s n)) +
        tlWindow s n)
  | 2 =>
    let per := max 1 (dPeriod x.decl * 1000 * nsU)
    some ((s.stc.cnt / per + 1) * per)
  | _ => if p.merged then some 0 else none

/-- The staging of a strand may begin: LEAD before its release (R395). -/
def stageDue (s : State) (x : Strand) (p : Ply) : Bool :=
  match releaseAt s x p with
  | some t => decide (t ≤ s.stc.cnt + rdF s pgPRCK 0x09C 0 16 * 1000 * nsU + s.stc.incr)
  | none => false

/-- The strands whose staging is due and whose release comes before another's: they are served first (R395). -/
def stageAhead (s : State) (idx : Nat) (x : Strand) (p : Ply) : Nat :=
  ((strandIdx s).filter fun i => match strand s i, ply? s i 0 with
    | some y, some q => decide (i ≠ idx) && decide (q.st = .parked) && !q.staging && stageDue s y q &&
        decide ((releaseAt s y q).getD 0 < (releaseAt s x p).getD 0)
    | _, _ => false).length

/-- The ranking places a parked strand in its pillow's resident set, and a slot is free for it beside those for staging (R394). -/
def comesBack (s : State) (idx : Nat) (x : Strand) (p : Ply) : Bool :=
  decide (p.st = .parked) && wantsResident s idx x && slotRoom s (pilOf p.bob) true

/-- STAGE_START: the image of a parked strand is fetched, LEAD before the close or instant that releases it, because its
trigger has come, or because the ranking makes it resident; the request ends self-refresh (R394, R395, R559). -/
def execStageStart (idx : Nat) (s : State) : Host.Outcome State Fault Refusal :=
  .next (match strand s idx, ply? s idx 0 with
    | some x, some p =>
      if (p.st ≠ .parked ∧ ¬ (p.st = .waiting ∧ p.slot = none)) ∨ s.dra.st ≠ .ready ∨ s.hif.hostClock = false ∨
          !(stageDue s x p || p.staging || comesBack s idx x p) then s
      else match parkBandwidth s (stageAhead s idx x p) with
        | (false, u) => u
        | (true, u) => modPly (draTouch u) idx 0 fun q => { q with staging := true }
    | _, _ => s)

/-- STAGE_COMPLETE: the image is in a slot of its pillow (R366 to R368); a bad container or a foreign ID places the strand
in FAULTED; one that waits on another trigger than a tick is released. -/
def execStageComplete (idx : Nat) (s : State) : Host.Outcome State Fault Refusal :=
  .next (match strand s idx, ply? s idx 0 with
    | some x, some p =>
      if !p.staging ∨ p.slot.isSome ∨ s.hif.hostClock = false then s
      else
        let ws := (List.range 64).map fun j => ctxGet s idx p j
        let lost := s.dra.poison.any fun l => decide (l = parkAddr s idx 0 / 64 * 64 ∨ (parkAddr s idx 0 ≤ l ∧ l < parkAddr s idx 0 + 512))
        if lost || imageRefused ws x.id then
          modPly s idx 0 fun q => { q with st := .faulted, staging := false }
        else match freeSlot s (pilOf p.bob) with
          | none => s
          | some k =>
            let s1 := modPly s idx 0 fun q => { q with
              slot := some k, staging := false, merged := false, st := if q.st = .parked then .staged else q.st }
            let s1 := { s1 with prck := { s1.prck with
              staged := s1.now :: s1.prck.staged.filter fun t => decide (s1.now < t + 1000 * msN) } }
            let s2 := match ply? s1 idx 0 with
              | some q => prckLogNow (drainOverflow (ctxSetList s1 idx q 0 ws) idx) 5 10 idx 0 q.bob q.bob 64
              | none => s1
            if p.st = .waiting then
              if p.merged then modPly s2 idx 0 fun q => { q with st := .ready } else s2
            else if p.merged ∧ dTrig x.decl ≠ 0 then trigger s2 idx else msgTrigger s2 idx false
    | _, _ => s)

/-- The rota runs (R396). -/
def rotaOn (s : State) : Bool := pagePowered s pgPRCK && rdB s pgPRCK 0x080 1 && (curMode s).runs

/-- ROTA_PERIOD in the unit of `State.now`. -/
def rotaPeriod (s : State) : Nat := rdF s pgPRCK 0x0A0 0 16 * 10 * msN

/-- A sequence of `n` steps in a round takes its next step: one has passed since the last (R396). -/
def rotaDue (s : State) (last n : Nat) : Bool := rotaOn s && decide (max last s.prck.rotaSince + rotaPeriod s / n ≤ s.now)

/-- A unit may be taken by the rota: in service and included in it (R691). -/
def rotaIn (s : State) (page : Nat) (u : UnitId) : Bool :=
  rdB s page 0x038 0 && rdB s page 0x008 0 && !(unitRec s u).retired

/-- The unit of the rota has gone untested for longer than ROTA_PERIOD (R399). -/
def untested (s : State) (page : Nat) (u : UnitId) : Bool :=
  rotaIn s page u &&
    decide (max (SMap.get s.prck.lastProof 0 (unitKey u)) s.prck.rotaSince + rotaPeriod s < s.now)

/-- Some unit of the rota has: a bobbin, a bank that is ON, a lane that is on. -/
def rotaLate (s : State) : Bool :=
  rotaOn s && (((List.range 256).any fun b => untested s (pgBOB b) (bobUnit b)) ||
    ((List.range 128).any fun m => decide (bankPwr s (m / 8) (m % 8) = .on) && untested s (pgPIL (m / 8)) (bankUnit (m / 8) (m % 8))) ||
    (List.range 96).any fun k => laneOn s k && untested s (pgLANE k) (laneUnit k))

/-- PROOF_LATE at the step of a unit that has gone untested for longer than ROTA_PERIOD (R399). -/
def proofLate (s : State) (page : Nat) (u : UnitId) : State :=
  if untested s page u then raiseErr { s with prck := { s.prck with behind := true } } pgPRCK 2 else s

/-- A test of the Selvedge waits for a unit; an error in a unit that waits already, or is under test, joins it (R581). -/
def askTest (s : State) (u : UnitId) (cause : TestCause) (codes : List (Nat × W32)) : State :=
  if unitTested s u then
    let join := fun (t : Test) => if t.unit = u then { t with codes := t.codes ++ codes } else t
    { s with selv := { s.selv with tests := s.selv.tests.map join } }
  else { s with selv := { s.selv with tests := s.selv.tests ++ [⟨u, cause, codes, .waiting, s.now, 0⟩] } }

/-- A decision about no strand, in the decision log: its ID, tick line and tick are 0 (R406). -/
def prckLogUnit (s : State) (kind reason src : Nat) : State :=
  prckLog s { kind := kind, reason := reason, src := src, sec := secOf (nowAt s s.prck.logSeq), ns := nsOf (nowAt s s.prck.logSeq) }

/-- The unit of a rota step, its page, and whether the step may take it: powered and on where the table of R396 names banks and
lanes. -/
def RotaUnit.at' (s : State) : RotaUnit → UnitId × Nat × Bool
  | .bobbin b => (bobUnit b, pgBOB b, true)
  | .bank p k => (bankUnit p k, pgPIL p, decide (bankPwr s p k = .on))
  | .lane k => (laneUnit k, pgLANE k, laneOn s k)

/-- The unit is free for its step: no test waits for it, and of bobbins one is proved at a time. -/
def rotaFree (s : State) (r : RotaUnit) : Bool :=
  !unitTested s (r.at' s).1 && (match r with
    | .bobbin b => bobOk s b && !(s.prck.proving.any fun q => match q with | .bobbin _ => true | _ => false)
    | _ => true)

/-- The unit's step is skipped: the next round takes it first (R399). -/
def rotaSkip (s : State) (r : RotaUnit) : State :=
  { s with prck := { s.prck with skipped := (s.prck.skipped.filter (· ≠ r)) ++ [r] } }

/-- A rota step on a unit: it is vacated and waits for its test (R397), a lane only waits (R398); it is skipped where it is not free
(R399), and passed over where the rota does not include it (R691). -/
def rotaBegin (s : State) (r : RotaUnit) : State :=
  let (u, page, on) := r.at' s
  if !(on && rotaIn s page u) then s
  else
    let s1 := proofLate s page u
    if !rotaFree s r then rotaSkip s1 r
    else
      let s2 := { s1 with prck := { s1.prck with proving := s1.prck.proving ++ [r] } }
      match r with
      | .lane _ => askTest s2 u .rota []
      | _ => askTest (vacate (prckLogUnit s2 7 4 (if u.cls = RUnit.bob.cls then u.inst else 0)) u 4) u .rota []

/-- A step that has not come to its test within its slot is given up: its unit is skipped, and its work stays where it is (R399). -/
def rotaGiveUp (s : State) (mine : RotaUnit → Bool) : State :=
  let stuck := s.prck.proving.filter fun r => mine r && s.selv.tests.any fun t =>
    decide (t.unit = (r.at' s).1 ∧ t.phase = .waiting ∧ t.cause = .rota ∧ t.codes = [])
  stuck.foldl (fun v r =>
    let u := (r.at' v).1
    let v1 := { v with
      selv := { v.selv with tests := v.selv.tests.filter fun t => decide (t.unit ≠ u) }
      prck := { v.prck with
        proving := v.prck.proving.filter (· ≠ r)
        wants := v.prck.wants.filter fun w => !(decide (w.reason = 4) && (match ply? v w.idx w.ply with
          | some p => placeUses v u w.idx p.bob | none => false)) } }
    rotaSkip v1 r) s

/-- The unit of a sequence's step: one that the round before skipped comes first, and the sequence's own unit after. Answers whether
the sequence moves on. -/
def rotaNext (s : State) (mine : RotaUnit → Bool) (own : RotaUnit) : RotaUnit × Bool × State :=
  match s.prck.retry.find? mine with
  | some r => (r, false, { s with prck := { s.prck with retry := s.prck.retry.filter (· ≠ r) } })
  | none => (own, true, s)

/-- A round has ended: what it skipped is taken first in the next (R399). -/
def rotaRound (s : State) (mine : RotaUnit → Bool) : State :=
  { s with prck := { s.prck with
    retry := s.prck.retry ++ s.prck.skipped.filter mine, skipped := s.prck.skipped.filter fun r => !mine r } }

/-- Units of the three sequences. -/
def RotaUnit.isBob : RotaUnit → Bool | .bobbin _ => true | _ => false
def RotaUnit.isBank : RotaUnit → Bool | .bank _ _ => true | _ => false
def RotaUnit.isLane : RotaUnit → Bool | .lane _ => true | _ => false

/-- A step of one sequence (R396, R399): the step before is given up if it still waits, the unit is taken, the index moves on and
at its end the round. That a unit taken first delays the sequence's own by one slot is DEDUCED, log entry 163. -/
def rotaStep (s : State) (mine : RotaUnit → Bool) (own : RotaUnit) (i n : Nat) (set' : Nat → State → State) : State :=
  let s1 := rotaGiveUp s mine
  let (r, on, s2) := rotaNext s1 mine own
  let s3 := rotaBegin s2 r
  let s4 := set' (if on then (i + 1) % n else i) s3
  if on ∧ i + 1 = n then rotaRound s4 mine else s4

/-- ROTA_BOBBIN_STEP: step i takes bobbin 16 × (i mod 16) + (i div 16) (R396, R397). -/
def execRotaBobbinStep (s : State) : Host.Outcome State Fault Refusal :=
  .next (
    let i := s.prck.rotaB
    if !rotaDue s s.prck.rotaBAt 256 then s
    else rotaStep s RotaUnit.isBob (.bobbin (16 * (i % 16) + i / 16)) i 256 fun n u =>
      { u with prck := { u.prck with rotaB := n, rotaBAt := s.now } })

/-- ROTA_BANK_STEP: step m takes bank m div 16 of pillow m mod 16; it waits while a bobbin step runs in that pillow (R396,
R397). -/
def execRotaBankStep (s : State) : Host.Outcome State Fault Refusal :=
  .next (
    let m := s.prck.rotaK
    let p := match s.prck.retry.find? RotaUnit.isBank with | some (.bank q _) => q | _ => m % 16
    if !rotaDue s s.prck.rotaKAt 128 ∨ s.prck.proving.any (fun r => match r with | .bobbin b => decide (pilOf b = p) | _ => false) then s
    else rotaStep s RotaUnit.isBank (.bank (m % 16) (m / 16)) m 128 fun n u =>
      { u with prck := { u.prck with rotaK := n, rotaKAt := s.now } })

/-- ROTA_LANE_STEP: the Selvedge is told that lane k's step falls due (R398). -/
def execRotaLaneStep (s : State) : Host.Outcome State Fault Refusal :=
  .next (
    if !rotaDue s s.prck.rotaLAt 96 then s
    else rotaStep s RotaUnit.isLane (.lane s.prck.rotaL) s.prck.rotaL 96 fun n u =>
      { u with prck := { u.prck with rotaL := n, rotaLAt := s.now } })

/-- Pillows a mask leaves eligible. -/
def eligible (s : State) (v : W32) : Nat :=
  ((List.range 16).filter fun p => !bit v p && !(unitRec s (fabricUnit p)).retired).length

/-- Pillows that the strands' plies and hard affinities need (R385). -/
def pillowsNeeded (s : State) : Nat :=
  (s.whrl.strands.map fun e => match e.2 with
    | some x => max x.plies.length (if affHard s (dAff x.decl) x.decl then 1 else 0)
    | none => 0).foldl max 0
/-- PRCK_EXCLUDE_WRITE: a pillow set takes no new work; a write that would leave too few pillows is ignored (R385). -/
def execPrckExcludeWrite (v : W32) (s : State) : Host.Outcome State Fault Refusal :=
  .next (
    if !pagePowered s pgPRCK then warnEvent s pgPRCK
    else
      let m := w32 (bits v 0 16)
      if eligible s m < pillowsNeeded s then warnEvent s pgPRCK
      else
        let s0 := wr s pgPRCK 0x094 m
        let s1 := { s0 with prck := { s0.prck with wants := s0.prck.wants.filter fun w =>
          !(decide (w.reason = 7) && (match ply? s0 w.idx w.ply with | some q => !excluded s0 (pilOf q.bob) | none => true)) } }
        if rdB s1 pgPRCK 0x080 0 then
          serveWants (roomReturns ((List.range 16).foldl (fun u p => if excluded u p then moveAway u p 7 else u) s1))
        else roomReturns s1)

/-- TICK_HEARTBEAT_RX: a heartbeat of another engine (R404, R405, R460); one whose mode does not run strands counts as
missed. -/
def execTickHeartbeatRx (f : TickHb) (s : State) : Host.Outcome State Fault Refusal :=
  .next (
    let (ok, s1) := interRx s f.h
    if !ok ∨ !rdB s1 pgPRCK 0x080 3 then s1
    else
      let dead := decide (f.mode < 5 ∨ 10 ≤ f.mode)
      let key := f.h.src * 8 + f.line % 8
      let s2 := if dead then s1
        else
          let h : Hb := ⟨some f.tick, (SMap.get s1.prck.heard ⟨none, 0⟩ key).missed⟩
          { s1 with prck := { s1.prck with heard := SMap.set s1.prck.heard ⟨none, 0⟩ key h } }
      f.entries.foldl (fun u e =>
        if idEngine e.1 = u.glb.engineNum then
          match strand u (idIndex e.1) with
          | some x =>
            if x.id ≠ e.1 then u
            else if bit e.2 1 then modStrand u (idIndex e.1) fun y => { y with handback := y.yielded }
            else if bit e.2 0 then
              dirPrimary (modStrand u (idIndex e.1) fun y => { y with yielded := true, shadowed := true }) e.1 .taken
            else u
          | none => u
        else
          (strandIdx u).foldl (fun v i => match strand v i with
            | some x =>
              if x.shadowOf = some e.1 ∧ x.taken ∧ x.handback ∧ bit e.2 2 then
                modStrand v i fun y => { y with yielded := true }
              else v
            | none => v) u) s2)

/-- HAND_BACK: the shadow that PRCK_Q_ID names announces the hand-back (R405, R408). -/
def execHandBack (s : State) : Host.Outcome State Fault Refusal :=
  .next (
    let i := rdF s pgPRCK 0x0A8 0 21
    if !pagePowered s pgPRCK then warnEvent s pgPRCK
    else match strand s i with
      | some x => if x.shadowOf.isSome && x.taken then modStrand s i fun y => { y with handback := true } else s
      | none => s)

/-- SHADOW_DROP: the shadow is freed and its directory entry cleared (R408). -/
def execShadowDrop (s : State) : Host.Outcome State Fault Refusal :=
  .next (
    let i := rdF s pgPRCK 0x0A8 0 21
    if !pagePowered s pgPRCK then warnEvent s pgPRCK
    else match strand s i with
      | some x =>
        if x.shadowOf.isSome then
          let s1 := freeStrand s i
          { s1 with prck := { s1.prck with
            dir := s1.prck.dir.filter fun d => decide (d.shadow ≠ x.id), dirGen := (s1.prck.dirGen + 1) % 2 ^ 32 } }
        else s
      | none => s)

/-- PRCK_CNT_CLR: the counts of the page and LOG_LOST (R408). -/
def execPrckCntClr (s : State) : Host.Outcome State Fault Refusal :=
  .next (
    if !pagePowered s pgPRCK then warnEvent s pgPRCK
    else wrF (wr (wr s pgPRCK 0x0C4 0) pgPRCK 0x0C8 0) pgPRCK 0x0B8 16 16 0)

end Sys2Proof.Machine
end

