-- ==== Sys2Proof/Machine/Context.lean ====
section
/-!
DEFINITION. The context of a core as words: the status word, the loop cells, the landing of results in flight, and the
save and load of a strand's context image (11_strands_whorl.md R338, 09_privilege_exceptions.md R270, R283,
06_bobbin_pipeline.md R174, R177, R192).
-/

namespace Sys2Proof.Machine

/-! ### Stacks -/

/-- Physical entry i of a stack, 0 the deepest (R68). -/
def Stk.get (x : Stk) (i : Nat) : TWord := x.ents.getD i voidWord

/-- Physical entry i written. -/
def Stk.put (x : Stk) (i : Nat) (w : TWord) : Stk :=
  { x with ents := if i < x.ents.length then x.ents.set i w else x.ents ++ List.replicate (i - x.ents.length) voidWord ++ [w] }

/-- A push. -/
def Stk.push (x : Stk) (w : TWord) : Stk := { x.put x.depth w with depth := x.depth + 1 }

/-- Pushes in order, the first deepest. -/
def Stk.pushAll (x : Stk) (ws : List TWord) : Stk := ws.foldl Stk.push x

/-- n entries dropped; their places keep what they hold (R68). -/
def Stk.drop (x : Stk) (n : Nat) : Stk := { x with depth := x.depth - n }

/-- The entry at depth i, 0 the top. -/
def Stk.peek (x : Stk) (i : Nat) : TWord := x.get (x.depth - 1 - i)

/-! ### The status word (R270) -/

/-- Fields [18:0]: the modes, the flags and CQ. -/
def modeBits (m : Modes) (f : Flags) : Nat :=
  m.level.code + m.mask * 2 ^ 2 + m.tcs.code * 2 ^ 5 + at' m.nanInvalid 7 + m.rm.code * 2 ^ 8 + at' m.ft 10 +
    at' f.z 11 + at' f.n 12 + at' f.c 13 + at' f.v 14 + f.cq.val.code * 2 ^ 15 + at' f.cq.tst 17 + at' f.cq.der 18

/-- The stack set in use on a core (R282). -/
def Core.ds (k : Core) : Stk := if k.pset then k.dsP else k.dsU
def Core.rs (k : Core) : Stk := if k.pset then k.rsP else k.rsU

/-- The status word of a core; the spindle shows no depths and no PSET. -/
def statusWord (c : Nat) (k : Core) : W32 :=
  if c = spindle then w32 (modeBits k.modes k.flags + at' k.esc 30)
  else w32 (modeBits k.modes k.flags + k.ds.depth * 2 ^ 19 + k.rs.depth * 2 ^ 24 + at' k.pset 29 + at' k.esc 30)

/-- The modes of a status word. -/
def modesOf (v : W32) : Modes :=
  ⟨Level.ofCode (bits v 0 2), bits v 2 3, Scope.ofCode (bits v 5 2), bit v 7, Rm.ofCode (bits v 8 2), bit v 10⟩

/-- The modes that a new status leaves where the strand is of class P, however the status is written: FT and NAN_INVALID stay
1, TCS 2 and 3 are ignored (R40, R44, R150, R335); the second part says that a warning is raised. -/
def pModes (p : Bool) (old new : Modes) : Modes × Bool :=
  if !p then (new, false)
  else
    let loose := decide (new.tcs = .address ∨ new.tcs = .off)
    ({ new with ft := true, nanInvalid := true, tcs := if loose then old.tcs else new.tcs }, loose || !new.ft)

/-- The strand on a core is of class P. -/
def runsP (s : State) (k : Core) : Bool :=
  match k.strand with
  | some o => match strand s o.idx with | some x => decide (dCls x.decl = 0) | none => false
  | none => false

/-- The flags of a status word. -/
def flagsOf (v : W32) : Flags :=
  ⟨bit v 11, bit v 12, bit v 13, bit v 14, ⟨Val.ofCode (bits v 15 2), bit v 17, bit v 18⟩⟩

/-! ### Loop cells (R283, R284) -/

/-- The three cells of a loop state: all zero without a loop; else the model's own opaque token in LOOPA (R284). -/
def loopCellsOf (s : State) (ls : List Loop) : List W32 × State :=
  if ls = [] then ([0, 0, 0], s)
  else match s.loopCells.findIdx? (fun x => decide (x = ls)) with
    | some i => ([w32 (i + 1), 0, 0], s)
    | none => ([w32 (s.loopCells.length + 1), 0, 0], { s with loopCells := s.loopCells ++ [ls] })

/-- The loop state that three cells bring back; cells the engine has not written give an undefined one (R284): free
values. -/
def loopsOf (s : State) (a b c : W32) : List Loop × State :=
  if a = 0 ∧ b = 0 ∧ c = 0 then ([], s)
  else match (if b = 0 ∧ c = 0 then s.loopCells[a.toNat - 1]? else none) with
    | some ls => (ls, s)
    | none =>
      let (v, s1) := freeWord s
      let (u, s2) := freeWord s1
      let (n, s3) := freeWord s2
      ([⟨v.toNat % 2 ^ 16, u.toNat % 2 ^ 16, n.toNat % 2 ^ 32, true, false⟩], s3)

/-! ### Results in flight (R174, R175, R177) -/

/-- One delayed result lands. -/
def land (k : Core) : Landing → Core
  | .entry true i w => { k with dsP := k.dsP.put i w }
  | .entry false i w => { k with dsU := k.dsU.put i w }
  | .flags z n c v cq => { k with flags := ⟨z, n, c, v, cq⟩ }
  | .sticky m => { k with sticky := Nat.lor k.sticky m }
  | .modes m => { k with modes := m }

/-- What COND sees of a core: flags and the tag of TOS. -/
def snapOf (k : Core) : CondSnap :=
  ⟨k.flags.z, k.flags.n, k.flags.v, (k.ds.peek 0).q.val, decide (0 < k.ds.depth)⟩

/-- A drain point: everything in flight lands, every store is visible, and no distance runs across it (R177, R194). -/
def drain (k : Core) : Core :=
  let k1 := k.flight.foldl (fun u f => land u f.land) k
  { k1 with flight := [], stale := [], staleNew := [], bubbles := 0, late := [], condNow := snapOf k1 }

/-! ### Save and load (R338, R251) -/

/-- Words 32 to 37 of an image. -/
def tailWords (resume : Nat) (slot : Option Nat) (status : W32) (cells : List W32) (left : Nat) (pre : Bool) : List TWord :=
  [TWord.nat (w32 (resume % 2 ^ 16 + (slot.getD 0) % 2 ^ 16 * 2 ^ 16)), TWord.nat status] ++ cells.map TWord.nat ++
    [TWord.nat (w32 ((if pre then left % 2 ^ 28 else 0) + at' pre 30 + at' slot.isSome 31))]

/-- What a context keeps outside its image. -/
def sideOf (k : Core) : Side := ⟨k.areg, k.sticky, k.traps, k.acb, k.acl, k.crcPoly, k.crcCfg, k.fillw⟩

/-- Words 0 to 37 of the image of the U set of a core, with its status word and loop cells (R68, R338). -/
def imageWords (k : Core) (resume : Nat) (slot : Option Nat) (status : W32) (cells : List W32) (pre : Bool) : List TWord :=
  (List.range 16).map k.dsU.get ++ (List.range 16).map k.rsU.get ++ tailWords resume slot status cells k.budgetLeft pre

/-- Words of an image written from word i on, with what a context keeps outside its image. -/
def saveWords (s : State) (idx j i : Nat) (ws : List TWord) (side : Side) (pre : Bool) : State :=
  match ply? s idx j with
  | none => s
  | some p => modPly (ctxSetList s idx p i ws) idx j fun q => { q with side := side, preempted := pre }

/-- The context of a strand's ply written from the U set of a core (R338). -/
def saveImage (s : State) (idx j : Nat) (k : Core) (resume : Nat) (slot : Option Nat) (status : W32) (cells : List W32)
    (pre : Bool) : State :=
  saveWords s idx j 0 (imageWords k resume slot status cells pre) (sideOf k) pre

/-- Where a drained core resumes: a pending delay slot makes the slot's address the second part (R193, R296). -/
def resumePoint (k : Core) : Nat × Option Nat :=
  match k.delay with
  | some (.branch t _ _) => (t, some k.pc)
  | some (.gate _ pc) => (pc, none)
  | _ => (k.pc, none)

/-- The innermost active loop: loops stand in the order in which their bodies were reached, the latest first (R63, R77). -/
def Core.inner (k : Core) : Option Loop := k.loops.find? (·.entered)

/-- The loops without the innermost active one. -/
def dropInner : List Loop → List Loop
  | [] => []
  | l :: t => if l.entered then t else l :: dropInner t

/-- The loop state that a save takes: a pending branch out of the innermost loop has ended it (R185). -/
def savedLoops (k : Core) : List Loop :=
  match k.delay with
  | some (.branch _ _ true) => dropInner k.loops
  | _ => k.loops

/-- Arrival at an address: a loop whose body starts there becomes the innermost active one, or is skipped when its count is
0 (R86). `n` bounds the skips. -/
def arrive (n pc : Nat) (ls : List Loop) : Nat × List Loop :=
  let here (l : Loop) : Bool := !l.entered && decide (pc = l.start)
  match n, ls.find? fun l => here l && decide (l.left = 0) with
  | m + 1, some l => arrive m l.stop (ls.erase l)
  | _, _ => (pc, (ls.filter here).map (fun l => { l with entered := true }) ++ ls.filter fun l => !here l)

/-- The image of the live context of a drained core. -/
def liveWords (s : State) (b : Nat) (k : Core) (pre : Bool) : List TWord × State :=
  let (cells, s1) := loopCellsOf s (savedLoops k)
  let (r, d) := resumePoint k
  (imageWords k r d (statusWord b { k with pset := false, esc := false }) cells pre, s1)

/-- The live context of a drained core saved (R338). -/
def saveLive (s : State) (b : Nat) (k : Core) (o : OnCore) (pre : Bool) : State :=
  let (ws, s1) := liveWords s b k pre
  saveWords s1 o.idx o.ply 0 ws (sideOf k) pre

/-- The bobbin without its strand: its runtime context with its own registers, waiting for the next release (R144, R251, R300). -/
def leaveCore (k : Core) : Core :=
  { k with
    areg := k.rtSide.areg, sticky := k.rtSide.sticky, traps := k.rtSide.traps, acb := k.rtSide.acb, acl := k.rtSide.acl
    crcPoly := k.rtSide.crcPoly, crcCfg := k.rtSide.crcCfg, fillw := k.rtSide.fillw
    strand := none, pstate := .idle, pset := true, esc := false, modes := k.rtModes, pc := k.rtPc, delay := none
    loops := [], flags := Flags.reset, gateReg := none, budgetLeft := 0, budgetPend := false, budgetOver := false
    atHandler := false, late := []
    lbActive := false, lbCap := false }

/-- The context of a ply loaded into a core (R338, R352 step 6, R355), the first words as they were read before (R251). In a
strand of class P, `pClass`, an image's TCS of 2 or 3 leaves the FULL of a context reset (DEDUCED, log entry 130). -/
def loadImage (s : State) (k : Core) (o : OnCore) (p : Ply) (budget : Nat) (pClass : Bool) (early : List TWord) : Core × State :=
  let w (i : Nat) : TWord := (early[i]?).getD (ctxGet s o.idx p i)
  let st := (w 33).pay
  let (ls, s1) := loopsOf s (w 34).pay (w 35).pay (w 36).pay
  let w32' := (w 32).pay
  let w37 := (w 37).pay
  let ds := bit w37 31
  let k1 : Core := { k with
    pstate := .strand
    strand := some o
    dsU := ⟨(List.range 16).map w, min 16 (bits st 19 5)⟩
    rsU := ⟨(List.range 16).map fun i => w (16 + i), min 16 (bits st 24 5)⟩
    rtSide := sideOf k
    pset := false
    esc := false
    modes := (pModes pClass Modes.ctxReset (modesOf st)).1
    flags := flagsOf st
    loops := ls
    areg := p.side.areg
    sticky := p.side.sticky
    traps := p.side.traps
    acb := p.side.acb
    acl := p.side.acl
    crcPoly := p.side.crcPoly
    crcCfg := p.side.crcCfg
    fillw := p.side.fillw
    pc := if ds then bits w32' 16 16 else bits w32' 0 16
    delay := if ds then some (.branch (bits w32' 0 16) 0 false) else none
    bubbles := 0
    late := []
    flight := []
    stale := []
    staleNew := []
    condNow := CondSnap.reset
    gateReg := none
    budgetLeft := if p.preempted then bits w37 0 28 else budget
    budgetPend := decide ((if p.preempted then bits w37 0 28 else budget) = 0)
    budgetOver := false
    switch := none
    atHandler := false
    lbActive := false, lbCap := false }
  ({ k1 with condNow := snapOf k1 }, s1)

/-! ### The code-load barrier (R192) -/

/-- CLB_COMPLETE: with all 256 acknowledgements in, the pages written become live. -/
def clbComplete (s : State) : State :=
  if s.clb.active && decide (256 ≤ s.clb.acks.length) then
    { s with clb := { s.clb with active := false, acks := [] }, mem := { s.mem with loading := [] } }
  else s

/-- A bobbin, or the controller on its behalf, acknowledges the barrier. -/
def clbAck (s : State) (b : Nat) : State :=
  if !s.clb.active ∨ b ∈ s.clb.acks then s
  else
    let s1 := modCore s b fun k => { k with clbPending := false, icache := [], lbActive := false, lbCap := false }
    let s2 := if pagePowered s1 (pgBOB b) then raiseIrq (wr s1 (pgBOB b) 0x0B8 (w32 (s.clb.seq % 2 ^ 16))) (pgBOB b) 1 else s1
    clbComplete { s2 with clb := { s2.clb with acks := b :: s2.clb.acks } }

end Sys2Proof.Machine
end

