-- ==== Sys2Proof/Machine/Whrl.lean ====
section
/-!
DEFINITION. The Whorl (11_strands_whorl.md): the close of a tick, tracking lines, the start, preemption, overrun and fault
of a strand on its bobbin, triggers, timeouts and the strand commands.
-/

namespace Sys2Proof.Machine

/-! ### Tick lines starting and stopping (R349, R361) -/

/-- Ticks per power-system cycle of a tracking line, and its hold in ticks (R372). -/
def trkN (s : State) (n : Nat) : Nat := max 1 (bits (whrlEff s (tlOff n 8)) 0 12)
def trkHold (s : State) (n : Nat) : Nat := max 1 (bits (whrlEff s (tlOff n 8)) 16 8) * trkN s n
/-- FNOM as binary32: 50 Hz or 60 Hz. -/
def trkFnom (s : State) (n : Nat) : W32 := if bit (whrlEff s (tlOff n 8)) 12 then 0x42700000 else 0x42480000
/-- A positive binary32 number as a fraction. -/
def fltFrac (w : W32) : Nat × Nat :=
  let e := f32.uexp w.toNat
  (f32.sig w.toNat * 2 ^ e.toNat, 2 ^ (-e).toNat)
/-- The period of a line at frequency `f`, rounded down to 2⁻³² ns (R349, log entry 32). -/
def trkPeriod (s : State) (n : Nat) (f : W32) : Nat :=
  secU * (fltFrac f).2 / max 1 (trkN s n * (fltFrac f).1)

/-- Line n starts at its first nominal instant after now (R361), a tracking line at tick 0 and at FNOM. -/
def startLine (s : State) (n : Nat) : State :=
  if !bit (whrlEff s 0x080) n ∨ (tline s n).running then s
  else if tlMode s n = 1 then
    let (k, nom) := tickFrom (tlRate s n) (s.stc.cnt + 1)
    setLine s n { Line.reset with running := true, tick := k, nominal := nom, lastClose := s.stc.cnt }
  else if tlMode s n = 2 then
    let per := trkPeriod s n (trkFnom s n)
    setLine s n { Line.reset with
      running := true, nominal := s.stc.cnt + per, lastClose := s.stc.cnt, period := per, freq := trkFnom s n }
  else s

/-- The lines run in the modes of R361 from ARMED on. -/
def startLines (s : State) : State := (List.range 8).foldl startLine s

/-- The lines stop and their counters hold. -/
def stopLines (s : State) : State :=
  (List.range 8).foldl (fun u n => setLine u n { tline u n with running := false, resync := false }) s

/-! ### Absent fill (R56) -/

/-- Every subscribed sample of the tick not yet written is absent, and is counted once for each map. -/
def absentFill (s : State) (n k : Nat) : State :=
  s.pio.sv.foldl (fun u e => match e.2 with
    | none => u
    | some x =>
      if svTl x.entry ≠ n then u
      else if k ∈ x.got then setSv u e.1 { x with got := x.got.filter (· ≠ k) }
      else
        let rings := svRings x.entry
        let u1 := (List.range rings.length).foldl (fun v r =>
          match rings[r]? with
          | none => v
          | some g => routeSet v (routeOfCons v x.cons) (x.ring + r * svDepth x.entry + k % svDepth x.entry)
              (TWord.mk' (ringTy g) ⟨.absent, x.tst.getD r false, false⟩ 0)) u
        bump u1 pgWHRL (tlOff n 0x20) (usedMaps x.entry 7).length) s

/-- Every subscription of the line has the samples of tick k (R13). -/
def allArrived (s : State) (n k : Nat) : Bool :=
  let xs := s.pio.sv.filterMap fun e => match e.2 with
    | some x => if svTl x.entry = n then some x else none
    | none => none
  decide (xs ≠ []) && xs.all fun x => decide (k ∈ x.got)

/-! ### Releases of a tick (R344, R352, R358, R359, R368) -/

/-- Tick k of line n matches the trigger. -/
def lineMatches (d : List W32) (n k : Nat) : Bool :=
  decide (dTrig d = 0 ∧ dTl d = n ∧ k % max 1 (dDiv d) = dPhase d)

/-- A WAITING ply's timeout counts the matching close; at its end the ply is READY (R359). -/
def waitClose (p : Ply) : Ply :=
  match p.st, p.waitFor with
  | .waiting, some (.closes (n + 1)) =>
    if n = 0 then
      if p.slot.isSome then { p with st := .ready, waitFor := some (.closes 0) }
      else { p with staging := true, merged := true, waitFor := some (.closes 0) }
    else { p with waitFor := some (.closes n) }
  | _, _ => p

/-- A strand still READY or RUNNING at its deadline misses the release (R358). -/
def missRelease (s : State) (n idx : Nat) (x : Strand) : State :=
  let js := (List.range x.plies.length).filter fun j => match x.plies[j]? with
    | some p => decide (p.st = .ready ∨ p.st = .running) | none => false
  let s1 := modStrand s idx fun y => { y with plies := y.plies.map fun p =>
    if p.st = .ready ∨ p.st = .running then { p with missed := true } else p }
  let s2 := raiseIrq (bump s1 pgWHRL (tlOff n 0x28) 1) pgWHRL (8 + n)
  if dCls x.decl = 0 then raiseErr s2 pgWHRL 1 0 (plyUnits x js) false (pliesHalted s x js) else s2

/-- What a close does to one strand whose trigger matches tick k. A mode that does not release it leaves it as it is, but for one
halted in place in SERVICE, which misses its release (R358, R361). -/
def closeStrand (s : State) (n k nominal idx : Nat) : State :=
  match strand s idx with
  | none => s
  | some x =>
    if !modeReleases s x.decl then
      if decide (curMode s = .service) && x.plies.any fun p => decide (p.st = .ready ∨ p.st = .running) &&
          decide ((core s p.bob).pstate = .halted) then missRelease s n idx x
      else s
    else
      let s0 := modStrand s idx fun y => { y with plies := y.plies.map waitClose }
      if x.plies.any fun p => decide (p.st = .ready ∨ p.st = .running) then missRelease s0 n idx x
      else if x.plies.any fun p => decide (p.st = .parked) then bump s0 pgWHRL (tlOff n 0x30) 1
      else if x.plies.any fun p => decide (p.st = .staged) && !p.rebuild then
        let s1 := release s0 idx k (nextMatch s0 x.decl k nominal)
        decideStrand (bump s1 pgWHRL (tlOff n 0x34) 1) idx
      else s0

/-- Step 5: every strand whose trigger matches the tick, in the order of the indices. -/
def closeStrands (s : State) (n k nominal : Nat) : State :=
  ((s.whrl.strands.filter fun e => match e.2 with
    | some x => lineMatches x.decl n k | none => false).map (·.1)).foldl (fun u i => closeStrand u n k nominal i) s

/-! ### Heartbeats, takeover and hand-back (R402 to R405) -/

/-- A primary strand: declared with SHADOW_REQ, or taken over once, and no shadow itself. -/
def isPrimary (x : Strand) : Bool := x.shadowOf.isNone && (dShadowReq x.decl || x.shadowed)

/-- Strands of line n. -/
def lineStrands (s : State) (n : Nat) : List (Nat × Strand) :=
  s.whrl.strands.filterMap fun e => match e.2 with
    | some x => if dTrig x.decl = 0 ∧ dTl x.decl = n then some (e.1, x) else none
    | none => none

/-- The entries of the line's heartbeat (R460). -/
def hbEntries (s : State) (n : Nat) : List (W32 × Nat) :=
  (lineStrands s n).filterMap fun e =>
    match e.2.shadowOf with
    | some id => if e.2.taken then some (id, 1 + at' e.2.handback 1) else none
    | none => if isPrimary e.2 then some (e.2.id, if e.2.yielded then 0 else 4) else none

/-- TICK_HEARTBEAT_SEND (R404). -/
def sendHb (s : State) (n k : Nat) : State :=
  let es := hbEntries s n
  if es = [] ∨ !rdB s pgPRCK 0x080 3 then s
  else interSend s 2 0x7FF (8 + 8 * es.length) (.tickHb s.mode.cur.code n k es)

/-- Word 39 of every ply rewritten. -/
def placeAll (s : State) (idx : Nat) : State :=
  match strand s idx with
  | none => s
  | some x => (List.range x.plies.length).foldl (fun u j => ctxPlace u idx j) s

/-- SHADOW_TAKEOVER of one shadow: SHADOW clears in every ply, and it drives its outputs from now on (R404). -/
def takeOver (s : State) (idx : Nat) : State :=
  let s1 := placeAll (modStrand s idx fun y => { y with taken := true, handback := false, yielded := false }) idx
  let s2 := match strand s1 idx with | some x => dirState s1 x.id .taken | none => s1
  prckLogNow (raiseIrq s2 pgPRCK 0) 11 8 idx 0 0 0 0

/-- The tick before tick k of a line. -/
def tickBefore (s : State) (n k : Nat) : Nat :=
  if tlMode s n = 2 then (k + 2 ^ 17 - 1) % 2 ^ 17 else if k = 0 then tlRate s n - 1 else k - 1

/-- The heartbeats of every engine whose shadows this line carries, at the close of tick k (R404): that of the tick before has come
by now, or is missed; after two in a row have been missed, every shadow takes over at the next close. -/
def hbClose (s : State) (n k : Nat) : State :=
  if !rdB s pgPRCK 0x080 3 then s
  else
    let srcs := ((lineStrands s n).filterMap fun e => e.2.shadowOf.map idEngine).eraseDups
    srcs.foldl (fun u e =>
      let key := e * 8 + n
      let h := SMap.get u.prck.heard ⟨none, 0⟩ key
      let mine := (lineStrands u n).filter fun x => decide (x.2.shadowOf.map idEngine = some e) && !x.2.taken
      let u1 := if 2 ≤ h.missed ∧ mine ≠ [] then raiseErr (mine.foldl (fun v x => takeOver v x.1) u) pgPRCK 5 else u
      let h' : Hb := { h with missed := if h.tick = some (tickBefore s n k) ∨ h.tick = some k then 0 else h.missed + 1 }
      { u1 with prck := { u1.prck with heard := SMap.set u1.prck.heard ⟨none, 0⟩ key h' } }) s

/-- Hand-back at a close (R405): a primary drives again after HANDBACK, a shadow holds again after DRIVEN. -/
def handBacks (s : State) (n : Nat) : State :=
  (lineStrands s n).foldl (fun u e =>
    if e.2.shadowOf.isNone then
      if e.2.yielded && e.2.handback then
        modStrand u e.1 fun y => { y with yielded := false, handback := false }
      else u
    else if e.2.taken && e.2.yielded then
      let u1 := dirState
        (placeAll (modStrand u e.1 fun y => { y with taken := false, handback := false, yielded := false }) e.1) e.2.id .running
      prckLogNow (raiseIrq u1 pgPRCK 1) 12 8 e.1 0 0 0 0
    else u) s

/-! ### The close (R351, R352) -/

/-- The instants of the next tick of a fixed line, or its new phase after a step (R346, R351). -/
def nextTick (s : State) (n c : Nat) : State :=
  let l := tline s n
  if l.resync then rephase (setLine s n { l with lastClose := c }) n c
  else
    let rate := tlRate s n
    let sec := l.nominal / secU
    let (k, nom) := if l.tick + 1 < rate then (l.tick + 1, tickNominal sec (l.tick + 1) rate) else (0, (sec + 1) * secU)
    setLine s n { l with tick := k, nominal := nom, lastClose := c }

/-- LAST and MAX of the line's close, in 100 ns (R372). -/
def noteClose (s : State) (n nominal c : Nat) : State :=
  let last := min 65535 ((c - nominal) / (100 * nsU))
  wr s pgWHRL (tlOff n 0x1C) (w32 (last + max last (rdF s pgWHRL (tlOff n 0x1C) 16 16) * 2 ^ 16))

/-- RELEASE_BOUND (R374), and the release jitter of the WHRL snag (R679), which passes the bound only with EXCEED. -/
def releaseBound (s : State) (ok : Bool) : State :=
  let (jitter, s1) := snagFire s pgWHRL [1]
  let beyond := rdB s1 pgWHRL 0x030 4 && decide (100 < jitter)
  if !ok then raiseErr s1 pgWHRL 3 else if beyond then raiseErr s1 pgWHRL 3 0 [] true else s1

/-- The steps of a close of line n at counter value c (R352 steps 4 and 5, R404, R405, R589). -/
def closeTick (s : State) (n c : Nat) (fill agree ok : Bool) : State :=
  let l := tline s n
  let s0 := if agree then s else raiseErr s pgSELV 1
  let s1 := if fill then absentFill s0 n l.tick else s0
  let s2 := wr (noteClose s1 n l.nominal c) pgWHRL (tlOff n 0x18) (w32 (l.tick % 2 ^ 17))
  let s3 := handBacks (hbClose s2 n l.tick) n
  let s4 := closeStrands s3 n l.tick l.nominal
  releaseBound (sendHb s4 n l.tick) ok

/-- WINDOW_CLOSE: the window of the line's tick ends, or its last subscribed sample has come (R13, R352). -/
def execWindowClose (o : CloseObs) (s : State) : Host.Outcome State Fault Refusal :=
  .next (
    let n := o.line
    let l := tline s n
    let c := cntAt s o.sub
    let due := decide (l.nominal + tlWindow s n ≤ c) ||
      (bit (whrlEff s (tlOff n 0)) 2 && decide (l.nominal ≤ c) && allArrived s n l.tick)
    if 8 ≤ n ∨ !l.running ∨ tlMode s n ≠ 1 ∨ !due then s
    else guardAll (nextTick (closeTick s n c true o.agree o.inBound) n c))

/-- The estimate that the owner's plies have written since the last tick, where R350 accepts it. -/
def trkAccept (s : State) (n : Nat) : Option W32 :=
  match strand s (trkOwner s n) with
  | none => none
  | some x =>
    let l := tline s n
    let js := List.range x.plies.length
    let got := l.trkNew.map (·.2)
    match l.trkNew with
    | [] => none
    | (_, w) :: _ =>
      let (a, b) := fltFrac w.pay
      let good := decide (w.ty = .flt ∧ w.q.val = .good) && !(f32.sign w.pay.toNat) && decide (f32.expo w.pay.toNat ≠ f32.emax)
      let lim := whrlEff s (tlOff n 0x0C)
      let inRange := decide (bits lim 0 16 * b ≤ 100 * a ∧ 100 * a ≤ bits lim 16 16 * b ∧ trkN s n * a ≤ 96000 * b)
      if good && inRange && decide (0 < a) && js.all (fun j => decide (j ∈ l.trkNew.map (·.1))) && got.all (fun v => decide (v = w)) then
        some w.pay
      else none

/-- A tracking line takes its estimate at a tick, or counts towards its hold (R350). The new period holds from the next
tick. -/
def trkEstimate (s : State) (n : Nat) : State :=
  let l := tline s n
  match trkAccept s n with
  | some f => setLine s n { l with trkNew := [], trkOkAt := 0, trkNom := false, freq := f, period := trkPeriod s n f }
  | none =>
    let k := l.trkOkAt + 1
    if k < trkHold s n then setLine s n { l with trkNew := [], trkOkAt := k }
    else
      let l' := { l with trkNew := [], trkOkAt := k, trkNom := true, freq := trkFnom s n, period := trkPeriod s n (trkFnom s n) }
      if l.trkNom then setLine s n l' else raiseErr (setLine s n l') pgWHRL 2

/-- TRACKING_TICK: a tracking line ticks at its nominal instant (R349, R350). -/
def execTrackingTick (line : Nat) (o : TickObs) (s : State) : Host.Outcome State Fault Refusal :=
  .next (
    let l := tline s line
    let c := cntAt s o.sub
    if 8 ≤ line ∨ !l.running ∨ tlMode s line ≠ 2 ∨ c < l.nominal then s
    else
      let s1 := closeTick s line c false true o.inBound
      let l1 := tline s1 line
      guardAll (trkEstimate (setLine s1 line { l1 with
        tick := (l1.tick + 1) % 2 ^ 17, nominal := l1.nominal + l1.period, lastClose := c }) line))

/-! ### Drain points (R369) -/

/-- The strand command that waited for a drain point has ended. -/
def scmdEnd (s : State) (idx result : Nat) : State :=
  raiseIrq (wr s pgWHRL 0x090 (w32 (result + (strandSt s idx).code * 2 ^ 4))) pgWHRL 17

/-- A strand none of whose plies is left is FREE. -/
def freeIfGone (s : State) (idx : Nat) : State :=
  match strand s idx with
  | some x => if x.plies.all fun p => decide (p.st = .free) then freeStrand s idx else s
  | none => s

/-- A ply leaves its bobbin at a drain point into a state, or where SUSPEND or FREE has waited for it (R369); the command
that waited ends with its last ply. -/
def plyLeaves (s : State) (idx j : Nat) (st : SState) : State :=
  match ply? s idx j with
  | none => s
  | some p =>
    let st' := match p.atDrain with
      | some 5 => SState.free
      | some 2 => if st = .faulted then .faulted else .suspended
      | _ => st
    let s1 := sendOrphans (freeIfGone (modPly s idx j fun q => { q with st := st', atDrain := none }) idx) idx
    let waiting : Bool := match strand s1 idx with | some x => x.plies.any (·.atDrain.isSome) | none => false
    if decide (s1.whrl.scmdBusy = some idx) && !waiting then
      scmdEnd { s1 with whrl := { s1.whrl with scmdBusy := none } } idx 2
    else s1

/-- A WAKE strand has a ply in the pillow (R428). -/
def holdsWake (s : State) (p : Nat) : Bool :=
  s.whrl.strands.any fun e => match e.2 with
    | some x => dWake x.decl && x.plies.any fun y => decide (pilOf y.bob = p)
    | none => false

/-- A bobbin loses its power: nothing in it is kept (R614). The controller acknowledges a barrier on its behalf (R192). -/
def bobOff (s : State) (b : Nat) : State :=
  clbAck (dropPages (setDom (setCore s b Core.reset) b .off) b) b

/-- Retention of a pillow in ARMED: its bobbins and fabric lose their power, all eight banks and the code memory keep their
contents (R428, R607), as soon as no strand runs there. -/
def retainPil (s : State) (p : Nat) : State :=
  let quiet : Bool := (List.range 16).all fun i => (core s (16 * p + i)).strand.isNone
  let busy : Bool := s.selv.tests.any fun t => decide (t.phase = .running) &&
    (decide (t.unit.cls = RUnit.bob.cls ∧ pilOf t.unit.inst = p) || decide (t.unit.cls = RUnit.pil.cls ∧ t.unit.inst = p))
  if curMode s ≠ .armed ∨ domSt s (384 + p) ≠ .on ∨
      (!rdB s (pgPIL p) 0x080 1 || rdB s (pgPIL p) 0x008 1 || holdsWake s p || !quiet || busy) = true then s
  else
    let s1 := (List.range 16).foldl (fun u i => bobOff u (16 * p + i)) s
    let s2 := dropPages (setDom s1 (384 + p) .retention) (384 + p)
    { s2 with
      mem := { s2.mem with
        bankPwr := (List.range 8).foldl (fun m k => SMap.set m .off (p * 8 + k) .retain) s2.mem.bankPwr
        codeRetain := p :: s2.mem.codeRetain }
      clk := { s2.clk with pilLock := SMap.set s2.clk.pilLock false p false } }

/-- After a bobbin has been left: the strand's moves take their copies, a WAIT ends that a message has reached meanwhile, merged
triggers and queued messages release, the
lanes' guards are judged, and an unpinned strand that is outranked is parked (R344, R345, R391, R394, R458). -/
def afterLeave (s : State) (b idx : Nat) : State :=
  let s1 := copyStart s idx
  let s2 := match strand s1 idx with
    | some x => if !wantsResident s1 idx x && (match ply? s1 idx 0 with | some p => decide (p.st = .staged) | none => false) &&
          !(x.plies.any (·.merged)) then parkStrand s1 idx 10 else s1
    | none => s1
  retainPil (guardAll (msgRelease (afterYield (waitWakes s2 idx) idx) b)) (pilOf b)

/-- The watchdog of a bobbin that is idle or at a drain point starts over (R674). -/
def wdogReload (s : State) (k : Core) : Core :=
  { k with wdogPre := false, wdogDue := s.now }

/-- The bobbin's strand is gone and its runtime waits. -/
def leaveBob (s : State) (b : Nat) : State :=
  modCore s b fun k => wdogReload s (leaveCore k)

/-! ### The order of starts (R353) -/

/-- READY plies of a bobbin that the mode lets start, with their place in the order of R353. -/
def readyOn (s : State) (b : Nat) : List (Nat × Nat) :=
  (pliesOn s b).filter fun e => match strand s e.1, ply? s e.1 e.2 with
    | some x, some p => decide (p.st = .ready) && p.slot.isSome && modeReleases s x.decl
    | _, _ => false

/-- The order of R353: class, a preempted strand first in its class, the earlier deadline, the lower index. -/
def startBefore (s : State) (a b : Nat × Nat) : Bool :=
  match strand s a.1, ply? s a.1 a.2, strand s b.1, ply? s b.1 b.2 with
  | some x, some p, some y, some q =>
    if dCls x.decl ≠ dCls y.decl then decide (dCls x.decl < dCls y.decl)
    else if p.preempted ≠ q.preempted then p.preempted
    else if p.deadline ≠ q.deadline then decide (p.deadline < q.deadline)
    else decide (a.1 < b.1)
  | _, _, _, _ => true

/-- The first in that order. -/
def firstReady (s : State) (b : Nat) : Option (Nat × Nat) :=
  (readyOn s b).foldl (fun best e => match best with
    | none => some e
    | some f => if startBefore s e f then some e else some f) none

/-- What a WAIT pushes (R142): the oldest message, or a timeout header; Z is set for a message. The sender's ID is pushed as
NAT with quality good: the rule gives it neither (DEDUCED, log entry 131). -/
def waitPush (k : Core) (m : Option Msg) : Core :=
  let put (ws : List TWord) (z : Bool) : Core :=
    let d := k.ds.pushAll ws
    let k1 := if k.pset then { k with dsP := d } else { k with dsU := d }
    let k2 := { k1 with flags := { k1.flags with z := z } }
    { k2 with condNow := snapOf k2 }
  match m with
  | some m => put (m.words ++ [TWord.nat m.sender, TWord.nat (w32 m.words.length)]) true
  | none => put [TWord.nat 0x10] false

/-! ### Overruns and faults (R343, R355 to R357) -/

/-- The frame of the entry from U that is open on a bobbin: its FINFO, STATUS, link and loop cells (R283). -/
def openFrame (k : Core) : Option (W32 × W32 × W32 × List W32) :=
  match k.gateReg with
  | none => none
  | some g =>
    let c (i : Nat) : W32 := (k.rsP.get (g.r0 + i)).pay
    if k.pset && decide (g.r0 + 7 ≤ k.rsP.depth) then some (c 4, c 5, c 6, [c 0, c 1, c 2]) else none

/-- The slot of a strand on a bobbin holds a word that cannot be read: a save of its context places the strand in FAULTED (R367). -/
def slotLost (s : State) (b : Nat) (o : OnCore) : Bool := (slotRead s (pilOf b) o.slot 0 .clean).1

/-- The U-level context of a bobbin saved, live or as its open frame holds it; a slot that cannot be read is reported (R367). -/
def saveU (s : State) (b : Nat) (k : Core) (o : OnCore) : State :=
  let s := (slotRead s (pilOf b) o.slot 0 .clean).2
  match openFrame k with
  | some (fi, st, link, cells) =>
    saveImage s o.idx o.ply k link.toNat (if bit fi 10 then some (bits fi 16 16) else none) st cells false
  | none => if k.pset then s else saveLive s b k o false

/-- The privileged set as it stood before the entry from U. -/
def closeFrame (k : Core) : Core :=
  match k.gateReg with
  | some g => { k with dsP := { k.dsP with depth := g.d0 }, rsP := { k.rsP with depth := g.r0 } }
  | none => k

/-- At a drain point (R177) a running strand for which SUSPEND or FREE waits goes (R342, R369): its U-level context is saved as it
stands and its bobbin is left. None where nothing waits. -/
def drainLeave (s : State) (b : Nat) : Option State :=
  let k := core s b
  match k.strand with
  | none => none
  | some o => match ply? s o.idx o.ply with
    | none => none
    | some p =>
      if p.atDrain.isNone then none
      else
        let s1 := saveU s b k o
        let s2 := setCore s1 b (wdogReload s1 (leaveCore (closeFrame k)))
        some (afterLeave (plyLeaves s2 o.idx o.ply (if slotLost s b o then .faulted else .suspended)) b o.idx)

/-- The same, where nothing else is due at the drain point. -/
def drainDone (s : State) (b : Nat) : State := (drainLeave s b).getD s

/-- STRAND_OVERRUN: the runtime handles BUDGET by the strand's policy (R356, R357). -/
def overrun (s : State) (b : Nat) (o : OnCore) : State :=
  let k := drain (core s b)
  match strand s o.idx with
  | none => leaveBob s b
  | some x =>
    let s1 := if dTrig x.decl = 0 then raiseIrq (bump s pgWHRL (tlOff (dTl x.decl) 0x2C) 1) pgWHRL (dTl x.decl) else s
    let s2 := if dCls x.decl = 0 then raiseErr s1 pgWHRL 0 0 [bobUnit b] else s1
    let s3 :=
      if dOvr x.decl = 1 then
        let ws := (ctxFresh x.decl).drop 32
        let u := modPly s2 o.idx o.ply fun p => { p with pubOpen := [], preempted := false, side := sideOf k }
        match ply? u o.idx o.ply with
        | some p => ctxSetList u o.idx p 32 ws
        | none => u
      else saveU s2 b k o
    let s4 := setCore s3 b (wdogReload s3 (leaveCore (closeFrame k)))
    afterLeave (plyLeaves s4 o.idx o.ply (if dOvr x.decl ≠ 1 ∧ slotLost s b o = true then .faulted else if dOvr x.decl = 2 then .suspended else .staged)) b o.idx

/-- STRAND_FAULT_REPORT: after a synchronous exception at U the runtime saves the context as it stands at the faulting
word, places the strand in FAULTED and reports it (R343). -/
def execStrandFaultReport (bob : Nat) (s : State) : Host.Outcome State Fault Refusal :=
  .next (
    let k := drain (core s bob)
    match k.strand, openFrame k with
    | some o, some (fi, _, link, _) =>
      let v := bits fi 0 10
      if 256 ≤ bob ∨ v = 0 ∨ 11 < v then s
      else
        let s1 := saveU s bob k o
        let s2 := modStrand s1 o.idx fun x => { x with vector := v }
        let id := match strand s2 o.idx with | some x => x.id | none => 0
        let s3 := soe s2 9 RUnit.whrl.cls v (TWord.nat 0).tag (w32 (bits fi 12 4 + bits link 0 16 * 2 ^ 16)) id
        let s4 := setCore s3 bob (wdogReload s3 (leaveCore (closeFrame k)))
        afterLeave (plyLeaves s4 o.idx o.ply .faulted) bob o.idx
    | _, _ => s)

/-! ### Timers and timeouts (R344, R359) -/

/-- TIMER_TRIGGER: the STC has reached a whole multiple of the strand's PERIOD (R344). An instant that a backward step makes the STC reach
again does not trigger again while it is the last one taken (DESIGN CHOICE, log entry 176). -/
def execTimerTrigger (idx : Nat) (s : State) : Host.Outcome State Fault Refusal :=
  .next (match strand s idx with
    | some x =>
      let per := max 1 (dPeriod x.decl) * 1000 * nsU
      let m := (s.stc.cnt + s.stc.incr) / per * per
      if dTrig x.decl ≠ 2 ∨ m + per ≤ s.stc.cnt ∨ m < s.stc.cnt ∨ m = x.timerAt then s
      else trigger (modStrand s idx fun y => { y with timerAt := m }) idx
    | none => s)

/-- WAIT_TIMEOUT: the whole millisecond that ends a WAIT off the tick lines is reached (R359). -/
def execWaitTimeout (idx : Nat) (s : State) : Host.Outcome State Fault Refusal :=
  .next (modStrand s idx fun x => { x with plies := x.plies.map fun p =>
    match p.st, p.waitFor with
    | .waiting, some (.msAt t) =>
      if s.stc.cnt + s.stc.incr < t then p
      else if p.slot.isSome then { p with st := .ready } else { p with staging := true, merged := true }
    | _, _ => p })

/-! ### Strand commands (R369, R370) -/

/-- The index in WHRL_SCMD_ID. -/
def scmdIdx (s : State) : Nat := rdF s pgWHRL 0x088 0 21

/-- A refused strand command: RESULT, SCMD_DONE and a warning-class event (R370). -/
def scmdRefuse (s : State) (result : Nat) : State := warnEvent (scmdEnd s (scmdIdx s) result) pgWHRL

/-- The Whorl takes a command: the page has power, RESULT is not busy, and the mode permits commands (R370). -/
def scmd (s : State) (body : Nat → State → State) : State :=
  if !pagePowered s pgWHRL then warnEvent s pgWHRL
  else if rdF s pgWHRL 0x090 0 4 = 1 then s
  else if (curMode s).code < 4 ∨ curMode s = .safe then scmdRefuse s 3
  else body (scmdIdx s) s

/-- The class is one that R370 refuses in the present mode: P in CONFIGURE only for CREATE and FREE, P not in RUN and
DEGRADED for the others. -/
def classRefused (s : State) (cls : Nat) (creating : Bool) : Bool :=
  decide (cls = 0) && (if creating then decide (curMode s ≠ .configure) else decide (curMode s = .run ∨ curMode s = .degraded))

/-- CREATE once its declaration can be read (R337, R339); with `shadow`, the creation on a shadow engine that R402 describes,
which does not come while no shadow can be assigned here (R24). -/
def createNow (s : State) (idx : Nat) (segs : List SegReq) (shadow : Option W32) : State :=
  let d := dramWords s ((rd s pgDRA 0x0A4).toNat * 2 ^ 20 + 32 * idx) 8
  if (match shadow with | some p => !shadowAssigned s d p | none => false) then
    if rdF s pgWHRL 0x090 0 4 = 1 then wr s pgWHRL 0x090 0 else s
  else if (strand s idx).isNone && classRefused s (dCls d) true then scmdRefuse s 7
  else
    let (r, s1) := createStrand s idx segs shadow
    if r = 2 then scmdEnd s1 idx 2 else scmdRefuse s1 r

/-- WHRL_CREATE: RESULT is busy while the channel's clock stands (R20). -/
def execWhrlCreate (segs : List SegReq) (shadow : Option W32) (s : State) : Host.Outcome State Fault Refusal :=
  .next (scmd s fun idx s => hifDma (if s.hif.hostClock then s else wr s pgWHRL 0x090 1) (.create idx segs shadow) fun u =>
    createNow u idx segs shadow)

/-- A command that acts on each ply from whose state it is legal; a RUNNING ply takes it at its drain point (R369). -/
def scmdPlies (s : State) (idx op : Nat) (creating : Bool) (legal : Ply → Bool) (act : Ply → Ply) : State :=
  match strand s idx with
  | none => scmdRefuse s 4
  | some x =>
    if !(x.plies.any legal) then scmdRefuse s 4
    else if classRefused s (dCls x.decl) creating then scmdRefuse s 7
    else
      let s0 := abortMigs s idx
      let one := fun (p : Ply) => if !legal p then p else if p.st = .running then { p with atDrain := some op } else act p
      let s1 := modStrand s0 idx fun y => { y with plies := y.plies.map one }
      let s2 := sendOrphans (freeIfGone s1 idx) idx
      match strand s2 idx with
      | some y =>
        if y.plies.any (·.atDrain.isSome) then
          wr { s2 with whrl := { s2.whrl with scmdBusy := some idx } } pgWHRL 0x090 (w32 (1 + (strandSt s2 idx).code * 2 ^ 4))
        else scmdEnd s2 idx 2
      | none => scmdEnd s2 idx 2

/-- A command that needs every ply in a state it is legal from (R369). -/
def scmdAll (s : State) (idx : Nat) (limited : Bool) (legal : Ply → Bool) (act : State → State) : State :=
  match strand s idx with
  | none => scmdRefuse s 4
  | some x =>
    if !(x.plies.all legal) then scmdRefuse s 4
    else if limited && classRefused s (dCls x.decl) false then scmdRefuse s 7
    else scmdEnd (act s) idx 2

/-- WHRL_SUSPEND. -/
def execWhrlSuspend (s : State) : Host.Outcome State Fault Refusal :=
  .next (scmd s fun idx s =>
    scmdPlies s idx 2 false (fun p => decide (p.st ≠ .free ∧ p.st ≠ .faulted)) fun p => { p with st := .suspended })

/-- WHRL_RESUME: every ply STAGED where it is resident, else PARKED; messages that came meanwhile are its trigger (R344, R366). -/
def execWhrlResume (s : State) : Host.Outcome State Fault Refusal :=
  .next (scmd s fun idx s =>
    scmdAll s idx false (fun p => decide (p.st = .suspended)) fun u =>
      let u1 := modStrand u idx fun y => { y with plies := y.plies.map fun p =>
        { p with st := if p.slot.isSome then .staged else .parked } }
      msgTrigger { u1 with prck := { u1.prck with capSusp := u1.prck.capSusp.filter (· ≠ idx) } } idx false)

/-- WHRL_RESET: every ply SUSPENDED with the context of R339. -/
def execWhrlReset (s : State) : Host.Outcome State Fault Refusal :=
  .next (scmd s fun idx s =>
    scmdAll s idx true (fun p => decide (p.st = .suspended ∨ p.st = .faulted)) fun u =>
      let u0 := abortMigs u idx
      let n := match strand u0 idx with | some x => x.plies.length | none => 0
      let u1 := (List.range n).foldl (fun v j => ctxReset v idx j) u0
      modStrand u1 idx fun y => { y with vector := 0, plies := y.plies.map fun p => { p with st := .suspended } })

/-- WHRL_FREE. -/
def execWhrlFree (s : State) : Host.Outcome State Fault Refusal :=
  .next (scmd s fun idx s =>
    scmdPlies s idx 5 true (fun p => decide (p.st ≠ .free)) fun p => { p with st := .free })

/-- WHRL_CLEAR: FAULTED plies are SUSPENDED, their context unchanged. -/
def execWhrlClear (s : State) : Host.Outcome State Fault Refusal :=
  .next (scmd s fun idx s =>
    modStrand (scmdPlies s idx 6 false (fun p => decide (p.st = .faulted)) fun p => { p with st := .suspended }) idx fun y =>
      if (y.plies.any fun p => decide (p.st = .faulted)) then y else { y with vector := 0 })

/-- WHRL_CNT_CLR: every counter and maximum of the page, and RESYNC (R372). -/
def execWhrlCntClr (s : State) : Host.Outcome State Fault Refusal :=
  .next (
    if !pagePowered s pgWHRL then warnEvent s pgWHRL
    else
      let s1 := (List.range 8).foldl (fun u n =>
        [0x20, 0x24, 0x28, 0x2C, 0x30, 0x34].foldl (fun v o => wr v pgWHRL (tlOff n o) 0)
          (wrF u pgWHRL (tlOff n 0x1C) 16 16 0)) s
      let s2 := wrF (wr s1 pgWHRL 0x09C 0) pgWHRL 0x0A0 16 13 0
      { s2 with whrl := { s2.whrl with resync := false } })

end Sys2Proof.Machine
end

