-- ==== Sys2Proof/Machine/Mem.lean ====
section
/-!
DEFINITION. Pillow memory as its users meet it (13_pillow_memory.md R411 to R438, 02_tagged_words.md R49): reads with their
check bits, scrubbing, bank states, SE1 leases and the bank aperture.
-/

namespace Sys2Proof.Machine

/-! ### Check bits of code memory (R49, R425) -/

/-- An uncorrectable instruction word is reported (R425, R438). -/
def codeDed (s : State) (p a source : Nat) : State :=
  let key := p * 2 ^ 16 + a
  let s1 := { s with mem := { s.mem with codeBad := if key ∈ s.mem.codeBad then s.mem.codeBad else key :: s.mem.codeBad } }
  raiseErr (dedLatch s1 p (0x500000 + key) source) (pgPIL p) 4 8 [fabricUnit p]

/-- An instruction word read from code memory. -/
def codeRead (s : State) (p a source : Nat) (ecc : Ecc) : Option W32 × State :=
  if p * 2 ^ 16 + a ∈ s.mem.codeBad then (none, codeDed s p a source)
  else match ecc with
    | .clean => (some (codeGet s p a), s)
    | .single => (some (codeGet s p a), raiseErr s (pgPIL p) 0 8 [fabricUnit p])
    | .double => (none, codeDed s p a source)
    | .miscorrected =>
      let (v, s1) := free32 s
      (some v, raiseErr (codeSet s1 p a v) (pgPIL p) 0 8 [fabricUnit p])
    | .unnoticed =>
      let (v, s1) := free32 s
      (some v, codeSet s1 p a v)

/-! ### Scrubbing (R424, R425) -/

/-- SCRUB_PERIOD. -/
def scrubPeriod (s : State) (p : Nat) : Nat := rdF s (pgPIL p) 0x084 0 10 * msN

/-- The scrub position in the layout of PIL_SCRUB_POS; key 16 + p holds when the pass began. -/
def scrubPos (s : State) (p : Nat) : Nat := SMap.get s.mem.scrub 0 p
def setScrub (s : State) (key v : Nat) : State := { s with mem := { s.mem with scrub := SMap.set s.mem.scrub 0 key v } }
/-- A pass of a pillow's scrubber begins: the one before it is late no more (R9). -/
def scrubBegin (s : State) (p : Nat) : State :=
  setScrub { s with mem := { s.mem with scrubLate := s.mem.scrubLate.filter (· ≠ p) } } (16 + p) s.now

/-- SCRUB_READ: one word of every ON bank and two instruction words, at the next offset; a corrected word is rewritten, an
uncorrectable one is left and reported. -/
def execScrubRead (pil : Nat) (eccs : List Ecc) (codeEcc codeEcc2 : Ecc) (s : State) : Host.Outcome State Fault Refusal :=
  .next (
    if 16 ≤ pil ∨ !pagePowered s (pgPIL pil) ∨ !rdB s (pgPIL pil) 0x080 0 then s
    else
      let off := scrubPos s pil % 2 ^ 15
      let s1 := (List.range 8).foldl (fun u k =>
        if bankPwr u pil k = .on then (bankRead u (bankAddr pil k off) 2 (eccs.getD k .clean)).2 else u) s
      let s2 := if pil ∈ s1.mem.codeRetain then s1
        else (codeRead (codeRead s1 pil (2 * off) 2 codeEcc).2 pil (2 * off + 1) 2 codeEcc2).2
      if off + 1 < 2 ^ 15 then setScrub s2 pil (scrubPos s pil + 1)
      else
        let passes := (scrubPos s pil / 2 ^ 16 + 1) % 2 ^ 16
        raiseIrq (scrubBegin (setScrub s2 pil (passes * 2 ^ 16)) pil) (pgPIL pil) 0)

/-- SCRUB_LATE: a pass has not finished within its period (R424); the next period runs from there, and the condition stands until the
pass has finished (R9). -/
def execScrubLate (pil : Nat) (s : State) : Host.Outcome State Fault Refusal :=
  .next (
    let due := SMap.get s.mem.scrub 0 (16 + pil) + scrubPeriod s pil
    if 16 ≤ pil ∨ !pagePowered s (pgPIL pil) ∨ !rdB s (pgPIL pil) 0x080 0 ∨ !dueBy s due then s
    else
      let s1 := { s with mem := { s.mem with scrubLate := if pil ∈ s.mem.scrubLate then s.mem.scrubLate else pil :: s.mem.scrubLate } }
      raiseErr (setScrub s1 (16 + pil) due) (pgPIL pil) 3 8 [fabricUnit pil])

/-- SCRUB_NOW: the pass starts again from offset 0. -/
def execScrubNow (pil : Nat) (s : State) : Host.Outcome State Fault Refusal :=
  .next (
    if 16 ≤ pil then s
    else if !pagePowered s (pgPIL pil) then warnEvent s (pgPIL pil)
    else scrubBegin (setScrub s pil (scrubPos s pil / 2 ^ 16 * 2 ^ 16)) pil)

/-- PIL_CNT_CLR: both count registers, PIL_DED_COUNT and PIL_DED_ADDR. -/
def execPilCntClr (pil : Nat) (s : State) : Host.Outcome State Fault Refusal :=
  .next (
    if 16 ≤ pil then s
    else if !pagePowered s (pgPIL pil) then warnEvent s (pgPIL pil)
    else [0x090, 0x094, 0x098, 0x09C].foldl (fun u o => wr u (pgPIL pil) o 0) s)

/-- PIL_OWN_QUERY: the block whose entry PIL_OWN_R shows. -/
def execPilOwnQuery (pil : Nat) (v : W32) (s : State) : Host.Outcome State Fault Refusal :=
  .next (
    if 16 ≤ pil then s
    else if !pagePowered s (pgPIL pil) then warnEvent s (pgPIL pil)
    else wr s (pgPIL pil) 0x0A8 (w32 (bits v 0 14)))

/-! ### Bank states (R426) -/

/-- A bank's state set: what it failed to reach in time before is over. -/
def setBankPwr (s : State) (p k : Nat) (v : BankPwr) : State :=
  { s with
    mem := { s.mem with bankPwr := SMap.set s.mem.bankPwr .off (p * 8 + k) v }
    pwr := { s.pwr with
      late := s.pwr.late.filter (· ≠ 256 + p * 8 + k), wakeLate := s.pwr.wakeLate.filter (· ≠ p * 9 + k) } }

/-- BANK_FILL_DONE: the VOID fill of a bank that comes ON ends, and it grants access. -/
def execBankFillDone (pil bank : Nat) (s : State) : Host.Outcome State Fault Refusal :=
  .next (if bankPwr s pil bank = .waking ∧ pil < 16 ∧ bank < 8 then setBankPwr s pil bank .on else s)

/-- A bank, number 8 the code memory, is on its way out of retention. -/
def wakes (s : State) (p k : Nat) : Bool :=
  if k < 8 then decide (bankPwr s p k = .waking) else decide (p ∈ s.mem.codeRetain ∧ domSt s (384 + p) = .changing)

/-- WAKE_FAIL: a bank, or the code memory, is not ON within 2 µs of its wake; the condition stands until it is ON (R9, R438). -/
def execWakeFail (pil : Nat) (bank : Option Nat) (s : State) : Host.Outcome State Fault Refusal :=
  .next (
    let k := bank.getD 8
    if 16 ≤ pil ∨ 8 < k ∨ !wakes s pil k ∨ pil * 9 + k ∈ s.pwr.wakeLate then s
    else raiseErr { s with pwr := { s.pwr with wakeLate := (pil * 9 + k) :: s.pwr.wakeLate } } (pgPIL pil) 5 k
      [if k = 8 then fabricUnit pil else bankUnit pil k])

/-! ### SE1 leases and the aperture (R429 to R431, R534, R535) -/

/-- State of a lease, and its register. -/
def leaseOf (s : State) (p k : Nat) : LeaseSt := SMap.get s.mem.lease .free (p * 8 + k)
def setLease (s : State) (p k : Nat) (v : LeaseSt) : State :=
  { s with mem := { s.mem with lease := SMap.set s.mem.lease .free (p * 8 + k) v } }
def leaseReg (s : State) (p k : Nat) : W32 := rd s (pgSE1 p) (0x080 + 4 * k)

/-- SE1_LEASE_WRITE: a request or a release (R430, R431). -/
def execSe1LeaseWrite (pil k : Nat) (v : W32) (s : State) : Host.Outcome State Fault Refusal :=
  .next (
    if 16 ≤ pil ∨ 5 ≤ k then s
    else if !pagePowered s (pgSE1 pil) ∨ !lockOpen s .lease then warnEvent s (pgSE1 pil)
    else if leaseOf s pil k = .pending ∨ leaseOf s pil k = .releasing then warnEvent s (pgSE1 pil)
    else if bits v 0 2 = 3 then s
    else
      let s1 := wr s (pgSE1 pil) (0x080 + 4 * k) (v &&& 0xF3)
      match bits v 0 2, leaseOf s pil k with
      | 0, .leased => setLease (bankFill s1 (bankAddr pil k 0) 32768) pil k .releasing
      | 0, _ => s1
      | _, .free => vacateBank (setLease s1 pil k .pending) pil k 8
      | _, _ => s1)

/-- LEASE_GRANTED: every block is FREE, and the bank becomes SYSTEM to all strands (R430). -/
def execLeaseGranted (pil k : Nat) (s : State) : Host.Outcome State Fault Refusal :=
  .next (
    let b := k * 2048
    if 16 ≤ pil ∨ leaseOf s pil k ≠ .pending ∨ !((List.range 2048).all fun i => decide (ownOf s pil (b + i) = 0)) then s
    else raiseIrq (setLease (ownSet (bankOn s pil k) pil b 2048 3) pil k .leased) (pgPIL pil) 1)

/-- LEASE_RELEASED: the fill ends, and the bank returns to placement (R430). -/
def execLeaseReleased (pil k : Nat) (s : State) : Host.Outcome State Fault Refusal :=
  .next (
    if 16 ≤ pil ∨ leaseOf s pil k ≠ .releasing then s
    else raiseIrq (roomReturns (setLease (ownSet s pil (k * 2048) 2048 0) pil k .free)) (pgPIL pil) 1)

/-- SE1_APERTURE_ACCESS: a host read or write of the selected bank, where it is leased to the host (R535); another width or
alignment is a bus error (R4). -/
def execSe1ApertureAccess (place : BusPlace) (wr? : Option W32) (ecc : Ecc) (s : State) : Host.Outcome State Fault Refusal :=
  .next (
    let sel := rd s pgSE1C 0x080
    let p := bits sel 0 4
    let k := bits sel 4 3
    let mine := decide (leaseOf s p k = .leased) && decide (bits (leaseReg s p k) 0 2 = 1) && pagePowered s pgSE1C
    let a := bankAddr p k (place.off / 4 % 32768)
    if place.size ≠ 4 ∨ place.off % 4 ≠ 0 ∨ 0x20000 ≤ place.off then { s with lastAccess := .busError }
    else match wr? with
      | some v => if mine then bankSet s a (TWord.nat v) else warnEvent s pgSE1C
      | none =>
        if !mine then { s with lastAccess := .data 0 }
        else match bankRead s a 3 ecc with
          | (some w, u) => { u with lastAccess := .data w.pay }
          | (none, u) => { u with lastAccess := .busError })

end Sys2Proof.Machine
end

