-- ==== Sys2Proof/Machine/Power.lean ====
section
/-!
DEFINITION. Power domains, clocks and the environment (19_modes_power.md R609 to R617, R625 to R632, 01_engine_organisation.md
R17 to R21), the lockup of a core and the death of the coherent agent (09_privilege_exceptions.md R291, 07_spindle_core.md
R235), the wipe of the scratchpad (13_pillow_memory.md R433).
-/

namespace Sys2Proof.Machine

/-! ### Lockup, the dead agent, the wipe -/

/-- A line of physical memory marked poisoned (R235, R236). -/
def poisonLine (s : State) (line : Nat) : State :=
  match inDram s (line * 64) with
  | some c =>
    let a := c / 64 * 64
    { s with dra := { s.dra with poison := if a ∈ s.dra.poison then s.dra.poison else a :: s.dra.poison } }
  | none => { s with mem := { s.mem with hostPoison := if line ∈ s.mem.hostPoison then s.mem.hostPoison else line :: s.mem.hostPoison } }

/-- A line written whole is poisoned no longer (R236). -/
def curePoison (s : State) (line : Nat) : State :=
  match inDram s (line * 64) with
  | some c => { s with dra := { s.dra with poison := s.dra.poison.filter fun a => decide (a ≠ c / 64 * 64) } }
  | none => { s with mem := { s.mem with hostPoison := s.mem.hostPoison.filter fun l => decide (l ≠ line) } }

/-- The agent is dead: the directory reclaims every line it held; those held in E or M are poisoned (R235, R236), and those whose
writeback has not been acknowledged with them (DESIGN CHOICE, log entry 167). No request is left to be late (R9, R240). -/
def declareDead (s : State) : State :=
  let lost := (s.spn.l2.filter fun e => decide (e.2.st = .e ∨ e.2.st = .m ∨ e.2.st = .ep)).map (·.1)
  let s0 := lost.foldl poisonLine s
  let s1 := { s0 with
    spn := { s0.spn with
      l2 := [], l1d := [], l1i := [], sb := [], reqs := [], pend := none, wb := [], snoops := [], rsv := none
      missed := [], rsvHold := false, connected := false, dead := true } }
  let s2 := condEnd s1 pgSPN 8
  if s.spn.dead then s2 else raiseErr s2 pgSPN 7

/-- A core locks up (R291): it stops, LOCKUP is set, its line is asserted. -/
def lockUp (s : State) (c : Nat) : State :=
  let s1 := modCore s c fun k => { k with pstate := .lockedUp, haltReq := .none }
  let s2 := { s1 with selv := { s1.selv with lockups := if c ∈ s1.selv.lockups then s1.selv.lockups else c :: s1.selv.lockups } }
  if c = spindle then declareDead (raiseErr s2 pgSPN 9)
  else redirect (raiseErr s2 (pgBOB c) 5) (c + 1)

/-- SCRATCHPAD_WIPE: VOID in every container, every key erased (R433, R644); a container that does not read back raises
WIPE_VERIFY and closes the scratchpad (R434). -/
def wipe (s : State) (ok : Bool) : State :=
  let s1 := { s with mem := { s.mem with scratch := [] }, sec := { s.sec with keys := [] } }
  if ok then s1 else raiseErr { s1 with mem := { s1.mem with scratchBad := true } } pgSEC 4

/-! ### Domains -/

/-- The reset state of a bobbin that powers up or leaves a reset (R615): the runtime's entry at instruction word 0. -/
def Core.bobStart : Core := { Core.reset with pstate := .system }

/-- The unit of a domain, as DOMAIN_TIMEOUT names it (R633). -/
def domUnit (d : Nat) : UnitId :=
  if d < 256 then bobUnit d
  else if d < 384 then bankUnit ((d - 256) / 8) ((d - 256) % 8)
  else if d < 400 then fabricUnit (d - 384)
  else if d < 402 then ⟨RUnit.spn.cls, 0, 0⟩
  else if d < 414 then ⟨RUnit.pg.cls, d - 402, 0⟩
  else if d = 414 then ⟨RUnit.prck.cls, 0, 0⟩
  else if d = 415 then ⟨RUnit.sec.cls, 0, 0⟩
  else ⟨RUnit.dra.cls, 0, 0⟩

/-- A pillow fabric has power: its PLL is locked at FLOOR, its scrubber starts, the master patch is in its sequencer, and the pillow
waits for a pillow patch that is being installed (R19, R262, R263, R424, R611). The supply it starts from is not stated: a free value between 0.60 and 0.90 V. -/
def fabricUp (s : State) (p : Nat) : State :=
  let (v, s1) := free32 s
  let s2 := { s1 with
    mem := { s1.mem with codeRetain := s1.mem.codeRetain.filter (· ≠ p) }
    clk := { s1.clk with pilLock := SMap.set s1.clk.pilLock false p true }
    pwr := { s1.pwr with
      freq := SMap.set s1.pwr.freq 0 p (pilFloor s1 p)
      vdd := SMap.set s1.pwr.vdd 0 p (600 + v.toNat % 61 * 5)
      regBad := s1.pwr.regBad.filter (· ≠ p), wakeLate := s1.pwr.wakeLate.filter (· ≠ p * 9 + 8) }
    ucs := { s1.ucs with
      ram := SMap.set s1.ucs.ram none p s1.ucs.pil, bad := s1.ucs.bad.filter fun a => decide (a / 2 ^ 14 ≠ p)
      loading := s1.ucs.loading.map fun l => (l.1, if 16 ∈ l.2 ∨ p ∈ l.2 then l.2 else l.2 ++ [p]) } }
  setScrub (setScrub s2 p 0) (16 + p) s.now

/-- A domain is on. -/
def domOn (s : State) (d : Nat) : State :=
  if domSt s d = .on then s
  else
    let s0 := countUp (setDom s d .on) d
    let s1 := if 384 ≤ d ∧ d < 400 ∧ domSt s d = .off then codeZero s0 (d - 384) else s0
    if d < 256 then setCore s1 d Core.bobStart
    else if 384 ≤ d ∧ d < 400 then fabricUp s1 (d - 384)
    else if 402 ≤ d ∧ d < 414 then { s1 with clk := { s1.clk with pgUnlock := s1.clk.pgUnlock.filter (· ≠ d - 402) } }
    else s1

/-- A bank without power keeps nothing (R426). -/
def bankOff (s : State) (p k : Nat) : State := setBankPwr (bankFill s (bankAddr p k 0) 32768) p k .off

/-- A fabric loses its power, its code memory with it. -/
def fabricOff (s : State) (p : Nat) : State :=
  let s1 := codeZero (dropPages (setDom s (384 + p) .off) (384 + p)) p
  { s1 with
    mem := { s1.mem with
      codeRetain := s1.mem.codeRetain.filter (· ≠ p), scrubLate := s1.mem.scrubLate.filter (· ≠ p) }
    clk := { s1.clk with pilLock := SMap.set s1.clk.pilLock false p false }
    ucs := { s1.ucs with
      ram := SMap.set s1.ucs.ram none p none
      ctxs := s1.ucs.ctxs.filter fun e => decide (e.1 / 17 ≠ p) } }

/-- A port group loses its power: its lanes are off (R614). -/
def pgOff (s : State) (g : Nat) : State :=
  let s1 := (List.range 8).foldl (fun u i => setLane u (8 * g + i) Lane.reset) s
  dropPages (setDom s1 (402 + g) .off) (402 + g)

/-- Every switched domain loses its power: only the always-on domain keeps its state (R608, R610, R617). -/
def powerDownAll (s : State) : State :=
  { s with
    regs := s.regs.filter fun e => decide (pageDom (e.1 / 0x1000) = none)
    cores := [], loopCells := []
    pwr := { s.pwr with doms := [], freq := [], vdd := [] }
    clk := { s.clk with spnLock := false, pilLock := [] }
    eic := Eic.reset, whrl := Whrl.reset, prck := Prck.reset, pio := Pio.reset, dra := { Dra.reset with base := s.dra.base }, ucs := Ucs.reset
    spn := Spn.reset, fport := Fport.reset, clb := Clb.reset, dbg := Dbg.reset, glb := { s.glb with hbSentAt := 0 }
    sec := { s.sec with
      bootSlot := 0, fw := none, tbl := none, code := none, codeImgs := [], fwPc := 0, challenge := none
      grant := none, keys := [] }
    mem := { Mem.reset with host := s.mem.host, hostPoison := s.mem.hostPoison }
    hif := { s.hif with dma := [] }
    selv := { s.selv with lockups := [] } }

/-! ### Always-on power -/

/-- What a part keeps without any power: its fuses, the MRAM of the record store, and the host's own memory. -/
def noPower (s : State) : State :=
  { State.reset with
    pending := s.pending, freeCtr := s.freeCtr, fuses := s.fuses, dra := { Dra.reset with base := s.dra.base }
    nvr := { Nvr.reset with
      powered := false, ring := s.nvr.ring, checkpoints := s.nvr.checkpoints, nextCheck := s.nvr.nextCheck, di := s.nvr.di
      wraps := s.nvr.wraps, carry := s.nvr.carry + s.nvr.queue.length }
    mem := { Mem.reset with host := s.mem.host, hostPoison := s.mem.hostPoison }
    hif := { Hif.reset with msiSent := s.hif.msiSent, hostSleep := s.hif.hostSleep, hostClock := s.hif.hostClock }
    mode := { ModeSt.reset with cur := .off, target := .off }
    selv := { Selv.reset with fnOn := false } }

/-- ALWAYS_ON_POWER_UP: the always-on registers take their reset values, CLK_REF_SEL is latched, the engine enters KEEP with
the STC UNSET and FAULT_N asserted; a life-cycle change that a loss of power has torn is found (R617, R17, R636). -/
def execAlwaysOnPowerUp (ref : BitVec 2) (s : State) : Host.Outcome State Fault Refusal :=
  .next (
    if curMode s ≠ .off then s
    else
      let s1 := { noPower s with
        mode := ModeSt.reset, selv := Selv.reset
        nvr := { (noPower s).nvr with powered := true }
        clk := { Clk.reset with refSel := ref.toNat } }
      if s.fuses.torn then
        wr (raiseErr { s1 with fuses := { s.fuses with torn := false } } pgLCY 0) pgLCY 0x088 15
      else s1)

/-- ALWAYS_ON_POWER_LOSS: OFF; queued records, retirements and the STC are lost, FAULT_N is undriven (R603, R582, R587). -/
def execAlwaysOnPowerLoss (s : State) : Host.Outcome State Fault Refusal := .next (noPower s)

/-! ### Power commands -/

/-- PWR_CNT_CLR: PEAK and every UPS (R626). -/
def execPwrCntClr (s : State) : Host.Outcome State Fault Refusal :=
  .next (if curMode s = .off then s else { s with pwr := { s.pwr with ups := [], powerPeak := s.pwr.powerNow } })

/-- DOMAIN_POWER_UP: a domain on its way is power-good; a retained bank serves again (R609, R426). -/
def execDomainPowerUp (d : Nat) (s : State) : Host.Outcome State Fault Refusal :=
  .next (
    if 256 ≤ d ∧ d < 384 then
      if bankPwr s ((d - 256) / 8) ((d - 256) % 8) = .waking then
        countUp (setBankPwr s ((d - 256) / 8) ((d - 256) % 8) .on) d
      else s
    else if domSt s d = .changing ∧ d ≤ 416 then domOn s d else s)

/-- DOMAIN_TIMEOUT: a domain on its way is not power-good in time; the condition stands until it is (R9, R628). -/
def execDomainTimeout (d : Nat) (s : State) : Host.Outcome State Fault Refusal :=
  .next (
    let waits := if 256 ≤ d ∧ d < 384 then decide (bankPwr s ((d - 256) / 8) ((d - 256) % 8) = .waking)
      else decide (domSt s d = .changing)
    if waits && decide (d ∉ s.pwr.late) then
      raiseErr { s with pwr := { s.pwr with late := d :: s.pwr.late } } pgPWR 5 0 [domUnit d] else s)

/-- The counter value of the next release of a strand on bobbin b (R614, R615): its next matching close, or the next whole
multiple of its PERIOD. -/
def nextRelease (s : State) (b : Nat) : Option Nat :=
  minBy id ((pliesOn s b).filterMap fun e => match strand s e.1 with
    | none => none
    | some x =>
      match dTrig x.decl with
      | 0 =>
        let l := tline s (dTl x.decl)
        let k := (dPhase x.decl + dDiv x.decl - l.tick % max 1 (dDiv x.decl)) % max 1 (dDiv x.decl)
        let per := if tlMode s (dTl x.decl) = 2 then l.period else secU / max 1 (tlRate s (dTl x.decl))
        if l.running then some (l.nominal + k * per + tlWindow s (dTl x.decl)) else none
      | 2 =>
        let per := max 1 (dPeriod x.decl) * 1000 * nsU
        some ((s.stc.cnt / per + 1) * per)
      | _ => none)

/-- PG_LEAD in 2⁻³² ns. -/
def pgLead (s : State) : Nat := rdF s pgPWR 0x088 0 8 * 1000 * nsU

/-- BOB_POWER_GATE: an idle bobbin without a release due within PG_LEAD + 4 µs loses its power (R614). -/
def execBobPowerGate (bob : Nat) (s : State) : Host.Outcome State Fault Refusal :=
  .next (
    let k := core s bob
    let due : Bool := match nextRelease s bob with
      | some t => decide (t ≤ s.stc.cnt + pgLead s + 4000 * nsU)
      | none => false
    if 256 ≤ bob ∨ domSt s bob ≠ .on ∨ k.pstate ≠ .idle ∨ k.haltReq ≠ .none ∨
        (!rdB s pgPWR 0x080 0 || rdB s (pgBOB bob) 0x008 1 || due || !(readyOn s bob).isEmpty ||
          unitTested s (bobUnit bob)) = true then s
    else bobOff s bob)

/-- BOB_PG_WAKE: a power-gated bobbin starts in the state of R615, PG_LEAD before the release that needs it, or for a ply
that is READY on it (R615). -/
def execBobPgWake (bob : Nat) (s : State) : Host.Outcome State Fault Refusal :=
  .next (
    let due : Bool := match nextRelease s bob with
      | some t => decide (t ≤ s.stc.cnt + s.stc.incr + pgLead s)
      | none => false
    if 256 ≤ bob ∨ domSt s bob ≠ .off ∨ domSt s (384 + pilOf bob) ≠ .on ∨ !(due || !(readyOn s bob).isEmpty) ∨
        !((curMode s).runs || decide (curMode s = .armed)) ∨ (unitRec s (bobUnit bob)).retired then s
    else domOn s bob)

/-! ### The pillow's voltage loop (R611, R612) -/

/-- A voltage in steps of 5 mV within the regulator's range. -/
def vddStep (mv : Nat) : Nat := min 900 (max 600 ((mv + 4) / 5 * 5))

/-- PILLOW_VF_UPDATE: 1 µs of the loop: VDD follows the requirement, 20 mV and AGE_OFF at 5 mV per µs; a rise of the
frequency waits for VDD, a fall precedes it, at 25 MHz per µs; FMAX_ACH and VMAX are judged. PWR_POWER's estimate is the
engine's own: a free value. -/
def execPillowVfUpdate (o : VfObs) (s : State) : Host.Outcome State Fault Refusal :=
  .next (
    let p := o.pillow
    if 16 ≤ p ∨ domSt s (384 + p) ≠ .on then s
    else
      let cfg := rd s pgPWR (0x100 + 8 * p)
      let target := if bit cfg 0 then max (pilFloor s p) (bits cfg 16 11) else pilFloor s p
      let f := pilFreq s p
      let v := SMap.get s.pwr.vdd 0 p
      let needed := if f < target then max o.need o.needFloor else o.need
      let goal := vddStep (needed + 20 + 5 * o.ageOff)
      let f' := if target < f then max target (f - 25) else if f < target ∧ goal ≤ v then min target (f + 25) else f
      let v' := if target < f then v else if v < goal then min goal (v + 5) else max goal (v - 5)
      let (w, s1) := free32 s
      let now' := w.toNat % 2 ^ 16
      let was := SMap.get s.pwr.vmax false p
      let low := decide (o.fmaxAch < pilFloor s p)
      let s2 := { s1 with pwr := { s1.pwr with
        freq := SMap.set s1.pwr.freq 0 p f', vdd := SMap.set s1.pwr.vdd 0 p v', ageOff := SMap.set s1.pwr.ageOff 0 p o.ageOff
        fmax := SMap.set s1.pwr.fmax 1400 p o.fmaxAch, vmax := SMap.set s1.pwr.vmax false p low
        powerNow := now', powerPeak := max s1.pwr.powerPeak now' } }
      let s3 := if low && !was then
          raiseErr (wr s2 pgPWR 0x014 (setBit (rd s2 pgPWR 0x014) 3)) pgPWR 3 8 [fabricUnit p] else s2
      if s3.pwr.vmax = [] then condEnd s3 pgPWR 3 else s3)

/-! ### The environment (R613) -/

/-- A persistent condition stands or has gone. -/
def condSet (s : State) (page n : Nat) (on : Bool) : State := if on then condErr s page n else condEnd s page n

/-- ENV_EXCURSION: supplies, every thermal sensor, or a regulator (R613, R626, R628). -/
def execEnvExcursion (e : EnvEvent) (s : State) : Host.Outcome State Fault Refusal :=
  .next (
    if curMode s = .off then s
    else match e with
      | .supplyOut => condErr { s with pwr := { s.pwr with supplyOk := false } } pgPWR 0
      | .supplyBack => condEnd { s with pwr := { s.pwr with supplyOk := true } } pgPWR 0
      | .regFault p => 
        if p < 16 ∧ domSt s (384 + p) = .on ∧ p ∉ s.pwr.regBad then
          raiseErr { s with pwr := { s.pwr with regBad := p :: s.pwr.regBad } } pgPWR 4 8 [fabricUnit p] else s
      | .temps ts =>
        let all := ts.flatMap fun x => [x.1, x.2]
        let hot := all.foldl max (-128)
        let warn := decide ((rdF s pgPWR 0x08C 0 8 : Int) < hot)
        let bad := (List.range ts.length).filter fun p => match ts[p]? with
          | some x => decide (8 < (x.1 - x.2).natAbs) && decide (domSt s (384 + p) = .on) | none => false
        let s1 := { s with pwr := { s.pwr with
          tj := BitVec.ofInt 8 hot, tempOk := decide (hot ≤ 125) && all.all fun t => decide (-40 ≤ t), sensorBad := bad } }
        let s2 := if warn = rdB s1 pgPWR 0x014 1 then s1 else raiseIrq (condSet s1 pgPWR 1 warn) pgPWR 0
        let s3 := condSet s2 pgPWR 2 (decide (125 < hot))
        let s4 := (bad.filter fun p => decide (p ∉ s.pwr.sensorBad)).foldl (fun u p =>
          raiseErr (wr u pgPWR 0x014 (setBit (rd u pgPWR 0x014) 6)) pgPWR 6 8 [fabricUnit p]) s3
        if bad = [] then condEnd s4 pgPWR 6 else s4)

/-! ### Clocks (R19, R630 to R632) -/

/-- The number of a fast clock, and the unit it serves. -/
def pllNum : Pll → Nat
  | .spindle => 0 | .pillow p => 1 + p | .portGroup g => 17 + g
def pllUnit : Pll → UnitId
  | .spindle => ⟨RUnit.spn.cls, 0, 0⟩ | .pillow p => fabricUnit p | .portGroup g => ⟨RUnit.pg.cls, g, 0⟩
/-- The domain whose power the PLL needs. -/
def pllDom : Pll → Nat
  | .spindle => 400 | .pillow p => 384 + p | .portGroup g => 402 + g

/-- CLK_MONITOR: a fast clock measured against REF_IN, as ten thousandths of its setting, and the internal oscillator's mean
period in 2⁻³² ns, which CLK_INT_OSC reports in kHz (R304, R631, R632). Without REF_IN nothing is measured. -/
def execClkMonitor (pll : Pll) (ratio intOsc : Nat) (s : State) : Host.Outcome State Fault Refusal :=
  .next (
    if curMode s = .off ∨ s.clk.onIntOsc ∨ intOsc = 0 then s
    else
      let n := pllNum pll
      let bad := decide (domSt s (pllDom pll) = .on) && decide (ratio < 9800 ∨ 10200 < ratio)
      let rest := s.clk.monBad.filter (· ≠ n)
      let s1 := { s with clk := { s.clk with
        intOscKhz := 1000000 * 2 ^ 32 / intOsc, intOsc := intOsc, monBad := if bad then n :: rest else rest } }
      let s2 := if bad && decide (n ∉ s.clk.monBad) then
          raiseErr (wr s1 pgCLK 0x014 (setBit (rd s1 pgCLK 0x014) 2)) pgCLK 2 (pllUnit pll).sub [pllUnit pll] else s1
      let s3 := if s2.clk.monBad = [] then condEnd s2 pgCLK 2 else s2
      condSet s3 pgCLK 3 (decide (1000000 * 2 ^ 32 < 6400 * intOsc ∨ 9600 * intOsc < 1000000 * 2 ^ 32)))

/-- PLL_UNLOCK: a PLL of a powered unit loses lock (R632, and PG's PLL_UNLOCK). -/
def execPllUnlock (pll : Pll) (s : State) : Host.Outcome State Fault Refusal :=
  .next (
    if domSt s (pllDom pll) ≠ .on then s
    else match pll with
      | .spindle => raiseErr { s with clk := { s.clk with spnLock := false } } pgCLK 0
      | .pillow p =>
        raiseErr { s with clk := { s.clk with pilLock := SMap.set s.clk.pilLock false p false } } pgCLK 1 8 [fabricUnit p]
      | .portGroup g =>
        let s1 := { s with clk := { s.clk with pgUnlock := if g ∈ s.clk.pgUnlock then s.clk.pgUnlock else g :: s.clk.pgUnlock } }
        if (List.range 8).all fun i => decide (laneMode s (8 * g + i) = 0) then s1 else raiseErr s1 (pgPG g) 0)

/-- CLK_SPN_CFG_WRITE: the spindle PLL relocks at the new frequency with the spindle paused for 40 µs (R630, R631). -/
def execClkSpnCfgWrite (v : W32) (s : State) : Host.Outcome State Fault Refusal :=
  .next (
    let f := bits v 0 11
    if curMode s = .off then s
    else if !lockOpen s .bootSvc then warnEvent s pgCLK
    else if f < 500 ∨ 2000 < f ∨ f % 25 ≠ 0 then s
    else
      let s1 := wr s pgCLK 0x088 (w32 f)
      { s1 with clk := { s1.clk with spnPause := s1.now + 40 * usN, spnLock := decide (domSt s 400 = .on) } })

/-- The domains and banks on their way that a step of the transition names as its unit. -/
def stepDoms (s : State) (u : UnitId) : List Nat :=
  (List.range 417).filter fun d => decide (domUnit d = u) &&
    decide (domSt s d = .changing ∨ 256 ≤ d ∧ d < 384 ∧ bankPwr s ((d - 256) / 8) ((d - 256) % 8) = .waking)

/-- STEP_TIMEOUT: a step of the transition under way exceeds its bound (R624). Its condition stands until what it waits for has
power, and otherwise until the transition ends (R9). -/
def execStepTimeout (o : StepObs) (s : State) : Host.Outcome State Fault Refusal :=
  .next (
    let u : UnitId := ⟨o.cls, o.inst, o.sub⟩
    if s.mode.busy then
      raiseErr { s with mode := { s.mode with late := stepDoms s u :: s.mode.late } } pgMODE 1 o.sub [u] else s)

end Sys2Proof.Machine
end

