-- ==== Sys2Proof/Machine/Modes.lean ====
section
/-!
DEFINITION. Entering and leaving the modes (19_modes_power.md R601 to R608, R618, R621, R623, 18_selvedge.md R584 to R587,
15_publish_trip_io.md R494, R495, R508), the conditions of DEGRADED, SAFE, FAULT_N.
-/

namespace Sys2Proof.Machine

/-! ### What leaving a mode brings (R481, R508, R586, R691) -/

/-- TRIP takes the values of its registers (R508). -/
def tripTake (s : State) : State :=
  { s with pio := { s.pio with
    tripCtl := rd s pgTRIP 0x080
    tripCfg := (List.range 32).foldl (fun m n => SMap.set m 0x01320A09 n (rd s pgTRIP (0x100 + 4 * n))) s.pio.tripCfg } }

/-- On leaving SERVICE: every INCLUDE and every field of BOB_CTL is 1 again, TRIP takes its registers, SAFE_LATCHED and its
cause are cleared and the record of SAFE entries is empty (R201, R508, R586, R691). -/
def leaveService (s : State) : State :=
  let keep := fun (e : Nat × W32) => decide (e.1 % 0x1000 ≠ 0x038) && !(decide (e.1 % 0x1000 = 0x080) &&
    decide (0x100 ≤ e.1 / 0x1000 ∧ e.1 / 0x1000 < 0x200))
  wr (tripTake { s with
    regs := s.regs.filter keep
    selv := { s.selv with safeLatched := false, safeEntries := [] } }) pgSELV 0x0F0 0

/-- On leaving TEST a subscription forgets the simulated frames it has seen (R481). -/
def leaveTest (s : State) : State :=
  { s with pio := { s.pio with
    sv := s.pio.sv.map fun e => (e.1, e.2.map fun x => { x with sim := false })
    goose := s.pio.goose.map fun e => (e.1, e.2.map fun x => { x with sim := false }) } }

/-- Milliseconds spent in the phase that ends (R623). -/
def phaseMs (s : State) : Nat := min 65535 ((s.now - s.mode.phStart) / msN)

/-- The phases of a start-up, as the mode is left (R623). -/
def notePhase (s : State) : State :=
  match curMode s with
  | .boot => { s with mode := { s.mode with phBoot := phaseMs s } }
  | .proof => { s with mode := { s.mode with phProof := phaseMs s } }
  | _ => s

/-- Tests that may not run in the present mode: those of SAFE outside SAFE and PROOF; any in OFF, KEEP and BOOT (R579, R581;
log entry 34). -/
def safeOnly (u : UnitId) : Bool :=
  decide (u.cls = RUnit.spn.cls ∨ u.cls = RUnit.whrl.cls ∨ u.cls = RUnit.trip.cls ∨ u.cls = RUnit.prck.cls ∨
    u.cls = RUnit.eic.cls ∨ u.cls = RUnit.stc.cls ∨ u.cls = RUnit.ucs.cls)

/-- The present mode lets a unit be tested. -/
def testMode (s : State) (u : UnitId) : Bool :=
  if safeOnly u then decide (curMode s = .safe ∨ curMode s = .proof)
  else decide (curMode s ≠ .off ∧ curMode s ≠ .keep ∧ curMode s ≠ .boot)

/-- A record of the Selvedge: a fault code with its outcome (R576). -/
def faultSoe (s : State) (number : Nat) (code : W32) : State := soe s 10 4 number (TWord.nat 0).tag code 0

/-- The code with an outcome (R576): 1 transient, 2 lasting, 3 retired by threshold, 4 no test, 5 aborted. -/
def outcome (code : W32) (o : Nat) : W32 := setField code 21 3 o

/-- Tests running that the mode entered does not allow abort, and are the first to run again (R581). -/
def abortTests (s : State) : State :=
  let stop := s.selv.tests.filter fun t => decide (t.phase = .running) && !testMode s t.unit
  let rest := s.selv.tests.filter fun t => !(decide (t.phase = .running) && !testMode s t.unit)
  let s1 := { s with selv := { s.selv with tests := stop.map (fun t => { t with phase := .waiting }) ++ rest } }
  (stop.flatMap (·.codes)).foldl (fun u c => faultSoe u c.1 (outcome c.2 5)) s1

/-- A mode is entered: at one instant of the STC the status, the outputs, the tick lines and the record of R547 take it
(R361, R494, R606, R622, R624); event strands of KIND 3 SOURCE 2 are triggered,
and message strands whose message has come while no mode released them (R344). An arming that waits for its tables is abandoned
(R604). -/
def modeEnter (s : State) (m : Mode) (auto : Bool) : State :=
  let old := curMode s
  let s0 := notePhase s
  let c := nowAt s0 (soeNum s0)
  let s1 := { s0 with
    mode := { s0.mode with
      cur := m, target := m, busy := false, auto := auto, prev := old, late := []
      entrySec := secOf c % 2 ^ 32, entryNs := nsOf c, phStart := s0.now }
    hif := { s0.hif with dma := s0.hif.dma.filter fun w => match w with | .arm _ _ => false | _ => true }
    prck := { s0.prck with rotaSince := if m.runs && !old.runs then s0.now else s0.prck.rotaSince } }
  let s2 := if old = .service ∧ m ≠ .service then leaveService s1 else if old = .test then leaveTest s1 else s1
  let s3 := tripMode s2 m
  let s4 := raiseIrq (traceRec (soeAt s3 c 11 1 m.code (TWord.nat 0).tag (w32 old.code) 0) none 9 0 (w32 m.code)) pgMODE 0
  let s5 := match m with
    | .off | .keep | .boot | .proof | .configure => stopLines s4
    | _ => startLines s4
  let s6 := abortTests (triggerEvent s5 3 2)
  (strandIdx s6).foldl (fun u i => msgTrigger u i false) s6

/-! ### DEGRADED (R584) -/

/-- A unit is retired. -/
def anyRetired (s : State) : Bool := s.selv.units.any fun e => e.2.retired

/-- One source only is qualified (R320). -/
def singleSource (s : State) : Bool :=
  decide (((List.range 4).filter fun i => srcQual s (i + 1)).length = 1)

/-- A condition of R584 stands. -/
def degradedCond (s : State) : Bool :=
  anyRetired s || s.prck.plyShort || decide (s.dra.st = .failed) || singleSource s || decide (s.stc.st = .holdover) ||
    (decide (s.stc.st = .freeRun) && s.stc.wasLocked)

/-- DEGRADED is entered from RUN while a condition stands, and left when none does (R584). -/
def degradedCheck (s : State) : State :=
  if s.mode.busy then s
  else if curMode s = .run ∧ degradedCond s = true then modeEnter s .degraded true
  else if curMode s = .degraded ∧ degradedCond s = false then modeEnter s .run true
  else s

/-! ### FAULT_N (R587) -/

/-- FAULT_N is asserted from power-up until the engine first reaches ARMED (R587): it is judged when that happens. -/
def fnArmed (s : State) : State :=
  if s.selv.armedOnce then s else { s with selv := { s.selv with armedOnce := true } }

/-! ### SAFE (R585, R586, R604) -/

/-- SAFE_ENTER: outputs take FAILSAFE, publications and releases stop, the cause is kept; entries beyond SAFE_MAX within
SAFE_WIN latch SAFE. In KEEP and SERVICE the engine stays where it is, and in SAFE the quiet period starts again. -/
def enterSafe (s : State) (code : W32) : State :=
  match curMode s with
  | .off | .keep | .service | .safe => s
  | old =>
    let q := rd s pgSELV 0x0CC
    let recent := s.now :: s.selv.safeEntries.filter fun t => decide (s.now < t + bits q 24 8 * 60000 * msN)
    let s1 := { s with
      mode := { s.mode with safeFrom := old }
      selv := { s.selv with
        safeFailed := false, safeEntries := recent, quietFrom := s.now
        safeLatched := s.selv.safeLatched || decide (bits q 16 4 < recent.length) } }
    modeEnter (raiseIrq (wr s1 pgSELV 0x0F0 code) pgSELV 3) .safe true

/-- SAFE is latched: by a unit without a spare, by too many entries, by a start-up that failed (R583, R586, R618, R643). -/
def latchSafe (s : State) (code : W32) : State :=
  let s1 := enterSafe s code
  { s1 with selv := { s1.selv with safeLatched := true } }

/-! ### Domains of the modes (R601, R607) -/

/-- Fabrics, bank 5 of every pillow, the spindle complex, SEC, DRA and placement have power. -/
def cfgDomains (s : State) : State :=
  let s1 := [400, 401, 414, 415, 416].foldl domOn s
  let s2 := { s1 with mem := { s1.mem with
    bankPwr := s1.mem.bankPwr.map fun e => if e.2 = .retain ∨ e.2 = .waking then (e.1, .on) else e } }
  (List.range 16).foldl (fun u p => bankOn (domOn u (384 + p)) p 5) s2

/-- A bank holds something other than FREE blocks, or contexts (R427). -/
def bankHolds (s : State) (p k : Nat) : Bool :=
  (s.prck.own.any fun e => decide (p * 10240 + k * 2048 ≤ e.1 ∧ e.1 < p * 10240 + (k + 1) * 2048)) ||
    (decide (6 ≤ k) && !(slotsUsed s p).isEmpty)

/-- CONFIGURE: what its row of R601 does not name loses its power, but for banks that hold something and bobbins that still
run a strand or whose PWR_REQ keeps them (R607, R689, log entry 35). -/
def cfgTrim (s : State) : State :=
  let s1 := (List.range 12).foldl pgOff s
  let s2 := (List.range 256).foldl (fun u b =>
    if domSt u b = .off ∨ (core u b).strand.isSome ∨ rdB u (pgBOB b) 0x008 1 then u else bobOff u b) s1
  (List.range 16).foldl (fun u p => (List.range 8).foldl (fun v k =>
    if k = 5 ∨ bankPwr v p k = .off ∨ bankHolds v p k then v else bankOff v p k) u) s2

/-- CONFIGURE is entered. -/
def enterConfigure (s : State) (auto : Bool) : State :=
  let s1 := cfgTrim (cfgDomains (modeEnter s .configure auto))
  { s1 with glb := { s1.glb with takeover := false, conflict := false } }

/-- Pillows move to retention in ARMED (R428). -/
def retainAll (s : State) : State := (List.range 16).foldl retainPil s

/-- Every retained pillow starts to wake: its fabric, and its banks (R428). -/
def wakePil (s : State) (p : Nat) : State :=
  if domSt s (384 + p) ≠ .retention then s
  else
    let s1 := setDom s (384 + p) .changing
    let s2 := (List.range 8).foldl (fun u k => if bankPwr u p k = .retain then setBankPwr u p k .waking else u) s1
    { s2 with mode := { s2.mode with woken := p :: s2.mode.woken } }

/-- With BOB_PG_EN 0, every bobbin that holds a ply that the mode releases is powered (R601, R614). -/
def bobsOn (s : State) (wakeOnly : Bool) : State :=
  if rdB s pgPWR 0x080 0 then s
  else (strandIdx s).foldl (fun u i => match strand u i with
    | some x => if wakeOnly && !dWake x.decl then u else x.plies.foldl (fun v p =>
        if domSt v p.bob = .off then setDom v p.bob .changing else v) u
    | none => u) s

/-- A domain or bank is on its way, or the arming waits for the tables (R20). -/
def stillChanging (s : State) : Bool :=
  (s.pwr.doms.any fun e => decide (e.2 = .changing)) || (s.mem.bankPwr.any fun e => decide (e.2 = .waking)) ||
    s.hif.dma.any fun w => match w with | .arm _ _ => true | _ => false

/-- In the modes in which strands run banks 5, 6 and 7 of a pillow that has power are ON (R427). -/
def banksOn (s : State) : State :=
  ((List.range 16).filter fun p => decide (domSt s (384 + p) = .on)).foldl (fun u p =>
    [5, 6, 7].foldl (fun v k => bankOn v p k) u) s

/-- One full scrub pass over the banks of a woken pillow (R428): its words are read in order, and those that cannot be read are
reported. Which others an error has reached by then is not modelled (DESIGN CHOICE, log entry 168). -/
def wakeScrub (s : State) (p : Nat) : State :=
  let s1 := (sortBy id (s.mem.bankBad.filter fun a => decide (a / 2 ^ 18 = p))).foldl (fun u a => (bankRead u a 2 .clean).2) s
  raiseIrq (scrubBegin (setScrub s1 p ((scrubPos s p / 2 ^ 16 + 1) % 2 ^ 16 * 2 ^ 16)) p) (pgPIL p) 0

/-- The ring slots of a woken pillow: one scrub pass over its banks, and then every slot absent (R56, R428). -/
def wakeFill (s : State) (p : Nat) : State :=
  let s1 := wakeScrub s p
  s1.pio.sv.foldl (fun u e => match e.2 with
    | none => u
    | some x =>
      if p ∉ routeOfCons u x.cons then u
      else
        let rings := svRings x.entry
        (List.range rings.length).foldl (fun v r => match rings[r]? with
          | none => v
          | some g => bankSetList v (p * 2 ^ 18 + x.ring + r * svDepth x.entry)
              (List.replicate (svDepth x.entry) (TWord.mk' (ringTy g) ⟨.absent, x.tst.getD r false, false⟩ 0))) u) s1

end Sys2Proof.Machine
end

