-- ==== Sys2Proof/Machine/Image.lean ====
section
/-!
DEFINITION. Signed images and their checks, and secure boot (20_security.md R634, R635, R637 to R643), shared by SEC, LCY and
the mode sequencer.
-/

namespace Sys2Proof.Machine

/-! ### The layout of R637 -/

/-- A field of an image's bytes. -/
def imgField (s : State) (a off n : Nat) : Nat := leNat (physBytes s (a + off) n)
/-- KIND and SIGNER of the image at an address. -/
def imgKind (s : State) (a : Nat) : Nat := imgField s a 6 1
def imgSigner (s : State) (a : Nat) : Nat := imgField s a 7 1
def imgVersion (s : State) (a : Nat) : W32 := w32 (imgField s a 8 4)
def imgSvn (s : State) (a : Nat) : Nat := imgField s a 0xC 4
def imgLength (s : State) (a : Nat) : Nat := imgField s a 0x18 4
def imgEntry (s : State) (a : Nat) : Nat := imgField s a 0x1C 4
/-- L: LENGTH rounded up to 8. -/
def imgL (s : State) (a : Nat) : Nat := (imgLength s a + 7) / 8 * 8
/-- Bytes of the whole image. -/
def imgSize (s : State) (a : Nat) : Nat := 0x928 + imgL s a + 3312
/-- The payload. -/
def imgPayload (s : State) (a : Nat) : List Byte := physBytes s (a + 0xC0) (imgLength s a)
/-- The two public keys without their padding, as the key hash takes them (DEDUCED, log entry 37). -/
def imgKeys (s : State) (a : Nat) : List Byte × List Byte :=
  (physBytes s (a + 0xC0 + imgL s a) 97, physBytes s (a + 0x128 + imgL s a) 1952)
/-- SHA-384 of the two public keys. -/
def imgKeyHash (s : State) (a : Nat) : List Byte := Config.sha384 ((imgKeys s a).1 ++ (imgKeys s a).2)

/-! ### Who may sign (R634, R635, R639) -/

/-- The life-cycle state admits images of a signer: 0 Haldim, 1 owner (R634). -/
def admits (s : State) (signer : Nat) : Bool :=
  match s.fuses.state with
  | .blank | .returned => decide (signer = 0)
  | .manufacture => decide (signer = 0) || s.fuses.ownerRoot.isSome
  | .develop | .deployed => true
  | .scrapped => false

/-- The life-cycle state admits a debug authorisation of a signer and a level: 1 OBSERVE, 2 FULL (R634). -/
def admitsDebug (s : State) (signer level : Nat) : Bool :=
  match s.fuses.state with
  | .manufacture => decide (level = 2)
  | .develop => decide (level = 2 ∧ signer = 1)
  | .deployed => decide (signer = 1)
  | .returned => decide (signer = 0)
  | .blank | .scrapped => false

/-- A transition that R635 permits, by a token of the signer; the state left is the fused one. -/
def lcyLegal (s : State) (next : LcyState) (signer : Nat) : Bool :=
  match s.fuses.fused, next with
  | .blank, .manufacture => decide (signer = 0)
  | .manufacture, .develop => decide (signer = 1)
  | .develop, .manufacture => decide (signer = 1 ∧ s.fuses.devTrips < 16)
  | .manufacture, .deployed => decide (signer = 1)
  | .deployed, .returned => decide (signer = 1)
  | .scrapped, .scrapped => false
  | _, .scrapped => true
  | _, _ => false

/-- The key hash is one that its signer's root admits (R638 step 4); a kind 6 image brings its own owner root (R642). -/
def keyOk (s : State) (a : Nat) : Bool :=
  if imgKind s a = 6 then
    decide (imgSigner s a = 1) && decide (imgKeyHash s a = (imgPayload s a).take 48) && !s.fuses.killed
  else if imgSigner s a = 0 then
    (List.range 4).any fun n => decide (s.fuses.hrkRevoked / 2 ^ n % 2 = 0) && decide (Config.haldimKey n = imgKeyHash s a)
  else decide (s.fuses.ownerRoot = some (imgKeyHash s a))

/-- The signer that the kind needs (R639), and one that the life-cycle state admits. Result 0 is neither refusal, 5 the
wrong signer, 11 the life cycle. -/
def signerResult (s : State) (a : Nat) : Nat :=
  let signer := imgSigner s a
  match imgKind s a with
  | 1 => if signer ≠ 0 then 5 else if admits s 0 then 0 else 11
  | 2 | 3 => if signer ≠ 1 then 5 else if admits s 1 then 0 else 11
  | 4 => if admitsDebug s signer ((imgPayload s a).getD 32 0).toNat then 0 else 11
  | 5 => match LcyState.ofCode? ((imgPayload s a).getD 32 0).toNat with
    | some t => if lcyLegal s t signer then 0 else 11
    | none => 11
  | 6 => if s.fuses.state = .manufacture ∧ s.fuses.ownerRoot = none ∧ s.fuses.ktk = none then 0 else 11
  | _ => 5

/-- The fuse counter of a kind (R639). -/
def svnCounter (s : State) : Nat → Nat
  | 1 => s.fuses.svnFw | 2 => s.fuses.svnTbl | 3 => s.fuses.svnCode | _ => 0

/-- The format fields of the header, and KIND (R637, R638 step 1). -/
def formatOk (s : State) (a kind : Nat) : Bool :=
  decide (imgField s a 0 4 = 0x53474E44 ∧ imgField s a 4 2 = 1 ∧ imgKind s a = kind ∧ imgSigner s a ≤ 1 ∧ imgSvn s a ≤ 64)

/-- The payload holds the fields that its kind needs, with legal values (R642, R648). -/
def payloadOk (s : State) (a : Nat) : Bool :=
  let p := imgPayload s a
  match imgKind s a with
  | 1 => decide (imgEntry s a < imgLength s a)
  | 4 => decide (40 ≤ p.length) && decide ((p.getD 32 0).toNat = 1 ∨ (p.getD 32 0).toNat = 2) &&
      decide ((p.getD 33 0).toNat ≤ 1) && decide (1 ≤ leNat ((p.drop 36).take 4) ∧ leNat ((p.drop 36).take 4) ≤ 86400)
  | 5 => decide (33 ≤ p.length)
  | 6 => decide (185 ≤ p.length)
  | _ => true

/-- The checks of R638 in their order, stopping at the first failure: RESULT of R653, 2 for an image that passes. What lies beyond the
header is read when the header's own checks have passed, and a payload's fields are its format (DEDUCED, log entry 37). -/
def imgCheck (s : State) (a kind : Nat) (modeOk : Bool) : Nat :=
  if !modeOk then 3
  else if physBad s a 0xC0 then 9
  else if !formatOk s a kind then 4
  else if (kind = 2 ∨ kind = 3) ∧ 2 ^ 24 < imgSize s a then 14
  else if imgField s a 0x10 8 ≠ Config.deviceId.toNat ∧ ¬ (imgField s a 0x10 8 = 0 ∧ kind < 4) then 11
  else if physBad s a (imgSize s a) then 9
  else if !payloadOk s a then 4
  else if !keyOk s a then 5
  else if signerResult s a ≠ 0 then signerResult s a
  else if imgSvn s a < svnCounter s kind then 6
  else
    let signed := physBytes s a (0x8C8 + imgL s a)
    if !Config.ecdsaVerify (imgKeys s a).1 (physBytes s (a + 0x8C8 + imgL s a) 96) (Config.sha384 signed) then 7
    else if !Config.mldsaVerify (imgKeys s a).2 (physBytes s (a + 0x928 + imgL s a) 3309) signed then 8
    else if (kind = 4 ∨ kind = 5) ∧ s.sec.challenge ≠ some ((imgPayload s a).take 32) then 12
    else 2

/-- A RESULT that one of the checks of R638 gives. -/
def checkFailed (r : Nat) : Bool := decide (3 ≤ r ∧ r ≤ 8) || decide (r = 11 ∨ r = 12 ∨ r = 14)

/-- IMG_FAIL where a check of R638 fails (R659). -/
def imgFail (s : State) (r : Nat) : State := if checkFailed r then raiseErr s pgSEC 5 else s

/-! ### The spindle's window and regions (R214, R242) -/

/-- Keys of the registers of R242 in effect: 2n the base of MAR n, 2n + 1 its limit. -/
def marSync (s : State) : State :=
  { s with spn := { s.spn with
    winBase := (rd s pgSPN 0x090).toNat + (rd s pgSPN 0x094).toNat * 2 ^ 32
    mar := (List.range 16).foldl (fun m i => SMap.set m 0 i (rd s pgSPN (0xC0 + 4 * i))) [] } }

/-- The spindle starts at the firmware's entry in the state of a reset, at level M (R643; log entry 33); after a dead-agent
disconnect its agent reconnects first (R237). -/
def spnStart (s : State) : State :=
  let s1 := setCore s spindle { Core.bobStart with
    pc := s.sec.fwPc, pstate := .strand, modes := { Core.reset.modes with level := .m }, pset := false }
  let s2 := { s1 with
    spn := { s1.spn with connected := true, dead := false, l2 := [], l1d := [], l1i := [] }
    selv := { s1.selv with lockups := s1.selv.lockups.filter (· ≠ spindle) } }
  if s.spn.dead then raiseIrq s2 pgSPN 2 else s2

/-! ### Fault codes (R576) -/

/-- A fault code: bit, unit, its class by R693, route, SUB, INJECTED. -/
def codeOf (u : RUnit) (n route sub : Nat) (inj : Bool) : W32 :=
  w32 (n + u.cls * 2 ^ 8 + (u.errs.getD n (0, 2)).2 * 2 ^ 16 + route * 2 ^ 19 + sub * 2 ^ 24 + at' inj 28)

/-! ### Secure boot (R643) -/

/-- One firmware slot: the lock, which is held from here to the next entry to KEEP, the image, its MARs and start; bit 3 of a
MAR word is RSV (R241). -/
def trySlot (s0 : State) (slot a : Nat) (lock : Bool) : Nat × State :=
  let s := { s0 with sec := { s0.sec with hostLock := s0.sec.hostLock || lock } }
  let r := if !lock then 10 else imgCheck s a 1 true
  let s1 := imgFail (wrF s pgSEC 0x088 (4 * (slot - 1)) 4 r) r
  if r ≠ 2 then (r, s1)
  else
    let s2 := (List.range 16).foldl (fun u i => wr u pgSPN (0xC0 + 4 * i) (w32 (imgField s a (0x20 + 4 * i) 4) &&& 0xFFFFFFF7)) s1
    let s3 := { s2 with sec := { s2.sec with
      bootSlot := slot, fw := some ⟨imgVersion s a, imgSvn s a, true⟩
      fwPc := a + 0xC0 + imgEntry s a } }
    (r, spnStart (marSync s3))

/-- Known-answer tests, slot A, then slot B; with both refused, SAFE latched (R643). -/
def secureBoot (s : State) (o : BootObs) : State :=
  let s0 := wr s pgSEC 0x088 0
  let s1 := if o.katOk then s0 else raiseErr s0 pgSEC 2
  let (r, s2) := trySlot s1 1 o.slotA o.lockA
  if r = 2 then s2
  else
    let (q, s3) := trySlot s2 2 o.slotB o.lockB
    if q = 2 then s3 else latchSafe s3 (codeOf .sec 5 3 0 false)

/-! ### BOOT and PROOF (R618) -/

/-- What a start-up finds: a channel that has just got power is untrained (R569), and a start-up from KEEP or OFF sets LOST in
each entry of the disturbance-record index that is VALID and not COPIED (R551). -/
def startUp (s : State) (old : Mode) : State :=
  let s1 := if s.dra.st = .off ∧ rdB s pgDRA 0x080 0 = true then { s with dra := { s.dra with st := .training } } else s
  if old ≠ .keep ∧ old ≠ .off then s1
  else
    let mark := fun (e : Nat × List W32) => match e.2 with
      | w :: t => (e.1, (if bit w 0 && !bit w 2 then setBit w 3 else w) :: t)
      | [] => e
    { s1 with nvr := { s1.nvr with di := s1.nvr.di.map mark } }

/-- BOOT from its first step: domains, PLL, wipe, spindle test, secure boot. A fused life-cycle state takes effect (R636). -/
def enterBoot (s : State) (o : BootObs) (auto : Bool) : State :=
  let s1 := [400, 401, 415, 416].foldl domOn (modeEnter s .boot auto)
  let s2 := { s1 with
    clk := { s1.clk with spnLock := true }
    fuses := { s1.fuses with state := s1.fuses.fused }
    sec := { s1.sec with bootSlot := 0, fw := none, tbl := none, code := none, codeImgs := [] } }
  let s3 := startUp (wipe s2 o.wipeOk) (curMode s)
  if o.spnTestOk then secureBoot s3 o else latchSafe s3 (codeOf .spn 0 3 0 false)

/-- PROOF: every domain is powered (R601). -/
def enterProof (s : State) (auto : Bool) : State :=
  let s1 := cfgDomains (modeEnter s .proof auto)
  let s2 := (List.range 16).foldl (fun u p => (List.range 8).foldl (fun v k => bankOn v p k) u) s1
  let s3 := (List.range 12).foldl (fun u g => domOn u (402 + g)) s2
  (List.range 256).foldl domOn s3

end Sys2Proof.Machine
end

