-- ==== Sys2Proof/Machine/Selv.lean ====
section
/-!
DEFINITION. The Selvedge (18_selvedge.md R572 to R592, R598): errors latched, targeted tests, recovery and retirement, the
exit from SAFE, FAULT_N, the engine watchdog, and the meanings of its commands.
-/

namespace Sys2Proof.Machine

/-! ### FAULT_N and the engine watchdog (R587, R591, 21_debug_snag.md R675) -/

/-- FAULT_N is released once its width has ended, ARMED has been reached and the engine is not in SAFE, where a release is
held or FN_HOLD is 0. -/
def fnSettle (s : State) : State :=
  if s.selv.fnUntil ≤ s.now ∧ s.selv.armedOnce = true ∧ curMode s ≠ .safe ∧
      (s.selv.fnRelHeld || !rdB s pgSELV 0x0D0 0) = true then
    { s with selv := { s.selv with fnOn := false, fnRelHeld := false } }
  else s

/-- Some core is halted. -/
def anyHalted (s : State) : Bool := s.cores.any fun e => decide (e.2.pstate = .halted)

/-- The engine watchdog pauses: in DEVELOP, while a core is halted at FULL level (R675). -/
def wdogPaused (s : State) : Bool := decide (s.fuses.state = .develop ∧ dbgLevel s = 2) && anyHalted s

/-- The time left is kept while the engine watchdog pauses, and counts on afterwards. -/
def wdogSync (s : State) : State :=
  match s.selv.wdogHeld with
  | none => if wdogPaused s then { s with selv := { s.selv with wdogHeld := some (s.selv.wdogDue - s.now) } } else s
  | some r =>
    if wdogPaused s then s
    else { s with selv := { s.selv with wdogHeld := none, wdogDue := s.now + r } }

/-- PERIOD of the engine watchdog. -/
def wdogPeriod (s : State) : Nat := rdF s pgSELV 0x0D4 0 10 * msN

/-- SELV_WDOG_KICK: KEY 0xA5 reloads the watchdog (R591). -/
def execSelvWdogKick (v : W32) (s : State) : Host.Outcome State Fault Refusal :=
  .next (
    if curMode s = .off then s
    else if bits v 0 8 ≠ 0xA5 then warnEvent s pgSELV
    else { s with selv := { s.selv with
      wdogOn := true, wdogPre := false, wdogDue := s.now + wdogPeriod s
      wdogHeld := if s.selv.wdogHeld.isSome then some (wdogPeriod s) else none } })

/-- The watchdog counts. -/
def wdogRuns (s : State) : Bool := rdB s pgSELV 0x080 3 && s.selv.wdogOn && s.selv.wdogHeld.isNone

/-- ENGINE_WDOG_PRE: half the period has passed. -/
def execEngineWdogPre (s : State) : Host.Outcome State Fault Refusal :=
  .next (
    if curMode s ≠ .off ∧ wdogRuns s = true ∧ s.selv.wdogPre = false ∧ s.selv.wdogDue ≤ s.now + wdogPeriod s / 2 then
      raiseIrq { s with selv := { s.selv with wdogPre := true } } pgSELV 5
    else s)

/-- ENGINE_WDOG_EXPIRE: the period has passed; it counts again from the next kick. -/
def execEngineWdogExpire (s : State) : Host.Outcome State Fault Refusal :=
  .next (
    if curMode s ≠ .off ∧ wdogRuns s = true ∧ s.selv.wdogDue ≤ s.now then
      raiseErr { s with selv := { s.selv with wdogOn := false } } pgSELV 6
    else s)

/-- FAULT_N_WIDTH_END. -/
def execFaultNWidthEnd (s : State) : Host.Outcome State Fault Refusal := .next (fnSettle s)

/-- FN_RELEASE: outside SAFE FAULT_N is released, at the end of its width if that still runs (R587). -/
def execFnRelease (s : State) : Host.Outcome State Fault Refusal :=
  .next (
    if curMode s = .off ∨ curMode s = .safe ∨ s.selv.fnOn = false then s
    else fnSettle { s with selv := { s.selv with fnRelHeld := true } })

/-- SELV_CNT_CLR: SELV_WARN_COUNT is cleared (R598). -/
def execSelvCntClr (s : State) : Host.Outcome State Fault Refusal :=
  .next (if curMode s = .off then s else wr s pgSELV 0x0F4 0)

/-- CHK_SELF_TEST: a comparator that does not report its forced disagreement sets CHK_SELF (R590). -/
def execChkSelfTest (o : ChkObs) (s : State) : Host.Outcome State Fault Refusal :=
  .next (if curMode s = .off ∨ !rdB s pgSELV 0x080 2 ∨ o.allReported then s else raiseErr s pgSELV 5)

/-! ### Units and their tests (R578, R579) -/

/-- The page of a unit. -/
def unitPage (u : UnitId) : Nat :=
  if u.cls = RUnit.pg.cls then pgPG u.inst
  else if u.cls = RUnit.lane.cls then pgLANE u.inst
  else if u.cls = RUnit.pil.cls then pgPIL u.inst
  else if u.cls = RUnit.bob.cls then pgBOB u.inst
  else u.cls

/-- A lane's test takes the loopback form: its pair's partner has LINK (R462). -/
def loopForm (s : State) (k : Nat) : Bool := decide (laneRed s k ≠ 0) && (lane s (partner k)).link

/-- The length of a unit's test; none where the table of R579 has no test. -/
def testLen (s : State) (u : UnitId) : Option Nat :=
  if u.cls = RUnit.bob.cls then if u.inst < 256 ∧ u.sub = 0 then some (2 * msN) else none
  else if u.cls = RUnit.pil.cls then
    if 16 ≤ u.inst ∨ 8 < u.sub then none
    else if u.sub = 8 then some (1500 * usN)
    else some (if provedInPlace s u.inst u.sub then 7 * msN else 700 * usN)
  else if u.cls = RUnit.lane.cls then
    if u.inst < 96 ∧ u.sub = 0 then some (if loopForm s u.inst then msN else 100 * msN) else none
  else if u.cls = RUnit.pg.cls then if u.inst < 12 ∧ u.sub = 0 then some msN else none
  else if u.inst ≠ 0 ∨ u.sub ≠ 0 then none
  else if u.cls = RUnit.hif.cls ∨ u.cls = RUnit.nvr.cls ∨ u.cls = RUnit.bio.cls then some msN
  else if u.cls = RUnit.spn.cls then some (3 * msN)
  else if u.cls = RUnit.sec.cls then some (1500 * usN)
  else if safeOnly u then some msN
  else none

/-- A unit with a spare, or whose work can be moved, or without which protection runs (R583). -/
def hasSpare (u : UnitId) : Bool :=
  decide (u.cls = RUnit.bob.cls ∨ u.cls = RUnit.pil.cls ∨ u.cls = RUnit.lane.cls ∨ u.cls = RUnit.pg.cls ∨
    u.cls = RUnit.hif.cls ∨ u.cls = RUnit.nvr.cls ∨ u.cls = RUnit.bio.cls ∨ u.cls = RUnit.sec.cls)

/-- The units an error names for test: those the error names itself, or its row of R578 (R579, R585). -/
def testUnits (o : Occ) (u : RUnit) (inst route : Nat) : List UnitId :=
  if o.named ≠ [] then o.named
  else match u with
    | .bob => [⟨u.cls, inst, 0⟩]
    | .pil =>
      if o.bit = 3 then []
      else if o.bit = 2 ∨ o.bit = 4 then [fabricUnit inst]
      else [⟨u.cls, inst, o.sub⟩]
    | .lane | .pg | .hif | .nvr | .bio | .sec => [⟨u.cls, inst, 0⟩]
    | .spn | .whrl | .trip | .prck | .eic | .stc | .ucs => if route = 3 then [⟨u.cls, 0, 0⟩] else []
    | _ => []

/-! ### Lockup and its reset (R291, R525, R578, R670) -/

/-- The Selvedge resets a locked-up bobbin and clears its EIC target (R291, R578). The ply that ran is FAULTED: R342 names no other
transition that an exception brings a RUNNING strand (DEDUCED, log entry 144). -/
def resetLocked (s : State) (b : Nat) : State :=
  let s1 := match (core s b).strand with
    | some o => modPly s o.idx o.ply fun p => if p.st = .running then { p with st := .faulted } else p
    | none => s
  let s2 := clearTarget (setCore s1 b Core.bobStart) (b + 1)
  { s2 with selv := { s2.selv with lockups := s2.selv.lockups.filter (· ≠ b) } }

/-- Locked-up cores are kept for examination (R670). -/
def keepLockup (s : State) : Bool := rdB s pgDBG 0x080 0 && decide (dbgLevel s = 2)

/-! ### Latching (R572 to R576, R585) -/

/-- The summary bit of a class, or the vector bit of an instance (R575). -/
def summarise (s : State) (cls inst : Nat) : State :=
  let off := if cls < 20 then 0x088 else if cls = 20 then 0x08C else if cls = 21 then 0x090 + 4 * (inst / 32)
    else if cls = 22 then 0x09C else 0x0A0 + 4 * (inst / 32)
  wr s pgSELV off (setBit (rd s pgSELV off) (if cls < 20 then cls else inst % 32))

/-- A code is the latest (R598). -/
def lastCode (s : State) (code : W32) (number : Nat) : State :=
  wr (wr s pgSELV 0x0C0 code) pgSELV 0x0C4 (w32 (number % 256 + 2 ^ 31))

/-- A FAULT- or SAFE-route error: summary, record, interrupt, FAULT_N, and SAFE for its route. -/
def faultLatch (s : State) (cls inst number : Nat) (code : W32) (safe : Bool) : State :=
  let s1 := raiseIrq (summarise (lastCode (faultSoe s number code) code number) cls inst) pgSELV 0
  let s2 := fnAssert { s1 with selv := { s1.selv with quietFrom := s1.now } }
  if safe then enterSafe s2 code else s2

/-- The test of one unit that an error names, or a second record where there is none to run (R576, R579). -/
def testFor (s : State) (safe : Bool) (number : Nat) (code : W32) (u : UnitId) : State :=
  if (unitRec s u).retired ∨ (testLen s u).isNone then faultSoe s number (outcome code 4)
  else
    let s1 := if u.cls = RUnit.bob.cls ∧ (core s u.inst).pstate = .lockedUp ∧ keepLockup s = false then resetLocked s u.inst else s
    let fresh := !unitTested s1 u
    let late := safeOnly u && !testMode s1 u
    let s2 := askTest s1 u (if safe then .safe else .error) (if late then [] else [(number, code)])
    let s3 := if late then faultSoe s2 number (outcome code 4) else s2
    if fresh then vacate s3 u 5 else s3

/-- ERROR_LATCH: the oldest carried occurrence is recorded and reacted to by its route (R572). -/
def execErrorLatch (s : State) : Host.Outcome State Fault Refusal :=
  .next (
    match s.selv.occ with
    | [] => s
    | o :: rest =>
      let s0 := { s with selv := { s.selv with occ := rest } }
      match pageUnit o.page with
      | none => s0
      | some (u, inst) =>
        let route := if o.warn then 1 else routeOf s o.page o.bit
        let code := codeOf u o.bit route o.sub o.injected
        let eicErr := decide (u.cls = RUnit.eic.cls ∧ (o.bit = 0 ∨ o.bit = 2)) && !o.injected
        let number := if eicErr then s.selv.eicFaults.headD inst else inst
        let s1 := if eicErr then
            match s.selv.eicFaults with
            | t :: ts => clearTarget { s0 with selv := { s0.selv with eicFaults := ts } } t
            | [] => s0
          else s0
        if curMode s = .off ∨ route = 0 then s1
        else if route = 1 then
          faultSoe (lastCode (raiseIrq (bump s1 pgSELV 0x0F4 1) pgSELV 6) code number) number code
        else
          let s2 := faultLatch s1 u.cls inst number code (decide (route = 3))
          let units := testUnits o u inst route
          let s3 := if units = [] ∨ (route = 2 ∧ !rdB s pgSELV 0x080 0) then faultSoe s2 number (outcome code 4)
            else units.foldl (fun v x => testFor v (decide (route = 3)) number code x) s2
          degradedCheck s3)

/-- DEGRADED_EXIT: no condition of R584 stands any longer. -/
def execDegradedExit (s : State) : Host.Outcome State Fault Refusal :=
  .next (if curMode s = .degraded then degradedCheck s else s)

/-! ### Tests (R579 to R583, R592) -/

/-- Tests running. -/
def testsRunning (s : State) : List Test := s.selv.tests.filter fun t => decide (t.phase = .running)

/-- The pillow that a bobbin or bank test takes (R581). -/
def testPil (u : UnitId) : Option Nat :=
  if u.cls = RUnit.bob.cls then some (pilOf u.inst) else if u.cls = RUnit.pil.cls then some u.inst else none

/-- A waiting test may start now. -/
def mayStart (s : State) (t : Test) : Bool :=
  decide (t.phase = .waiting) && testMode s t.unit && unitEmpty s t.unit &&
    (match testPil t.unit with
      | none => true
      | some p => (testsRunning s).all fun x => decide (testPil x.unit ≠ some p)) &&
    !(decide (t.unit.cls = RUnit.bob.cls) && decide ((core s t.unit.inst).pstate = .halted ∨
      (core s t.unit.inst).pstate = .lockedUp)) &&
    !(decide (t.unit.cls = RUnit.spn.cls) && (decide ((core s spindle).pstate = .halted) ||
      (decide ((core s spindle).pstate = .lockedUp) && keepLockup s)))

/-- The outcome field of a unit's PROOF_RESULT (R689). -/
def proofMark (s : State) (u : UnitId) (o : Nat) : State := wrF s (unitPage u) 0x03C 0 2 o

/-- What starting a test does to the unit: its EIC target is saved, it is out of service (R523, R580). -/
def takeOut (s : State) (u : UnitId) : State :=
  if u.cls = RUnit.bob.cls then
    modCore (eicSave (domOn s u.inst) (u.inst + 1)) u.inst fun k => { k with pstate := .vacated }
  else if u.cls = RUnit.spn.cls then
    modCore (eicSave s 0) spindle fun k => if k.pstate = .strand ∨ k.pstate = .idle then { k with pstate := .off } else k
  else if u.cls = RUnit.lane.cls ∧ loopForm s u.inst = true then modLane s u.inst fun l => { l with inProof := true }
  else s

/-- SELV_TEST_START: the oldest waiting test whose unit is vacated starts (R579, R581). -/
def execSelvTestStart (s : State) : Host.Outcome State Fault Refusal :=
  .next (
    if curMode s = .off ∨ 8 ≤ (testsRunning s).length then s
    else match s.selv.tests.find? fun t => mayStart s t with
      | none => s
      | some t =>
        let run := { t with phase := .running, since := s.now, len := (testLen s t.unit).getD 0 }
        let s1 := { s with selv := { s.selv with tests := s.selv.tests.map fun x => if x.unit = t.unit then run else x } }
        proofMark (takeOut s1 t.unit) t.unit 3)

/-- Recoveries of a unit within REC_WIN hours (R582). -/
def recentRecov (s : State) (u : UnitId) : Nat :=
  ((unitRec s u).recov.filter fun t => decide (secOf s.stc.cnt < t + rdF s pgSELV 0x0C8 8 8 * 3600)).length

/-- The Selvedge's record of a unit changed. -/
def setUnitRec (s : State) (u : UnitId) (r : UnitRec) : State :=
  { s with selv := { s.selv with units := SMap.set s.selv.units UnitRec.reset (unitKey u) r } }

/-- A unit is retired, or SAFE latches for one without a spare; the work on a bobbin or bank moves, a bobbin's sources go to
the spindle, and BIO's words carry VAL invalid (R400, R521, R583). -/
def retire (s : State) (u : UnitId) (code : W32) : State :=
  let s1 := raiseIrq (setUnitRec s u { unitRec s u with retired := true, passed := false }) pgSELV 2
  if !hasSpare u then
    let s2 := latchSafe s code
    { s2 with selv := { s2.selv with safeLatched := true } }
  else
    let s2 := if u.cls = RUnit.bob.cls then redirect (modCore s1 u.inst fun k => { k with pstate := .retired }) (u.inst + 1)
      else if u = bioUnit then bioAreas s1
      else s1
    serveWants (vacate s2 u 5)

/-- The unit leaves its test: its target is restored, a core starts afresh, a PLL is locked again, code memory holds 0 after its march test (R418, R524, R579, R615). -/
def bringBack (s : State) (u : UnitId) (o : TestObs) : State :=
  if u.cls = RUnit.bob.cls then eicRestore (setCore s u.inst Core.bobStart) (u.inst + 1) o.restoreOk
  else if u.cls = RUnit.spn.cls then
    eicRestore (spnStart { s with clk := { s.clk with spnLock := decide (domSt s 400 = .on) } }) 0 o.restoreOk
  else if u.cls = RUnit.lane.cls then modLane s u.inst fun l => { l with inProof := false }
  else if u.cls = RUnit.pil.cls ∧ u.sub = 8 then
    codeZero { s with clk := { s.clk with pilLock := SMap.set s.clk.pilLock false u.inst (decide (domSt s (384 + u.inst) = .on)) } } u.inst
  else if u.cls = RUnit.pg.cls then { s with clk := { s.clk with pgUnlock := s.clk.pgUnlock.filter (· ≠ u.inst) } }
  else if u.cls = RUnit.pil.cls ∧ provedInPlace s u.inst u.sub = false then bankFill s (bankAddr u.inst u.sub 0) 32768
  else s

/-- The rota's note of a unit that has been tested (R396, R399): ROTA_ROUND when every bobbin and bank has been proved. -/
def rotaNote (s : State) (u : UnitId) (passed : Bool) : State :=
  let r : Option RotaUnit := if u.cls = RUnit.bob.cls then some (.bobbin u.inst)
    else if u.cls = RUnit.pil.cls ∧ u.sub < 8 then some (.bank u.inst u.sub)
    else if u.cls = RUnit.lane.cls then some (.lane u.inst) else none
  match r with
  | none => s
  | some x =>
    let s0 := if passed ∧ x ∈ s.prck.proving ∧ u.cls ≠ RUnit.lane.cls then
        prckLogUnit s 8 4 (if u.cls = RUnit.bob.cls then u.inst else 0) else s
    let s1 := { s0 with prck := { s0.prck with
      proving := s.prck.proving.filter (· ≠ x), skipped := s.prck.skipped.filter (· ≠ x), retry := s.prck.retry.filter (· ≠ x)
      lastProof := SMap.set s.prck.lastProof 0 (unitKey u) s.now } }
    let s1 := { s1 with prck := { s1.prck with behind := s1.prck.behind && rotaLate s1 } }
    if !passed ∨ u.cls = RUnit.lane.cls ∨ x ∈ s1.prck.proved then s1
    else
      let got := x :: s1.prck.proved
      let all := ((List.range 256).all fun b => decide (RotaUnit.bobbin b ∈ got) || (unitRec s1 (bobUnit b)).retired) &&
        ((List.range 128).all fun m => decide (RotaUnit.bank (m / 8) (m % 8) ∈ got) ||
          (unitRec s1 (bankUnit (m / 8) (m % 8))).retired)
      if all then raiseIrq { s1 with prck := { s1.prck with proved := [] } } pgPRCK 3
      else { s1 with prck := { s1.prck with proved := got } }

/-- A test ends (R579, R581, R582, R592): 1 transient, 2 lasting, 3 retired by threshold; a test that no error asked for
and that passes is no recovery (DEDUCED, log entry 39), nor is one that only injected errors asked for (R681). -/
def endTest (s : State) (t : Test) (o : TestObs) : State :=
  let u := t.unit
  let s1 := { s with selv := { s.selv with
    tests := s.selv.tests.filter fun x => decide (x.unit ≠ u), quietFrom := s.now
    safeFailed := s.selv.safeFailed || (!o.passed && decide (t.cause = .safe)) } }
  let counts := o.passed && t.codes.any fun c => !bit c.2 28
  let exceeds := counts && decide (max 1 (rdF s pgSELV 0x0C8 0 4) < recentRecov s u + 1)
  let res := if !o.passed then 2 else if exceeds then 3 else 1
  let s2 := wrF (wrF (proofMark s1 u (if o.passed then 1 else 2)) (unitPage u) 0x03C 8 8 (if o.passed then 0 else o.failBit))
    (unitPage u) 0x03C 16 16 (min 65535 (rdF s1 (unitPage u) 0x03C 16 16 + 1))
  let s3 := rotaNote (bringBack s2 u o) u o.passed
  let r := unitRec s3 u
  let r1 := { r with passed := r.passed || decide (t.cause = .request) }
  let s4 := if res ≠ 1 then s3
    else if counts then
      bumpSat (setUnitRec s3 u { r1 with recov := (secOf s.stc.cnt :: r.recov).take 15, total := min 65535 (r.total + 1) })
        (unitPage u) 0x040 0 16 1
    else setUnitRec s3 u r1
  let s5 := t.codes.foldl (fun v c => faultSoe v c.1 (outcome c.2 res)) s4
  let code := w32 (o.failBit % 256 + u.cls * 2 ^ 8 + 2 * 2 ^ 16 + 2 * 2 ^ 19 + u.sub * 2 ^ 24)
  let s6 := if !o.passed ∧ t.codes = [] then faultLatch s5 u.cls u.inst u.inst (outcome code 2) false else s5
  let s7 := if res = 1 then s6 else retire s6 u (match t.codes with | c :: _ => c.2 | [] => code)
  degradedCheck (roomReturns (raiseIrq s7 pgSELV 1))

/-- The running test of a unit's key. -/
def runningTest (s : State) (u : Nat) : Option Test := (testsRunning s).find? fun t => decide (unitKey t.unit = u)

/-- What a test has shown. A lane that stays in service passes its transparent test only where no symbol error has come and the eye has
stayed above EYE_MIN since it began; without signal its memory and timestamp parts alone count (R462). -/
def judged (s : State) (t : Test) (o : TestObs) : TestObs :=
  let l := lane s t.unit.inst
  let after (a : Option Nat) : Bool := match a with | some x => decide (t.since ≤ x) | none => false
  if t.unit.cls = RUnit.lane.cls ∧ l.inProof = false ∧ l.signal = true ∧ (after l.symAt || after l.eyeLowAt) = true then
    { o with passed := false }
  else o

/-- SELV_TEST_DONE. -/
def execSelvTestDone (u : Nat) (o : TestObs) (s : State) : Host.Outcome State Fault Refusal :=
  .next (match runningTest s u with
    | some t => if curMode s = .off then s else endTest s t (judged s t o)
    | none => s)

/-- SELV_TEST_TIMEOUT: four times its length without an end sets TEST_TIMEOUT and counts as failed (R579). -/
def execSelvTestTimeout (u : Nat) (s : State) : Host.Outcome State Fault Refusal :=
  .next (match runningTest s u with
    | some t => if curMode s = .off ∨ s.now < t.since + 4 * t.len then s else endTest (raiseErr s pgSELV 8) t ⟨false, 0, true⟩
    | none => s)

/-- The unit that SELV_Q_UNIT names. -/
def queried (s : State) : UnitId := ⟨rdF s pgSELV 0x0DC 0 5, rdF s pgSELV 0x0DC 8 8, rdF s pgSELV 0x0DC 16 4⟩

/-- SELV_TEST_REQ: a test of the unit queried, in SERVICE (R598). -/
def execSelvTestReq (s : State) : Host.Outcome State Fault Refusal :=
  .next (if curMode s ≠ .service ∨ (testLen s (queried s)).isNone then s
    else if unitTested s (queried s) then askTest s (queried s) .request []
    else vacate (askTest s (queried s) .request []) (queried s) 8)

/-- UNRETIRE: a unit that has passed a requested test returns to service, in SERVICE (R582). -/
def execUnretire (s : State) : Host.Outcome State Fault Refusal :=
  .next (
    let u := queried s
    let r := unitRec s u
    if curMode s ≠ .service ∨ r.retired = false ∨ r.passed = false then s
    else
      let s1 := setUnitRec s u { r with retired := false, passed := false, recov := [] }
      let s2 := if u.cls = RUnit.bob.cls then
          setCore s1 u.inst (if domSt s1 u.inst = .on then Core.bobStart else Core.reset)
        else if u = bioUnit then bioAreas s1 else s1
      roomReturns s2)

/-! ### Leaving SAFE (R586, R605) -/

/-- The quiet period has passed. -/
def quietOver (s : State) : Bool := decide (s.selv.quietFrom + rdF s pgSELV 0x0CC 0 10 * msN ≤ s.now)

/-- SAFE_EXIT. -/
def execSafeExit (o : BootObs) (s : State) : Host.Outcome State Fault Refusal :=
  .next (
    if curMode s ≠ .safe ∨ !rdB s pgSELV 0x080 1 ∨ s.selv.tests ≠ [] ∨ s.selv.safeFailed = true ∨ s.selv.safeLatched = true ∨
        quietOver s = false then s
    else
      let s1 := raiseIrq (bump s pgSELV 0x0E8 1) pgSELV 4
      fnSettle (match s.mode.safeFrom with
        | .boot => enterBoot s1 o true
        | .proof => enterProof s1 true
        | .configure => enterConfigure s1 true
        | .armed => retainAll (modeEnter s1 .armed true)
        | .run | .degraded => degradedCheck (modeEnter s1 .run true)
        | m => modeEnter s1 m true))

end Sys2Proof.Machine
end

