-- ==== Sys2Proof/Machine/Arming.lean ====
section
/-!
DEFINITION. The arming of the engine: the checks of 19_modes_power.md R620 and what a passed check loads and places
(15_publish_trip_io.md R471 to R479, R484, 12_pricking_plying.md R386, 01_engine_organisation.md R28).
-/

namespace Sys2Proof.Machine

/-! ### The records of the channel -/

/-- The entries of `size` bytes within a region of the channel that hold a byte other than 0: an entry that nothing has
written has VALID 0. -/
def entriesIn (s : State) (base size n : Nat) : List Nat :=
  ((s.dra.mem.filter fun e => decide (base ≤ e.1 ∧ e.1 < base + size * n)).map fun e => (e.1 - base) / size).eraseDups

/-- The base of the directory (R336, R552). -/
def dirBase (s : State) : Nat := (rd s pgDRA 0x0A4).toNat * 2 ^ 20

/-- A declaration record of the directory. -/
def dirRecord (s : State) (idx : Nat) : List W32 := dramWords s (dirBase s + 32 * idx) 8

/-- The VALID records of the directory. -/
def dirStrands (s : State) : List Nat := (entriesIn s (dirBase s) 32 (2 ^ 21)).filter fun i => dValid (dirRecord s i)

/-- The declaration of a strand, one that stands or one that the directory declares. -/
def declOf (s : State) (idx : Nat) : Option (List W32) :=
  match strand s idx with
  | some x => some x.decl
  | none => if dValid (dirRecord s idx) then some (dirRecord s idx) else none

/-- Every strand with its declaration. -/
def allDecls (s : State) : List (Nat × List W32) :=
  (strandIdx s ++ (dirStrands s).filter fun i => (strand s i).isNone).filterMap fun i => (declOf s i).map fun d => (i, d)

/-- The valid entries of the SV, GOOSE and publication tables, by index (R471, R553). -/
def tableAt (s : State) (off n : Nat) : List (Nat × List W32) :=
  ((entriesIn s (tblBase s + off) 128 n).map fun i => (i, dramWords s (tblBase s + off + 128 * i) 32)).filter fun e =>
    bit (dword e.2 0) 0
def svTable (s : State) : List (Nat × List W32) := tableAt s 0 4096
def goTable (s : State) : List (Nat × List W32) := tableAt s 0x080000 16384
def pubTable (s : State) : List (Nat × List W32) := tableAt s 0x280000 768

/-- A string of the string area; an entry names its offset and length in one word. -/
def strAt (s : State) (w : W32) : List Byte := dramBytes s (tblBase s + 0x318000 + bits w 0 20) (bits w 20 8)
/-- Consumers of an entry. -/
def consOf (s : State) (e : List W32) : List W32 :=
  dramWords s (tblBase s + 0x298000 + 4 * bits (dword e 6) 0 16) (bits (dword e 6) 16 5)
/-- Member-format words of a publication. -/
def fmtOf (s : State) (e : List W32) : List W32 :=
  dramWords s (tblBase s + 0x2D8000 + 4 * bits (dword e 9) 0 16) (pubMembers e)

/-! ### DETAIL 1 to 3 -/

/-- Tick lines that break R347. -/
def badLine (s : State) (n : Nat) : Bool :=
  decide (tlModeW s n = 1) && (decide (2000 < tlWindowW s n) || decide (1000000 ≤ (tlWindowW s n + 1) * tlRateW s n))

/-- SIZE of a lane, 4 KiB units. -/
def laneSize (s : State) (k : Nat) : Nat := portF s (pgLANE k) 0x084 0 5

/-- Lanes that break R441. -/
def badLane (s : State) (k : Nat) : Bool :=
  let q := partner k
  let pool := ((List.range 8).map fun i => laneSize s (k / 8 * 8 + i)).foldl (· + ·) 0
  (decide (laneMode s k ≠ 0) && decide (laneSize s k = 0)) || decide (16 < laneSize s k) || decide (128 < pool) ||
    ((decide (laneRed s k ≠ 0) || decide (laneRed s q ≠ 0)) &&
      (decide (laneMode s k ≠ laneMode s q) || decide (laneRed s k ≠ laneRed s q) || (laneRing s k != laneRing s q) ||
        decide (laneMac s k ≠ laneMac s q))) ||
    (laneRing s k && decide (laneRed s k ≠ 2)) ||
    (laneRing s k && (List.range 96).any fun j => laneRing s j && decide (j / 2 < k / 2)) ||
    (portB s (pgLANE k) 0x080 7 && decide (laneMode s k ≠ 2))

/-- The regions of the channel in MiB, in the order of R552. -/
def regions (s : State) : List (Nat × Nat) :=
  let b := fun o => (rd s pgDRA o).toNat
  [(b 0xA0, 1024), (b 0xA4, 64), (b 0xA8, 8), (b 0xAC, 1), (b 0xB0, 64), (b 0xB4, b 0xB8), (b 0xBC, 16)]

/-- Region i lies beyond the two ranks, or overlaps one before it. -/
def badRegion (s : State) (i : Nat) : Bool :=
  match (regions s)[i]? with
  | none => false
  | some r => decide (dramSize s < (r.1 + r.2) * 2 ^ 20) ||
      ((regions s).take i).any fun q => decide (q.1 < r.1 + r.2 ∧ r.1 < q.1 + q.2)

/-! ### DETAIL 4 (R472) -/

/-- LANE and PAIR of an entry are legal. -/
def laneOk (e : List W32) : Bool :=
  decide (bits (dword e 0) 4 7 < 96) && (!bit (dword e 0) 3 || decide (bits (dword e 0) 4 7 % 2 = 0))

/-- A string of `lo` to 129 bytes lies within the string area. -/
def strOk (w : W32) (lo : Nat) : Bool :=
  decide (lo ≤ bits w 20 8 ∧ bits w 20 8 ≤ 129 ∧ bits w 0 20 + bits w 20 8 ≤ 2 ^ 20)

/-- The consumers of an entry are 1 to 16 pinned strands with a legal CELL. -/
def consOk (s : State) (e : List W32) : Bool :=
  decide (1 ≤ bits (dword e 6) 16 5 ∧ bits (dword e 6) 16 5 ≤ 16 ∧ bits (dword e 6) 0 16 + bits (dword e 6) 16 5 ≤ 65536) &&
    (consOf s e).all fun c => decide (consCell c < 24 ∨ consCell c = 31) &&
      match declOf s (consStrand c) with | some d => dPinned d | none => false

/-- An SV entry passes. -/
def svOk (s : State) (e : List W32) : Bool :=
  let n := svTl e
  laneOk e && strOk (dword e 5) 1 && consOk s e && decide (2 ≤ svDepth e ∧ svDepth e ≤ 16) && decide (tlModeW s n = 1) &&
    decide (tlRateW s n % svDepth e = 0)

/-- A GOOSE entry passes; the forms that BIO gives are 0 and 5 (R482). An entry for BIO needs no gocbRef, but one that it holds lies in
the string area (DEDUCED, log entry 177). -/
def goOk (s : State) (e : List W32) : Bool :=
  let bio := bit (dword e 0) 11
  laneOk e && strOk (dword e 5) (if bio then 0 else 1) && consOk s e &&
    (usedMaps e 15).all fun m => if bio then decide (goForm m = 0 ∨ goForm m = 5) else decide (goForm m ≠ 7)

/-- A member-format word passes: FORM, and its argument (R485). -/
def fmtOk (sv : Bool) (fs : List W32) (m : Nat) : Bool :=
  let f := bits (fs.getD m 0) 0 3
  let a := bits (fs.getD m 0) 3 6
  if sv then decide (f = 1)
  else match f with
    | 7 => false
    | 6 => decide (a < fs.length)
    | 4 => decide (a < 32)
    | _ => true

/-- A publication entry passes: its fields, its owner's slots and its strings. -/
def pubOk (s : State) (decls : List StrandDecl) (slot : Nat) (e : List W32) : Bool :=
  let sv := decide (512 ≤ slot)
  let fs := fmtOf s e
  laneOk e && strOk (dword e 5) 1 && strOk (dword e 6) 0 && (sv || strOk (dword e 7) 0) &&
    decide (bits (dword e 9) 0 16 + pubMembers e ≤ 65536) && (List.range fs.length).all (fmtOk sv fs) &&
    (sv || decide (1 ≤ bits (dword e 10) 0 14 ∧ bits (dword e 10) 0 14 ≤ 10000 ∧ 1 ≤ bits (dword e 10) 16 16 ∧
      bits (dword e 10) 16 16 ≤ 60000)) &&
    (decls.any fun d => decide (d.idx = pubOwner e) && decide (slot ∈ d.slots)) && (declOf s (pubOwner e)).isSome

/-- An output that more than one TO_MASK holds. -/
def badOutput (s : State) (n : Nat) : Bool :=
  decide (1 < ((allDecls s).filter fun e => bit (dToMask e.2) n).length)

/-- The first entry that R472 refuses. -/
def badTable (s : State) (decls : List StrandDecl) : Option Nat :=
  match (svTable s).find? fun e => !svOk s e.2 with
  | some e => some e.1
  | none => match (goTable s).find? fun e => !goOk s e.2 with
    | some e => some e.1
    | none => match (pubTable s).find? fun e => !pubOk s decls e.1 e.2 with
      | some e => some e.1
      | none => (List.range 32).find? (badOutput s)

/-! ### Strands (DETAIL 5) -/

/-- The declared strands that do not stand yet are created in the order of their indices; a P-class strand without a place
ends it with its index. -/
def createAll (decls : List StrandDecl) : List Nat → State → State × Option Nat
  | [], s => (s, none)
  | i :: t, s =>
    if (strand s i).isSome then createAll decls t s
    else
      let segs := match decls.find? fun d => decide (d.idx = i) with | some d => d.segs | none => []
      let (r, s1) := createStrand s i segs none
      if r ≠ 2 ∧ dCls (dirRecord s i) = 0 then (s, some i) else createAll decls t s1

/-- A ply's place still keeps the constraints of R378. -/
def placeKept (s : State) (idx : Nat) (x : Strand) (j : Nat) : Bool :=
  match x.plies[j]? with
  | none => true
  | some p =>
    let others := (List.range x.plies.length).filterMap fun i =>
      if i = j then none else (x.plies[i]?).map fun q => pilOf q.bob
    placeOk s idx j x.decl [] others (some 65536) p.bob

/-- The first standing P-class strand whose placement breaks R378. -/
def badPlacement (s : State) : Option Nat :=
  (strandIdx s).find? fun i => match strand s i with
    | some x => decide (dCls x.decl = 0) && !((List.range x.plies.length).all (placeKept s i x))
    | none => false

/-! ### Loading (R472, R475, R479, R484, R486, R491) -/

/-- The alias of the local pillow's word at an offset (R416). -/
def aliasWord (off : Nat) : TWord := TWord.ofTy .adr (w32 (0x440000 + off))

/-- RING or AREA reaches the cell of every ply of every consumer. -/
def tellCons (s : State) (cons : List W32) (off : Nat) : State :=
  cons.foldl (fun u c =>
    if 24 ≤ consCell c then u
    else match strand u (consStrand c) with
      | none => u
      | some x => x.plies.foldl (fun v p => ctxSet v (consStrand c) p (40 + consCell c) (aliasWord off)) u) s

/-- A range for a ring or an area at one bank and offset of every pillow of a route, banks 0 to 4 in order. -/
def ringPlace (s : State) (cons : List W32) (len : Nat) : Option (Nat × State) :=
  let ps := routeOfCons s cons
  (firstSome (fun b => findSeg s ps [] b (max 1 len)) (List.range 5)).map fun g =>
    (g.bank * 32768 + g.off, ps.foldl (fun u p => assign u p g 2) s)

/-- One SV subscription loaded; none where no range is free. -/
def loadSv (s : State) (i : Nat) (e : List W32) : Option State :=
  let cons := consOf s e
  (ringPlace s cons ((svRings e).length * svDepth e)).map fun r =>
    tellCons (setSv r.2 i ⟨e, cons, strAt s (dword e 5), r.1, [], false, [], List.replicate 8 0⟩) cons r.1

/-- The words of an area that nothing has written: of the mapped TYPE, absent (R479). -/
def areaAbsent (e : List W32) : List TWord :=
  (usedMaps e 15).flatMap fun m =>
    List.replicate (goWidth m) (TWord.mk' ((formTy (goForm m)).getD .nat) ⟨.absent, false, false⟩ 0)

/-- One GOOSE subscription loaded. -/
def loadGo (s : State) (i : Nat) (e : List W32) : Option State :=
  let cons := consOf s e
  (ringPlace s cons (1 + 2 * goW e)).map fun r =>
    let vals := areaAbsent e
    let s1 := (routeOfCons s cons).foldl (fun u p =>
      bankSetList u (p * 2 ^ 18 + r.1) (TWord.nat 0 :: (vals ++ vals))) r.2
    tellCons (setGo s1 i ⟨e, cons, strAt s (dword e 5), r.1, none, true, 0, none, false, vals, List.replicate 8 0⟩) cons r.1

/-- One publication loaded, its working images VOID. -/
def loadPub (s : State) (slot : Nat) (e : List W32) : State :=
  setPub s slot ⟨e, fmtOf s e, [], none, false, false, [], 0, 0, 0, 0, 0, 0, none, List.replicate 8 0⟩

/-- Entries loaded in order; the first that has no room ends it. -/
def loadAll (f : State → Nat → List W32 → Option State) : List (Nat × List W32) → State → State × Option Nat
  | [], s => (s, none)
  | e :: t, s => match f s e.1 e.2 with
    | none => (s, some e.1)
    | some s1 => loadAll f t s1

/-- The tables of the last arming are gone: their rings and areas are free. -/
def unloadTables (s : State) : State :=
  { s with
    prck := { s.prck with own := s.prck.own.filter fun e => decide (e.2 % 4 ≠ 2) }
    pio := { s.pio with sv := [], goose := [], pubs := [] } }

/-- Outputs belong to the strands whose TO_MASK names them (R491). -/
def ownOutputs (s : State) : State :=
  (List.range 32).foldl (fun u n =>
    let holds := fun (e : Nat × List W32) =>
      if bit (dToMask e.2) n && (strand u e.1).isSome then some e.1 else none
    setOut u n { outp u n with owner := (allDecls u).findSome? holds }) s

/-- The checks of R620 in order: the DETAIL and index of the first that fails, or the state with everything loaded and
placed. A ring or area that finds no room fails as its table does (DEDUCED, log entry 41). -/
def arm (s : State) (decls : List StrandDecl) : (Nat × Nat) ⊕ State :=
  match (List.range 8).find? (badLine s) with
  | some n => .inl (1, n)
  | none => match (List.range 96).find? (badLane (portTake s)) with
    | some k => .inl (2, k)
    | none => match (List.range 7).find? (badRegion s) with
      | some i => .inl (3, i)
      | none => match badTable s decls with
        | some i => .inl (4, i)
        | none =>
          match createAll decls (dirStrands s) (unloadTables s) with
          | (_, some i) => .inl (5, i)
          | (s1, none) => match badPlacement s1 with
            | some i => .inl (5, i)
            | none => match loadAll loadSv (svTable s) s1 with
              | (_, some i) => .inl (4, i)
              | (s2, none) => match loadAll loadGo (goTable s) s2 with
                | (_, some i) => .inl (4, i)
                | (s3, none) => .inr (ownOutputs (portTake (tlTake (tripTake ((pubTable s).foldl (fun u e => loadPub u e.1 e.2) s3)))))

/-! ### Engine number and role (R28) -/

/-- The engine part of an ID replaced, where the ID is one of those given. -/
def renumber (ids : List W32) (n : Nat) (id : W32) : W32 := if id ∈ ids then w32 (n * 2 ^ 21 + idIndex id) else id

/-- Number and role as written take effect; IDs that hold another number are rewritten, with word 38 of every context and the
entries of the shadow directory that name them (R28). An engine that becomes standalone hears no manager (R23, R27, R29). -/
def takeNumber (s : State) : State :=
  let n := rdF s pgGLB 0x080 0 11
  let role := rdF s pgGLB 0x084 0 2
  let s1 := { s with glb := { s.glb with
    engineNum := n, role := role, present := s.glb.present && decide (role ≠ 0)
    lastAt := if s.glb.role = 0 then s.now else s.glb.lastAt } }
  let s2 := if role = 0 then condEnd (if s.glb.present then raiseIrq s1 pgGLB 1 else s1) pgGLB 1 else s1
  let old := (strandIdx s2).filterMap fun i => (strand s2 i).map (·.id)
  let s3 := (strandIdx s2).foldl (fun u i => match strand u i with
    | none => u
    | some x =>
      if idEngine x.id = n then u
      else
        let u1 := setStrand u i (some { x with id := w32 (n * 2 ^ 21 + i) })
        (List.range x.plies.length).foldl (fun v j => ctxPlace v i j) u1) s2
  { s3 with prck := { s3.prck with dir := s3.prck.dir.map fun d =>
    { d with primary := renumber old n d.primary, shadow := renumber old n d.shadow } } }

end Sys2Proof.Machine
end

