-- ==== Sys2Proof/Machine/ModeCmd.lean ====
section
/-!
DEFINITION. The commands of the mode sequencer (19_modes_power.md R601 to R608, R618 to R623).
-/

namespace Sys2Proof.Machine

/-- A rejected command changes nothing but REJECT, DETAIL and the index (R602, R623). -/
def reject (s : State) (r detail index : Nat) : State :=
  warnEvent (raiseIrq { s with mode := { s.mode with reject := r, detail := detail, rejIndex := index } } pgMODE 1) pgMODE

/-- The command is accepted. -/
def accept (s : State) : State := { s with mode := { s.mode with reject := 0, detail := 0, rejIndex := 0 } }

/-- A write of MODE_CMD: its requester, its KEY, what it met in its cycle, BUSY, and the transitions of R603 (R602, R604). -/
def modeCmd (s : State) (c : ModeCmd) (legal : List Mode) (body : State → State) : State :=
  if curMode s = .off ∨ c.who = .debug ∨ (c.who = .spindle ∧ (core s spindle).modes.level = .u) then s
  else if c.key ≠ 0xC3 then warnEvent s pgMODE
  else if c.met = .automatic then reject s 3 0 0
  else if c.met = .spindle ∧ c.who = .host then reject s 2 0 0
  else if s.mode.busy then reject s (if s.mode.auto then 3 else 2) 0 0
  else if curMode s ∉ legal then reject s 1 0 0
  else body s

/-- A transition that powers the domains down: accepted only while the agent is disconnected, or with FORCE, which declares
it dead (R608). -/
def powerDown (s : State) (c : ModeCmd) (body : State → State) : State :=
  if s.spn.connected then
    if c.force then body (declareDead (accept s)) else reject s 5 0 0
  else body (accept s)

/-- KEEP: outputs go to reset, every switched domain loses its power, a debug grant and the lock of the image range end (R608,
R643, R648). -/
def enterKeep (s : State) : State :=
  let s1 := powerDownAll (modeEnter s .keep false)
  { s1 with sec := { s1.sec with hostLock := false } }

/-- A transition is under way (R623). -/
def beginTo (s : State) (m : Mode) : State := { s with mode := { s.mode with target := m, busy := true, auto := false, late := [] } }

/-- MODE_CMD BOOT (R618): from KEEP, or from SERVICE through a power-down (R608); rejected in SCRAPPED (R634). -/
def execModeCmdBoot (c : ModeCmd) (o : BootObs) (s : State) : Host.Outcome State Fault Refusal :=
  .next (modeCmd s c [.keep, .service] fun s =>
    if s.fuses.state = .scrapped ∨ s.fuses.fused = .scrapped then reject s 6 0 0
    else if curMode s = .keep then enterBoot (accept s) o false
    else powerDown s c fun u => enterBoot (powerDownAll (leaveService u)) o false)

/-- MODE_CMD PROOF. -/
def execModeCmdProof (c : ModeCmd) (s : State) : Host.Outcome State Fault Refusal :=
  .next (modeCmd s c [.boot] fun s => enterProof (accept s) false)

/-- MODE_CMD CONFIGURE: from ARMED the Whorl stops and lanes go off (R607). -/
def execModeCmdConfigure (c : ModeCmd) (s : State) : Host.Outcome State Fault Refusal :=
  .next (modeCmd s c [.armed, .service] fun s => enterConfigure (accept s) false)

/-- The checks of R620 and the way to ARMED, once the tables can be read; `at'` is when the command came (R623). -/
def armNow (s : State) (decls : List StrandDecl) (at' : Nat) : State :=
  match arm s decls with
  | .inl e => reject { s with mode := { s.mode with target := s.mode.cur, busy := false } } 4 e.1 e.2
  | .inr v =>
    let u := { v with whrl := { v.whrl with decls := decls } }
    let u1 := (List.range 12).foldl (fun v g =>
      if (List.range 8).any (fun i => decide (laneMode v (8 * g + i) ≠ 0)) && decide (domSt v (402 + g) = .off) then
        setDom v (402 + g) .changing else v) (accept u)
    let u2 := { u1 with mode := { u1.mode with phConf := min 65535 ((at' - u1.mode.phStart) / msN), phStart := at' } }
    beginTo (bobsOn (takeNumber u2) true) .armed

/-- MODE_CMD ARMED: from CONFIGURE the checks of R620, then loading and placement with BUSY until everything is up; from a
running mode outputs go to reset and pillows to retention (R607). -/
def execModeCmdArmed (c : ModeCmd) (decls : List StrandDecl) (s : State) : Host.Outcome State Fault Refusal :=
  .next (modeCmd s c [.configure, .run, .degraded, .blocked] fun s =>
    if curMode s ≠ .configure then retainAll (modeEnter (accept s) .armed false)
    else hifDma (if s.hif.hostClock then s else beginTo (accept s) .armed) (.arm decls s.now) fun u => armNow u decls s.now)

/-- MODE_CMD RUN: from ARMED the retained pillows wake with BUSY (R621); from TEST or BLOCKED at one instant, into DEGRADED
when a condition of R584 stands (R603). -/
def execModeCmdRun (c : ModeCmd) (s : State) : Host.Outcome State Fault Refusal :=
  .next (modeCmd s c [.armed, .test, .blocked] fun s =>
    if curMode s = .armed then
      beginTo (bobsOn ((List.range 16).foldl wakePil { accept s with mode := { (accept s).mode with woken := [] } }) false) .run
    else modeEnter (accept s) (if degradedCond s then .degraded else .run) false)

/-- MODE_CMD TEST. -/
def execModeCmdTest (c : ModeCmd) (s : State) : Host.Outcome State Fault Refusal :=
  .next (modeCmd s c [.run, .degraded, .blocked] fun s => modeEnter (accept s) .test false)

/-- MODE_CMD BLOCKED. -/
def execModeCmdBlocked (c : ModeCmd) (s : State) : Host.Outcome State Fault Refusal :=
  .next (modeCmd s c [.run, .degraded, .test] fun s => modeEnter (accept s) .blocked false)

/-- The life-cycle state lets SERVICE be entered (R634). -/
def serviceOk (s : State) : Bool :=
  match s.fuses.state with
  | .blank | .manufacture | .develop => true
  | .deployed | .returned => match s.sec.grant with | some g => g.service | none => false
  | .scrapped => false

/-- MODE_CMD SERVICE. -/
def execModeCmdService (c : ModeCmd) (s : State) : Host.Outcome State Fault Refusal :=
  .next (modeCmd s c [.configure, .armed, .blocked, .safe] fun s =>
    if serviceOk s then fnSettle (modeEnter (accept s) .service false) else reject s 6 0 0)

/-- MODE_CMD KEEP (R608). -/
def execModeCmdKeep (c : ModeCmd) (s : State) : Host.Outcome State Fault Refusal :=
  .next (modeCmd s c [.boot, .configure, .armed, .service] fun s => powerDown s c enterKeep)

/-- MODE_TRANSITION_DONE: everything the transition waits for is up: ARMED is complete, or RUN with the woken pillows'
rings absent (R618, R621, R428). -/
def execModeTransitionDone (s : State) : Host.Outcome State Fault Refusal :=
  .next (
    if !s.mode.busy ∨ stillChanging s then s
    else match s.mode.target with
      | .armed =>
        let s1 := { s with mode := { s.mode with phArm := phaseMs s } }
        retainAll (fnSettle (fnArmed (modeEnter (banksOn s1) .armed false)))
      | .run =>
        let s1 := banksOn (s.mode.woken.foldl wakeFill s)
        degradedCheck (modeEnter { s1 with mode := { s1.mode with woken := [] } } .run false)
      | m => modeEnter s m false)

/-- The units of the start-up self-test (R619). -/
def proofUnits : List UnitId :=
  [RUnit.whrl, .trip, .prck, .eic, .ucs, .hif, .nvr, .bio].map (fun u => ⟨u.cls, 0, 0⟩) ++
    (List.range 16).map fabricUnit ++ (List.range 256).map bobUnit ++
    ((List.range 16).flatMap fun p => (List.range 8).map (bankUnit p)) ++
    (List.range 12).map (fun g => ⟨RUnit.pg.cls, g, 0⟩) ++ (List.range 96).map laneUnit

/-- One unit's start-up test: its result, its retirement when it fails; tests that waited for it are served by it. -/
def proofUnit (failed : List UnitId) (s : State) (u : UnitId) : State :=
  if (unitRec s u).retired then s
  else
    let ok := decide (u ∉ failed)
    match s.selv.tests.find? fun t => decide (t.unit = u) with
    | some t => endTest s t ⟨ok, 0, true⟩
    | none =>
      let s1 := wrF (proofMark s u (if ok then 1 else 2)) (unitPage u) 0x03C 16 16
        (min 65535 (rdF s (unitPage u) 0x03C 16 16 + 1))
      if ok then s1
      else
        let code := w32 (u.cls * 2 ^ 8 + 2 * 2 ^ 16 + 2 * 2 ^ 19 + 2 * 2 ^ 21 + u.sub * 2 ^ 24)
        retire (faultLatch s1 u.cls u.inst u.inst code false) u code

/-- The state of a bobbin's target has been saved and restored around its test (R523, R524). -/
def proofTarget (failed : List StepObs) (s : State) (b : Nat) : State :=
  if (unitRec s (bobUnit b)).retired ∨ (tgt s (b + 1)).saved.isSome then s
  else eicRestore (eicSave s (b + 1)) (b + 1) (failed.all fun f => !(f.restore && decide (f.cls = RUnit.bob.cls ∧ f.inst = b)))

/-- PROOF_END: the start-up self-test has run; every bank holds VOID words, every word of code memory 0 (R418); CONFIGURE follows at once unless a unit without
a spare has latched SAFE (R618, R619). -/
def execProofEnd (failed : List StepObs) (s : State) : Host.Outcome State Fault Refusal :=
  .next (
    if curMode s ≠ .proof then s
    else
      let bad := (failed.filter fun f => !f.restore).map fun f => (⟨f.cls, f.inst, f.sub⟩ : UnitId)
      let s0 := (List.range 256).foldl (proofTarget failed) s
      let s1 := (proofUnits ++ bad.filter fun u => decide (u ∉ proofUnits)).foldl (proofUnit bad) s0
      let s2 := { s1 with mem := { s1.mem with bank := [], bankBad := [], code := [], codeBad := [] } }
      if curMode s2 = .proof then enterConfigure s2 true else s2)

end Sys2Proof.Machine
end

