-- ==== Sys2Proof/Machine/Dbg.lean ====
section
/-!
DEFINITION. Debug and run control (21_debug_snag.md R661 to R685): halts, steps, breakpoints, the state of a halted core,
the debug bus master, core watchdogs, and the fall of the debug level.
-/

namespace Sys2Proof.Machine

/-! ### Targets (R665, R683) -/

/-- The core that a TARGET number names. -/
def targetCore (t : Nat) : Nat := if t = 0 then spindle else t - 1

/-- The core that DBG_RC_SEL names. -/
def selCore (s : State) : Nat := targetCore (rdF s pgDBG 0x088 0 9)

/-- The cores that run control acts on. -/
def rcCores (s : State) : List Nat :=
  if rdB s pgDBG 0x088 12 then (List.range 16).map fun b => 16 * rdF s pgDBG 0x088 0 4 + b
  else if rdF s pgDBG 0x088 0 9 ≤ 256 then [selCore s] else []

/-- The unit of a core. -/
def coreUnit (c : Nat) : UnitId := if c = spindle then ⟨RUnit.spn.cls, 0, 0⟩ else bobUnit c

/-- RESULT of DBG_RC_STATUS. -/
def rcResult (s : State) (r : Nat) : State := wrF s pgDBG 0x090 12 4 r

/-- Modes in which a bobbin is drained before it halts (R665). -/
def Mode.drains : Mode → Bool
  | .armed | .run | .degraded | .blocked => true
  | _ => false

/-! ### Halting (R665, R666) -/

/-- Migrations to a bobbin end when it halts (R666). -/
def abortTo (s : State) (b : Nat) : State := (s.prck.migs.filter fun m => decide (m.dst = b)).foldl abortMig s

/-- A core halts: what is in flight lands (R194), the barrier is acknowledged for a bobbin (R192), HALTED is set. -/
def haltCore (s : State) (c cause : Nat) : State :=
  let s1 := modCore s c fun k => { drain k with
    haltFrom := k.pstate, pstate := .halted, haltReq := .none, haltCause := cause, icache := [], lbActive := false, lbCap := false }
  let s2 := if c = spindle then s1 else clbAck (abortTo s1 c) c
  let s3 := { s2 with dbg := { s2.dbg with drains := s2.dbg.drains.filter (· ≠ c) } }
  wdogSync (raiseIrq (traceRec s3 (some c) 6 (core s3 c).pc 0) pgDBG 0)

/-- What HALT answers for one core, and what it begins. -/
def haltAsk (s : State) (c : Nat) : Nat × State :=
  let k := core s c
  if c = spindle then
    match k.pstate with
    | .strand | .idle => (1, modCore s c fun k => { k with haltReq := .pending, haltCause := 0 })
    | .halted => (1, s)
    | _ => (4, s)
  else if (unitRec s (bobUnit c)).retired ∨ unitTested s (bobUnit c) = true ∨ k.pstate = .vacated then (3, s)
  else if k.pstate = .halted then (1, s)
  else if k.pstate = .lockedUp ∨ domSt s (384 + pilOf c) ≠ .on then (4, s)
  else
    let s1 := if domSt s c = .on then s else domOn s c
    if (curMode s).drains then
      let s2 := modCore { s1 with dbg := { s1.dbg with drains := c :: s1.dbg.drains.filter (· ≠ c) } } c fun k =>
        { k with haltReq := .draining, haltCause := 0 }
      (1, vacateBob s2 c 8)
    else (1, modCore s1 c fun k => { k with haltReq := .pending, haltCause := 0 })

/-- HALT (R665). -/
def execHalt (s : State) : Host.Outcome State Fault Refusal :=
  .next (
    if !pagePowered s pgDBG then warnEvent s pgDBG
    else if dbgLevel s < 2 then rcResult s 2
    else
      let (r, s1) := (rcCores s).foldl (fun u c =>
        let (r, v) := haltAsk u.2 c
        (max u.1 r, v)) (1, s)
      rcResult s1 r)

/-- The moves that drains of these bobbins want are wanted no longer (R662, R665). -/
def dropDrains (s : State) (bs : List Nat) : State :=
  { s with
    dbg := { s.dbg with drains := s.dbg.drains.filter fun b => decide (b ∉ bs) }
    prck := { s.prck with wants := s.prck.wants.filter fun w =>
      !(decide (w.reason = 8) && match ply? s w.idx w.ply with | some p => decide (p.bob ∈ bs) | none => false) } }

/-- CANCEL: a drain that has not completed is withdrawn (R665). -/
def execCancel (s : State) : Host.Outcome State Fault Refusal :=
  .next (
    if !pagePowered s pgDBG then warnEvent s pgDBG
    else if dbgLevel s < 2 then rcResult s 2
    else
      let mine := (rcCores s).filter fun c => decide ((core s c).haltReq = .draining)
      if mine = [] then rcResult s 4
      else
        let s1 := mine.foldl (fun u c => modCore u c fun k => { k with haltReq := .none }) s
        rcResult (roomReturns (dropDrains s1 mine)) 1)

/-! ### Resuming and stepping (R667, R673) -/

/-- A ply halted in place that missed a release is rebuilt before its strand's next; the work of its tick is discarded. -/
def resumePly (s : State) (b : Nat) (e : Nat × Nat) : State :=
  match strand s e.1, ply? s e.1 e.2 with
  | some x, some p =>
    if 1 < x.plies.length ∧ p.missed = true then
      let s1 := if decide ((core s b).strand.map (fun o => (o.idx, o.ply)) = some e) then leaveBob s b else s
      startRebuild (modPly s1 e.1 e.2 fun q => { q with st := .staged, missed := false, preempted := false }) e.1 e.2
    else s
  | _, _ => s

/-- The state in which a halted core runs again: a spindle halted in WFI goes on at its next word. -/
def runsAs (k : Core) (c : Nat) : PState := if k.haltFrom = .idle ∧ c = spindle then .strand else k.haltFrom

/-- A halted core runs again; its watchdog starts over (R674), and breakpoints at its next word are passed over. -/
def resumeCore (s : State) (c : Nat) : State :=
  let s1 := modCore s c fun k => wdogReload s { k with
    pstate := runsAs k c, haltReq := .none, bpPass := true }
  let s2 := if c = spindle then s1 else (pliesOn s1 c).foldl (fun u e => resumePly u c e) s1
  wdogSync s2

/-- RESUME (R673). -/
def execResume (s : State) : Host.Outcome State Fault Refusal :=
  .next (
    if !pagePowered s pgDBG then warnEvent s pgDBG
    else if dbgLevel s < 2 then rcResult s 2
    else
      let mine := (rcCores s).filter fun c => decide ((core s c).pstate = .halted)
      if mine = [] then rcResult s 4 else rcResult (roomReturns (mine.foldl resumeCore s)) 1)

/-- STEP: the next word that the core runs is its last (R667). -/
def execStep (stepIrq : Bool) (s : State) : Host.Outcome State Fault Refusal :=
  .next (
    if !pagePowered s pgDBG then warnEvent s pgDBG
    else if dbgLevel s < 2 then rcResult s 2
    else
      let mine := (rcCores s).filter fun c => decide ((core s c).pstate = .halted)
      if mine = [] then rcResult s 4
      else
        rcResult (wdogSync (mine.foldl (fun u c => modCore u c fun k => { k with
          pstate := runsAs k c, haltReq := .stepping stepIrq, haltCause := 1, bpPass := true }) s)) 1)

/-- A word that a step has run is over: the core halts again, its watchdog full. -/
def stepDone (s : State) (c : Nat) : State :=
  match (core s c).haltReq with
  | .stepping _ => haltCore (modCore s c fun k => wdogReload s k) c 1
  | _ => s

/-- RESET_LOCKUP: a locked-up core goes to the Selvedge's reset and test (R670). -/
def resetLockup (s : State) (c : Nat) : State :=
  if c = spindle then
    let s1 := modCore { s with selv := { s.selv with lockups := s.selv.lockups.filter (· ≠ c) } } c fun k => { k with pstate := .off }
    askTest s1 (coreUnit c) .safe []
  else
    let s1 := resetLocked s c
    if unitTested s1 (bobUnit c) then s1 else vacate (askTest s1 (bobUnit c) .error []) (bobUnit c) 5

def execResetLockup (s : State) : Host.Outcome State Fault Refusal :=
  .next (
    if !pagePowered s pgDBG then warnEvent s pgDBG
    else if dbgLevel s < 2 then rcResult s 2
    else
      let mine := (rcCores s).filter fun c => decide ((core s c).pstate = .lockedUp)
      if mine = [] then rcResult s 4 else rcResult (mine.foldl resetLockup s) 1)

/-! ### Breakpoints (R668) -/

/-- ADDR and CTL of breakpoint i of a core. -/
def bpReg (s : State) (c i j : Nat) : W32 := SMap.get s.dbg.bp 0 (dbgTarget c * 8 + 2 * i + j)

/-- Breakpoints of a kind that match an address: 1 instruction, 2 data read, 3 data write. -/
def bpHits (s : State) (c kind addr : Nat) : List Nat :=
  if dbgLevel s < 2 then []
  else (List.range 4).filter fun i =>
    decide (bits (bpReg s c i 1) 0 2 = kind) &&
      decide ((bpReg s c i 0).toNat + (if c = spindle then bits (bpReg s c i 1) 16 16 * 2 ^ 32 else 0) = addr)

/-- What matching breakpoints do: trace, count, and halt the core where one that halts matches (R668). Answers whether it
halts. -/
def bpTake (s : State) (c kind addr : Nat) : Bool × State :=
  match bpHits s c kind addr with
  | [] => (false, s)
  | hits =>
    let quiet := fun i => bit (bpReg s c i 1) 3
    let s1 := traceRec s (some c) 7 (core s c).pc (w32 addr)
    let s2 := { s1 with dbg := { s1.dbg with bpCount := s1.dbg.bpCount + (hits.filter quiet).length } }
    let stops := hits.filter fun i => !quiet i
    if stops = [] ∨ (c ≠ spindle ∧ (curMode s).drains = true) then (false, s2)
    else
      let s3 := wrF s2 pgDBG 0x090 8 4 ((stops.map fun i => 2 ^ i).foldl (· + ·) 0)
      (true, haltCore s3 c (if kind = 1 then 2 else 3))

/-! ### The state of a halted core (R669) -/

/-- The stack that an item lies in, and its index there. -/
def itemStk (c item : Nat) (priv : Bool) (k : Core) : Stk × Nat :=
  let x := if item < 16 then (if priv then k.dsP else k.dsU) else (if priv then k.rsP else k.rsU)
  let i := item % 16
  (x, if c = spindle then x.depth - 1 - i else i)

/-- A stack entry replaced. -/
def setItem (c item : Nat) (priv : Bool) (k : Core) (w : TWord) : Core :=
  let (x, i) := itemStk c item priv k
  let y := x.put i w
  if c = spindle ∧ x.depth ≤ item % 16 then k
  else if item < 16 then (if priv then { k with dsP := y } else { k with dsU := y })
  else if priv then { k with rsP := y } else { k with rsU := y }

/-- The spindle's stacks have one set. -/
def itemPriv (s : State) (c : Nat) : Bool := rdB s pgDBG 0x094 8 && decide (c ≠ spindle)

/-- An item as its payload or low half, and its tag or high half. -/
def itemRead (s : State) (c : Nat) : W32 × W32 :=
  let k := core s c
  let item := rdF s pgDBG 0x094 0 6
  if item < 32 then
    let (x, i) := itemStk c item (itemPriv s c) k
    let w := if c = spindle ∧ x.depth ≤ item % 16 then voidWord else x.get i
    (w.pay, w32 w.tag)
  else if item = 32 then (w32 k.pc, w32 (if c = spindle then k.pc / 2 ^ 32 % 2 ^ 16 * 2 ^ 16 else 0))
  else if item = 33 then (statusWord c k, 0)
  else if item < 37 then ((loopCellsOf s k.loops).1.getD (item - 34) 0, 0)
  else if item = 37 then
    (k.areg.pay.setWidth 32, w32 (((⟨k.areg.ty, k.areg.q, k.areg.rsv, 0⟩ : TWord).tag) + k.areg.pay.toNat / 2 ^ 32 * 2 ^ 16))
  else (0, 0)

/-- A raw status word: modes, flags, the stack set, ESC, and the depths of that set; a strand of class P keeps what R335 holds. -/
def putStatus (c : Nat) (k : Core) (pClass : Bool) (v : W32) : Core :=
  let k1 := { k with modes := (pModes pClass k.modes (modesOf v)).1, flags := flagsOf v, esc := bit v 30 }
  if c = spindle then k1
  else
    let d := min 16 (bits v 19 5)
    let r := min 16 (bits v 24 5)
    if bit v 29 then { k1 with pset := true, dsP := { k1.dsP with depth := d }, rsP := { k1.rsP with depth := r } }
    else { k1 with pset := false, dsU := { k1.dsU with depth := d }, rsU := { k1.rsU with depth := r } }

/-- A raw write of an item's low or high half. -/
def itemWrite (s : State) (c : Nat) (hi : Bool) (v : W32) : State :=
  let k := core s c
  let item := rdF s pgDBG 0x094 0 6
  let priv := itemPriv s c
  if item < 32 then
    let (x, i) := itemStk c item priv k
    let w := x.get i
    setCore s c (setItem c item priv k (if hi then TWord.ofTag (bits v 0 8) w.pay else { w with pay := v }))
  else if item = 32 then
    if !hi then setCore s c { k with pc := if c = spindle then k.pc / 2 ^ 32 * 2 ^ 32 + v.toNat else bits v 0 16 }
    else if c = spindle then setCore s c { k with pc := bits v 16 16 * 2 ^ 32 + k.pc % 2 ^ 32 } else s
  else if hi ∧ item ≠ 37 then s
  else if item = 33 then
    let p := runsP s k
    let s1 := setCore s c (putStatus c k p v)
    if (pModes p k.modes (modesOf v)).2 then warnEvent s1 (pgBOB c) else s1
  else if item < 37 then
    let (cells, s1) := loopCellsOf s k.loops
    let cs := cells.set (item - 34) v
    let (ls, s2) := loopsOf s1 (cs.getD 0 0) (cs.getD 1 0) (cs.getD 2 0)
    setCore s2 c { k with loops := ls }
  else if item = 37 then
    let t := TWord.ofTag (bits v 0 8) 0
    let a : AReg := if hi then
        { ty := t.ty, q := t.q, rsv := t.rsv
          pay := BitVec.ofNat 48 (k.areg.pay.toNat % 2 ^ 32 + (if c = spindle then bits v 16 16 * 2 ^ 32 else 0)) }
      else { k.areg with pay := BitVec.ofNat 48 (if c = spindle then k.areg.pay.toNat / 2 ^ 32 * 2 ^ 32 + v.toNat else bits v 0 24) }
    setCore s c { k with areg := a }
  else s

/-- DBG_CORE_WRITE: the selected item of a halted core is written, raw (R669). -/
def execDbgCoreWrite (hi : Bool) (v : W32) (s : State) : Host.Outcome State Fault Refusal :=
  .next (
    let c := selCore s
    if !pagePowered s pgDBG then warnEvent s pgDBG
    else if dbgLevel s < 2 then rcResult s 2
    else if 256 < c ∨ ((core s c).pstate ≠ .halted ∧ ¬ ((core s c).pstate = .lockedUp ∧ keepLockup s = true)) then rcResult s 4
    else itemWrite s c hi v)

/-! ### The debug bus master (R663) -/

/-- Migrations whose copy already holds a block that is now stored to end (R415). -/
def storeAborts (s : State) (addr : Nat) : State :=
  let p := addr / 2 ^ 18
  let hit := s.prck.migs.filter fun m => m.copying && decide (pilOf m.src = p) && match strand s m.idx with
    | some x => x.segs.any fun g =>
        decide (g.bank * 32768 + g.off ≤ addr % 2 ^ 18 ∧ addr % 2 ^ 18 < g.bank * 32768 + g.off + g.len)
    | none => false
  hit.foldl abortMig s

/-- DBG_MEM_CMD begins an access at its level; one while another runs is ignored. -/
def memBegin (s : State) (write : Bool) : State :=
  if !pagePowered s pgDBG then warnEvent s pgDBG
  else if rdF s pgDBG 0x0D0 0 4 = 1 then s
  else if dbgLevel s < (if write then 2 else 1) then wr s pgDBG 0x0D0 4
  else wr { s with dbg := { s.dbg with mem := some write } } pgDBG 0x0D0 1

def execDbgMemRead (s : State) : Host.Outcome State Fault Refusal := .next (memBegin s false)
def execDbgMemWrite (s : State) : Host.Outcome State Fault Refusal := .next (memBegin s true)

/-- A gate table may be written in the present mode (R275). -/
def gateMode (s : State) : Bool := decide (curMode s = .boot ∨ curMode s = .configure ∨ curMode s = .service)

/-- The access ends with a RESULT. -/
def memEnd (s : State) (r : Nat) : State :=
  raiseIrq (wr { s with dbg := { s.dbg with mem := none } } pgDBG 0x0D0 (w32 r)) pgDBG 1

/-- A word read by the debug bus master. -/
def memData (s : State) (w : TWord) : State := memEnd (wr (wr s pgDBG 0x0C4 w.pay) pgDBG 0x0C8 (w32 w.tag)) 2

/-- DBG_MEM_DONE (R663). -/
def execDbgMemDone (o : MemObs) (s : State) : Host.Outcome State Fault Refusal :=
  .next (
    let a := rdF s pgDBG 0x0C0 0 24
    let w := TWord.ofTag (rdF s pgDBG 0x0C8 0 8) (rd s pgDBG 0x0C4)
    match s.dbg.mem with
    | none => s
    | some write =>
      if a < 0x400000 then
        if bankPwr s (a / 2 ^ 18) (a / 2 ^ 15 % 8) ≠ .on then memEnd s 3
        else if write then
          if 0x2F000 ≤ a % 2 ^ 18 ∧ a % 2 ^ 18 < 0x30000 ∧ gateMode s = false then memEnd s 3
          else memEnd (bankSet (storeAborts s a) a w) 2
        else match bankRead s a 3 o.ecc with
          | (some x, s1) => memData s1 x
          | (none, s1) => memEnd s1 5
      else if a < 0x401000 then
        if write then
          if gateMode s then memEnd { s with mem := { s.mem with gate := SMap.set s.mem.gate voidWord (a - 0x400000) w } } 2
          else memEnd s 3
        else if o.ecc = .double then memEnd s 5
        else memData s (SMap.get s.mem.gate voidWord (a - 0x400000))
      else if write then memEnd s 3
      else if 0x410000 ≤ a ∧ a < 0x410008 then memData s (SMap.get s.whrl.track voidWord (a - 0x410000))
      else if 0x500000 ≤ a ∧ a < 0x600000 then
        let p := (a - 0x500000) / 2 ^ 16
        if domSt s (384 + p) ≠ .on then memEnd s 3
        else match codeRead s p (a % 2 ^ 16) 3 o.ecc with
          | (some x, s1) => memData s1 (TWord.nat x)
          | (none, s1) => memEnd s1 5
      else memEnd s 3)

/-! ### Core watchdogs (R674) -/

/-- DBG_WDOG_CFG of a core. -/
def wdogCfg (s : State) (c : Nat) : W32 := SMap.get s.dbg.wdog 0x00012710 (dbgTarget c)
/-- Its PERIOD in the unit of `State.now`. -/
def wdogLen (s : State) (c : Nat) : Nat := bits (wdogCfg s c) 0 16 * 10 * usN

/-- The watchdog of a core counts: enabled, the core running and not idle. -/
def coreWdogRuns (s : State) (c : Nat) : Bool :=
  decide (c ≤ 256) && bit (wdogCfg s c) 16 && match (core s c).pstate with
    | .strand | .system => true
    | .idle => decide (c = spindle)
    | .halted => decide (dbgLevel s < 2)
    | _ => false

/-- DBG_WDOG_KICK: a spindle write of KEY 0x5A starts the spindle's watchdog over (R674). -/
def execDbgWdogKick (who : Who) (v : W32) (s : State) : Host.Outcome State Fault Refusal :=
  .next (
    if !pagePowered s pgDBG ∨ who ≠ .spindle then warnEvent s pgDBG
    else if bits v 0 8 = 0x5A then modCore s spindle (wdogReload s) else s)

/-- CORE_WDOG_PRE: half the period has passed: private source 1 of the core. -/
def execCoreWdogPre (core' : Nat) (s : State) : Host.Outcome State Fault Refusal :=
  .next (
    let k := core s core'
    if coreWdogRuns s core' = true ∧ k.wdogPre = false ∧ k.wdogDue + wdogLen s core' / 2 ≤ s.now then
      privEdge (modCore s core' fun k => { k with wdogPre := true }) (dbgTarget core') 1
    else s)

/-- CORE_WDOG_EXPIRE: WDOG_CORE, and the first such core in DBG_WDOG_STATUS, which the error names for test (R674, R686). -/
def execCoreWdogExpire (core' : Nat) (s : State) : Host.Outcome State Fault Refusal :=
  .next (
    let k := core s core'
    if coreWdogRuns s core' = true ∧ k.wdogDue + wdogLen s core' ≤ s.now then
      let s1 := modCore s core' (wdogReload s)
      let s2 := if rdB s1 pgDBG 0x0DC 31 then s1 else wr s1 pgDBG 0x0DC (w32 (dbgTarget core' + 2 ^ 31))
      raiseErr s2 pgDBG 0 0 [coreUnit (targetCore (rdF s2 pgDBG 0x0DC 0 9))]
    else s)

/-! ### Trace and snags -/

/-- TRACE_CLR: the ring is empty, LOST is 0 and VALID of DBG_WDOG_STATUS is cleared (R683). -/
def execTraceClr (s : State) : Host.Outcome State Fault Refusal :=
  .next (
    if !pagePowered s pgDBG then warnEvent s pgDBG
    else if dbgLevel s < 1 then s
    else wrF { s with dbg := { s.dbg with trace := [], head := 0 } } pgDBG 0x0DC 31 1 0)

/-- SNAG_STOP: the conditions of R678 no longer hold; settings stay. -/
def execSnagStop (s : State) : Host.Outcome State Fault Refusal :=
  .next (
    if s.dbg.snagWas = true ∧ snagAllowed s = false then
      raiseIrq { s with dbg := { s.dbg with snagWas := false } } pgDBG 3
    else s)

/-! ### The fall of the level (R662) -/

/-- What the end of a grant does when it lowers the effective level from `old`. -/
def levelFall (s : State) (old : Nat) : State :=
  if old ≤ dbgLevel s then s
  else
    let cores := s.cores.map (·.1)
    let s1 := (cores.filter fun c => decide ((core s c).pstate = .halted)).foldl resumeCore s
    let s2 := cores.foldl (fun u c => modCore u c fun k => { k with haltReq := .none }) s1
    let s2' := dropDrains s2 s2.dbg.drains
    let s3 := wr { s2' with dbg := { s2'.dbg with
      bp := s2.dbg.bp.foldl (fun m e => SMap.set m 0 e.1 (if e.1 % 2 = 1 then clrBit (clrBit e.2 0) 1 else e.2)) [] } } pgDBG 0x080
      (clrBit (rd s2 pgDBG 0x080) 0)
    let s4 := s3.selv.lockups.foldl resetLockup s3
    let s5 := if dbgLevel s4 ≠ 0 then s4
      else (List.range 8).foldl (fun u i => wrF u pgDBG (0x100 + 8 * i) 12 4 0) (wrF s4 pgDBG 0x0E0 0 1 0)
    roomReturns s5

/-- A grant ends (R648): whatever level it gave falls. -/
def endGrant (s : State) : State :=
  levelFall { s with sec := { s.sec with grant := none } } (dbgLevel s)

end Sys2Proof.Machine
end

