-- ==== Sys2Proof/Machine/Sec.lean ====
section
/-!
DEFINITION. Security: tamper, the commands of SEC, LCY and KEY, challenges, grants and lockouts (20_security.md R635 to
R649, R652 to R660).
-/

namespace Sys2Proof.Machine

/-! ### Commands of SEC (R653, R654) -/

/-- The crypto and secure domain is in service (R579, R583). -/
def secServes (s : State) : Bool := !unitOff s ⟨RUnit.sec.cls, 0, 0⟩

/-- A command of SEC ends with a RESULT other than busy. -/
def secEnd (s : State) (r : Nat) : State := raiseIrq (wr (imgFail s r) pgSEC 0x098 (w32 r)) pgSEC 0

/-- SEC takes a command: its page has power and no command is busy; while the domain is retired or tested it answers 3
(R583). -/
def secCmd (s : State) (body : State → State) : State :=
  if !pagePowered s pgSEC then warnEvent s pgSEC
  else if rdF s pgSEC 0x098 0 4 = 1 then s
  else if !secServes s then raiseIrq (wr s pgSEC 0x098 3) pgSEC 0
  else body s

/-- The address in SEC_IMG_ADDR. -/
def imgAddr (s : State) : Nat := (rd s pgSEC 0x08C).toNat / 64 * 64 + rdF s pgSEC 0x090 0 16 * 2 ^ 32

/-- STC seconds now, in which grants and lockouts count (R648, R649). -/
def nowSec (s : State) : Nat := secOf s.stc.cnt

/-- An image of kind 2 or 3 is copied to the code region and checked there (R640): the RESULT, the address of the copy, the
state. -/
def copyCheck (s : State) (kind : Nat) (modeOk : Bool) : Nat × Nat × State :=
  let a := imgAddr s
  let b := s.dra.base + (rd s pgDRA 0x0BC).toNat * 2 ^ 20
  if !modeOk then (3, b, s)
  else if 2 ^ 24 < imgSize s a ∧ physBad s a 0xC0 = false then (imgCheck s a kind true, b, s)
  else if physBad s a (imgSize s a) || physBad s b (imgSize s a) then (9, b, s)
  else
    let s1 := physSetList s b (physBytes s a (imgSize s a))
    (imgCheck s1 b kind true, b, s1)

/-- A table image verified in its copy. -/
def tablesNow (s : State) (modeOk : Bool) : State :=
  let (r, b, s1) := copyCheck s 2 modeOk
  secEnd (if r = 2 then { s1 with sec := { s1.sec with tbl := some ⟨imgVersion s1 b, imgSvn s1 b, true⟩ } } else s1) r

/-- The images in code memory after one has been loaded: an image whose every word it overwrote is there no longer (R651). -/
def codeImgsWith (l : List CodeImg) (img : Img) (ws : List Nat) : List CodeImg :=
  ⟨img, ws⟩ :: (l.map fun c => { c with words := c.words.filter fun a => decide (a ∉ ws) }).filter fun c => !c.words.isEmpty

/-- A code image checked in its copy: the words that the payload states go through the broadcast region (R418, R640). -/
def codeNow (s : State) (modeOk : Bool) : State :=
  let (r, b, s1) := copyCheck s 3 modeOk
  if r ≠ 2 then secEnd s1 r
  else
    let ws := (Config.codeWords (imgPayload s1 b)).filter fun w => decide (w.1 < 2 ^ 16)
    let s2 := ws.foldl (fun u w => codeBroadcast u w.1 w.2) s1
    let img : Img := ⟨imgVersion s1 b, imgSvn s1 b, true⟩
    secEnd { s2 with sec := { s2.sec with code := some img, codeImgs := codeImgsWith s2.sec.codeImgs img (ws.map (·.1)) } } 2

/-- An image of kind 2 or 3 in its turn. -/
def imageNow (s : State) (kind : Nat) (modeOk : Bool) : State := if kind = 2 then tablesNow s modeOk else codeNow s modeOk

/-- The command copies through HIF and DRA: while the host's clock stands it is busy (R20, R640). -/
def imageCmd (s : State) (kind : Nat) (modeOk : Bool) : State :=
  if !modeOk then secEnd s 3
  else hifDma (if s.hif.hostClock then s else wr s pgSEC 0x098 1) (.image kind true) fun u => imageNow u kind true

/-- VERIFY_TABLES (R640). -/
def execVerifyTables (s : State) : Host.Outcome State Fault Refusal :=
  .next (secCmd s fun s => imageCmd s 2 (decide (curMode s = .configure)))

/-- LOAD_CODE (R640). -/
def execLoadCode (s : State) : Host.Outcome State Fault Refusal :=
  .next (secCmd s fun s => imageCmd s 3 (curMode s).cfgSvc)

/-- The SVN of an image in use. -/
def imgSvnOf : Option Img → Nat
  | some i => i.svn | none => 0
/-- The SVN of a loaded patch. -/
def patchSvn : Option Patch → Nat
  | some p => p.svn | none => 0

/-- SVN_COMMIT: each counter rises to the SVN of the image of its kind in use; none falls (R641). -/
def execSvnCommit (s : State) : Host.Outcome State Fault Refusal :=
  .next (secCmd s fun s =>
    if !(curMode s).cfgSvc then raiseIrq (wr s pgSEC 0x098 3) pgSEC 0
    else secEnd { s with fuses := { s.fuses with
      svnFw := max s.fuses.svnFw (imgSvnOf s.sec.fw)
      svnTbl := max s.fuses.svnTbl (imgSvnOf s.sec.tbl)
      svnCode := max s.fuses.svnCode (imgSvnOf s.sec.code)
      svnUcs := max s.fuses.svnUcs (max (patchSvn s.ucs.pil) (patchSvn s.ucs.spn)) } } 2)

/-- A RESULT that the spec does not give: any but busy (log entry 42). -/
def freeResult (s : State) : Nat × State :=
  let (v, s1) := free32 s
  (if bits v 0 4 = 1 then 0 else bits v 0 4, s1)

/-- CHALLENGE: 32 bytes of the random generator; a generator that fails its health test sets TRNG_FAIL (R648, R659). -/
def execChallenge (trngOk : Bool) (s : State) : Host.Outcome State Fault Refusal :=
  .next (secCmd s fun s =>
    if !trngOk then
      let (r, s1) := freeResult (raiseErr { s with sec := { s.sec with challenge := none } } pgSEC 3)
      raiseIrq (wr s1 pgSEC 0x098 (w32 r)) pgSEC 0
    else
      let bytes := (Config.random s.freeCtr ++ List.replicate 32 0).take 32
      secEnd { s with
        freeCtr := s.freeCtr + 1
        sec := { s.sec with challenge := some bytes, chalAt := s.now } } 2)

/-- CHALLENGE_LAPSE: 60 s after its issue (R648). -/
def execChallengeLapse (s : State) : Host.Outcome State Fault Refusal :=
  .next (if s.sec.challenge.isSome ∧ s.sec.chalAt + 60000 * msN ≤ s.now then
      { s with sec := { s.sec with challenge := none } } else s)

/-- A token that fails: the third in a row locks DBG_RESP for 600 s, each further one for twice as long, up to 24 h
(R649). -/
def tokenFails (s : State) : State :=
  let n := s.sec.fails + 1
  if n < 3 then { s with sec := { s.sec with fails := n } }
  else
    let d := if s.sec.lockDur = 0 then 600 else min 86400 (2 * s.sec.lockDur)
    { s with sec := { s.sec with fails := n, lockDur := d, lockUntil := some (nowSec s + d) } }

/-- DBG_RESP: the token is checked and grants its level for DURATION (R648, R649). The challenge serves one token, whatever
its check gives (DEDUCED, log entry 43). -/
def execDbgResp (s : State) : Host.Outcome State Fault Refusal :=
  .next (secCmd s fun s =>
    if s.sec.lockUntil.isSome then secEnd s 13
    else
      let a := imgAddr s
      let r := imgCheck s a 4 (decide (curMode s ≠ .keep))
      if r = 9 then secEnd s 9
      else
        let s1 := { s with sec := { s.sec with challenge := none } }
        if r ≠ 2 then secEnd (tokenFails s1) r
        else
          let p := imgPayload s a
          let g : Grant := ⟨(p.getD 32 0).toNat, decide ((p.getD 33 0).toNat = 1), nowSec s + leNat ((p.drop 36).take 4)⟩
          secEnd (levelFall { s1 with sec := { s1.sec with grant := some g, fails := 0, lockDur := 0 } } (dbgLevel s)) 2)

/-- DBG_REVOKE. -/
def execDbgRevoke (s : State) : Host.Outcome State Fault Refusal := .next (secCmd s fun s => secEnd (endGrant s) 2)

/-- DBG_GRANT_EXPIRE: DURATION has passed (R648, R662). -/
def execDbgGrantExpire (s : State) : Host.Outcome State Fault Refusal :=
  .next (match s.sec.grant with
    | some g => if g.untilSec ≤ nowSec s then endGrant s else s
    | none => s)

/-- DBG_LOCKOUT_END (R649). -/
def execDbgLockoutEnd (s : State) : Host.Outcome State Fault Refusal :=
  .next (match s.sec.lockUntil with
    | some t => if t ≤ nowSec s then { s with sec := { s.sec with lockUntil := none } } else s
    | none => s)

/-- PROVISION: the owner root and the KTK are fused, once (R642). A KTK that does not unwrap is refused as a key (DEDUCED,
log entry 44). -/
def execProvision (s : State) : Host.Outcome State Fault Refusal :=
  .next (secCmd s fun s =>
    let a := imgAddr s
    let r := imgCheck s a 6 (decide (curMode s = .service))
    if r ≠ 2 then secEnd s r
    else match Config.unwrapKtk (((imgPayload s a).drop 48).take 137) with
      | none => secEnd s 5
      | some k => secEnd { s with fuses := { s.fuses with ownerRoot := some ((imgPayload s a).take 48), ktk := some k } } 2)

/-- GET_ID: the signed identity record of 512 bytes (R642). -/
def execGetId (s : State) : Host.Outcome State Fault Refusal :=
  .next (secCmd s fun s =>
    if physBad s (imgAddr s) 512 then secEnd s 9
    else secEnd (physSetList s (imgAddr s) ((Config.identity ++ List.replicate 512 0).take 512)) 2)

/-! ### Life cycle (R635, R636) -/

/-- LCY_CMD APPLY: the token is verified; at the first fuse write the scratchpad is wiped and the grant ends; the new row is
committed, or a loss of power tears it, or it does not read back (R636, R659). -/
def execApply (fuseOk wipeOk torn : Bool) (s : State) : Host.Outcome State Fault Refusal :=
  .next (
    if !pagePowered s pgLCY then warnEvent s pgLCY
    else if rdF s pgLCY 0x088 0 4 = 1 then s
    else if !secServes s then wr s pgLCY 0x088 3
    else
      let a := imgAddr s
      let r := imgCheck s a 5 (decide (curMode s = .service))
      if r ≠ 2 then wr (imgFail { s with sec := { s.sec with challenge := if r = 3 ∨ r = 9 then s.sec.challenge else none } } r)
        pgLCY 0x088 (w32 r)
      else
        let s1 := endGrant (wipe { s with sec := { s.sec with challenge := none } } wipeOk)
        match LcyState.ofCode? ((imgPayload s a).getD 32 0).toNat with
        | none => s1
        | some t =>
          if torn then wr { s1 with fuses := { s1.fuses with torn := true } } pgLCY 0x088 1
          else if !fuseOk then
            let (q, s2) := freeResult (raiseErr s1 pgLCY 0)
            wr s2 pgLCY 0x088 (w32 q)
          else
            let back := decide (s1.fuses.fused = .develop ∧ t = .manufacture)
            raiseIrq (wr { s1 with fuses := { s1.fuses with
              fused := t
              devTrips := if back then s1.fuses.devTrips + 1 else s1.fuses.devTrips
              killed := s1.fuses.killed || decide (t = .returned ∨ t = .scrapped) } } pgLCY 0x088 2) pgLCY 0)

/-! ### Keys (R644 to R646) -/

/-- The algorithm and tag length form a combination of R448. -/
def algOk (alg tagLen : Nat) : Bool :=
  if alg = 1 then decide (tagLen = 1 ∨ tagLen = 2 ∨ tagLen = 3)
  else if alg = 2 ∨ alg = 3 then decide (tagLen = 0 ∨ tagLen = 2) else false

/-- An entry of a key block: its INDEX and fields. -/
def keyEntry (b : List Byte) : Nat × KeyEnt :=
  let f := fun o n => leNat ((b.drop o).take n)
  (f 0 2, ⟨f 2 1, f 3 1, w32 (f 4 4), f 8 8, f 16 8, (b.drop 24).take 32⟩)

/-- The entries of a decrypted block. -/
def keyEntries (n : Nat) (b : List Byte) : List (Nat × KeyEnt) := (List.range n).map fun i => keyEntry ((b.drop (64 * i)).take 64)

/-- Entry i of a block is refused (R645): an illegal field, an INDEX that appears twice, or KID and ALG of another valid
entry. -/
def keyRefused (s : State) (es : List (Nat × KeyEnt)) (i : Nat) : Bool :=
  match es[i]? with
  | none => false
  | some e =>
    let rest := es.eraseIdx i
    decide (1024 ≤ e.1) || !algOk e.2.alg e.2.tagLen || rest.any (fun x => decide (x.1 = e.1)) ||
      rest.any (fun x => decide (x.2.kid = e.2.kid ∧ x.2.alg = e.2.alg)) ||
      s.sec.keys.any fun x => match x.2 with
        | some y => decide (x.1 ∉ es.map (·.1) ∧ y.kid = e.2.kid ∧ y.alg = e.2.alg)
        | none => false

/-- A load ends (R658, R659). -/
def keyEnd (s : State) (r index : Nat) : State :=
  let s1 := raiseIrq (wr s pgKEY 0x090 (w32 (r + index * 2 ^ 16))) pgKEY 0
  if r = 2 then s1 else raiseErr s1 pgKEY 0

/-- An enabled tamper input is asserted. -/
def tampered (s : State) : Bool := s.sec.tamper.any fun n => rdB s pgSEC 0x080 n

/-- KEY_LOAD: the whole block is checked, and applied whole or not at all (R645). INDEX shows the refused entry's place in
the block (DEDUCED, log entry 45). -/
def execKeyLoad (s : State) : Host.Outcome State Fault Refusal :=
  .next (
    let a := (rd s pgKEY 0x084).toNat / 64 * 64 + rdF s pgKEY 0x088 0 16 * 2 ^ 32
    let n := leNat (physBytes s (a + 6) 2)
    if !pagePowered s pgKEY then warnEvent s pgKEY
    else if rdF s pgKEY 0x090 0 4 = 1 then s
    else if !secServes s ∨ tampered s = true then keyEnd s 3 0
    else match (if s.fuses.killed then none else s.fuses.ktk) with
      | none => keyEnd s 8 0
      | some k =>
        if physBad s a 24 then keyEnd s 7 0
        else if leNat (physBytes s a 4) ≠ 0x4B424C4B ∨ leNat (physBytes s (a + 4) 2) ≠ 1 ∨ n = 0 ∨ 1024 < n then keyEnd s 4 0
        else if physBad s a (40 + 64 * n) then keyEnd s 7 0
        else match Config.gcmOpen k (physBytes s (a + 8) 12) (physBytes s a 24) (physBytes s (a + 24) (64 * n))
            (physBytes s (a + 24 + 64 * n) 16) with
          | none => keyEnd s 5 0
          | some b =>
            let es := keyEntries n b
            match (List.range n).find? (keyRefused s es) with
            | some i => keyEnd s 6 i
            | none => keyEnd { s with sec := { s.sec with
                keys := es.foldl (fun m e => SMap.set m none e.1 (some e.2)) s.sec.keys } } 2 0)

/-- KEY_ERASE: the entry of KEY_SEL (R646); a domain out of service refuses every command (R583). -/
def execKeyErase (s : State) : Host.Outcome State Fault Refusal :=
  .next (
    if !pagePowered s pgKEY then warnEvent s pgKEY
    else if !secServes s then wr s pgKEY 0x090 3
    else { s with sec := { s.sec with keys := SMap.set s.sec.keys none (rdF s pgKEY 0x094 0 10) none } })

/-- KEY_ERASE_ALL. -/
def execKeyEraseAll (s : State) : Host.Outcome State Fault Refusal :=
  .next (
    if !pagePowered s pgKEY then warnEvent s pgKEY
    else if !secServes s then wr s pgKEY 0x090 3
    else { s with sec := { s.sec with keys := [] } })

/-! ### Tamper (R647) -/

/-- TAMPER_ASSERT: an input asserts; `stays` tells whether it is still asserted after the command. An enabled one wipes the
scratchpad, ends any grant and sets TAMPERn; an ignored one changes its level only. -/
def execTamperAssert (n : Nat) (stays wipeOk : Bool) (s : State) : Host.Outcome State Fault Refusal :=
  .next (
    if 2 ≤ n ∨ curMode s = .off then s
    else
      let rest := s.sec.tamper.filter (· ≠ n)
      let s1 := { s with sec := { s.sec with tamper := if stays then n :: rest else rest } }
      if !rdB s pgSEC 0x080 n then s1
      else
        let s2 := raiseErr (endGrant (wipe s1 wipeOk)) pgSEC n
        if stays then wr s2 pgSEC 0x014 (setBit (rd s2 pgSEC 0x014) n) else condEnd s2 pgSEC n)

end Sys2Proof.Machine
end

