-- ==== Sys2Proof/Machine/Hif.lean ====
section
/-!
DEFINITION. The host interface, the record store and the DRAM agent (17_host_dram.md R536 to R571, 01_engine_organisation.md
R20).
-/

namespace Sys2Proof.Machine

/-! ### Rings and signals (R536 to R543) -/

/-- A completion ring. -/
def cplRing (s : State) (n : Nat) : Ring := SMap.get s.hif.cpl Ring.reset n

/-- A completion ring changed. -/
def setCpl (s : State) (n : Nat) (r : Ring) : State :=
  { s with hif := { s.hif with cpl := SMap.set s.hif.cpl Ring.reset n r } }

/-- A command ring. -/
def cmdRing (s : State) (n : Nat) : Ring := SMap.get s.hif.cmd Ring.reset n

/-- A command ring changed. -/
def setCmd (s : State) (n : Nat) (r : Ring) : State :=
  { s with hif := { s.hif with cmd := SMap.set s.hif.cmd Ring.reset n r } }

/-- Entries of a ring: 2^SIZE (R536). -/
def Ring.size (r : Ring) : Nat := 2 ^ bits r.cfg 0 4

/-- EN of a ring (R561). -/
def Ring.en (r : Ring) : Bool := bit r.cfg 4

/-- The ring is full (R536). -/
def Ring.full (r : Ring) : Bool := decide ((r.head + 1) % r.size = r.tail % r.size)

/-- Byte address of an entry of `n` bytes. -/
def Ring.entry (r : Ring) (n i : Nat) : Nat := r.baseLo.toNat + bits r.baseHi 0 16 * 2 ^ 32 + n * i

/-- The address that MSI writes go to. -/
def msiAddr (s : State) : Nat := (rd s pgHIF 0x0A0).toNat + rdF s pgHIF 0x0A4 0 16 * 2 ^ 32

/-- MSI writes held leave, in order, when the host is awake and its interconnect runs (R20, R543). -/
def msiFlush (s : State) : State :=
  if s.hif.hostSleep || !s.hif.hostClock then s
  else { s with hif := { s.hif with msiSent := s.hif.msiHeld.reverse ++ s.hif.msiSent, msiHeld := [] } }

/-- HIF_SIGNAL: the count is cleared, the timer stops, the ring's bit is set; an MSI is written or held; a sleeping host is
woken (R541 to R543). -/
def hifSignal (s : State) (n : Nat) : State :=
  let r := cplRing s n
  let s1 := setCpl s n { r with count := 0, timer := none }
  let off := if n < 32 then 0x0AC else 0x0B0
  let s2 := wr s1 pgHIF off (setBit (rd s1 pgHIF off) (n % 32))
  let s3 := if bit r.cfg 5 then
      msiFlush { s2 with hif := { s2.hif with msiHeld := s2.hif.msiHeld ++ [(msiAddr s2, rd s2 pgHIF 0x0A8)] } }
    else s2
  if s3.hif.hostSleep then { s3 with hif := { s3.hif with hostWake := true } } else s3

/-- A completion is lost and counted (R540, R544). -/
def cqLost (s : State) : State := raiseIrq (bump s pgHIF 0x0BC 1) pgHIF 1

/-- A completion becomes visible: an urgent one signals at once, another by count or timer (R541). -/
def hifCount (s : State) (n : Nat) (urgent : Bool) : State :=
  let r := cplRing s n
  if urgent ∨ bits r.cfg 10 10 = 0 ∨ max 1 (bits r.cfg 20 6) ≤ r.count + 1 then hifSignal s n
  else setCpl s n { r with count := r.count + 1, timer := some (r.timer.getD (s.now + bits r.cfg 10 10 * usN)) }

/-- The entry is written, HEAD advances and the ring counts or signals; an access that meets a bus error loses the entry
(R538, R539, R541, R544). -/
def hifPut (s : State) (p : Post) (busErr : Bool) : Bool × State :=
  let r := cplRing s p.ring
  let a := r.entry 32 r.head
  if busErr || physBad s a 32 then (false, cqLost (raiseErr s pgHIF 0))
  else
    let w0 := w32 ((p.words.getD 0 0).toNat % 2 ^ 24 + at' p.urgent 30 + at' r.phase 31)
    let s1 := physSetList s a (wordBytes (w0 :: (List.range 7).map fun i => p.words.getD (i + 1) 0))
    let nh := (r.head + 1) % r.size
    (true, hifCount (setCpl s1 p.ring { r with head := nh, phase := if nh = 0 then !r.phase else r.phase }) p.ring p.urgent)

/-- HIF_HARDWARE_POST: posted, held while its ring is full or the host's clock stands, or lost (R20, R540). -/
def hwPost (s : State) (p : Post) : State :=
  let r := cplRing s p.ring
  if !r.en then cqLost s
  else if r.full || !s.hif.hostClock || (s.hif.held.any fun q => decide (q.ring = p.ring)) then
    if s.hif.held.length < 64 then { s with hif := { s.hif with held := s.hif.held ++ [p] } } else cqLost s
  else (hifPut s p false).2

/-- Held hardware posts leave, oldest first, where there is room (R540, R544). -/
def drainHeld (s : State) : State := s.hif.held.foldl hwPost { s with hif := { s.hif with held := [] } }

/-- The hardware post that an urgent record brings (R538, R540). -/
def urgentPost (s : State) (kind : Nat) (ws : List W32) : State :=
  let c := rd s pgHIF 0x080
  if !bit c 0 || !([1, 4, 5, 10].contains kind) then s
  else hwPost s ⟨bits c 2 6, [w32 (kind * 2 ^ 16), ws.getD 0 0, ws.getD 1 0, ws.getD 2 0, ws.getD 6 0, 0, 0, 0], true, false⟩

/-! ### Commands of HIF -/

/-- HIF_CMD_DOORBELL: the host writes a command ring's HEAD, whether or not the value changes (R537). -/
def execHifCmdDoorbell (n : Nat) (head : W32) (s : State) : Host.Outcome State Fault Refusal :=
  .next (
    if curMode s = .off then s
    else
      let s1 := setCmd s (n % 64) { cmdRing s (n % 64) with head := bits head 0 12 }
      if pagePowered s1 pgEIC then eicEdge s1 (512 + n % 64) else s1)

/-- A firmware post ends (R540, R563). -/
def postEnd (s : State) (r : Nat) : State := raiseIrq (wr s pgHIF 0x0B8 (w32 r)) pgHIF 0

/-- A RESULT that the spec does not give: any but busy (log entry 42). -/
def freePost (s : State) : State :=
  let (v, s1) := free32 s
  postEnd s1 (if bits v 0 3 = 1 then 0 else bits v 0 3)

/-- A firmware post runs: refused for a disabled or full ring, else written; the spec gives no RESULT for one whose access
meets a bus error (R540, R544). -/
def fwPost (s : State) (p : Post) (busErr : Bool) : State :=
  let s0 := drainHeld s
  let r := cplRing s0 p.ring
  if !r.en then postEnd s0 4
  else if r.full then postEnd s0 3
  else if !s0.hif.hostClock then wr { s0 with hif := { s0.hif with stalled := some p } } pgHIF 0x0B8 1
  else match hifPut s0 p busErr with
    | (true, s1) => postEnd s1 2
    | (false, s1) => freePost s1

/-- HIF_POST: a write of HIF_POST_CMD with GO posts HIF_POST0 to HIF_POST7; while a post is busy another is not taken
(R540, R561). -/
def execHifPost (v : W32) (busErr : Bool) (s : State) : Host.Outcome State Fault Refusal :=
  .next (
    if curMode s = .off ∨ bit v 31 = false ∨ s.hif.stalled.isSome then s
    else
      fwPost s ⟨bits v 0 6, (List.range 8).map fun i => rd s pgHIF (0x0C0 + 4 * i), bit v 6, true⟩ busErr)

/-- HIF_MOD_TIMER: the ring's timer has expired (R541). -/
def execHifModTimer (n : Nat) (s : State) : Host.Outcome State Fault Refusal :=
  .next (match (cplRing s n).timer with
    | some t => if t ≤ s.now ∧ n < 64 then hifSignal s n else s
    | none => s)

/-- HOST_SLEEP_FALL: held MSI writes are sent, HOST_WAKE is released (R543). -/
def execHostSleepFall (s : State) : Host.Outcome State Fault Refusal :=
  .next (msiFlush { s with hif := { s.hif with hostSleep := false, hostWake := false } })

/-- HOST_SLEEP_ASSERT: from now on signals assert HOST_WAKE and MSI writes are held; a sleeping host may stop its
interconnect's clock (R20, R543). -/
def execHostSleepAssert (clockStops : Bool) (s : State) : Host.Outcome State Fault Refusal :=
  .next { s with hif := { s.hif with hostSleep := true, hostClock := s.hif.hostClock && !clockStops } }

/-- HIF_CNT_CLR (R561). -/
def execHifCntClr (s : State) : Host.Outcome State Fault Refusal :=
  .next (if curMode s = .off then s else wr s pgHIF 0x0BC 0)

/-- KIND of HIF_RING_SEL names a completion ring. -/
def selCpl (s : State) : Bool := rdB s pgHIF 0x088 8

/-- The ring that HIF_RING_SEL names (R560). -/
def selRing (s : State) : Ring :=
  if selCpl s then cplRing s (rdF s pgHIF 0x088 0 6) else cmdRing s (rdF s pgHIF 0x088 0 6)

/-- The selected ring changed. -/
def setSelRing (s : State) (r : Ring) : State :=
  if selCpl s then setCpl s (rdF s pgHIF 0x088 0 6) r else setCmd s (rdF s pgHIF 0x088 0 6) r

/-- HIF_RING_CFG_WRITE: EN rising resets HEAD, TAIL and PHASE; while EN is 1 a write that would change SIZE, MSI or LINE is
ignored (R561, R562). -/
def execHifRingCfgWrite (v : W32) (s : State) : Host.Outcome State Fault Refusal :=
  .next (
    let r := selRing s
    let x := w32 (v.toNat % 2 ^ 26)
    let same := bits x 0 4 = bits r.cfg 0 4 ∧ bits x 5 5 = bits r.cfg 5 5
    if curMode s = .off then s
    else if bits x 0 4 < 4 ∨ 12 < bits x 0 4 ∨ (r.en = true ∧ ¬ same) then warnEvent s pgHIF
    else if bit x 4 && !r.en then setSelRing s { r with cfg := x, head := 0, tail := 0, phase := true }
    else
      let s1 := setSelRing s { r with cfg := x }
      if r.en && !bit x 4 then drainHeld s1 else s1)

/-! ### The record store (R545 to R551) -/

/-- Slots of the ring (R545). -/
abbrev nvrSlots : Nat := 524288

/-- Words 0 to 6 of a record with its SEQ (R546). -/
def soeWords (r : Soe) (seq : W32) : List W32 :=
  [w32 (r.kind % 256 + r.source % 256 * 2 ^ 8 + r.number % 2 ^ 16 * 2 ^ 16), w32 r.sec,
   w32 (r.ns % 2 ^ 30 + r.tval % 4 * 2 ^ 30), w32 (r.sec / 2 ^ 32 % 2 ^ 16 + r.tag % 256 * 2 ^ 16), r.value, r.word5, seq]

/-- The CRC of a record, over words 0 to 6 (R546). -/
def soeCrc (ws : List W32) : W32 := crc32c (wordBytes (ws.take 7))

/-- The record of a slot; a slot never written holds zeros (log entry 3). -/
def nvrSlot (s : State) (i : Nat) : List W32 := SMap.get s.nvr.ring (List.replicate 8 0) i

/-- A slot written. -/
def setSlot (s : State) (i : Nat) (ws : List W32) : State :=
  { s with nvr := { s.nvr with ring := SMap.set s.nvr.ring (List.replicate 8 0) i ws } }

/-- n free words. -/
def freeWords : Nat → State → List W32 × State
  | 0, s => ([], s)
  | n + 1, s =>
    let (v, s1) := free32 s
    let (vs, s2) := freeWords n s1
    (v :: vs, s2)

/-- SPILL_EN: the record is also written to the SOE spill region, by its SEQ; it is dropped and counted while the channel is
FAILED (R550, R557; of the disturbance region's records see log entry 187). -/
def spill (s : State) (seq : W32) (ws : List W32) : State :=
  if !rdB s pgNVR 0x080 0 then s
  else match s.dra.st with
    | .ready => draWrite s ((rd s pgDRA 0x0B0).toNat * 2 ^ 20 + 32 * (seq.toNat % 2 ^ 21)) (wordBytes ws)
    | .failed => bumpWrap s pgDRA 0x0D8 2
    | _ => s

/-- A checkpoint after every 4,096 records, through the 256 slots in turn (R549). -/
def nvrCheck (s : State) : State :=
  if s.nvr.sinceCheck < 4096 then s
  else { s with nvr := { s.nvr with
    checkpoints := SMap.set s.nvr.checkpoints [] s.nvr.nextCheck [s.nvr.head, s.nvr.seq.toNat]
    nextCheck := (s.nvr.nextCheck + 1) % 256, sinceCheck := 0 } }

/-- NVR_RECORD_COMMIT: the record at the head of the queue takes SEQ and CRC and the next slot; it is checkpointed, spilled
and, where it is urgent, posted. While NVR is offline for a test, or retired, the queue waits (R579; DESIGN CHOICE, log entry 186). What a slot holds whose record does not read back equal is free (R540, R545 to R550). -/
def execNvrRecordCommit (verifyOk : Bool) (s : State) : Host.Outcome State Fault Refusal :=
  .next (match s.nvr.queue with
    | [] => s
    | r :: rest =>
      if curMode s = .off ∨ s.nvr.ready = false ∨ unitOff s ⟨RUnit.nvr.cls, 0, 0⟩ then s
      else
        let seq := s.nvr.seq
        let ws := soeWords r seq ++ [soeCrc (soeWords r seq)]
        let (put, s1) := if verifyOk then (ws, s) else
          let (fs, u) := freeWords 8 s
          (fs, raiseErr u pgNVR 0)
        let nh := (s.nvr.head + 1) % nvrSlots
        let s2 := setSlot s1 s.nvr.head put
        let s3 := nvrCheck { s2 with nvr := { s2.nvr with
          queue := rest, head := nh, seq := seq + 1, wraps := if nh = 0 then s.nvr.wraps + 1 else s.nvr.wraps
          sinceCheck := s.nvr.sinceCheck + 1 } }
        urgentPost (spill (raiseIrq s3 pgNVR 0) seq ws) r.kind ws)

/-- Checkpoint a is newer than b, by SEQ. -/
def newer (a b : List Nat) : Bool := decide ((a.getD 1 0 + 2 ^ 32 - b.getD 1 0) % 2 ^ 32 < 2 ^ 31)

/-- The slot and content of the newest checkpoint (R549). -/
def newestCheck : SMap (List Nat) → Option (Nat × List Nat)
  | [] => none
  | e :: t => match newestCheck t with
    | none => some e
    | some f => if newer e.2 f.2 then some e else some f

/-- The scan forward from slot `h`, where `seq` is the next SEQ: it stops at a record whose CRC fails or whose SEQ does not
follow. SEQ follows where it is the next one or jumps by the records that a loss of power took from a queue of 1,024 (DEDUCED
from R548, log entry 46). The result: slot, SEQ, records passed, a gap or a torn record found. -/
def nvrScan (s : State) : Nat → Nat → Nat → Nat → Bool → Nat × Nat × Nat × Bool
  | 0, h, seq, n, gap => (h, seq, n, gap)
  | fuel + 1, h, seq, n, gap =>
    let ws := nvrSlot s h
    let jump := ((ws.getD 6 0).toNat + 2 ^ 32 - seq) % 2 ^ 32
    if ws = List.replicate 8 0 then (h, seq, n, gap)
    else if ws.getD 7 0 ≠ soeCrc ws then (h, seq, n, true)
    else if 1024 < jump then (h, seq, n, gap)
    else nvrScan s fuel ((h + 1) % nvrSlots) ((seq + jump + 1) % 2 ^ 32) (n + 1) (gap || decide (jump ≠ 0))

/-- NVR_SCAN_DONE: the start-up scan is done and the store is READY; the jump of SEQ shows how many records the loss of power
took (R548, R549, R567). -/
def execNvrScanDone (s : State) : Host.Outcome State Fault Refusal :=
  .next (
    if curMode s = .off ∨ s.nvr.ready = true then s
    else
      let c := newestCheck s.nvr.checkpoints
      let (h0, q0, k) := match c with
        | some (i, v) => (v.getD 0 0 % nvrSlots, v.getD 1 0, (i + 1) % 256)
        | none => (0, 0, 0)
      let (h, q, n, gap) := nvrScan s nvrSlots h0 q0 0 false
      let s1 := { s with nvr := { s.nvr with
        ready := true, head := h, seq := w32 (q + s.nvr.carry), carry := 0, nextCheck := k, sinceCheck := n } }
      if gap then raiseErr s1 pgNVR 1 else s1)

/-- NVR_POST: a record of kind 12 from NVR_POST0 to NVR_POST5; a full queue refuses it (R548). -/
def execNvrPost (who : Who) (s : State) : Host.Outcome State Fault Refusal :=
  .next (
    let p := fun i => rd s pgNVR (0x0C0 + 4 * i)
    if curMode s = .off then s
    else if 1024 ≤ s.nvr.queue.length then { s with nvr := { s.nvr with postFull := true } }
    else
      let r : Soe := ⟨12, if who = .spindle then 0x12 else 0xFE, bits (p 0) 16 16, (p 1).toNat + bits (p 3) 0 16 * 2 ^ 32,
        bits (p 2) 0 30, bits (p 2) 30 2, bits (p 3) 16 8, p 4, p 5⟩
      { s with nvr := { s.nvr with queue := s.nvr.queue ++ [r], postFull := false } })

/-- NVR_DI_WRITE: NVR_DI_DATA0 to NVR_DI_DATA7 go to the selected entry (R551). -/
def execNvrDiWrite (s : State) : Host.Outcome State Fault Refusal :=
  .next (
    if curMode s = .off then s
    else
      let ws := (List.range 8).map fun i => rd s pgNVR (0x0E4 + 4 * i)
      { s with nvr := { s.nvr with di := SMap.set s.nvr.di (List.replicate 8 0) (rdF s pgNVR 0x0E0 0 12) ws } })

/-- NVR_CNT_CLR (R565). -/
def execNvrCntClr (s : State) : Host.Outcome State Fault Refusal :=
  .next (if curMode s = .off then s else { s with nvr := { s.nvr with lost := 0 } })

/-- NVR_RD_IDX_WRITE: a copy of the slot starts, or starts again at the new slot (R550). -/
def execNvrRdIdxWrite (v : W32) (s : State) : Host.Outcome State Fault Refusal :=
  .next (
    if curMode s = .off then s
    else wr { s with nvr := { s.nvr with rdBusy := true } } pgNVR 0x090 (w32 (bits v 0 19)))

/-- NVR_READ_COPY_DONE: NVR_RD_DATA shows the slot (R550). -/
def execNvrReadCopyDone (s : State) : Host.Outcome State Fault Refusal :=
  .next (
    if curMode s = .off ∨ s.nvr.rdBusy = false then s
    else { s with nvr := { s.nvr with rdBusy := false, rdData := nvrSlot s (rdF s pgNVR 0x090 0 19) } })

/-- NVR_DI_SEL_WRITE: the entry's words are loaded into NVR_DI_DATA0 to NVR_DI_DATA7 (R565). -/
def execNvrDiSelWrite (v : W32) (s : State) : Host.Outcome State Fault Refusal :=
  .next (
    if curMode s = .off then s
    else
      let ws := SMap.get s.nvr.di (List.replicate 8 0) (bits v 0 12)
      (List.range 8).foldl (fun u i => wr u pgNVR (0x0E4 + 4 * i) (ws.getD i 0))
        (wr s pgNVR 0x0E0 (w32 (bits v 0 12))))

/-! ### The DRAM channel (R554 to R559) -/

/-- DRA has power and is in use (R569). -/
def draOn (s : State) : Bool := pagePowered s pgDRA && rdB s pgDRA 0x080 0

/-- DRA_TRN_GO: a write of DRA_TRN_CTL with GO runs one pattern (R556, R570). -/
def execDraTrnGo (v : W32) (s : State) : Host.Outcome State Fault Refusal :=
  .next (
    if !pagePowered s pgDRA || !lockOpen s .bootSvc then warnEvent s pgDRA
    else
      let s1 := wr s pgDRA 0x0C0 (v &&& 0x1033F)
      if bit v 16 ∧ s.dra.st = .training then wr { s1 with dra := { s1.dra with training := true } } pgDRA 0x0C8 0 else s1)

/-- DRA_TRN_PATTERN_DONE: DONE, PASS and ERRORS are reported (R569, R571). -/
def execDraTrnPatternDone (pass : Bool) (errors : Nat) (s : State) : Host.Outcome State Fault Refusal :=
  .next (
    if !draOn s || !s.dra.training then s
    else
      let s1 := { s with dra := { s.dra with training := false } }
      raiseIrq (wr s1 pgDRA 0x0C8 (w32 (1 + at' pass 1 + min 255 errors * 2 ^ 8))) pgDRA 0)

/-- XOR of the members of a list that a mask picks. -/
def xorPick (ms : List Nat) (pick : Nat) : Nat :=
  (List.range ms.length).foldl (fun a i => if pick.testBit i then Nat.xor a (ms.getD i 0) else a) 0

/-- The five masks are linearly independent: no choice of them sums to zero (R554). -/
def masksOk (s : State) : Bool :=
  (List.range 31).all fun k => decide (xorPick ((List.range 5).map fun i => rdF s pgDRA (0x08C + 4 * i) 0 31) (k + 1) ≠ 0)

/-- TRAIN_DONE: the channel is READY; dependent masks are refused (R554, R556). -/
def execTrainDone (s : State) : Host.Outcome State Fault Refusal :=
  .next (
    if !pagePowered s pgDRA then warnEvent s pgDRA
    else if s.dra.st ≠ .training then s
    else if !masksOk s then warnEvent s pgDRA
    else { s with dra := { s.dra with st := .ready, training := false, sr := false } })

/-- The channel is FAILED: non-resident strands are suspended in the order B, M, C, and the engine enters DEGRADED (R557,
R584). -/
def channelFailed (s : State) : State :=
  let s1 := condErr { s with dra := { s.dra with st := .failed, training := false, sr := false, migrating := false } } pgDRA 4
  let away := (suspendOrder s1).filter fun i => match strand s1 i with
    | some x => x.plies.any fun p => p.slot.isNone
    | none => false
  degradedCheck (away.foldl capSuspend s1)

/-- TRAIN_FAIL (R556, R557). -/
def execTrainFail (s : State) : Host.Outcome State Fault Refusal :=
  .next (
    if !pagePowered s pgDRA then warnEvent s pgDRA
    else if s.dra.st ≠ .training then s
    else channelFailed s)

/-- RETRAIN: back to training, in SERVICE only (R556, R569). -/
def execRetrain (s : State) : Host.Outcome State Fault Refusal :=
  .next (
    if !pagePowered s pgDRA then warnEvent s pgDRA
    else if curMode s ≠ .service ∨ s.dra.st = .off then s
    else condEnd { s with dra := { s.dra with st := .training, training := false, sr := false } } pgDRA 4)

/-- DRA_CNT_CLR: the counts and DRA_UE_ADDR (R569). -/
def execDraCntClr (s : State) : Host.Outcome State Fault Refusal :=
  .next (
    if !pagePowered s pgDRA then warnEvent s pgDRA
    else wr (wr (wr s pgDRA 0x0CC 0) pgDRA 0x0D0 0) pgDRA 0x0D8 0)

/-- Active rank of a channel address (R552). -/
def rankOf (s : State) (a : Nat) : Nat := a / 2 ^ (32 + rdF s pgDRA 0x088 0 3) % 2

/-- A rank fails: it retires to the spare and its copy begins, or the channel is FAILED (R557, R558). -/
def rankFails (s : State) (a : Nat) : State :=
  if rdB s pgDRA 0x088 3 && !s.dra.spareUsed then
    wr (raiseErr { s with dra := { s.dra with retired := some (rankOf s a), migrating := true, spareUsed := true } } pgDRA 3)
      pgDRA 0x0D4 0
  else channelFailed s

/-- MiB of the retired rank that lie in the spare while its copy runs: the copy's rate has only an upper bound, so how far it
is at an instant is free, within the rank (R558, log entry 160). -/
def copyPos (s : State) : Nat := (free32 s).1.toNat % (2 ^ (12 + rdF s pgDRA 0x088 0 3) + 1)

/-- The line of a channel address is still in the rank that is being copied, and not yet in the spare (R558). -/
def uncopied (s : State) (a : Nat) : Bool :=
  s.dra.migrating && decide (s.dra.retired = some (rankOf s a)) &&
    decide (copyPos s ≤ a % 2 ^ (32 + rdF s pgDRA 0x088 0 3) / 2 ^ 20)

/-- DRAM_ERROR: a corrected error is counted; an uncorrectable one keeps its line's address; a line that the copy cannot read
goes poisoned to the spare; otherwise it, like a parity error, retires the rank (R557, R558, R571). -/
def execDramError (addr : Nat) (kind : DramErr) (s : State) : Host.Outcome State Fault Refusal :=
  .next (
    let a := addr % dramSize s
    if !draOn s || decide (s.dra.st ≠ .ready) then s
    else match kind with
      | .corrected => raiseErr (bumpWrap s pgDRA 0x0CC 2) pgDRA 0
      | .cmdParity => rankFails (raiseErr s pgDRA 2) a
      | .uncorrectable =>
        let line := a / 64 * 64
        let s1 := { s with dra := { s.dra with poison := if line ∈ s.dra.poison then s.dra.poison else line :: s.dra.poison } }
        let s2 := if rdB s1 pgDRA 0x0D0 31 then s1 else wr s1 pgDRA 0x0D0 (w32 (a / 64 % 2 ^ 31 + 2 ^ 31))
        let s3 := raiseErr s2 pgDRA 1
        if uncopied s a then s3 else rankFails s3 a)

/-- DRA_SPARE_COPY_DONE: the copy of the retired rank has ended (R558, R571). -/
def execDraSpareCopyDone (s : State) : Host.Outcome State Fault Refusal :=
  .next (
    if !draOn s || !s.dra.migrating then s
    else
      let s1 := { s with dra := { s.dra with migrating := false } }
      raiseIrq (wr s1 pgDRA 0x0D4 (w32 (2 ^ (12 + rdF s pgDRA 0x088 0 3)))) pgDRA 1)

/-- SR_IDLE in sixteenths of a nanosecond (R569). -/
def srIdle (s : State) : Nat := rdF s pgDRA 0x080 8 8 * usN

/-- DRA_SELF_REFRESH_ENTER: the channel has been idle for SR_IDLE µs (R559). -/
def execDraSelfRefreshEnter (s : State) : Host.Outcome State Fault Refusal :=
  .next (
    if !draOn s || !rdB s pgDRA 0x080 1 || decide (s.dra.st ≠ .ready) || s.dra.migrating || !dueBy s (s.dra.idleFrom + srIdle s) then s
    else { s with dra := { s.dra with sr := true } })

/-- DRA_SELF_REFRESH_EXIT: a request has come (R559). -/
def execDraSelfRefreshExit (s : State) : Host.Outcome State Fault Refusal :=
  .next (if !draOn s then s else draTouch s)

end Sys2Proof.Machine
end

