-- ==== Sys2Proof/Machine/Glb.lean ====
section
/-!
DEFINITION. The common header's commands and the station's roles (00_scope.md R8, 01_engine_organisation.md R22 to R30,
21_debug_snag.md R681, 22_register_index.md R689 to R692).
-/

namespace Sys2Proof.Machine

/-! ### The common header -/

/-- The defined interrupt causes of a page (the chapters' own tables). -/
def RUnit.irqMask : RUnit → Nat
  | .stc => 0x3F
  | .mode | .pwr | .eic | .nvr | .hif | .bob => 0x3
  | .clk | .ucs | .sec | .lcy | .key => 0x1
  | .selv => 0x7F
  | .whrl => 0x7FFFF
  | .prck => 0x1F
  | .glb | .pil | .pg | .bio | .trip | .spn | .dra => 0x7
  | .lane | .dbg => 0xF
  | .eicT | .se1Lease | .se1Ctl => 0

/-- A write of a header register reaches a page: the page exists, has the register and has power. -/
def hdrWrite (s : State) (page : Nat) (whole : Bool) (f : RUnit → Nat → State) : State :=
  match pageUnit page with
  | none => s
  | some (u, i) => if u.shortHeader && whole then s else if !pagePowered s page then warnEvent s page else f u i

/-- UNIT_CTRL_WRITE: ignored but in CONFIGURE and SERVICE, or while LOCK is 1; ENABLE 0 vacates the unit, ENABLE 1 gives room
back (R690, R401). -/
def execUnitCtrlWrite (page : Nat) (v : W32) (s : State) : Host.Outcome State Fault Refusal :=
  .next (hdrWrite s page false fun u i =>
    if !(curMode s).cfgSvc || rdB s page 0x008 3 then warnEvent s page
    else
      let s1 := wr s page 0x008 (v &&& 0xF)
      if rdB s page 0x008 0 && !bit v 0 then
        if u = .pil then serveWants ((List.range 9).foldl (fun t k => vacate t ⟨u.cls, i, k⟩ 7) s1)
        else serveWants (vacate s1 ⟨u.cls, i, 0⟩ 7)
      else if !rdB s page 0x008 0 && bit v 0 then roomReturns s1
      else s1)

/-- ERR_INJECT: each bit written sets ERR_STATUS as though its condition had arisen, and occurs with INJECTED (R681);
it acts only where snags act (R678), and is ignored with a warning elsewhere. -/
def execErrInject (page : Nat) (v : W32) (s : State) : Host.Outcome State Fault Refusal :=
  .next (hdrWrite s page true fun u _ =>
    if !snagAllowed s then warnEvent s page
    else (List.range u.nErr).foldl (fun t n => if bit v n then raiseErr t page n 0 [] true else t) s)

/-- IRQ_SET sets interrupt status bits (R8). -/
def execIrqSet (page : Nat) (v : W32) (s : State) : Host.Outcome State Fault Refusal :=
  .next (hdrWrite s page true fun u _ => wr s page 0x024 (rd s page 0x024 ||| (v &&& w32 u.irqMask)))

/-- RECOVERY_CLR clears the page's RECOVERY_COUNT (R689). -/
def execRecoveryClr (page : Nat) (v : W32) (s : State) : Host.Outcome State Fault Refusal :=
  .next (hdrWrite s page true fun _ _ => if bit v 0 then wr s page 0x040 0 else s)

/-! ### Roles (R22 to R25) -/

/-- Whole milliseconds of the STC. -/
def stcMs (s : State) : Nat := s.stc.cnt / (1000000 * nsU)

/-- MANAGER_HEARTBEAT_SEND: a manager or standby manager sends one every millisecond of STC time (R23, R460). -/
def execManagerHeartbeatSend (s : State) : Host.Outcome State Fault Refusal :=
  .next (
    if curMode s = .off ∨ (s.glb.role ≠ 2 ∧ s.glb.role ≠ 3) ∨ stcMs s = s.glb.hbSentAt then s
    else interSend { s with glb := { s.glb with hbSentAt := stcMs s } } 3 0x7FF 8 (.mgrHb s.glb.role s.mode.cur.code s.prck.dirGen))

/-- MANAGER_HEARTBEAT_RX: a heartbeat with role station manager whose mode runs shows a manager present; of two managers the
one with the higher number acts as a worker (R23, R25, R29). -/
def execManagerHeartbeatRx (f : MgrHb) (s : State) : Host.Outcome State Fault Refusal :=
  .next (
    let (ok, s1) := interRx s f.h
    if !ok ∨ s1.glb.role = 0 ∨ f.role ≠ 2 ∨ f.mode < 5 ∨ 10 ≤ f.mode ∨ f.h.src = s1.glb.engineNum then s1
    else
      let change := !s1.glb.present || decide (s1.glb.lastMgr ≠ some f.h.src)
      let s2 := condEnd { s1 with glb := { s1.glb with present := true, lastMgr := some f.h.src, lastAt := s1.now } } pgGLB 1
      let s3 := if change then raiseIrq s2 pgGLB 1 else s2
      if s3.glb.role = 2 ∧ f.h.src < s3.glb.engineNum then
        raiseIrq (raiseErr { s3 with glb := { s3.glb with role := 1, conflict := true } } pgGLB 0) pgGLB 2
      else s3)

/-- No heartbeat has come for 10 ms: MANAGER_PRESENT falls (R23, R27). -/
def managerGap (s : State) : State :=
  if s.glb.present then raiseIrq { s with glb := { s.glb with present := false } } pgGLB 1 else s

/-- MANAGER_TAKEOVER: heartbeats have been missed for 10 ms; a standby manager becomes the manager (R22). -/
def execManagerTakeover (s : State) : Host.Outcome State Fault Refusal :=
  .next (
    if curMode s = .off ∨ s.glb.role = 0 ∨ s.now < s.glb.lastAt + 10 * msN then s
    else
      let s1 := managerGap s
      if s1.glb.role = 3 then raiseIrq { s1 with glb := { s1.glb with role := 2, takeover := true } } pgGLB 0 else s1)

/-- MANAGER_LOST: none for 20 ms while the role is not standalone (R29). -/
def execManagerLost (s : State) : Host.Outcome State Fault Refusal :=
  .next (
    if curMode s = .off ∨ s.glb.role = 0 ∨ s.now < s.glb.lastAt + 20 * msN then s
    else condErr (managerGap s) pgGLB 1)

end Sys2Proof.Machine
end

