-- ==== Sys2Proof/Machine/Operands.lean ====
section
/-!
DEFINITION. What a Kendil word reads and how its operands are checked: exceptions and their order (04_kendil_reference.md
R105, R109, 09_privilege_exceptions.md R284, R285), stack depths (03_kendil_encoding.md R66, R67, R70), tag faults and
check scopes (02_tagged_words.md R42, R43), conditions (R77 to R80).
-/

namespace Sys2Proof.Machine

/-! ### Exceptions -/

/-- An exception: its entry of R285, its DETAIL (R284) and the address that FADDR carries (R283). -/
structure Exc where
  vec : Nat
  detail : Nat := 0
  faddr : Nat := 0
  deriving DecidableEq, Repr

abbrev Exc.il : Exc := ⟨1, 0, 0⟩
abbrev Exc.pv : Exc := ⟨2, 0, 0⟩
abbrev Exc.su (stack : Nat) : Exc := ⟨3, stack, 0⟩
abbrev Exc.so (stack : Nat) : Exc := ⟨4, stack, 0⟩
abbrev Exc.tf (cause : Nat) : Exc := ⟨5, cause, 0⟩
abbrev Exc.al (a : Nat) : Exc := ⟨6, 0, a⟩
abbrev Exc.ia (a : Nat) : Exc := ⟨7, 0, a⟩
abbrev Exc.af (a : Nat) : Exc := ⟨8, 0, a⟩
abbrev Exc.or' : Exc := ⟨9, 0, 0⟩
abbrev Exc.me (a : Nat) : Exc := ⟨10, 0, a⟩
abbrev Exc.fx (flag : Nat) : Exc := ⟨11, flag, 0⟩

/-- A check: the first exception in the order of R109, or nothing. -/
abbrev Check := Option Exc

/-- The first exception of a list of checks written in the order of R109. -/
def firstExc : List Check → Check
  | [] => none
  | none :: t => firstExc t
  | some e :: _ => some e

/-- A check that fails with `e` where `bad` holds. -/
def failIf (bad : Bool) (e : Exc) : Check := if bad then some e else none

/-! ### Stacks -/

/-- The stack sets replaced on the core's set in use. -/
def Core.setDs (k : Core) (x : Stk) : Core := if k.pset then { k with dsP := x } else { k with dsU := x }
def Core.setRs (k : Core) (x : Stk) : Core := if k.pset then { k with rsP := x } else { k with rsU := x }

/-- n entries of the data stack from the top, the deepest first. -/
def Core.top (k : Core) (n : Nat) : List TWord := (List.range n).map fun i => k.ds.peek (n - 1 - i)

/-- Entries each stack of the spindle may hold: 8 renamed and the containers of its spill region (R69, R70, R238). -/
def spillCap (base limit : W32) : Nat := 8 + (limit.toNat - base.toNat) / 8
/-- Entries a core's data stack and return stack may hold (R65, R70). -/
def dsCap (s : State) (c : Nat) : Nat := if c = spindle then spillCap s.spn.dsBase s.spn.dsLimit else 16
def rsCap (s : State) (c : Nat) : Nat := if c = spindle then spillCap s.spn.rsBase s.spn.rsLimit else 16

/-- Depth checks of an operation that needs `need` entries and leaves `pop` fewer and `push` more; `stack` is 0 for the data
stack, 1 for the return stack (R66, R67). -/
def depthCheck (stack depth cap need pop push : Nat) : Check :=
  if depth < need then some (Exc.su stack)
  else if pop < push ∧ cap < depth - pop + push then some (Exc.so stack) else none

/-! ### Tag faults (R42, R43) -/

/-- How an instruction takes a word: moved; consumed by arithmetic of the types given; consumed by another instruction of
the types given; consumed where the instruction's own rule gives cause 1 to any other type at FULL (R86, R138); a cell of a
TIM pair, whose type is judged by cause 5; offered as an address. -/
inductive Use where
  | move
  | arith (ok : List Ty)
  | plain (ok : List Ty)
  | strict (ok : List Ty)
  | cell
  | addr
  deriving DecidableEq, Repr

/-- Types that a scope takes for one another (R43). -/
def numericTy : Ty → Bool
  | .int | .nat | .fix | .flt => true
  | _ => false

/-- The lowest tag-fault cause of one word under a scope and a level. A type that a specific cause names raises that cause
and not cause 1 (DEDUCED, log entry 47). -/
def tagCause (sc : Scope) (lvl : Level) (u : Use) (w : TWord) : Option Nat :=
  let retU := decide (w.ty = .ret ∧ lvl = .u)
  let specific := decide (w.ty = .void) || retU
  let c1 : Bool := match u with
    | .move => false
    | .arith ok => decide (sc = .full) && decide (w.ty ∉ ok) && !specific && decide (w.ty ≠ .tim)
    | .plain ok => decide (sc = .full) && decide (w.ty ∉ ok) && !specific
    | .strict ok => decide (sc = .full) && decide (w.ty ∉ ok)
    | .cell => false
    | .addr => decide (sc = .full) && decide (w.ty = .tim ∨ w.ty = .ret) && !specific
  let c2 := decide (u ≠ .move ∧ w.ty = .void ∧ sc ≠ .off)
  let c7 := decide (u = .addr) && numericTy w.ty && decide (sc = .full ∨ sc = .numeric)
  let c8 : Bool := match u with
    | .arith ok => decide (w.ty = .tim ∧ Ty.tim ∉ ok ∧ (sc = .full ∨ sc = .numeric))
    | _ => false
  if c1 then some 1 else if c2 then some 2 else if w.rsv then some 3 else if retU then some 4
  else if c7 then some 7 else if c8 then some 8 else none

/-- The lower of two causes. -/
def lowest (a b : Option Nat) : Option Nat :=
  match a, b with
  | some x, some y => some (min x y)
  | some x, none => some x
  | none, y => y

/-- The lowest cause over the words an instruction takes (R109). -/
def tagCauses (k : Core) (l : List (Use × TWord)) : Option Nat :=
  l.foldl (fun a p => lowest a (tagCause k.modes.tcs k.modes.level p.1 p.2)) none

/-- The tag fault of a lowest cause. -/
def tagCheck (c : Option Nat) : Check := c.map Exc.tf

/-- A TIM pair that is broken (R46): the seconds cell, the nanoseconds cell. -/
def pairBroken (s ns : TWord) : Bool :=
  decide (s.ty ≠ .tim ∨ ns.ty ≠ .tim ∨ bits ns.pay 30 2 ≠ 1 ∨ 999999999 < bits ns.pay 0 30)

/-- Cause 5 of a pair. -/
def pairCause (s ns : TWord) : Option Nat := if pairBroken s ns then some 5 else none

/-! ### Conditions (R77 to R80, R176) -/

/-- The innermost active loop is on its last iteration (R77, R80). -/
def lastIter (k : Core) : Bool := match k.inner with | some l => decide (l.now ≤ 1) | none => false

/-- A condition on a snapshot and the loop state. -/
def condHolds (c : Cond) (p : CondSnap) (last : Bool) : Bool :=
  match c with
  | .al => true
  | .z => p.z
  | .nz => !p.z
  | .lt => p.n != p.v
  | .ge => p.n == p.v
  | .qg => decide (p.tosVal = .good)
  | .qn => decide (p.tosVal ≠ .good)
  | .last => last

/-- Evaluating QG or QN needs an entry (R80). -/
def condCheck (c : Cond) (p : CondSnap) : Check :=
  failIf ((decide (c = .qg) || decide (c = .qn)) && !p.hasTos) (Exc.su 0)

end Sys2Proof.Machine
end

