-- ==== Sys2Proof/Machine/Flags.lean ====
section
/-!
DEFINITION. What the integer, fixed-point, shift, CRC and time operations compute, with their flags, on plain words
(04_kendil_reference.md R111 to R120, R132, R133, R138, 05_arithmetic.md R149 to R156).
-/

namespace Sys2Proof.Machine

/-- The signed value of a word. -/
def sv (x : W32) : Int := x.toInt
/-- Low 32 bits of an integer. -/
def ofI (v : Int) : W32 := BitVec.ofInt 32 v
/-- An integer outside the signed range. -/
def outS (v : Int) : Bool := decide (v < -2147483648 ∨ 2147483647 < v)
/-- The nearest value of the signed range. -/
def clampS (v : Int) : Int := if v < -2147483648 then -2147483648 else if 2147483647 < v then 2147483647 else v

/-- Flags Z and N of a result over the flags before. -/
def zn (f : Flags) (r : W32) : Flags := { f with z := decide (r = 0), n := r.msb }

/-! ### Integer add and compare (R114) -/

/-- a + b + c: result, carry out of bit 31, signed overflow. -/
def addW (a b : W32) (c : Bool) : W32 × Bool × Bool :=
  (w32 (a.toNat + b.toNat + c.toNat), decide (2 ^ 32 ≤ a.toNat + b.toNat + c.toNat), outS (sv a + sv b + c.toNat))

/-- a − b − c: result, borrow, signed overflow. -/
def subW (a b : W32) (c : Bool) : W32 × Bool × Bool :=
  (ofI ((a.toNat : Int) - b.toNat - c.toNat), decide (a.toNat < b.toNat + c.toNat), outS (sv a - sv b - c.toNat))

/-- Flags of an addition or subtraction, with the quality that CQ takes (R38, R114). -/
def arithFlags (r : W32 × Bool × Bool) (q : Qual) : Flags := ⟨decide (r.1 = 0), r.1.msb, r.2.1, r.2.2, q⟩

/-- ABS (R114): the result and V. -/
def absW (a : W32) : W32 × Bool := (ofI (sv a).natAbs, decide (a = 0x80000000))

/-! ### Address arithmetic (R115) -/

/-- An address moved by an exact step, modulo 2²⁴: the address and whether it wrapped. -/
def stepAddr (a : Nat) (k : Int) : Nat × Bool :=
  let e : Int := (a % 2 ^ 24 : Nat) + k
  ((e % (2 ^ 24 : Nat)).toNat, decide (e < 0 ∨ (2 ^ 24 : Nat) ≤ e))

/-- A step's value: an INT step is signed, any other unsigned. -/
def stepOf (w : TWord) : Int := if w.ty = .int then sv w.pay else (w.pay.toNat : Int)

/-! ### Logic and shifts (R111, R112) -/

/-- Bits that are 1. -/
def popc (x : W32) : Nat := ((List.range 32).filter fun i => bit x i).length
/-- Leading zeros. -/
def clz (x : W32) : Nat := 32 - bitLen x.toNat

/-- A shift by an unsigned count: the result and C. -/
def shiftW (k : ShiftOp) (a : W32) (count : Nat) : W32 × Bool :=
  match k with
  | .shl => (w32 (a.toNat * 2 ^ min count 32), decide (count ≠ 0 ∧ count ≤ 32) && bit a (32 - count))
  | .shr => (w32 (a.toNat / 2 ^ min count 32), decide (count ≠ 0 ∧ count ≤ 32) && bit a (count - 1))
  | .sar => (ofI (sv a / 2 ^ min count 32), decide (count ≠ 0) && bit a (min count 32 - 1))
  | .rol =>
    let n := count % 32
    let r := w32 (a.toNat * 2 ^ n + a.toNat / 2 ^ (32 - n))
    (r, decide (n ≠ 0) && bit r 0)

/-! ### Multiply and divide (R117, R118, R149, R150) -/

/-- Issue cycles of a multiply by the multiplier b. -/
def mulCycles (ft signed : Bool) (b : W32) : Nat :=
  if ft then 8
  else
    let w := if !signed then 32 - clz b else if b.msb then 33 - clz (~~~b) else 33 - clz b
    max 1 ((w + 3) / 4)

/-- The exact product. -/
def mulExact (signed : Bool) (a b : W32) : Int := if signed then sv a * sv b else (a.toNat : Int) * b.toNat

/-- Quotient or remainder with V and whether the divisor was 0. -/
def divW (signed quot : Bool) (a b : W32) : W32 × Bool × Bool :=
  if b = 0 then (if quot then 0 else a, true, true)
  else if signed then
    if quot then (ofI ((sv a).tdiv (sv b)), outS ((sv a).tdiv (sv b)), false) else (ofI ((sv a).tmod (sv b)), false, false)
  else if quot then (w32 (a.toNat / b.toNat), false, false) else (w32 (a.toNat % b.toNat), false, false)

/-! ### Q15.16 (R119, R120, R155, R156) -/

/-- A fixed-point operation: the raw result after rounding, whether the exact result lies outside the range, whether the
divisor was 0. -/
def fixRaw (op : FixOp) (a b : W32) : Int × Bool × Bool :=
  match op with
  | .add => (sv a + sv b, outS (sv a + sv b), false)
  | .sub => (sv a - sv b, outS (sv a - sv b), false)
  | .neg => (-sv a, outS (-sv a), false)
  | .abs => ((sv a).natAbs, outS (sv a).natAbs, false)
  | .mul =>
    let p := sv a * sv b
    ((p + 2 ^ 15) / 2 ^ 16, decide (p < -2147483648 * 2 ^ 16 ∨ 2147483647 * 2 ^ 16 < p), false)
  | .div =>
    if b = 0 then (0, true, true)
    else
      let n := sv a * 2 ^ 16
      let lim : Bool := if 0 < sv b then decide (n < -2147483648 * sv b ∨ 2147483647 * sv b < n)
        else decide (-2147483648 * sv b < n ∨ n < 2147483647 * sv b)
      (n.tdiv (sv b), lim, false)

/-- The delivered word of a fixed-point operation (R155). -/
def fixDeliver (sat : Bool) (r : Int) : W32 := if sat then ofI (clampS r) else ofI r

/-! ### CRC, parity, bit reverse (R132, R133) -/

/-- The n low bits of a number reversed. -/
def revBits (n x : Nat) : Nat := ((List.range n).map fun i => x / 2 ^ i % 2 * 2 ^ (n - 1 - i)).foldl (· + ·) 0

/-- WIDTH, polynomial and REFLECT in force, and CHUNK; none when PRESET or CHUNK is reserved. -/
def crcParams (cfg poly : W32) : Option (Nat × Nat × Bool × Nat) :=
  let chunk := match bits cfg 8 2 with | 0 => some 8 | 1 => some 16 | 2 => some 32 | _ => none
  match chunk, bits cfg 0 3 with
  | some c, 0 => some (bits cfg 3 5 + 1, poly.toNat % 2 ^ (bits cfg 3 5 + 1), bit cfg 10, c)
  | some c, 1 => some (32, 0x04C11DB7, true, c)
  | some c, 2 => some (32, 0x1EDC6F41, true, c)
  | some c, 3 => some (16, 0x1021, false, c)
  | _, _ => none

/-- One data bit into the register. -/
def crcStepBit (width poly : Nat) (reflect : Bool) (r d : Nat) : Nat :=
  if reflect then
    let t := r / 2
    if (r + d) % 2 = 1 then Nat.xor t (revBits width poly) else t
  else
    let t := r * 2 % 2 ^ width
    if (r / 2 ^ (width - 1) + d) % 2 = 1 then Nat.xor t poly else t

/-- CRC.STEP over the low CHUNK bits of x. -/
def crcStepW (p : Nat × Nat × Bool × Nat) (crc x : W32) : W32 :=
  let (width, poly, reflect, chunk) := p
  let r0 := crc.toNat % 2 ^ width
  w32 ((List.range chunk).foldl (fun r i =>
    crcStepBit width poly reflect r (x.toNat / 2 ^ (if reflect then i else chunk - 1 - i) % 2)) r0)

/-! ### Times (R45, R46, R138) -/

/-- The nanoseconds cell of a value below one second (R45). -/
def nsCell (ns : Nat) : W32 := w32 (2 ^ 30 + ns)
/-- Nanoseconds of a cell. -/
def cellNs (w : W32) : Nat := bits w 0 30
/-- A time as a 64-bit signed nanosecond count. -/
def timNs (s ns : W32) : Int := sv s * 1000000000 + cellNs ns

/-- TIM.ADDNS: the seconds and nanoseconds of the sum. -/
def timAdd (s ns : W32) (d : Int) : W32 × Nat :=
  let t : Int := (s.toNat : Int) * 1000000000 + cellNs ns + d
  (ofI (t / 1000000000), (t % 1000000000).toNat)

end Sys2Proof.Machine
end

