-- ==== Sys2Proof/Machine/DataUnit.lean ====
section
/-!
DEFINITION. What each data-unit operation that reaches no memory brings about, and what each address-unit operation does
(02_tagged_words.md R36 to R41, 03_kendil_encoding.md R89 to R94, 04_kendil_reference.md R110 to R126, R132, R133, R137,
R138). An operation reads the core as it stood before its word (R81) and answers an exception or an effect.
-/

namespace Sys2Proof.Machine

/-- The effect of operation A once its checks have passed: entries popped, words pushed (the deepest first), the exposed
distance of what it delivers (R174), flags, sticky flags, issue cycles (R107). -/
structure AOut where
  pop : Nat := 0
  push : List TWord := []
  lat : Nat := 1
  flags : Option Flags := none
  sticky : Nat := 0
  cycles : Nat := 1
  deriving DecidableEq, Repr

/-- An operation that passes its checks, or the first exception of them. -/
def checked {α : Type} (c : List Check) (v : α) : Except Exc α :=
  match firstExc c with
  | some e => .error e
  | none => .ok v

/-- An operation that pops n operands of one use and delivers `push` words: depths, then tags, then `more`. -/
def operate (cap : Nat) (k : Core) (n : Nat) (u : Use) (more : List Check) (o : AOut) : Except Exc AOut :=
  checked ([depthCheck 0 k.ds.depth cap n n o.push.length, tagCheck (tagCauses k ((k.top n).map fun w => (u, w)))] ++ more)
    { o with pop := n }

/-! ### Moves and literals (R110, R87) -/

/-- A move of n entries that leaves the words `out` in their place. -/
def moveOp (cap : Nat) (k : Core) (n : Nat) (out : List TWord) : Except Exc AOut := operate cap k n .move [] { push := out }

/-- Stack moves. `w i` is the entry at depth i. -/
def stackOp (cap : Nat) (k : Core) (op : AOp) : Except Exc AOut :=
  let w := k.ds.peek
  match op with
  | .dup => moveOp cap k 1 [w 0, w 0]
  | .drop => moveOp cap k 1 []
  | .swap => moveOp cap k 2 [w 0, w 1]
  | .over => moveOp cap k 2 [w 1, w 0, w 1]
  | .rot => moveOp cap k 3 [w 1, w 0, w 2]
  | .nip => moveOp cap k 2 [w 0]
  | .tuck => moveOp cap k 2 [w 0, w 1, w 0]
  | .dup2 => moveOp cap k 2 [w 1, w 0, w 1, w 0]
  | .drop2 => moveOp cap k 2 []
  | .swap2 => moveOp cap k 4 [w 1, w 0, w 3, w 2]
  | .over2 => moveOp cap k 4 [w 3, w 2, w 1, w 0, w 3, w 2]
  | .pick n =>
    checked [depthCheck 0 k.ds.depth cap (n.toNat + 1) 0 1, tagCheck (tagCauses k [(.move, w n.toNat)])] { push := [w n.toNat] }
  | .roll n => moveOp cap k (n.toNat + 1) ((k.top (n.toNat + 1)).tail ++ [w n.toNat])
  | .litS v => checked [depthCheck 0 k.ds.depth cap 0 0 1] { push := [TWord.ofTy .int (v.signExtend 32)] }
  | _ => .ok {}

/-! ### Integer, logic, shift (R111 to R118) -/

/-- INT where any operand is INT, else NAT (R37). -/
def intTy (ws : List TWord) : Ty := if ws.any fun w => decide (w.ty = .int) then .int else .nat

/-- The merged quality of operands (R36). -/
def mergeOf (ws : List TWord) : Qual := Qual.mergeAll (ws.map (·.q))

/-- The types that integer and logic instructions take at FULL. -/
abbrev intIn : List Ty := [.int, .nat]

/-- Logic operations and the bit counts. -/
def logicOp (cap : Nat) (k : Core) (op : AOp) : Except Exc AOut :=
  let a := (k.ds.peek 1).pay
  let b := (k.ds.peek 0).pay
  let one (r : W32) : Except Exc AOut := operate cap k 1 (.plain intIn) []
    { push := [TWord.mk' .nat (mergeOf (k.top 1)) r], flags := some (zn k.flags r) }
  let two (r : W32) : Except Exc AOut := operate cap k 2 (.plain intIn) []
    { push := [TWord.mk' .nat (mergeOf (k.top 2)) r], flags := some (zn k.flags r) }
  match op with
  | .and => two (a &&& b)
  | .or => two (a ||| b)
  | .xor => two (a ^^^ b)
  | .not => one (~~~b)
  | .andn => two (a &&& ~~~b)
  | .popc => one (w32 (popc b))
  | .clz => one (w32 (clz b))
  | _ => .ok {}

/-- A shift by an immediate, or by TOS. -/
def shiftOp (cap : Nat) (k : Core) (kind : ShiftOp) (imm : Option (BitVec 5)) : Except Exc AOut :=
  let n := match imm with | some _ => 1 | none => 2
  let (r, c) := match imm with
    | some i => shiftW kind (k.ds.peek 0).pay i.toNat
    | none => shiftW kind (k.ds.peek 1).pay (k.ds.peek 0).pay.toNat
  let q := mergeOf (k.top n)
  operate cap k n (.plain intIn) []
    { push := [TWord.mk' .nat q r], flags := some { zn k.flags r with c := c, cq := q } }

/-- The result word and the flags of an integer operation of n operands. -/
def intRes (cap : Nat) (k : Core) (n : Nat) (ok : List Ty) (push : List TWord) (f : Flags) : Except Exc AOut :=
  operate cap k n (.arith ok) [] { push := push, flags := some f }

/-- ADD, SUB, INC and DEC on an ADR operand (R115): none where the operation is no address arithmetic. -/
def addrArith (k : Core) (op : AOp) : Option (TWord × Flags) :=
  let a := k.ds.peek 1
  let b := k.ds.peek 0
  let step (x : TWord) (d : Int) (q : Qual) : TWord × Flags :=
    let (r, c) := stepAddr x.pay.toNat d
    (TWord.mk' .adr q (w32 r), ⟨decide (r = 0), false, c, false, q⟩)
  match op with
  | .inc => if b.ty = .adr then some (step b 1 b.q) else none
  | .dec => if b.ty = .adr then some (step b (-1) b.q) else none
  | .add =>
    if a.ty = .adr ∧ b.ty ≠ .adr then some (step a (stepOf b) (a.q.merge b.q))
    else if b.ty = .adr ∧ a.ty ≠ .adr then some (step b (stepOf a) (a.q.merge b.q)) else none
  | .sub =>
    if a.ty = .adr ∧ b.ty = .adr then
      let r := subW (w32 (bits a.pay 0 24)) (w32 (bits b.pay 0 24)) false
      some (TWord.mk' .int (a.q.merge b.q) r.1, { arithFlags r (a.q.merge b.q) with v := false })
    else if a.ty = .adr then some (step a (-stepOf b) (a.q.merge b.q)) else none
  | _ => none

/-- ADR operands that no address arithmetic takes raise cause 1 at FULL (R115): ADR + ADR and x − ADR. -/
def addSub (cap : Nat) (k : Core) (op : AOp) (n : Nat) (r : W32 × Bool × Bool) : Except Exc AOut :=
  let q := mergeOf (k.top n)
  match addrArith k op with
  | some (w, f) => intRes cap k n [.int, .nat, .adr] [w] f
  | none => intRes cap k n intIn [TWord.mk' (intTy (k.top n)) q r.1] (arithFlags r q)

/-- The integer operations. -/
def intOp (cap : Nat) (k : Core) (op : AOp) : Except Exc AOut :=
  let wa := k.ds.peek 1
  let wb := k.ds.peek 0
  let a := wa.pay
  let b := wb.pay
  let q2 := wa.q.merge wb.q
  let qc := q2.merge k.flags.cq
  let rel (t : Bool) : Except Exc AOut :=
    intRes cap k 2 intIn [TWord.mk' .nat q2 (w32 t.toNat)] { k.flags with z := !t }
  let pick (first : Bool) : Except Exc AOut :=
    let w := if first then wa else wb
    intRes cap k 2 intIn [w.withQ q2] (zn k.flags w.pay)
  match op with
  | .add => addSub cap k op 2 (addW a b false)
  | .sub => addSub cap k op 2 (subW a b false)
  | .inc => addSub cap k op 1 (addW b 1 false)
  | .dec => addSub cap k op 1 (subW b 1 false)
  | .adc => let r := addW a b k.flags.c; intRes cap k 2 intIn [TWord.mk' (intTy [wa, wb]) qc r.1] (arithFlags r qc)
  | .sbc => let r := subW a b k.flags.c; intRes cap k 2 intIn [TWord.mk' (intTy [wa, wb]) qc r.1] (arithFlags r qc)
  | .neg => let r := subW 0 b false; intRes cap k 1 intIn [TWord.mk' (intTy [wb]) wb.q r.1] (arithFlags r wb.q)
  | .abs => let r := absW b; intRes cap k 1 intIn [TWord.mk' wb.ty wb.q r.1] { zn k.flags r.1 with v := r.2 }
  | .cmp => intRes cap k 2 intIn [] (arithFlags (subW a b false) q2)
  | .eq => rel (decide (a = b))
  | .lt => rel (decide (sv a < sv b))
  | .ult => rel (decide (a.toNat < b.toNat))
  | .min => pick (decide (sv a ≤ sv b))
  | .max => pick (decide (sv b ≤ sv a))
  | .umin => pick (decide (a.toNat ≤ b.toNat))
  | .umax => pick (decide (b.toNat ≤ a.toNat))
  | _ => .ok {}

/-- Multiply and divide. The high word of MULW takes the TYPE rule of a multiply where its operands differ in TYPE (R37: DEDUCED, log
entry 174). -/
def mulDivOp (cap : Nat) (k : Core) (op : AOp) : Except Exc AOut :=
  let wa := k.ds.peek 1
  let wb := k.ds.peek 0
  let a := wa.pay
  let b := wb.pay
  let q := wa.q.merge wb.q
  let ty := intTy [wa, wb]
  let mulw (signed : Bool) : Except Exc AOut :=
    let p := mulExact signed a b
    operate cap k 2 (.arith intIn) []
      { push := [TWord.mk' ty q (ofI (p / 2 ^ 32)), TWord.mk' .nat q (ofI p)]
        flags := some { k.flags with z := decide (p = 0), n := decide (p < 0) }
        cycles := mulCycles k.modes.ft signed b }
  let div (signed quot : Bool) : Except Exc AOut :=
    let (r, v, zero) := divW signed quot a b
    operate cap k 2 (.arith intIn) []
      { push := [TWord.mk' ty (if zero then q.atLeast .invalid else q) r]
        flags := some { zn k.flags r with v := v }
        cycles := 18 }
  match op with
  | .mul =>
    let signed := decide (ty = .int)
    let p := mulExact signed a b
    operate cap k 2 (.arith intIn) []
      { push := [TWord.mk' ty q (ofI p)]
        flags := some { zn k.flags (ofI p) with v := if signed then outS p else decide (2 ^ 32 ≤ p) }
        cycles := mulCycles k.modes.ft signed b }
  | .mulwS => mulw true
  | .mulwU => mulw false
  | .div => div true true
  | .divu => div false true
  | .rem => div true false
  | .remu => div false false
  | _ => .ok {}

/-- Fixed point (R119, R120, R155, R156). -/
def fixOp (cap : Nat) (k : Core) (op : FixOp) (sat : Bool) : Except Exc AOut :=
  let unary := decide (op = .neg ∨ op = .abs)
  let n := if unary then 1 else 2
  let b := (k.ds.peek 0).pay
  let (r, v, zero) := fixRaw op (if unary then b else (k.ds.peek 1).pay) b
  let w := fixDeliver sat r
  let q := mergeOf (k.top n)
  operate cap k n (.arith [.fix]) []
    { push := [TWord.mk' .fix (if zero then q.atLeast .invalid else q) w]
      flags := some { zn k.flags w with v := v }
      cycles := match op with | .mul => mulCycles k.modes.ft true b | .div => 18 | _ => 1 }

/-! ### Floating point and conversions (R121 to R126, R157 to R167) -/

/-- The NaN rule (R40). -/
def nanQ (k : Core) (nan : Bool) (q : Qual) : Qual := if k.modes.nanInvalid && nan then q.atLeast .invalid else q

/-- The trap of R123, R160 and R161. -/
def fxCheck (k : Core) (fl : FFlags) : Check := (fl.trap k.traps).map Exc.fx

/-- A floating-point operation of n operands with a result of type `ty` at distance `lat`. -/
def fltTyped (ty : Ty) (cap : Nat) (k : Core) (n lat cycles : Nat) (r : Nat × FFlags) : Except Exc AOut :=
  let ws := k.top n
  let nan := f32.isNaN r.1 || ws.any fun w => f32.isNaN w.pay.toNat
  operate cap k n (.arith [.flt]) [fxCheck k r.2]
    { push := [TWord.mk' ty (nanQ k nan (mergeOf ws)) (w32 r.1)], lat := lat, sticky := r.2.code, cycles := cycles }

/-- One whose result is FLT. -/
def fltRes (cap : Nat) (k : Core) (n lat cycles : Nat) (r : Nat × FFlags) : Except Exc AOut := fltTyped .flt cap k n lat cycles r

/-- The type of the operand that FMIN or FMAX has chosen (R37); a NaN that is neither is FLT. -/
def chosenTy (k : Core) (r : Nat) : Ty :=
  if (k.ds.peek 1).pay.toNat = r then (k.ds.peek 1).ty else if (k.ds.peek 0).pay.toNat = r then (k.ds.peek 0).ty else .flt

/-- The flags of FCMP (R122) over two bit patterns of a format. -/
def fcmpFlags (f : FFmt) (a b : Nat) (q : Qual) : Flags :=
  let (less, equal, un, _) := f.cmp a b
  ⟨equal, less, un, false, q⟩

/-- The binary32 operations. -/
def floatOp (cap : Nat) (k : Core) (op : AOp) : Except Exc AOut :=
  let x (i : Nat) : Nat := (k.ds.peek i).pay.toNat
  let rm := k.modes.rm
  match op with
  | .fadd => fltRes cap k 2 4 1 (f32.add rm (x 1) (x 0))
  | .fsub => fltRes cap k 2 4 1 (f32.sub rm (x 1) (x 0))
  | .fmul => fltRes cap k 2 4 1 (f32.mul rm (x 1) (x 0))
  | .fma => fltRes cap k 3 4 1 (f32.fma rm (x 2) (x 1) (x 0))
  | .fdiv => fltRes cap k 2 1 14 (f32.div rm (x 1) (x 0))
  | .fsqrt => fltRes cap k 1 1 14 (f32.sqrt rm (x 0))
  | .fneg => fltRes cap k 1 1 1 (f32.neg (x 0), .nil)
  | .fabs => fltRes cap k 1 1 1 (f32.abs (x 0), .nil)
  | .fmin =>
    let r := f32.minmax false (x 1) (x 0)
    fltTyped (chosenTy k r.1) cap k 2 1 1 r
  | .fmax =>
    let r := f32.minmax true (x 1) (x 0)
    fltTyped (chosenTy k r.1) cap k 2 1 1 r
  | .fcmp =>
    let iv := (f32.cmp (x 1) (x 0)).2.2.2
    let q := nanQ k (f32.isNaN (x 1) || f32.isNaN (x 0)) (mergeOf (k.top 2))
    operate cap k 2 (.arith [.flt]) [fxCheck k { iv := iv }]
      { flags := some (fcmpFlags f32 (x 1) (x 0) q), sticky := FFlags.code { iv := iv } }
  | _ => .ok {}

/-- A conversion from `src` to `dst` through binary32, at distance 4. -/
def cvtRes (cap : Nat) (k : Core) (src dst : Ty) (nan : Bool) (r : W32) (fl : FFlags) : Except Exc AOut :=
  operate cap k 1 (.arith [src]) [fxCheck k fl]
    { push := [TWord.mk' dst (nanQ k nan (k.ds.peek 0).q) r], lat := 4, sticky := fl.code }

/-- Retyping (R126): RET raises cause 4 at every scope and level. -/
def retype (k : Core) (ty : Ty) : Except Exc AOut :=
  let w := k.ds.peek 0
  let c2 := decide (w.ty = .void ∧ k.modes.tcs ≠ .off)
  let c8 := decide (w.ty = .tim ∧ k.modes.tcs ≠ .off)
  let cause := if c2 then some 2 else if w.rsv then some 3 else if w.ty = .ret then some 4 else if c8 then some 8 else none
  checked [depthCheck 0 k.ds.depth 16 1 1 1, tagCheck cause] { pop := 1, push := [{ w with ty := ty }] }

/-- Conversions and retyping. -/
def convOp (cap : Nat) (k : Core) (op : AOp) : Except Exc AOut :=
  let w := (k.ds.peek 0).pay
  let rm := k.modes.rm
  let toI (dst : Ty) (sh : Nat) (lo hi : Int) : Except Exc AOut :=
    let (v, fl) := f32.toInt rm sh lo hi w.toNat
    cvtRes cap k .flt dst (f32.isNaN w.toNat) (ofI v) fl
  let ofN (src : Ty) (v e : Int) : Except Exc AOut :=
    let (r, fl) := f32.ofInt rm v e
    cvtRes cap k src .flt false (w32 r) fl
  match op with
  | .cvtIf => ofN .int (sv w) 0
  | .cvtNf => ofN .nat w.toNat 0
  | .cvtXf => ofN .fix (sv w) (-16)
  | .cvtFi => toI .int 0 (-2147483648) 2147483647
  | .cvtFn => toI .nat 0 0 4294967295
  | .cvtFx => toI .fix 16 (-2147483648) 2147483647
  | .cvtIx =>
    let v := sv w * 2 ^ 16
    let r := ofI (clampS v)
    operate cap k 1 (.arith [.int]) []
      { push := [TWord.mk' .fix (k.ds.peek 0).q r], flags := some { zn k.flags r with v := outS v } }
  | .cvtXi =>
    let r := ofI ((sv w).tdiv (2 ^ 16))
    operate cap k 1 (.arith [.fix]) []
      { push := [TWord.mk' .int (k.ds.peek 0).q r], flags := some (zn k.flags r) }
  | .asNat => retype k .nat
  | .asInt => retype k .int
  | .asFlt => retype k .flt
  | .asAdr => retype k .adr
  | _ => .ok {}

/-! ### Bits, tags, selection, time (R132, R133, R137, R138) -/

/-- CRC.STEP, PAR and BREV. -/
def bitsOp (cap : Nat) (k : Core) (op : AOp) : Except Exc AOut :=
  let res (n : Nat) (more : List Check) (r : W32) : Except Exc AOut :=
    operate cap k n (.arith intIn) more
      { push := [TWord.mk' .nat (mergeOf (k.top n)) r], flags := some { k.flags with z := decide (r = 0) } }
  let x := (k.ds.peek 0).pay
  match op with
  | .crcStep =>
    match crcParams k.crcCfg k.crcPoly with
    | some p => res 2 [] (crcStepW p (k.ds.peek 1).pay x)
    | none => res 2 [some Exc.or'] 0
  | .par => res 1 [] (w32 (popc x % 2))
  | .brev n => res 1 [] (w32 (revBits (n.toNat + 1) x.toNat))
  | _ => .ok {}

/-- The word that TAG.SET leaves (R41). -/
def tagSetWord (lvl : Level) (x : TWord) (t : Nat) : TWord :=
  let n := TWord.ofTag t x.pay
  let u := decide (lvl = .u)
  { n with q := ⟨n.q.val, n.q.tst || (u && x.q.tst),
      n.q.der || decide (n.q.val.code < x.q.val.code) || (u && x.q.der)⟩ }

/-- Every type but VOID, which only moves, loads and stores take (R42, cause 2). -/
def sendable : List Ty := [.int, .nat, .fix, .flt, .tim, .adr, .ret]

/-- TAG.RD, TAG.SET and SEL. TAG.RD leaves x where it is and consumes nothing of it, so that a VOID x raises no cause 2 (DEDUCED, log
entry 121). -/
def tagOp (cap : Nat) (k : Core) (op : AOp) : Except Exc AOut :=
  let x := k.ds.peek 1
  let t := k.ds.peek 0
  match op with
  | .tagRd =>
    checked [depthCheck 0 k.ds.depth cap 1 0 1, tagCheck (tagCauses k [(.move, t)])] { push := [TWord.nat (w32 t.tag)] }
  | .tagSet =>
    let n := tagSetWord k.modes.level x (bits t.pay 0 8)
    let c1 := if decide (k.modes.tcs = .full) && decide (n.ty ≠ x.ty) then some 1 else none
    let c3 := if bit t.pay 0 then some 3 else none
    let c4 := if n.ty = .ret ∧ k.modes.level = .u then some 4 else none
    checked [depthCheck 0 k.ds.depth cap 2 2 1,
      tagCheck (lowest (tagCauses k [(.plain sendable, x), (.plain intIn, t)]) (lowest c1 (lowest c3 c4)))]
      { pop := 2, push := [n] }
  | .sel =>
    let a := k.ds.peek 2
    checked [depthCheck 0 k.ds.depth cap 3 3 1,
      tagCheck (tagCauses k [(.plain sendable, a), (.plain sendable, x), (.strict intIn, t)])]
      { pop := 3, push := [(if t.pay ≠ 0 then a else x).withQ (mergeOf (k.top 3))] }
  | _ => .ok {}

/-- TIM.ADDNS, TIM.SUB and TIM.CMP. -/
def timeOp (cap : Nat) (k : Core) (op : AOp) : Except Exc AOut :=
  let w (i : Nat) : TWord := k.ds.peek i
  let q4 := mergeOf (k.top 4)
  let two (o : AOut) : Except Exc AOut :=
    checked [depthCheck 0 k.ds.depth cap 4 4 o.push.length,
      tagCheck (lowest (tagCauses k ((k.top 4).map fun x => (.cell, x))) (lowest (pairCause (w 3) (w 2)) (pairCause (w 1) (w 0))))]
      { o with pop := 4, cycles := 2 }
  let x := timNs (w 3).pay (w 2).pay
  let y := timNs (w 1).pay (w 0).pay
  match op with
  | .timAddns =>
    let (s, n) := timAdd (w 2).pay (w 1).pay (sv (w 0).pay)
    let q := mergeOf (k.top 3)
    checked [depthCheck 0 k.ds.depth cap 3 3 2,
      tagCheck (lowest (tagCauses k [(.cell, w 2), (.cell, w 1), (.plain [.int], w 0)]) (pairCause (w 2) (w 1)))]
      { pop := 3, push := [TWord.mk' .tim q s, TWord.mk' .tim q (nsCell n)]
        flags := some { k.flags with z := decide (s = 0 ∧ n = 0), n := s.msb }, cycles := 2 }
  | .timSub =>
    let r := ofI (clampS (x - y))
    two { push := [TWord.mk' .int q4 r], flags := some { zn k.flags r with v := outS (x - y) } }
  | .timCmp =>
    two { flags := some ⟨decide (x = y), decide (x < y), decide (x % 2 ^ 64 < y % 2 ^ 64), false, q4⟩ }
  | _ => .ok {}

/-! ### Copies of address-unit state (R127) -/

/-- A as a word. -/
def AReg.word (a : AReg) : TWord := ⟨a.ty, a.q, a.rsv, a.pay.setWidth 32⟩

/-- A@, R@ and LC@. -/
def copyOp (cap : Nat) (k : Core) (op : AOp) : Except Exc AOut :=
  let room := depthCheck 0 k.ds.depth cap 0 0 1
  match op with
  | .aFetch => checked [room, tagCheck (tagCauses k [(.move, k.areg.word)])] { push := [k.areg.word] }
  | .rFetch =>
    checked [depthCheck 1 k.rs.depth 0 1 0 0, room, tagCheck (tagCauses k [(.move, k.rs.peek 0)])] { push := [k.rs.peek 0] }
  | .lcFetch =>
    checked [room] { push := [TWord.nat (w32 (match k.inner with | some l => l.now | none => 0))] }
  | _ => .ok {}

/-- Every data-unit operation that reaches neither memory nor the time counter. -/
def dataOp (cap : Nat) (k : Core) (op : AOp) : Except Exc AOut :=
  match op with
  | .and | .or | .xor | .not | .andn | .popc | .clz => logicOp cap k op
  | .shift kind imm => shiftOp cap k kind imm
  | .add | .sub | .adc | .sbc | .neg | .abs | .cmp | .eq | .lt | .ult | .min | .max | .umin | .umax | .inc | .dec =>
    intOp cap k op
  | .mul | .mulwS | .mulwU | .div | .divu | .rem | .remu => mulDivOp cap k op
  | .fix f sat => fixOp cap k f sat
  | .fadd | .fsub | .fmul | .fma | .fdiv | .fsqrt | .fneg | .fabs | .fmin | .fmax | .fcmp => floatOp cap k op
  | .cvtIf | .cvtNf | .cvtFi | .cvtFn | .cvtXf | .cvtFx | .cvtIx | .cvtXi | .asNat | .asInt | .asFlt | .asAdr =>
    convOp cap k op
  | .crcStep | .par | .brev _ => bitsOp cap k op
  | .tagRd | .tagSet | .sel => tagOp cap k op
  | .timAddns | .timSub | .timCmp => timeOp cap k op
  | .aFetch | .rFetch | .lcFetch => copyOp cap k op
  | _ => stackOp cap k op

/-! ### The address unit (R91 to R94) -/

/-- The effect of operation B. -/
structure BOut where
  rs : Stk
  areg : AReg
  loops : List Loop
  /-- bubbles that pass, and the words that come before them (R188) -/
  bubbles : Nat := 0
  after : Nat := 0
  deriving DecidableEq, Repr

/-- A moved by an exact step within the width of the core's A. -/
def moveA (c : Nat) (a : AReg) (v : Int) : AReg := { a with pay := BitVec.ofNat 48 (v % (if c = spindle then 2 ^ 48 else 2 ^ 24 : Nat)).toNat }

/-- The circular step (R93). -/
def circStep (k : Core) (d : Int) : Int :=
  let a : Int := k.areg.pay.toNat
  let base : Int := bits k.acb 0 24
  let len : Int := bits k.acl 0 16
  if len = 0 then a + d else base + (a - base + d) % len

/-- The word a stack entry becomes as A. -/
def asA (c : Nat) (w : TWord) : AReg :=
  ⟨w.ty, w.q, w.rsv, if c = spindle then w.pay.setWidth 48 else BitVec.ofNat 48 (bits w.pay 0 24)⟩

/-- The tag check of A=TOS, A=NOS and A=RTOS (R92): at FULL the source must be ADR; `data` says that the source lies on the
data stack. A VOID source raises cause 2 at FULL, NUMERIC and ADDRESS: the copy into A is taken for the offer of an address
and not for a move (DEDUCED, log entry 123). -/
def aSource (k : Core) (w : TWord) (data : Bool) : Option Nat :=
  let c2 := decide (w.ty = .void ∧ k.modes.tcs ≠ .off)
  let c4 := data && decide (w.ty = .ret ∧ k.modes.level = .u)
  let c7 := (decide (k.modes.tcs = .full) && decide (w.ty ≠ .adr)) || (decide (k.modes.tcs = .numeric) && numericTy w.ty)
  if c2 then some 2 else if w.rsv then some 3 else if c4 then some 4 else if c7 then some 7 else none

/-- LBRK: the innermost active loop is on its last iteration (R94). -/
def breakInner : List Loop → List Loop
  | [] => []
  | l :: t => if l.entered then { l with left := min 1 l.now, taken := false } :: t else l :: breakInner t

/-- Every address-unit operation. A itself is checked as an operand of A+=, A+=C and A+=TOS, under R42: VOID, RSV, RET at U
and, at FULL, any type but ADR, INT and NAT fault (DEDUCED, log entry 124). -/
def addrOp (c cap pc : Nat) (k : Core) (op : BOp) : Except Exc BOut :=
  let o : BOut := ⟨k.rs, k.areg, k.loops, 0, 0⟩
  let r := k.rs.peek
  let rsvOf (ws : List TWord) : Check := tagCheck (if ws.any (·.rsv) then some 3 else none)
  let rmove (n : Nat) (read : List TWord) (out : List TWord) : Except Exc BOut :=
    checked [depthCheck 1 k.rs.depth cap n n out.length, rsvOf read] { o with rs := (k.rs.drop n).pushAll out }
  let rpush (i : Nat) : Except Exc BOut :=
    checked [depthCheck 0 k.ds.depth 0 (i + 1) 0 0, depthCheck 1 k.rs.depth cap 0 0 1, tagCheck (tagCauses k [(.move, k.ds.peek i)])]
      { o with rs := k.rs.push (k.ds.peek i) }
  let aOk : Check := tagCheck (tagCauses k [(.arith [.adr, .int, .nat], k.areg.word)])
  let aset (i : Nat) : Except Exc BOut :=
    checked [depthCheck 0 k.ds.depth 0 (i + 1) 0 0, tagCheck (aSource k (k.ds.peek i) true)] { o with areg := asA c (k.ds.peek i) }
  match op with
  | .nop => .ok o
  | .rdrop => rmove 1 [] []
  | .rdup => rmove 1 [r 0] [r 0, r 0]
  | .rswap => rmove 2 [r 0, r 1] [r 0, r 1]
  | .rover => rmove 2 [r 0, r 1] [r 1, r 0, r 1]
  | .rpushT => rpush 0
  | .rpushN => rpush 1
  | .aStep d => checked [aOk] { o with areg := moveA c k.areg (k.areg.pay.toNat + d.toInt) }
  | .aStepCirc d => checked [aOk] { o with areg := moveA c k.areg (circStep k d.toInt) }
  | .aSetTos => aset 0
  | .aSetNos => aset 1
  | .aAddTos =>
    let w := k.ds.peek 0
    checked [depthCheck 0 k.ds.depth 0 1 0 0,
      tagCheck (tagCauses k [(.arith [.adr, .int, .nat], k.areg.word), (.arith intIn, w)])]
      { o with areg := { moveA c k.areg (k.areg.pay.toNat + stepOf w) with q := k.areg.q.merge w.q } }
  | .aSetRtos => checked [depthCheck 1 k.rs.depth 0 1 0 0, tagCheck (aSource k (r 0) false)] { o with areg := asA c (r 0) }
  | .lbrk =>
    match k.inner with
    | none => .ok o
    | some l =>
      let n := l.stop - 1 - pc
      let b := if c ≠ spindle ∧ 1 < l.now ∧ l.start ≤ pc ∧ pc < l.stop ∧ n < 3 then 3 - n else 0
      .ok { o with loops := breakInner k.loops, bubbles := b, after := n }

end Sys2Proof.Machine
end

