-- ==== Sys2Proof/Machine/Access.lean ====
section
/-!
DEFINITION. Accesses of a core to the engine word space (13_pillow_memory.md R411 to R421, R426, R429 to R434,
03_kendil_encoding.md R95 to R97, 07_spindle_core.md R216, R217, 09_privilege_exceptions.md R275, 16_interrupts.md R516,
R517): the map, permission, reading, writing, and the waits they cost.
-/

namespace Sys2Proof.Machine

/-! ### The map (R416, R417) -/

/-- What an engine word address names. -/
inductive Place where
  | bank (a : Nat)
  | track (n : Nat)
  | gate (i : Nat)
  | scratch (i : Nat)
  | code (i : Nat)
  | codeRead (p i : Nat)
  deriving DecidableEq, Repr

/-- The place of an address as a core sees it; the alias is the bobbins' own. -/
def placeOf (c a : Nat) : Option Place :=
  if a < 0x400000 then some (.bank a)
  else if a < 0x401000 then some (.gate (a - 0x400000))
  else if a < 0x408000 then none
  else if a < 0x40A000 then some (.scratch (a - 0x408000))
  else if a < 0x410000 then none
  else if a < 0x410008 then some (.track (a - 0x410000))
  else if a < 0x440000 then none
  else if a < 0x480000 then (if c = spindle then none else some (.bank (pilOf c * 2 ^ 18 + (a - 0x440000))))
  else if a < 0x490000 then some (.code (a - 0x480000))
  else if a < 0x500000 then none
  else if a < 0x600000 then some (.codeRead ((a - 0x500000) / 2 ^ 16) ((a - 0x500000) % 2 ^ 16))
  else none

/-- Kinds of access. -/
inductive AccKind where
  | read | write | atomic
  deriving DecidableEq, Repr

/-- The access reads, writes. -/
def AccKind.reads (x : AccKind) : Bool := decide (x ≠ .write)
def AccKind.writes (x : AccKind) : Bool := decide (x ≠ .read)

/-! ### Permission (R415, R419, R420, R430) -/

/-- The bank is leased to the bobbin (R430). -/
def leasedTo (s : State) (p j c : Nat) : Bool :=
  decide (j < 5) && decide (leaseOf s p j = .leased) && decide (bits (leaseReg s p j) 0 2 = 2) &&
    decide (pilOf c = p ∧ bits (leaseReg s p j) 4 4 = c % 16)

/-- The strand-cache slot of the strand on a core. -/
def slotOf (k : Core) : Option Nat := k.strand.map (·.slot)

/-- The ownership map lets code at U of a bobbin reach a block (R420). -/
def ownAllows (s : State) (k : Core) (x : AccKind) (p block : Nat) : Bool :=
  let e := ownOf s p block
  match e % 4 with
  | 1 => decide (slotOf k = some (e / 4))
  | 2 => decide (x = .read) && k.strand.isSome
  | _ => false

/-- A bank access is permitted by level and area. -/
def bankAllowed (s : State) (c : Nat) (k : Core) (x : AccKind) (a : Nat) : Bool :=
  let p := a / 2 ^ 18
  let j := a / 2 ^ 15 % 8
  let off := a % 2 ^ 15
  if c ≠ spindle ∧ k.modes.level = .u then
    decide (p = pilOf c) && decide (j < 5) && (leasedTo s p j c || ownAllows s k x p (a % 2 ^ 18 / 16))
  else if j < 5 then true
  else if j = 5 then
    if off < 0x5000 then !x.writes
    else if off < 0x7000 then true
    else !x.writes || (decide (c = spindle ∧ k.modes.level = .m) && gateMode s)
  else !x.writes

/-- The bank serves accesses, at once or at the end of its fill (R415, R426). -/
def bankServes (s : State) (a : Nat) : Bool :=
  let st := bankPwr s (a / 2 ^ 18) (a / 2 ^ 15 % 8)
  decide (st = .on ∨ st = .waking)

/-- The strand that owns a tracking word is on the core (R350). -/
def ownsTrack (s : State) (k : Core) (n : Nat) : Bool :=
  decide (k.strand.map (·.idx) = some (trkOwner s n))

/-- An access to a place is permitted (R416; a code store is refused in DEPLOYED, 20_security.md R640). -/
def placeAllowed (s : State) (c : Nat) (k : Core) (x : AccKind) (pl : Place) : Bool :=
  let spn := decide (c = spindle)
  match pl with
  | .bank a => bankServes s a && bankAllowed s c k x a
  | .track n => !x.writes || ownsTrack s k n
  | .gate _ => spn && (!x.writes || (decide (k.modes.level = .m) && gateMode s))
  | .scratch _ => spn && decide (k.modes.level = .m) && !s.mem.scratchBad
  | .code _ => spn && decide (x = .write ∧ s.fuses.state ≠ .deployed)
  | .codeRead p _ => spn && decide (x = .read) && (decide (domSt s (384 + p) = .on) && decide (p ∉ s.mem.codeRetain))

/-- The place of an address that a core may access so, or AF (R97). -/
def accessPlace (s : State) (c : Nat) (k : Core) (x : AccKind) (a : Nat) : Except Exc Place :=
  if c = spindle ∧ k.modes.level = .u then .error (Exc.af a)
  else match placeOf c a with
    | none => .error (Exc.af a)
    | some pl => if placeAllowed s c k x pl then .ok pl else .error (Exc.af a)

/-- The access consults the ownership map (R420). -/
def consultsMap (c : Nat) (k : Core) (a : Nat) : Bool :=
  match placeOf c a with
  | some (.bank b) => decide (c ≠ spindle ∧ k.modes.level = .u ∧ b / 2 ^ 18 = pilOf c ∧ b / 2 ^ 15 % 8 < 5)
  | _ => false

/-- A parity error in the ownership entry makes the access raise AF and is signalled (R415). -/
def accessCheck (s : State) (c : Nat) (k : Core) (env : Env) (x : AccKind) (a : Nat) : Except Exc Place × State :=
  if env.ownParity && consultsMap c k a then
    (.error (Exc.af a), raiseErr s (pgPIL (pilOf c)) 2 8 [fabricUnit (pilOf c)])
  else (accessPlace s c k x a, s)

/-! ### Cycles -/

/-- A 64-bit counter in two registers raised by n, with the page's wrap interrupt. -/
def add64 (s : State) (page lo hi irq n : Nat) : State :=
  let v := (rd s page lo).toNat + 2 ^ 32 * (rd s page hi).toNat + n
  let s1 := wr (wr s page lo (w32 v)) page hi (w32 (v / 2 ^ 32))
  if 2 ^ 64 ≤ v then raiseIrq s1 page irq else s1

/-- Cycles of a core: clocked, and for a bobbin with a strand charged to its budget, BUDGET raised when it reaches 0 (R200, R239, R355,
R677). -/
def spend (s : State) (c n : Nat) : State :=
  let s1 := pmcCount s c 1 n
  if c = spindle then { s1 with spn := { s1.spn with cyc := s1.spn.cyc + n } }
  else
    let s2 := add64 s1 (pgBOB c) 0x090 0x094 0 n
    if (core s2 c).strand.isSome then
      modCore (pmcCount s2 c 8 n) c fun k =>
        { k with budgetLeft := k.budgetLeft - n, budgetPend := k.budgetPend || decide (0 < k.budgetLeft ∧ k.budgetLeft ≤ n) }
    else s2

/-! ### Waits (R178 to R180, R217, 21_debug_snag.md R679, R680) -/

/-- A counter that wraps at 32 bits raised by n, with the page's wrap interrupt. -/
def addWrap (s : State) (page off irq n : Nat) : State :=
  let v := (rd s page off).toNat + n
  let s1 := wr s page off (w32 v)
  if 2 ^ 32 ≤ v then raiseIrq s1 page irq else s1

/-- A field keeps the largest value it has met. -/
def maxField (s : State) (page off lo w v : Nat) : State := wrF s page off lo w (max (rdF s page off lo w) (min v (2 ^ w - 1)))

/-- A wait with the delay of the pillow's snag, clipped at its limit unless EXCEED is 1: the wait, whether the snag took it
past the limit, the state. -/
def snagWait (s : State) (p : Nat) (kinds : List Nat) (wait limit : Nat) : Nat × Bool × State :=
  let (d, s1) := snagFire s (pgPIL p) kinds
  if d = 0 then (wait, false, s1)
  else if rdB s (pgPIL p) 0x030 4 then (wait + d, decide (wait ≤ limit), s1)
  else (max wait (min (wait + d) limit), false, s1)

/-- The wait of one bank access of a bobbin (R179): counted, its maximum kept, a bound exceeded reported. Answers the stall
cycles. -/
def bankStall (s : State) (c a : Nat) (env : Env) : Nat × State :=
  let p := a / 2 ^ 18
  let five := decide (a / 2 ^ 15 % 8 = 5)
  if p = pilOf c then
    let lim := if five then 204 else 17
    let (w, inj, s1) := snagWait s p [1, 2] env.bankWait lim
    let s2 := maxField (pmcCount (addWrap s1 (pgBOB c) 0x098 0 w) c 6 w) (pgBOB c) 0x0A8 0 8 w
    let s3 := if 0 < w ∧ w ≠ env.bankWait then pmcCount s2 c 9 (w - env.bankWait) else s2
    (w, if lim < w then raiseErr s3 (pgBOB c) 0 0 [] inj else s3)
  else
    let lim := if five then 387 else 200
    let (w, inj, s1) := snagWait s p [3] env.remoteWait lim
    let s2 := maxField (addWrap s1 (pgBOB c) 0x09C 0 w) (pgBOB c) 0x0A8 8 16 w
    let s3 := if 0 < w ∧ w ≠ env.remoteWait then pmcCount s2 c 9 (w - env.remoteWait) else s2
    (w, if lim < w then raiseErr s3 (pgBOB c) 1 0 [] inj else s3)

/-- The wait of an access to an address: on a bobbin that of its bank; a window access of the spindle beyond 250 cycles is
reported (R217). -/
def accessStall (s : State) (c : Nat) (env : Env) (a : Nat) : Nat × State :=
  if c = spindle then (env.remoteWait, if 250 < env.remoteWait then raiseErr s pgSPN 4 else s)
  else match placeOf c a with
    | some (.bank b) => bankStall s c b env
    | _ => (0, s)

/-- An access that was made and ends in an exception has waited all the same (R179, R180): its wait is spent. -/
def accessSpent (s : State) (c : Nat) (env : Env) (a : Nat) : State :=
  let (n, u) := accessStall s c env a
  spend u c n

/-! ### Reading and writing -/

/-- The word at a place with what its array answers; none for an uncorrectable error (R49, R423). -/
def readPlace (s : State) (c : Nat) (pl : Place) (ecc : Ecc) : Option TWord × State :=
  match pl with
  | .bank a => bankRead s a (if c = spindle then 3 else 0) ecc
  | .track n => (some (SMap.get s.whrl.track voidWord n), s)
  | .gate i => (if ecc = .double then none else some (SMap.get s.mem.gate voidWord i), s)
  | .scratch i => (if ecc = .double then none else some (SMap.get s.mem.scratch voidWord i), s)
  | .code _ => (none, s)
  | .codeRead p i => match codeRead s p i 3 ecc with
    | (some w, u) => (some (TWord.nat w), u)
    | (none, u) => (none, u)

/-- A store to the EIC's words of bank 5 (R516, R517): claim words ignore it, completion words complete. -/
def eicWord (a : Nat) : Option (Bool × Nat) :=
  let off := a % 2 ^ 15
  if a / 2 ^ 15 % 8 ≠ 5 ∨ off < 0x6FC0 ∨ 0x6FE0 ≤ off then none
  else some (decide (0x6FD0 ≤ off), a / 2 ^ 18 * 16 + off % 16)

/-- A word stored at a place. -/
def writePlace (s : State) (_c : Nat) (k : Core) (pl : Place) (w : TWord) : State :=
  match pl with
  | .bank a =>
    match eicWord a with
    | some (false, _) => s
    | some (true, b) => eicComplete (bankSet s a w) (b + 1) (bits w.pay 0 11)
    | none => if k.modes.level = .u then bankSet s a w else storeAborts (bankSet s a w) a
  | .track n =>
    let l := tline s n
    let j := match k.strand with | some o => o.ply | none => 0
    setLine { s with whrl := { s.whrl with track := SMap.set s.whrl.track voidWord n w } } n
      { l with trkNew := SMap.insert l.trkNew j w }
  | .gate i => { s with mem := { s.mem with gate := SMap.set s.mem.gate voidWord i w } }
  | .scratch i => { s with mem := { s.mem with scratch := SMap.set s.mem.scratch voidWord i w } }
  | .code i =>
    let u := codeBroadcast s i w.pay
    { u with mem := { u.mem with codeRetain := [] } }
  | .codeRead _ _ => s

/-- The bank word as it stands: none where it cannot be read (R425). -/
def bankSeen (s : State) (a : Nat) : Option TWord := if a ∈ s.mem.bankBad then none else some (bankGet s a)

/-- The bank word as a load of the same bobbin sees it at distance 1 from a store, which may be one that cannot be read (R174). -/
def staleWord (k : Core) (pl : Place) : Option (Option TWord) :=
  match pl with
  | .bank a => (k.stale.find? fun e => decide (e.1 = a)).map (·.2)
  | _ => none

/-- A place read as a load sees it, a replaced word that cannot be read reported (R174, R425). -/
def readSeen (s : State) (c : Nat) (k : Core) (pl : Place) (ecc : Ecc) : Option TWord × State :=
  match staleWord k pl, pl with
  | some none, .bank a => (none, dedReport s a 0)
  | some (some w), _ => let (r, u) := readPlace s c pl ecc; (r.map fun _ => w, u)
  | _, _ => readPlace s c pl ecc

/-- A word loaded from an address: checks, the read, ME on an uncorrectable error. -/
def loadWord (s : State) (c : Nat) (k : Core) (env : Env) (a : Nat) : Except Exc TWord × State :=
  match accessCheck s c k env .read a with
  | (.error e, u) => (.error e, u)
  | (.ok pl, u) => match readSeen u c k pl env.ecc with
    | (none, v) => (.error (Exc.me a), accessSpent v c env a)
    | (some w, v) => (.ok w, v)

end Sys2Proof.Machine
end

