-- ==== Sys2Proof/Machine/Coh.lean ====
section
/-!
DEFINITION. The spindle's host memory system (07_spindle_core.md R212 to R237): regions, caches, the store buffer and its late
bus errors, the coherent agent's lines, requests, writebacks and snoops, the reservation.
-/

namespace Sys2Proof.Machine

/-! ### Regions and the window (R214 to R216, R238) -/

/-- The lowest-numbered enabled region that holds a byte address: its BASE and LIMIT words. -/
def regionOf (s : State) (a : Nat) : Option (W32 × W32) :=
  ((List.range 8).map fun n => (SMap.get s.spn.mar 0 (2 * n), SMap.get s.spn.mar 0 (2 * n + 1))).find? fun r =>
    decide (bits r.1 0 2 ≠ 0 ∧ bits r.1 4 28 ≤ a / 2 ^ 20 ∧ a / 2 ^ 20 ≤ bits r.2 4 28)

/-- A byte address in the engine window. -/
def inSpnWindow (s : State) (a : Nat) : Bool := decide (s.spn.winBase ≤ a ∧ a < s.spn.winBase + 2 ^ 27)

/-- The region type of a host byte address: 1 WB, 2 NC, 3 device, 0 none. -/
def regionType (s : State) (a : Nat) : Nat :=
  match regionOf s a with | some r => bits r.1 0 2 | none => 0

/-- A byte address in the register window (R3). -/
def inRegWindow (a : Nat) : Bool := decide (a / 2 ^ 24 = Config.engBase)

/-- Once the agent is disconnected the spindle reaches nothing outside its window and the register window (R608). -/
def reaches (s : State) (a : Nat) : Bool := s.spn.connected || inRegWindow a

/-- A host access is permitted at a level. -/
def hostAllowed (s : State) (k : Core) (write : Bool) (a : Nat) : Bool :=
  reaches s a && (match regionOf s a with
    | some r => decide (k.modes.level ≠ .u) || bit r.2 (if write then 1 else 0)
    | none => false)

/-- An instruction fetch at a byte address is permitted (R215, R216); code held in the L1 cache still runs once the agent is
disconnected (R608). -/
def fetchAllowed (s : State) (k : Core) (a : Nat) : Bool :=
  !inSpnWindow s a && (reaches s a || decide (a / 64 ∈ s.spn.l1i)) && (match regionOf s a with
    | some r => if k.modes.level = .u then bit r.2 2 else bit r.1 2
    | none => false)

/-! ### Lines -/

/-- A line of L2 written. -/
def l2Set (s : State) (line : Nat) (x : L2Line) : State :=
  { s with spn := { s.spn with l2 := SMap.set s.spn.l2 L2Line.none line x } }
/-- A line of the L1 data cache written, or dropped. -/
def l1Set (s : State) (line : Nat) (x : Option L1Line) : State :=
  { s with spn := { s.spn with l1d := SMap.set s.spn.l1d none line x } }

/-- The line is held (R229). -/
def LineSt.held : LineSt → Bool
  | .s | .e | .m => true
  | _ => false
/-- The line is owned. -/
def LineSt.owned : LineSt → Bool
  | .e | .m => true
  | _ => false

/-- The 64 bytes of a line as memory holds them. -/
def memLine (s : State) (line : Nat) : List Byte := physBytes s (line * 64) 64

/-- A dirty L1 line written into L2, which then holds it in M (R147). -/
def cleanL1 (s : State) (line : Nat) : State :=
  match l1Get s line with
  | some x =>
    if x.dirty then l1Set (l2Set s line ⟨.m, x.data⟩) line (some { x with dirty := false }) else s
  | none => s

/-- A free choice of one of a list. -/
def pickOne (s : State) (l : List Nat) : Option Nat × State :=
  match l with
  | [] => (none, s)
  | _ =>
    let (v, s1) := freeWord s
    (l[v.toNat % l.length]?, s1)

/-- A line put into the L1 data cache; a full set gives up one of its 8 lines, its data going to L2 (R212). -/
def l1Put (s : State) (line : Nat) (x : L1Line) : State :=
  let others := (s.spn.l1d.map (·.1)).filter fun l => decide (l % 64 = line % 64 ∧ l ≠ line)
  if others.length < 8 then l1Set s line (some x)
  else match pickOne s others with
    | (some v, s1) => l1Set (l1Set (cleanL1 s1 v) v none) line (some x)
    | (none, s1) => s1

/-- A line leaves both L1 caches and clears the reservation on it (R212, R227). -/
def dropL1 (s : State) (line : Nat) : State :=
  let s1 := l1Set s line none
  { s1 with spn := { s1.spn with
    l1i := s1.spn.l1i.filter fun l => decide (l ≠ line)
    rsv := if s1.spn.rsv = some line then none else s1.spn.rsv
    rsvHold := s1.spn.rsvHold && decide (s1.spn.rsv ≠ some line) } }

/-- A held line leaves L2: a dirty one through one of the 8 entries of the writeback buffer, in EP; none while they are all in
use (R229, R230). -/
def evict (s : State) (line : Nat) : Option State :=
  let data := lineData s line
  if lineDirty s line then
    if 8 ≤ s.spn.wb.length then none
    else
      let s1 := l2Set (dropL1 s line) line ⟨.ep, []⟩
      some { s1 with spn := { s1.spn with wb := s1.spn.wb ++ [(line, data)] } }
  else some (l2Set (dropL1 s line) line L2Line.none)

/-- A line put into L2; a full set gives up one of its 8 lines. None while that one waits for a writeback entry. -/
def install (s : State) (line : Nat) (x : L2Line) : Option State :=
  let held := (s.spn.l2.filter fun e => decide (e.1 % 1024 = line % 1024 ∧ e.1 ≠ line) && e.2.st.held).map (·.1)
  if held.length < 8 then some (l2Set s line x)
  else match pickOne s held with
    | (some v, s1) => (evict s1 v).map fun u => l2Set u line x
    | (none, _) => none

/-- A request to the directory, on one of 32 credits; the line is then in FP (R229, R230). -/
def request (s : State) (line : Nat) (own : Bool) : State :=
  if (s.spn.reqs.any fun r => decide (r.line = line)) || decide (32 ≤ s.spn.reqs.length) then s
  else
    let s1 := l2Set (l1Set s line none) line ⟨.fp, []⟩
    { s1 with spn := { s1.spn with reqs := s1.spn.reqs ++ [⟨line, own, s.now, false, false⟩] } }

/-- The first attempt of an access whose line is not held: one that waits for a request credit tries again (R230). -/
def firstTry (s : State) (line : Nat) : Bool :=
  !(s.spn.reqs.any fun r => decide (r.line = line)) && decide (line ∉ s.spn.missed)

/-- A miss in L2, counted once (R241). -/
def countL2 (s : State) (line : Nat) : State := if firstTry s line then bumpWrap s pgSPN 0x0B8 0 else s

/-- A counted miss asks for its line; where every credit is in use it tries again later (R230). -/
def requestMiss (s : State) (line : Nat) (own : Bool) : State :=
  let s1 := request s line own
  let asked := s1.spn.reqs.any fun r => decide (r.line = line)
  let others := s1.spn.missed.filter (· ≠ line)
  { s1 with spn := { s1.spn with missed := if asked then others else others ++ [line] } }

/-- A miss in L2: counted, requested; the second of two sequential misses in a 4 KiB page fetches the next line too, where
the prefetcher is on and that line is cacheable (R213, R216). -/
def missL2 (s : State) (line : Nat) (own : Bool) : State :=
  let fresh := firstTry s line
  let s2 := requestMiss (countL2 s line) line own
  let seq := fresh && rdB s pgSPN 0x080 0 && decide (s.spn.lastMiss = some (line - 1) ∧ 0 < line ∧ (line - 1) / 64 = line / 64)
  let s3 := if seq && !inSpnWindow s ((line + 1) * 64) &&
      decide ((l2Get s2 (line + 1)).st = .i ∧ regionType s ((line + 1) * 64) = 1) then request s2 (line + 1) false else s2
  if fresh then { s3 with spn := { s3.spn with lastMiss := some line } } else s3

/-- A line is poisoned (R235, R236). -/
def linePoisoned (s : State) (line : Nat) : Bool :=
  match inDram s (line * 64) with
  | some c => decide (c / 64 * 64 ∈ s.dra.poison)
  | none => decide (line ∈ s.mem.hostPoison)

/-! ### Late bus errors (R221) -/

/-- The code of an access size. -/
def sizeCode (n : Nat) : Nat := if n = 1 then 0 else if n = 2 then 1 else if n = 4 then 2 else 3

/-- A retired store has met an error: the first is latched, the later ones are counted. -/
def lateError (s : State) (e : SbEnt) (poison : Bool) : State :=
  if rdB s pgSPN 0x0A0 31 then bumpSat s pgSPN 0x0A0 8 8 1
  else
    let info := e.size + at' e.upper 2 + at' poison 3 + 2 ^ 31
    let s1 := wr (wr (wr s pgSPN 0x098 (w32 e.addr)) pgSPN 0x09C (w32 (e.addr / 2 ^ 32 % 2 ^ 16))) pgSPN 0x0A0 (w32 info)
    modCore (raiseIrq (raiseErr s1 pgSPN 5) pgSPN 1) spindle fun k => { k with lbePend := true }

/-! ### The store buffer (R218 to R220) -/

/-- Consecutive bytes, each at its address. -/
def placed (a : Nat) (l : List Byte) : List (Nat × Byte) := l.zipIdx.map fun e => (a + e.2, e.1)

/-- Bytes of a list that begins at an address, with some of them replaced. -/
def patch (base : Nat) (l : List Byte) (b : List (Nat × Byte)) : List Byte :=
  b.foldl (fun d e => if base ≤ e.1 then d.set (e.1 - base) e.2 else d) l

/-- Bytes stored in an owned line: L1 takes them, L2 holds the line in M; a line that L1 did not hold is a miss (R212, R241). -/
def writeLine (s : State) (line : Nat) (b : List (Nat × Byte)) : State :=
  let d := patch (line * 64) (lineData s line) b
  let s0 := if (l1Get s line).isNone then bumpWrap s pgSPN 0x0B4 0 else s
  let s1 := l2Set s0 line { l2Get s0 line with st := .m }
  l1Put s1 line ⟨true, d⟩

/-- The oldest store drains: to memory where it is not cached; into its line where that is owned; else it asks for
ownership and waits. -/
def drainOne (s : State) (e : SbEnt) (t : List SbEnt) : Option State :=
  let s0 := { s with spn := { s.spn with sb := t } }
  if e.device || decide (regionType s e.addr ≠ 1) then
    some (if lineBad s (e.addr / 64) then lateError s0 e (linePoisoned s (e.addr / 64))
      else e.bytes.foldl (fun u b => physSet u b.1 b.2) s0)
  else if (l2Get s (e.addr / 64)).st.owned then some (writeLine s0 (e.addr / 64) e.bytes)
  else none

/-- Stores drain in program order as far as they can; the first that cannot requests its line. -/
def drainStores (s : State) : Nat → State
  | 0 => s
  | n + 1 => match s.spn.sb with
    | [] => s
    | e :: t => match drainOne s e t with
      | some u => drainStores u n
      | none => if (l2Get s (e.addr / 64)).st = .fp ∨ (l2Get s (e.addr / 64)).st = .ep then s else missL2 s (e.addr / 64) true

/-- The store buffer drained as far as it goes. -/
def drainSb (s : State) : State := drainStores s s.spn.sb.length

/-- Every byte of a store lies in one 8-byte doubleword. -/
def SbEnt.within (e : SbEnt) (dw : Nat) : Bool := e.bytes.all fun b => decide (b.1 / 8 = dw)

/-- A store retires into the buffer; it merges into the youngest entry, where that one lies in the same doubleword of WB or NC
memory (R220). An older entry takes nothing: stores appear in program order (R218). -/
def pushStore (s : State) (e : SbEnt) : State :=
  let dw := e.addr / 8
  match s.spn.sb.reverse with
  | x :: _ =>
    if !x.device && !e.device && x.within dw && e.within dw then
      let b := (x.bytes.filter fun y => !(e.bytes.any fun z => decide (z.1 = y.1))) ++ e.bytes
      { s with spn := { s.spn with sb := s.spn.sb.dropLast ++ [{ x with bytes := b }] } }
    else { s with spn := { s.spn with sb := s.spn.sb ++ [e] } }
  | [] => { s with spn := { s.spn with sb := [e] } }

/-- Bytes as a load sees them: those of the stores still buffered over what the memory system holds (R218). -/
def forward (s : State) (a : Nat) (l : List Byte) : List Byte := s.spn.sb.foldl (fun d e => patch a d e.bytes) l

/-! ### Snoops (R228, R232, R233) -/

/-- The answer to a snoop from the line's state: data of a dirty line goes to the directory; ownership taken clears the
reservation (R227). -/
def answerSnoop (s : State) (line : Nat) (kind : Snoop) : State :=
  let x := l2Get s line
  let note (u : State) (data : Bool) : State := { u with spn := { u.spn with answered := (line, data) :: u.spn.answered } }
  if !x.st.held then note s false
  else
    let dirty := lineDirty s line
    let d := lineData s line
    let s1 := if dirty then physSetList s (line * 64) d else s
    let s2 := match kind with
      | .share =>
        let s3 := l2Set s1 line ⟨.s, d⟩
        let s4 := match l1Get s3 line with | some y => l1Set s3 line (some { y with dirty := false }) | none => s3
        if s4.spn.rsv = some line ∧ x.st.owned = true then { s4 with spn := { s4.spn with rsv := none, rsvHold := false } } else s4
      | .invalidate =>
        let keep := s1.spn.l1i
        let s3 := l2Set (dropL1 s1 line) line L2Line.none
        { s3 with spn := { s3.spn with l1i := keep } }
    note s2 dirty

/-- A snoop that must wait: its line is in FP, or the reservation on it is held. -/
def snoopHeld (s : State) (line : Nat) : Bool :=
  decide ((l2Get s line).st = .fp) || (s.spn.rsvHold && decide (s.spn.rsv = some line))

/-- Snoops that no longer wait are answered. -/
def serveSnoops (s : State) : State :=
  s.spn.snoops.foldl (fun u e =>
    if snoopHeld u e.1 then u
    else answerSnoop { u with spn := { u.spn with snoops := u.spn.snoops.erase e } } e.1 e.2) s

/-- The reservation goes (R227); a snoop it held off is answered (R228). -/
def clearRsv (s : State) : State := serveSnoops { s with spn := { s.spn with rsv := none, rsvHold := false } }

/-- The snoops that a reservation held off are answered where it has gone since `s` (R228). -/
def rsvGone (s t : State) : State := if s.spn.rsv.isSome && t.spn.rsv.isNone then serveSnoops t else t

/-! ### What the arrays answer (R212, R243) -/

/-- A read or write of a held line meets its arrays: a single-bit error is corrected; a double error of L1 is cured by a refetch
where the line is clean there, and is ME where it is dirty; a double error of L2 is ME. -/
def lineEcc (s : State) (env : Env) (a : Nat) : Check × State :=
  match l1Get s (a / 64), env.l1, env.ecc with
  | some y, .double, _ => if y.dirty then (some (Exc.me a), s) else (none, raiseErr s pgSPN 1)
  | some _, .single, _ => (none, raiseErr s pgSPN 1)
  | some _, _, _ => (none, s)
  | none, _, .double => (some (Exc.me a), raiseErr s pgSPN 3)
  | none, _, .single => (none, raiseErr s pgSPN 2)
  | none, _, _ => (none, s)

/-! ### Spill and fill (R69, R71, R238) -/

/-- Byte address of container i of a spill region (R238). -/
def spillAddr (s : State) (base : W32) (i : Nat) : Nat := s.spn.spillHi.toNat * 2 ^ 32 + base.toNat + 8 * i

/-- The first of containers lo to hi of a spill region that lies outside WB memory, or whose memory answers an error (R71, R238). -/
def spillCheck (s : State) (base : W32) (lo hi : Nat) : Check :=
  firstExc ((List.range (hi - lo)).map fun i =>
    let a := spillAddr s base (lo + i)
    if inSpnWindow s a || !reaches s a || decide (regionType s a ≠ 1) then some (Exc.af a)
    else if !(l2Get s (a / 64)).st.held && lineBad s (a / 64) then some (Exc.me a) else none)

/-- The lines of containers lo to hi, in order. -/
def spillLines (s : State) (base : W32) (lo hi : Nat) : List Nat :=
  ((List.range (hi - lo)).map fun i => spillAddr s base (lo + i) / 64).eraseDups

/-- Containers lo to hi are reached: what memory answers, what the arrays answer of each line held, and the errors that are set (R71,
R236, R238, R243). -/
def spillAt (s : State) (env : Env) (base : W32) (lo hi : Nat) : Check × State :=
  match spillCheck s base lo hi with
  | some x => (some x, if x.vec = 10 && linePoisoned s (x.faddr / 64) then raiseErr s pgSPN 6 else s)
  | none => (spillLines s base lo hi).foldl (fun r line => match r with
    | (some e, u) => (some e, u)
    | (none, u) => if (l2Get u line).st.held then lineEcc u env (line * 64) else (none, u)) (none, s)

/-- The containers that a stack reaches when its depth goes from d to e. -/
def spillMeets (s : State) (env : Env) (base : W32) (d e : Nat) : Check × State :=
  spillAt s env base (min (d - 8) (e - 8)) (max (d - 8) (e - 8))

/-- Bytes of WB memory as the spindle sees them: buffered stores over a held line or one in the writeback buffer, else over memory. -/
def cohBytes (s : State) (a n : Nat) : List Byte :=
  let part (l : List Byte) : List Byte := (l.drop (a % 64)).take n
  forward s a (if (l2Get s (a / 64)).st.held then part (lineData s (a / 64))
    else match s.spn.wb.find? fun e => decide (e.1 = a / 64) with
      | some e => part e.2
      | none => physBytes s a n)

/-- The misses of an access of a spill or fill, counted: L1 and L2 (R241). -/
def spillMiss (s : State) (line : Nat) : State :=
  let s1 := if (l1Get s line).isNone then bumpWrap s pgSPN 0x0B4 0 else s
  if (l2Get s line).st.held then s1 else bumpWrap s1 pgSPN 0x0B8 0

/-- Bytes of WB memory written by a spill: into the line where the agent owns it (R229), else to memory, as the line's owner would
write them, a copy in S given up, a line in the writeback buffer changed there. The coherent traffic of spills and fills is not
stated: no request of theirs is left waiting (DESIGN CHOICE, log entry 132). -/
def spillWrite (s : State) (a : Nat) (b : List Byte) : State :=
  let line := a / 64
  if (l2Get s line).st.owned then writeLine s line (placed a b)
  else
    let s1 := spillMiss s line
    let s2 := if (l2Get s1 line).st = .s then l2Set (dropL1 s1 line) line L2Line.none else s1
    if s2.spn.wb.any fun e => decide (e.1 = line) then
      { s2 with spn := { s2.spn with wb := s2.spn.wb.map fun e =>
        if e.1 = line then (e.1, patch (line * 64) e.2 (placed a b)) else e } }
    else physSetList s2 a b

/-- Entries of a stack from depth lo up to hi written to their containers (R50, R238). -/
def spillOut (s : State) (base : W32) (x : Stk) (lo hi : Nat) : State :=
  (List.range (hi - lo)).foldl (fun u i => spillWrite u (spillAddr u base (lo + i)) (leBytes 8 (x.get (lo + i)).container.toNat)) s
/-- A stack with its entries from depth lo up to hi read back from their containers. -/
def fillIn (s : State) (base : W32) (x : Stk) (lo hi : Nat) : Stk × State :=
  ((List.range (hi - lo)).foldl (fun y i =>
    y.put (lo + i) (TWord.ofContainer (BitVec.ofNat 64 (leNat (cohBytes s (spillAddr s base (lo + i)) 8))))) x,
    (spillLines s base lo hi).foldl spillMiss s)

/-- Entries below the top eight that a word has changed are written to their containers (R69). -/
def spillChanged (s : State) (base : W32) (y x : Stk) (n : Nat) : State :=
  (List.range n).foldl (fun u i => if y.get i = x.get i then u else spillOut u base x i (i + 1)) s

/-- A stack y that has become x: the eight entries on top are renamed, the deeper ones lie in the region (R69, R238). -/
def spillMove (s : State) (base : W32) (y x : Stk) : Stk × State :=
  let lo := y.depth - 8
  let hi := x.depth - 8
  let s1 := spillChanged s base y x (min lo hi)
  if lo < hi then (x, spillOut s1 base x lo hi)
  else if hi < lo then fillIn s1 base x hi (min lo x.depth)
  else (x, s1)

end Sys2Proof.Machine
end

