-- ==== Sys2Proof/Machine/Seq.lean ====
section
/-!
DEFINITION. The microcode sequencers (08_microcode.md R244 to R256): microwords, condition groups, next-address formation, the
match entries of a patch, the contexts, and what a run of a routine leaves; which interrupts a core admits
(09_privilege_exceptions.md R286).
-/

namespace Sys2Proof.Machine

/-! ### What a core admits (R195, R286) -/

/-- The level of an interrupt of a priority (R286). -/
def intLevel (prio : Nat) : Nat := (prio + 1) / 2

/-- The EIC target of a core. -/
def eicTarget (c : Nat) : Nat := if c = spindle then 0 else c + 1

/-- The interrupt that the EIC presents to a core and a mask level admits; a strand of class P on a bobbin, and a step
without STEP_IRQ, hold them all (R195, R286, R667). -/
def admitted (s : State) (c mask : Nat) : Option (Nat × Nat) :=
  let k := core s c
  let held : Bool := (decide (c ≠ spindle) && runsP s k) ||
    (match k.haltReq with | .stepping irq => !irq | _ => false)
  if held then none
  else match presented s (eicTarget c) with
    | some (n, p) => if mask < intLevel p then some (n, p) else none
    | none => none

/-! ### Sequencers and their words (R244, R245, R252, R256) -/

/-- The sequencer that serves a core, and the core's context in it (R245). -/
def seqOf (c : Nat) : Nat := if c = spindle then 16 else pilOf c
def seqCtx (c : Nat) : Nat := if c = spindle then 272 else pilOf c * 17 + c % 16

/-- The context of a core. -/
def microCtx (s : State) (c : Nat) : MicroCtx := SMap.get s.ucs.ctxs MicroCtx.reset (seqCtx c)
/-- It written. -/
def setMicroCtx (s : State) (c : Nat) (x : MicroCtx) : State :=
  { s with ucs := { s.ucs with ctxs := SMap.set s.ucs.ctxs MicroCtx.reset (seqCtx c) x } }

/-- The patch in a sequencer's patch RAM. -/
def seqPatch (s : State) (q : Nat) : Option Patch := SMap.get s.ucs.ram none q

/-- The live match entries of a patch: those that are valid. -/
def Patch.live (p : Patch) : List W32 := p.matches'.filter fun m => bit m 31

/-- The address that is fetched: the patch RAM word of the match entry that names the address, or the address itself (R256). -/
def matched (p : Option Patch) (a : Nat) : Nat :=
  match p.bind fun x => x.live.find? fun m => decide (bits m 0 13 = a) with
  | some m => 0x2000 + bits m 16 10
  | none => a

/-- The word at a mapped control-store address: the ROM's, one for the spindle and one alike in all pillows, or patch RAM's (R244). A patch
RAM slot that no patch fills holds zero: R258 says so of the slots that an image leaves unused, and nothing of a sequencer without a patch
(DESIGN CHOICE, log entry 164). -/
def microWord (spn : Bool) (p : Option Patch) (a : Nat) : W32 :=
  if a < 0x2000 then (Config.rom spn a).setWidth 32
  else match p with
    | some x => x.words.getD (a - 0x2000) 0
    | none => 0

/-- A reserved CLASS, or a reserved value of a field (R252); the cause of a FAULT is the entry of a synchronous exception (R285). Bits
that the formats do not name are not looked at (DEDUCED, log entry 128). -/
def uwReserved (w : W32) : Bool :=
  match bits w 20 4 with
  | 0 => decide (bits w 8 10 ≠ 0 ∨ (bits w 18 2 ≠ 3 ∧ bits w 0 8 ≠ 0) ∨ (bits w 18 2 = 3 ∧ (bits w 0 8 = 0 ∨ 12 ≤ bits w 0 8)))
  | 1 => decide (6 ≤ bits w 16 4)
  | 7 => decide (6 ≤ bits w 17 3)
  | 8 => decide (6 ≤ bits w 16 4)
  | n => decide (9 ≤ n)

/-! ### Next-address formation (R254, R255) -/

/-- What the condition groups 3 to 5 show of a core (R255): its stacks, where one more push overflows and one more pop underflows, the
grant, the message queues, the condition of the Kendil word. -/
structure MicroSight where
  dsOver : Bool
  dsUnder : Bool
  rsOver : Bool
  rsUnder : Bool
  grant : Bool
  queueFull : Bool
  queueEmpty : Bool
  cond : Bool
  deriving DecidableEq, Repr

/-- What a context of a core sees: the full queue is that of the strand whose ID is on top of the data stack, where SEND has it, the empty
one that of the core's own strand, which WAIT reads (DEDUCED, log entry 128). -/
def microSight (s : State) (c : Nat) (x : MicroCtx) (cond : Bool) : MicroSight :=
  let k := core s c
  let dest := (k.ds.peek 0).pay
  { dsOver := decide (dsCap s c ≤ k.ds.depth), dsUnder := decide (k.ds.depth = 0)
    rsOver := decide (rsCap s c ≤ k.rs.depth), rsUnder := decide (k.rs.depth = 0)
    grant := x.grant
    queueFull := decide (idEngine dest = s.glb.engineNum) &&
      (match strand s (idIndex dest) with | some y => !destRoom s y | none => false)
    queueEmpty := match k.strand.bind fun o => ply? s o.idx o.ply with | some p => p.queue.isEmpty | none => true
    cond := cond }

/-- The four bits of a condition group (R255), bit 0 the least significant; none for a reserved group. -/
def condGroup (g : Nat) (u0 : TWord) (level : Level) (irq : Bool) (m : MicroSight) (f : MicroCond) : Option Nat :=
  let four (a b c d : Bool) : Nat := at' a 3 + at' b 2 + at' c 1 + at' d 0
  match g with
  | 0 => some u0.ty.code
  | 1 => some (at' u0.q.tst 3 + at' u0.q.der 2 + u0.q.val.code)
  | 2 => some (four irq f.elementFault f.countLast f.countZero)
  | 3 => some (four m.dsOver m.dsUnder m.rsOver m.rsUnder)
  | 4 => some (four m.grant f.remoteDone m.queueFull m.queueEmpty)
  | 5 => some (four false (decide (level = .m)) (decide (level = .s)) m.cond)
  | _ => none

/-- UCOND of a JUMP holds (R252). -/
def uCond (n : Nat) (f : MicroCond) : Bool :=
  match n with
  | 0 => true
  | 1 => f.uZero
  | 2 => !f.uZero
  | 3 => f.carry
  | 4 => f.countZero
  | 5 => f.countLast
  | 6 => f.faultPending
  | _ => true

/-- The next address of a word at `pc`, before the match entries are compared, and the micro-return stack after it; none where
that stack is misused (R252, R254). -/
def nextAddr (w : W32) (pc : Nat) (ret : List Nat) (group : Nat) (f : MicroCond) : Option (Nat × List Nat) :=
  match bits w 20 4 with
  | 1 => some (Nat.lor (bits w 0 14) (group % 2 ^ (bits w 14 2 + 1)), ret)
  | 2 =>
    if !uCond (bits w 17 3) f then some (pc + 1, ret)
    else if bits w 17 3 = 7 then
      match ret with
      | a :: t => some (a, t)
      | [] => none
    else if bit w 16 then (if 4 ≤ ret.length then none else some (bits w 0 14, (pc + 1) :: ret))
    else some (bits w 0 14, ret)
  | _ => some (pc + 1, ret)

/-- The micro-register that a word loads, with what the datapath gives it; a LIT gives its own value (R252). -/
def microLoad (w : W32) (v : TWord) : Option (Nat × TWord) :=
  match bits w 20 4 with
  | 3 => some (bits w 10 5, v)
  | 4 => if bit w 19 then none else some (bits w 10 5, v)
  | 5 => if bits w 16 2 = 1 ∨ bits w 16 2 = 2 then some (bits w 0 5, v) else none
  | 6 => some (bits w 15 5, TWord.nat (w32 (bits w 0 15)))
  | 7 => some (bits w 0 5, v)
  | _ => none

/-- U registers with one written. -/
def setU (u : List TWord) (i : Nat) (w : TWord) : List TWord := (u ++ List.replicate (32 - u.length) voidWord).set i w

/-! ### A run (R245 to R247, R252, R253) -/

/-- How a run of a routine has ended: it goes on or has reached its END, it has raised the exception of an entry, or it has locked up its
core. -/
inductive MicroEnd where
  | on | ended
  | faulted (entry : Nat)
  | locked
  deriving DecidableEq, Repr

/-- A control-store word that cannot be read stays so until it is written anew (R253). -/
def microBad (s : State) (c a : Nat) : State :=
  let key := seqOf c * 2 ^ 14 + a
  { s with ucs := { s.ucs with bad := if key ∈ s.ucs.bad then s.ucs.bad else key :: s.ucs.bad } }

/-- The word that a fetch delivers, where it can be read: a corrected one is counted and sets CS_SEC; one with more errors is a free
word, reported as a correction or not at all (R49, R253). -/
def microFetch (s : State) (c a : Nat) (ecc : Ecc) : Option W32 × State :=
  let w := microWord (decide (c = spindle)) (seqPatch s (seqOf c)) a
  let count (u : State) : State := raiseErr (bumpSat u pgUCS 0x0A4 0 16 1) pgUCS 0
  if seqOf c * 2 ^ 14 + a ∈ s.ucs.bad then (none, s)
  else match ecc with
    | .clean => (some w, s)
    | .single => (some w, count s)
    | .double => (none, microBad s c a)
    | .miscorrected => let (v, u) := free32 s; (some (w32 (bits v 0 24)), count u)
    | .unnoticed => let (v, u) := free32 s; (some (w32 (bits v 0 24)), u)

/-- The grant of bank 5 after a word: a MEM word to the bank or the message queue takes it with its lock bit and gives it back without, and
so does the END (R248; DEDUCED, log entry 128). -/
def microGrant (w : W32) (held : Bool) : Bool :=
  match bits w 20 4 with
  | 0 => if bits w 18 2 = 1 ∨ bits w 18 2 = 3 then false else held
  | 4 => if bits w 16 2 = 0 ∨ bits w 16 2 = 2 then bit w 18 else held
  | _ => held

/-- One microcycle of a context: the fetch with its errors, the word's effect on the context, the next address. A COMMIT starts
the microcycle count over, so that GATE's count is that of its switch phase (R246, R247; DEDUCED, log entry 128). -/
def microStep (s : State) (c : Nat) (cond : Bool) (x : MicroCtx) (f : MicroFetch) : MicroEnd × MicroCtx × State :=
  let ded (u : State) : State := raiseErr u pgUCS 1 0 [coreUnit c]
  let illegal (u : State) : State := raiseErr u pgUCS 2 0 [coreUnit c]
  let x1 := { x with cycles := x.cycles + 1 }
  if 0x2400 ≤ x.pc then (.locked, x1, illegal (ded s))
  else match microFetch s c x.pc f.ecc with
    | (none, s1) => (.locked, x1, ded s1)
    | (some w, s1) =>
      let k := core s c
      let irq := (admitted s c k.modes.mask).isSome
      match if uwReserved w then none
        else some (condGroup (bits w 16 4) (x.u.getD 0 voidWord) k.modes.level irq (microSight s c x cond) f.cond) with
      | none => (.locked, x1, illegal s1)
      | some g =>
        match nextAddr w x.pc x.ret (g.getD 0) f.cond with
        | none => (.locked, x1, illegal s1)
        | some (a, ret) =>
          let u := match microLoad w f.value with | some (i, v) => setU x.u i v | none => x.u
          let op := if bits w 20 4 = 0 then bits w 18 2 else 0
          let cycles := if op = 2 then 0 else x1.cycles
          (if op = 1 then .ended else if op = 3 then .faulted (bits w 0 8) else .on,
            { pc := matched (seqPatch s (seqOf c)) a, u := u, ret := ret, cycles := cycles, grant := microGrant w x.grant }, s1)

/-- Microcycles in turn, as far as END, FAULT or an error. -/
def microRun (c : Nat) (cond : Bool) : List MicroFetch → MicroCtx → State → MicroEnd × MicroCtx × State
  | [], x, s => (.ended, x, s)
  | f :: t, x, s =>
    match microStep s c cond x f with
    | (.on, y, u) => microRun c cond t y u
    | r => r

/-- The routine of a microcoded word, entry or strand switch of a core, whose Kendil word's COND is `cond` (R246): how its run ends, and
what it leaves; a core whose routine does not go on locks up (R252, R253). Of an atomic routine that reaches microcycle 49 the
END still comes, and ATOMIC_BOUND is set (R247). -/
def sequencer (s : State) (c : Nat) (atomic cond : Bool) (r : MicroRun) : MicroEnd × State :=
  if r.fetches = [] then (.ended, s)
  else
    let x := microCtx s c
    let (e, y, s1) := microRun c cond r.fetches
      { x with pc := matched (seqPatch s (seqOf c)) r.start, ret := [], cycles := 0, grant := false } s
    let s2 := setMicroCtx s1 c y
    (e, if decide (e = .ended) && atomic && decide (49 ≤ y.cycles) then raiseErr s2 pgUCS 3 0 [coreUnit c] else s2)

end Sys2Proof.Machine
end

