-- ==== Sys2Proof/Machine/Leave.lean ====
section
/-!
DEFINITION. The strand switch (08_microcode.md R246, R249, R251, 11_strands_whorl.md R338, R352 to R355, R367): the save of a strand
that leaves its bobbin, the load of one that starts, and the COMMIT points at which an interrupt stops either.
-/

namespace Sys2Proof.Machine

/-- Another core stands in the middle of a switch of the strand: the switch of its ply partner does not start (R251). -/
def partnerSwitching (s : State) (b idx : Nat) : Bool :=
  s.cores.any fun e => decide (e.1 ≠ b) && (match e.2.switch with | some w => decide (w.who.idx = idx) | none => false)

/-- The COMMIT point at which a switch of n words stops: one at which the runtime context admits an interrupt (R251). -/
def switchStop (s : State) (b : Nat) (env : Env) (n : Nat) : Option Nat :=
  match env.elems with
  | some i => if i < n ∧ (admitted s b (core s b).rtModes.mask).isSome = true then some i else none
  | none => none

/-! ### Saving (R338, R352) -/

/-- The rest of a save, from word i on, once the core has been left: the words, what the ply awaits, the CRC for the ply check
at YIELD (R389), its state. A save that meets a double-bit error in the slot places the strand in FAULTED (R367). -/
def saveRest (s : State) (b : Nat) (o : OnCore) (i : Nat) (ws : List TWord) (side : Side) (x : SaveEnd) (ecc : Ecc) : State :=
  let (bad, s0) := slotRead s (pilOf b) o.slot 0 ecc
  let s1 := saveWords s0 o.idx o.ply i ws side x.pre
  let s2 := modPly s1 o.idx o.ply fun p =>
    { p with waitFor := x.wf, ctxCrc := if x.atYield then some (ctxCrcOf s1 o.idx p) else p.ctxCrc }
  let s3 := plyLeaves s2 o.idx o.ply (if bad then .faulted else x.st)
  if x.pre then s3
  else
    let s4 := if x.atYield then ctxCompare s3 o.idx else s3
    let s5 := afterLeave s4 b o.idx
    if x.atYield then clbAck s5 b else s5

/-- A save goes on from word i with the words left, as far as the next COMMIT point at which it stops, or to its end (R251). -/
def saveOn (s : State) (b : Nat) (o : OnCore) (i : Nat) (ws : List TWord) (side : Side) (x : SaveEnd) (env : Env) : State :=
  match switchStop s b env ws.length with
  | some n =>
    modCore (saveWords s o.idx o.ply i (ws.take n) side x.pre) b fun y =>
      { y with switch := some ⟨o, i + n, ws.drop n, some x, side, y.rsP.depth⟩ }
  | none => saveRest s b o i ws side x env.ecc

/-- What a save at YIELD, WAIT or preemption leaves: the drain point commits open slots (R140), the context is saved, the ply leaves
in its state, the bobbin is idle and acknowledges a barrier. An error of the slot is what `env.ecc` says. -/
def leaveWith (s : State) (b : Nat) (o : OnCore) (x : SaveEnd) (env : Env) : State :=
  let k := drain (core s b)
  let s0 := setCore s b k
  let s1 := if x.atYield then pubDrain s0 o.idx o.ply x.agree else s0
  let (ws, s2) := liveWords s1 b k x.pre
  saveOn (leaveBob s2 b) b o 0 ws (sideOf k) x env

/-! ### Loading (R352 step 6, R355) -/

/-- The wait of a routine's accesses to bank 5 of pillow p (R179, R196). -/
def poolStall (s : State) (c p : Nat) (env : Env) : Nat × State :=
  if c = spindle then (0, s) else bankStall s c (bankAddr p 5 0) env

/-- The message in buffer n of a bobbin's pillow as WAIT reads it: a word that cannot be read gives ME, and a RET word is not
placed on the data stack at U (R42 cause 4, R49). -/
def takeMsg (s : State) (b : Nat) (k : Core) (n : Nat) (env : Env) : Except Exc Msg × State :=
  let a := bufAddr (pilOf b) n
  let bad := ((List.range 10).map (a + ·)).find? fun x => decide (x ∈ s.mem.bankBad)
  match readPlace s b (.bank (bad.getD a)) env.ecc with
  | (none, u) => (.error (Exc.me (bad.getD a)), u)
  | (some _, u) =>
    let m := msgAt u (pilOf b) n
    if k.modes.level = .u ∧ (m.words.any fun w => decide (w.ty = .ret)) = true then (.error (Exc.tf 4), u) else (.ok m, u)

/-- The current tick of a strand (R144): the tick that closed last on its tick line; of one that no tick releases, the tick that closes
next on the line that its TL names (DESIGN CHOICE, log entry 149). -/
def curTick (s : State) (d : List W32) : Nat :=
  if dTrig d = 0 then rdF s pgWHRL (tlOff (dTl d) 0x18) 0 17 else (tline s (dTl d)).tick

/-- The rest of a load: the context, with the words read before as they were read; a WAIT that has ended delivers its message, in an
atomic routine of its own, after the wait for bank 5 that is no part of the budget (R142, R179, R246, R248, R355). Answers the exception of
a message that cannot be delivered, which then stays. -/
def loadRest (s : State) (b : Nat) (o : OnCore) (early : List TWord) (env : Env) : Option Exc × State :=
  match strand s o.idx, ply? s o.idx o.ply with
  | some x, some p =>
    let given := if p.waitFor.isSome then p.queue.head? else none
    let (go, s') := if given.isSome then sequencer s b true true env.entry else (.ended, s)
    let (wt, s0) := if given.isSome then poolStall s' b (pilOf b) env else (0, s')
    let (c, s1) := loadImage (spend s0 b wt) (core (spend s0 b wt) b) o p (dBudget x.decl) (decide (dCls x.decl = 0)) early
    let (got, s2) : Except Exc (Option Msg) × State := match go, given with
      | .faulted v, _ => (.error ⟨v, 0, 0⟩, s1)
      | _, none => (.ok none, s1)
      | _, some n => match takeMsg s1 b c n { env with ecc := env.ecc2 } with
        | (.ok m, u) => (.ok (some m), u)
        | (.error e, u) => (.error e, u)
    let run (k : Core) (u : State) (left : List Nat) : State :=
      modPly (setCore u b (wdogReload u k)) o.idx o.ply fun q =>
        { q with st := .running, preempted := false, waitFor := none, queue := left
                 tickNum := if p.waitFor.isSome then curTick u x.decl else q.tickNum }
    match go, got with
    | .locked, _ => (none, lockUp (run c s2 p.queue) b)
    | _, .error e => (some e, run c s2 p.queue)
    | _, .ok m => (none, run (if p.waitFor.isSome then waitPush c m else c) s2 (if m.isSome then p.queue.tail else p.queue))
  | _, _ => (none, s)

/-- A load goes on with the words already read, as far as the next COMMIT point at which it stops, or to its end: one of class M or B
stops, one of class P or C does not (R251). A slot that cannot be read places the strand in FAULTED (R367). -/
def loadOn (s : State) (b : Nat) (o : OnCore) (early : List TWord) (side : Side) (env : Env) : Option Exc × State :=
  let cls := match strand s o.idx with | some x => dCls x.decl | none => 0
  match if 2 ≤ cls then switchStop s b env (38 - early.length) else none with
  | some n =>
    let more := match ply? s o.idx o.ply with
      | some p => (List.range n).map fun i => ctxGet s o.idx p (early.length + i)
      | none => []
    (none, modCore s b fun k => { k with switch := some ⟨o, early.length + n, early ++ more, none, side, k.rsP.depth⟩ })
  | none => match slotRead s (pilOf b) o.slot 0 env.ecc with
    | (true, u) => (none, plyLeaves u o.idx o.ply .faulted)
    | (false, u) => loadRest u b o early env

/-- A switch that a COMMIT point stopped goes on from its next word (R251), in its routine (R246). -/
def finishSwitch (s : State) (b : Nat) (env : Env) : Option Exc × State :=
  match (core s b).switch with
  | none => (none, s)
  | some w =>
    match sequencer (modCore s b fun k => { k with switch := none }) b false true env.seq with
    | (.locked, u) => (none, lockUp u b)
    | (.faulted v, u) => (some ⟨v, 0, 0⟩, modCore u b fun k => { k with switch := some w })
    | (_, u) =>
      match w.leaves with
      | some x => (none, saveOn u b w.who w.next w.words w.side x env)
      | none => loadOn u b w.who w.words w.side env

end Sys2Proof.Machine
end

