-- ==== Sys2Proof/Machine/Entry.lean ====
section
/-!
DEFINITION. Entry and return (09_privilege_exceptions.md R268 to R300): the gate table, frames, exception and interrupt entry,
escalation and lockup, GATE's checks and switch phase, RETG and the chained entry; what the control store's errors do to
the microcoded sequences (08_microcode.md R246 to R253).
-/

namespace Sys2Proof.Machine

/-! ### Descriptors (R272 to R277) -/

/-- A valid descriptor's fields. -/
structure Desc where
  handler : Nat
  level : Level
  mask : Nat
  uCall : Bool
  sCall : Bool
  dsFree : Nat
  rsFree : Nat
  dsBase : Nat
  rsBase : Nat
  argc : Nat
  resc : Nat
  sig : Nat
  deriving DecidableEq, Repr

/-- The four words of entry n, with whether a word carries RSV; none where one cannot be read. -/
def readDesc (s : State) (c n : Nat) (ecc : Ecc) : Option (List TWord) × State :=
  if c = spindle then
    (if ecc = .double then none else some ((List.range 4).map fun i => SMap.get s.mem.gate voidWord (4 * n + i)), s)
  else
    (List.range 4).foldl (fun a i =>
      let (w, u) := bankRead a.2 (bankAddr (pilOf c) 5 (0x7000 + 4 * n + i)) 0 (if i = 0 then ecc else .clean)
      (match a.1, w with | some l, some x => some (l ++ [x]) | _, _ => none, u)) (some [], s)

/-- A descriptor as R277 finds it, or none where it is invalid for this entry and caller. -/
def descOf (c n : Nat) (caller : Level) (ws : List W32) : Option Desc :=
  let w0 := dword ws 0
  let w1 := dword ws 1
  let w2 := dword ws 2
  let w3 := dword ws 3
  let level := bits w1 0 2
  let spn := decide (c = spindle)
  let d : Desc := ⟨if spn then w0.toNat + bits w1 16 16 * 2 ^ 32 else w0.toNat, Level.ofCode level, bits w1 2 3, bit w1 6, bit w1 7,
    bits w2 0 5, bits w2 8 5, bits w2 16 16, bits w2 0 16, bits w3 0 4, bits w3 4 4, bits w3 8 24⟩
  let rsv : Bool := decide (bits w1 8 8 ≠ 0) ||
    (!spn && (decide (bits w1 16 16 ≠ 0) || decide (bits w2 5 3 ≠ 0) || decide (bits w2 13 19 ≠ 0)))
  let place : Bool := if spn then decide (w0.toNat % 4 ≠ 0) else decide (2 ^ 16 ≤ w0.toNat)
  let room : Bool := if spn then decide (d.dsBase = 0xFFFF) || decide (d.rsBase = 0xFFFF)
    else decide (16 < d.dsFree + d.argc) || decide (16 < d.rsFree + 7)
  let reserved : Bool := decide (48 ≤ n ∧ n < 64) || (decide (1 ≤ n ∧ n ≤ 47) && decide (level = 0)) ||
    (decide (n = 0) && decide (level ≠ 2))
  let bad : Bool := !bit w1 5 || rsv || decide (level = 3) || place || decide (8 < d.argc) || decide (8 < d.resc) || room ||
    reserved || decide (level < caller.code)
  if bad then none else some d

/-! ### Frames (R72, R283) -/

/-- A link of type RET to a resume point. -/
def linkCells (c pc : Nat) : List TWord :=
  if c = spindle then [TWord.ofTy .ret (w32 (pc / 2 ^ 32 % 2 ^ 16)), TWord.ofTy .ret (w32 pc)]
  else [TWord.ofTy .ret (w32 (pc % 2 ^ 16))]

/-- What a frame records of its entry. -/
structure FrameInfo where
  vec : Nat
  detail : Nat
  faddr : Nat
  sw : Bool
  argc : Nat
  resc : Nat
  deriving DecidableEq, Repr

/-- The word FINFO. -/
def finfoWord (c : Nat) (f : FrameInfo) (slot : Option Nat) : W32 :=
  let low := f.vec % 2 ^ 10 + at' slot.isSome 10 + at' f.sw 11 + f.detail % 16 * 2 ^ 12
  w32 (if c = spindle then low + f.argc % 16 * 2 ^ 16 + f.resc % 16 * 2 ^ 20 else low + slot.getD 0 % 2 ^ 16 * 2 ^ 16)

/-- The cells of a frame, deepest first: the caller's state, its loop cells, the resume point and a pending delay slot. -/
def frameCells (s : State) (c : Nat) (k : Core) (loops : List W32) (resume : Nat) (slot : Option Nat) (f : FrameInfo) : List TWord :=
  let halves (a : Nat) : List W32 := if c = spindle then [w32 (a / 2 ^ 32 % 2 ^ 16), w32 a] else [w32 a]
  let old : List W32 := if c = spindle ∧ f.sw = true then [s.spn.dsBase, s.spn.dsLimit, s.spn.rsBase, s.spn.rsLimit] else []
  let sl : List W32 := if c = spindle then halves (slot.getD 0) else []
  ((old ++ loops ++ halves f.faddr ++ sl ++ [finfoWord c f slot, statusWord c k]).map TWord.nat) ++ linkCells c resume

/-- The innermost active loop changed. -/
def markInner (f : Loop → Loop) : List Loop → List Loop
  | [] => []
  | l :: t => if l.entered then f l :: t else l :: markInner f t

/-- The loop state that an exception saves: on the last body word the back-edge has been decided (R298). -/
def markEdge (step : Nat) (k : Core) : List Loop :=
  let sequential : Bool := match k.delay with | none => true | some .fallThrough => true | _ => false
  let mark (l : Loop) : Loop :=
    if sequential && !l.taken && decide (k.pc + step = l.stop) then { l with left := l.left - 1, taken := true } else l
  markInner mark k.loops

/-- Bytes or words from one instruction word to the next. -/
def pcStep (c : Nat) : Nat := if c = spindle then 4 else 1
/-- An address within the core's program counter. -/
def pcWrap (c a : Nat) : Nat := a % (if c = spindle then 2 ^ 48 else 2 ^ 16)

/-! ### Spill regions (R282) -/

/-- The stack of a spill region that is not selected. -/
def regionStk (s : State) (key : Nat) : Stk := SMap.get s.spn.regions Stk.empty key
/-- It replaced. -/
def setRegion (s : State) (key : Nat) (x : Stk) : State :=
  { s with spn := { s.spn with regions := SMap.set s.spn.regions Stk.empty key x } }

/-- The key of a region: its base, and which stack. -/
def regionKey (base : W32) (which : Nat) : Nat := base.toNat * 2 + which

/-- A stack goes out to its region whole: its renamed entries are spilled (R282). -/
def parkStk (s : State) (base : W32) (which : Nat) (x : Stk) : State :=
  setRegion (spillOut s base x (x.depth - 8) x.depth) (regionKey base which) x

/-- A stack x comes back from its region: its renamed entries are filled, the deeper ones as the depth falls; an error that a fill
meets is raised by the word that brings the stack back (R71, R238, R282). -/
def unparkStk (s : State) (env : Env) (base : W32) (x : Stk) : Except Exc Stk × State :=
  match spillAt s env base (x.depth - 8) x.depth with
  | (some e, u) => (.error e, u)
  | (none, u) => let (y, v) := fillIn u base x (x.depth - 8) x.depth; (.ok y, v)

/-- The spindle's stacks switched to the regions of a descriptor; a field of 0 keeps its stack (R282). -/
def switchRegions (s : State) (k : Core) (d : Desc) : State × Core :=
  let (s1, k1) :=
    if d.dsBase = 0 then (s, k)
    else
      let b := w32 (d.dsBase * 2 ^ 16)
      let u := parkStk s s.spn.dsBase 0 k.dsU
      ({ u with spn := { u.spn with dsBase := b, dsLimit := b + 0x10000 } }, { k with dsU := Stk.empty })
  if d.rsBase = 0 then (s1, k1)
  else
    let b := w32 (d.rsBase * 2 ^ 16)
    let u := parkStk s1 s1.spn.rsBase 1 k1.rsU
    ({ u with spn := { u.spn with rsBase := b, rsLimit := b + 0x10000 } }, { k1 with rsU := Stk.empty })

/-- Spilling the renamed entries of one stack that a descriptor switches: room in the old region, then its memory. -/
def parkMeets (s : State) (env : Env) (base limit : W32) (which : Nat) (x : Stk) : Check × State :=
  if (limit.toNat - base.toNat) / 8 < x.depth then (some (Exc.so which), s) else spillAt s env base (x.depth - 8) x.depth

/-- The same for the stacks that a descriptor switches (R282). -/
def switchMeets (s : State) (env : Env) (k : Core) (d : Desc) : Check × State :=
  match if d.dsBase = 0 then (none, s) else parkMeets s env s.spn.dsBase s.spn.dsLimit 0 k.dsU with
  | (some e, u) => (some e, u)
  | (none, u) => if d.rsBase = 0 then (none, u) else parkMeets u env u.spn.rsBase u.spn.rsLimit 1 k.rsU

/-- What the spindle's stacks spill or fill between two cores: the exception, or the core and the state with the containers
moved (R69, R71, R238). -/
def moveStacks (s : State) (env : Env) (k k' : Core) : Except Exc Core × State :=
  match spillMeets s env s.spn.dsBase k.dsU.depth k'.dsU.depth with
  | (some e, u) => (.error e, u)
  | (none, u) => match spillMeets u env u.spn.rsBase k.rsU.depth k'.rsU.depth with
    | (some e, v) => (.error e, v)
    | (none, v) =>
      let (d, v1) := spillMove v v.spn.dsBase k.dsU k'.dsU
      let (r, v2) := spillMove v1 v1.spn.rsBase k.rsU k'.rsU
      (.ok { k' with dsU := d, rsU := r }, v2)

/-- An entry that has switched regions keeps, with where its frame stands, the stacks that it left (R282): `k` before it, `k'` with the
frame pushed. -/
def noteSwitch (s : State) (k k' : Core) (d : Desc) : State :=
  if d.dsBase = 0 ∧ d.rsBase = 0 then s
  else
    let w : RegionSw := ⟨s.spn.rsBase, k'.rsU.depth, if d.dsBase = 0 then none else some k.dsU, if d.rsBase = 0 then none else some k.rsU⟩
    { s with spn := { s.spn with switches := w :: s.spn.switches } }

/-- The switch that the frame on top of the return stack has made, and the switches of the frames outside it. -/
def switchOf (s : State) (k : Core) : Option RegionSw × List RegionSw :=
  match s.spn.switches.dropWhile fun w => decide (w.rsBase ≠ s.spn.rsBase ∨ w.depth ≠ k.rsU.depth) with
  | w :: t => (some w, t)
  | [] => (none, s.spn.switches)

/-! ### Entry (R287 to R294) -/

/-- A core at the first word of a handler: LEVEL and MASK written, loop state cleared, nothing pending. -/
def atEntry (k : Core) (d : Desc) (mask : Nat) (esc : Bool) : Core :=
  let m := { k.modes with level := d.level, mask := mask }
  { k with
    condNow := snapOf k
    modes := m, esc := k.esc || esc, loops := [], delay := none, bubbles := 0, late := [], pc := d.handler, atHandler := true
    lbActive := false, lbCap := false, pstate := if k.pstate = .idle then (if k.strand.isSome then .strand else .system) else k.pstate }

/-- The core of the spindle keeps the name of its running state. -/
def runningState (c : Nat) (k : Core) : Core := if c = spindle then { k with pstate := .strand } else k

/-- The frame goes to the privileged set: PSET 1; an entry from U opens the gate-return register (R281, R282). -/
def toPriv (k : Core) (frame : List TWord) (argc resc : Nat) : Core :=
  { k with
    rsP := k.rsP.pushAll frame
    gateReg := if k.modes.level = .u then some ⟨argc, resc, k.dsP.depth, k.rsP.depth⟩ else k.gateReg
    pset := true }

/-- A bobbin's claim word written, at the end of the locked span of its entry (R248, R516). -/
def writeClaim (s : State) (c : Nat) (claim : Option W32) : State :=
  match claim with
  | none => s
  | some w =>
    let t := eicTarget c
    let s1 := bankSet s (bankAddr (pilOf c) 5 (0x6FC0 + c % 16)) (TWord.nat w)
    setTgt s1 t { tgt s1 t with lastClaim := w }

/-- Entry on a bobbin, its core drained (R282, R292): the frame is pushed while the descriptor is read, and for an interrupt the
claim word written after it; an invalid or unreadable descriptor locks the core with three cells pushed, an overflow with
the cells that fit. -/
def enterBob (s : State) (c : Nat) (env : Env) (f : FrameInfo) (entry : Nat) (esc : Bool) (loops : List Loop)
    (claim : Option W32) : State :=
  let k := core s c
  let (cells, s1) := loopCellsOf s loops
  let (r, slot) := resumePoint k
  let frame := frameCells s1 c k cells r slot f
  let (w, s2) := bankStall s1 c (bankAddr (pilOf c) 5 (0x7000 + 4 * entry)) env
  let (ws, s2') := readDesc s2 c entry env.ecc
  let s3 := writeClaim s2' c claim
  let desc := ws.bind fun l => if l.any (·.rsv) then none else descOf c entry k.modes.level (l.map (·.pay))
  let room := 16 - k.rsP.depth
  let stop (n : Nat) : State :=
    lockUp (spend (modCore s3 c fun x => { x with rsP := x.rsP.pushAll (frame.take n) }) c (8 + w)) c
  match desc with
  | none => stop (min 3 room)
  | some d =>
    if room < 7 then stop room
    else spend (setCore s3 c (atEntry (toPriv k frame 0 0) d (if esc then 7 else d.mask) esc)) c (16 + w)

/-- Entry on the spindle, whose reservation it clears (R227, R282, R283, R293). -/
def enterSpn (s : State) (env : Env) (f : FrameInfo) (entry : Nat) (esc : Bool) (loops : List Loop) : State :=
  let s0 := clearRsv s
  let k := core s0 spindle
  let (ws, s1) := readDesc s0 spindle entry env.ecc
  let desc := ws.bind fun l => if l.any (·.rsv) then none else descOf spindle entry k.modes.level (l.map (·.pay))
  match desc with
  | none => lockUp s1 spindle
  | some d =>
    let (cells, s2) := loopCellsOf s1 loops
    let (r, slot) := resumePoint k
    let sw := decide (d.dsBase ≠ 0 ∨ d.rsBase ≠ 0)
    let frame := frameCells s2 spindle k cells r slot { f with sw := sw }
    match switchMeets s2 env k d with
    | (some _, u) => lockUp u spindle
    | (none, u) =>
      let (s3, k1) := switchRegions u k d
      if spillCap s3.spn.rsBase s3.spn.rsLimit < k1.rsU.depth + frame.length then lockUp s3 spindle
      else match moveStacks s3 env k1 { k1 with rsU := k1.rsU.pushAll frame } with
        | (.error _, v) => lockUp v spindle
        | (.ok k2, v) =>
          spend (setCore (noteSwitch v k k2 d) spindle (runningState spindle (atEntry k2 d (if esc then 7 else d.mask) esc))) spindle 24

/-- Entry of a core into a vector: the pipe drains (R177); a synchronous exception escalates at MASK 7 and locks the core up
while ESC is 1 (R289, R290), and so does any fault of its routine (R252, R253, R290). -/
def enter (s : State) (c : Nat) (env : Env) (vec detail faddr : Nat) (sync : Bool) (claim : Option W32 := none) : State :=
  let k0 := core s c
  let loops := if sync then markEdge (pcStep c) { k0 with loops := savedLoops k0 } else savedLoops k0
  let s0 := setCore s c (drain k0)
  let s1 := traceRec (pmcCount s0 c (if vec < 32 then 4 else 5) 1) (some c) 2 k0.pc (w32 vec)
  if sync && k0.esc then lockUp s1 c
  else
    let (go, s2) := sequencer s1 c true true env.entry
    if go ≠ .ended then lockUp s2 c
    else
      let esc := sync && decide (k0.modes.mask = 7)
      let f : FrameInfo := ⟨vec, detail, faddr, decide (c ≠ spindle ∧ k0.modes.level = .u), 0, 0⟩
      let entry := if esc then 0 else vec
      if c = spindle then enterSpn s2 env f entry esc loops else enterBob s2 c env f entry esc loops claim

/-- The code on a core is its strand's own: no frame from U is open. -/
def atUser (k : Core) : Bool := !k.pset && k.strand.isSome

/-- A drain point of a strand's own code at which SUSPEND or FREE takes the strand (R177, R342, R369); while a frame from U is
open the strand goes at its RETG, as R354 has it for preemption (DEDUCED, log entry 133). -/
def goesHere (s : State) (c : Nat) : Option State :=
  if c ≠ spindle ∧ atUser (core s c) = true then drainLeave (setCore s c (drain (core s c))) c else none

/-- A word has raised an exception (R285): FX sets the sticky flag it names (R123). An IA at the first fetch of a handler
locks the core up (R290). -/
def takeExc (s : State) (c : Nat) (env : Env) (e : Exc) : State :=
  let k := core s c
  if e.vec = 7 ∧ k.atHandler = true ∧ e.faddr = k.pc then lockUp (setCore s c (drain k)) c
  else
    let s1 := if e.vec = 11 then modCore s c fun x => { x with sticky := Nat.lor x.sticky (2 ^ (4 - e.detail)) } else s
    match goesHere s1 c with
    | some u => u
    | none => enter s1 c env e.vec e.detail e.faddr true

/-! ### GATE (R278 to R280) -/

/-- Argument i matches its SIG field (R278); a TIM pair spans two adjacent fields of TIM, its nanoseconds cell nearer the top. -/
def sigMatch (f : Nat) (w : TWord) : Bool :=
  (if f = 7 then decide (w.ty ≠ .void ∧ w.ty ≠ .ret) else decide (w.ty.code = f))

/-- The first argument that fails, as its exception: cause 3 for RSV and cause 4 for a RET word at U, which R42 gives any
instruction that reads the word, before cause 6, whose DETAIL is the argument's number (R278, R279; the place of causes 3
and 4 in the order is DEDUCED, log entry 126). `ns` holds the argument before, where it may be the nanoseconds cell of a
pair. -/
def sigFail (user : Bool) (sig : Nat) : Nat → List TWord → Option TWord → Option Exc
  | _, [], _ => none
  | i, w :: t, ns =>
    let f := sig / 2 ^ (3 * i) % 8
    if w.rsv then some (Exc.tf 3)
    else if user && decide (w.ty = .ret) then some (Exc.tf 4)
    else if !sigMatch f w then some ⟨5, i, 0⟩
    else match ns, t with
      | some _, _ => sigFail user sig (i + 1) t none
      | none, [] => none
      | none, w2 :: _ =>
        if f = 4 ∧ sig / 2 ^ (3 * (i + 1)) % 8 = 4 ∧ w2.ty = .tim then
          if pairBroken w2 w then some ⟨5, i, 0⟩ else sigFail user sig (i + 1) t (some w)
        else sigFail user sig (i + 1) t none

/-- Room for an entry by GATE on a bobbin: the caller's arguments, the handler's frame and free entries, the caller's
results. The handler's stack set is the privileged one unless both levels are U. -/
def gateRoom (k : Core) (d : Desc) : Check :=
  let toP := decide (k.pset = true ∨ d.level ≠ .u)
  let hd := if toP then k.dsP.depth else k.dsU.depth
  let hr := if toP then k.rsP.depth else k.rsU.depth
  if k.ds.depth < d.argc then some (Exc.su 0)
  else if 16 < hd + d.argc + d.dsFree ∨ 16 < k.ds.depth + (d.resc - d.argc) then some (Exc.so 0)
  else if 16 < hr + 7 + d.rsFree then some (Exc.so 1) else none

/-- The same on the spindle. -/
def gateRoomSpn (s : State) (k : Core) (d : Desc) (cells : Nat) : Check :=
  let dcap := if d.dsBase = 0 then spillCap s.spn.dsBase s.spn.dsLimit else 8200
  let rcap := if d.rsBase = 0 then spillCap s.spn.rsBase s.spn.rsLimit else 8200
  let hd := if d.dsBase = 0 then k.dsU.depth else 0
  let hr := if d.rsBase = 0 then k.rsU.depth else 0
  if k.ds.depth < d.argc then some (Exc.su 0)
  else if dcap < hd + d.argc ∨ spillCap s.spn.dsBase s.spn.dsLimit < k.dsU.depth + (d.resc - d.argc) then some (Exc.so 0)
  else if rcap < hr + cells then some (Exc.so 1) else none

/-- GATE's checks in the order of R279, on a drained core: the exception, or the descriptor. -/
def gateChecks (s : State) (c : Nat) (k : Core) (n : Nat) (ecc : Ecc) : Except Exc Desc × State :=
  if n < 64 then (.error Exc.pv, s)
  else
    let (ws, s1) := readDesc s c n ecc
    match ws with
    | none => (.error { Exc.il with detail := 1 }, s1)
    | some l =>
      if l.any (·.rsv) then (.error (Exc.tf 3), s1)
      else match descOf c n k.modes.level (l.map (·.pay)) with
        | none => (.error Exc.il, s1)
        | some d =>
          if (k.modes.level = .u ∧ d.uCall = false) ∨ (k.modes.level = .s ∧ d.sCall = false) then (.error Exc.pv, s1)
          else
            let sw := decide (d.dsBase ≠ 0 ∨ d.rsBase ≠ 0)
            match if c = spindle then gateRoomSpn s1 k d (if sw then 15 else 11) else gateRoom k d with
            | some e => (.error e, s1)
            | none =>
              match sigFail (decide (k.modes.level = .u)) d.sig 0 ((List.range d.argc).map k.ds.peek) none with
              | some e => (.error e, s1)
              | none => (.ok d, s1)

/-- The switch phase on a bobbin: frame, arguments, levels (R280, R282). -/
def gateSwitchBob (s : State) (c : Nat) (k : Core) (n : Nat) (d : Desc) (resume : Nat) : State :=
  let (cells, s1) := loopCellsOf s k.loops
  let args := k.top d.argc
  let sw := decide (k.modes.level = .u ∧ d.level ≠ .u)
  let frame := frameCells s1 c k cells resume none ⟨n, 0, 0, sw, 0, 0⟩
  let k1 :=
    if k.pset || decide (d.level ≠ .u) then
      let x := toPriv k frame d.argc d.resc
      { x with dsP := x.dsP.pushAll args }
    else { k with rsU := k.rsU.pushAll frame, dsU := k.dsU.pushAll args }
  setCore s1 c (atEntry k1 d d.mask false)

/-- The switch phase on the spindle: the arguments go to the new data-stack region, or on top of the caller's own stack. Any
fault of the spill locks it up (R290). -/
def gateSwitchSpn (s : State) (env : Env) (k : Core) (n : Nat) (d : Desc) (resume : Nat) : State :=
  let (cells, s1) := loopCellsOf s k.loops
  let args := k.top d.argc
  let sw := decide (d.dsBase ≠ 0 ∨ d.rsBase ≠ 0)
  let frame := frameCells s1 spindle k cells resume none ⟨n, 0, 0, sw, d.argc, d.resc⟩
  match switchMeets s1 env k d with
  | (some _, u) => lockUp u spindle
  | (none, u) =>
    let (s2, k1) := switchRegions u k d
    match moveStacks s2 env k1 { k1 with rsU := k1.rsU.pushAll frame, dsU := k1.dsU.pushAll args } with
    | (.error _, v) => lockUp v spindle
    | (.ok k2, v) => clearRsv (setCore (noteSwitch v k k2 d) spindle (atEntry k2 d d.mask false))

/-- Issue cycles beyond the first hold the pipe (R179). -/
def longStall (s : State) (c n : Nat) : State := if c = spindle ∨ n ≤ 1 then s else addWrap s (pgBOB c) 0x0A4 0 (n - 1)

/-- An interrupt that the core admits is recognised at a COMMIT point of GATE's check phase: on the spindle alone, where GATE
checks arguments (R193, R249, R250). -/
def gateStops (s : State) (c : Nat) (env : Env) (n : Nat) : Bool :=
  decide (c = spindle ∧ 64 ≤ n) && env.elems.isSome && (admitted s c (core s c).modes.mask).isSome

/-- The return predictor takes the address to which a call returns (R206). -/
def pushRet (s : State) (c a : Nat) : State :=
  if c = spindle then { s with spn := { s.spn with rets := (a :: s.spn.rets).take 16 } } else s

/-- GATE n, whose word stands at `pc`, after its delay slot, at which the core stands: the core drains, the checks run, the switch
is made. An exception, or the cause of a FAULT of its routine (R252), resumes at the GATE word; an interrupt recognised in the check phase leaves it unexecuted. -/
def gate (s : State) (c : Nat) (env : Env) (n pc : Nat) : State :=
  let slot := (core s c).pc
  let k := { drain (core s c) with pc := pc, delay := none, bubbles := 0 }
  let s0 := setCore s c k
  match goesHere s0 c with
  | some u => u
  | none =>
  let (go, s1) := sequencer s0 c true true env.seq
  if go = .locked then lockUp s1 c
  else if gateStops s1 c env n then s1
  else
    let (w, s2) := if c = spindle ∨ n < 64 then (0, s1) else bankStall s1 c (bankAddr (pilOf c) 5 (0x7000 + 4 * n)) env
    let checks : Except Exc Desc × State := match go with | .faulted v => (.error ⟨v, 0, 0⟩, s2) | _ => gateChecks s2 c k n env.ecc
    match checks with
    | (.error e, s3) => enter (longStall (spend s3 c (7 + w)) c 8) c env e.vec e.detail e.faddr true
    | (.ok d, s3) =>
      let cy := (if c = spindle then 10 else 8) + d.argc
      let resume := pcWrap c (slot + pcStep c)
      let s4 := pushRet (longStall (spend s3 c (cy - 1 + w)) c cy) c resume
      if c = spindle then gateSwitchSpn s4 env (core s4 c) n d resume else gateSwitchBob s4 c (core s4 c) n d resume

/-! ### RETG (R281, R295, R296) -/

/-- The cells of the frame on top of the return stack: the words in order, deepest first, where it is whole and of the right
types; else the tag fault, a VOID cell as cause 2, the lowest (R42, R109). -/
def frameOn (c : Nat) (k : Core) : Except Exc (List TWord) :=
  let size (n : Nat) : Option (List TWord) :=
    if k.rs.depth < n then none else some ((List.range n).map fun i => k.rs.peek (n - 1 - i))
  let links := if c = spindle then 2 else 1
  let check (l : List TWord) : Except Exc (List TWord) :=
    let body := l.take (l.length - links)
    let lk := l.drop (l.length - links)
    let hi := match lk with | w :: _ => bits w.pay 16 16 | [] => 0
    if (l.any fun w => decide (w.ty = .void)) && decide (k.modes.tcs ≠ .off) then .error (Exc.tf 2)
    else if l.any (·.rsv) then .error (Exc.tf 3)
    else if (body.any fun w => decide (w.ty ≠ .nat)) || (lk.any fun w => decide (w.ty ≠ .ret)) || decide (hi ≠ 0) then
      .error (Exc.tf 4)
    else .ok l
  if c = spindle then
    match size 11 with
    | none => .error (Exc.tf 4)
    | some l =>
      match check l with
      | .error e => .error e
      | .ok l =>
        if bit (l.getD 7 voidWord).pay 11 then
          match size 15 with | none => .error (Exc.tf 4) | some m => check m
        else .ok l
  else match size 7 with | none => .error (Exc.tf 4) | some l => check l

/-- The fields that RETG takes from a frame. -/
structure Frame' where
  old : List W32
  loops : List W32
  slot : Option Nat
  finfo : W32
  status : W32
  link : Nat
  deriving DecidableEq, Repr

/-- A frame's cells read. -/
def readFrame (c : Nat) (l : List TWord) : Frame' :=
  let p (i : Nat) : W32 := (l.getD i voidWord).pay
  if c = spindle then
    let o := if l.length = 15 then 4 else 0
    let fi := p (o + 7)
    ⟨(List.range o).map p, [p o, p (o + 1), p (o + 2)],
      if bit fi 10 then some ((p (o + 5)).toNat % 2 ^ 16 * 2 ^ 32 + (p (o + 6)).toNat) else none, fi, p (o + 8),
      (p (o + 9)).toNat * 2 ^ 32 + (p (o + 10)).toNat⟩
  else ⟨[], [p 0, p 1, p 2], if bit (p 4) 10 then some (bits (p 4) 16 16) else none, p 4, p 5, (p 6).toNat⟩

/-- The results of an SW = 1 frame moved to the caller's stack, the handler's emptied to its depth before entry: the two
data stacks after, or the exception. -/
def moveResults (toU : Bool) (caller handler : Stk) (argc resc d0 cap : Nat) : Except Exc (Stk × Stk) :=
  let res := (List.range resc).map fun i => handler.peek (resc - 1 - i)
  if handler.depth < d0 + resc ∨ caller.depth < argc then .error (Exc.su 0)
  else if cap < caller.depth - argc + resc then .error (Exc.so 0)
  else if res.any (·.rsv) then .error (Exc.tf 3)
  else if toU && (res.any fun w => decide (w.ty = .ret)) then .error (Exc.tf 4)
  else .ok ((caller.drop argc).pushAll res, { handler with depth := d0 })

/-- What RETG leaves on a bobbin's stacks. -/
def retStacksBob (k : Core) (f : Frame') : Except Exc Core :=
  let toU := decide (bits f.status 0 2 = 0)
  if bit f.finfo 11 then
    match k.gateReg with
    | none => .error (Exc.tf 4)
    | some g =>
      match moveResults toU k.dsU k.dsP g.argc g.resc g.d0 16 with
      | .error e => .error e
      | .ok (u, p) => .ok { k with dsU := u, dsP := p, rsP := k.rsP.drop 7, gateReg := none }
  else .ok (k.setRs (k.rs.drop 7))

/-- A stack that a frame left for another region comes back; one that the frame did not switch stays (R282). -/
def comeBack (s : State) (env : Env) (base : W32) (left : Option Stk) : Except Exc (Option Stk) × State :=
  match left with
  | none => (.ok none, s)
  | some x => match unparkStk s env base x with
    | (.error e, u) => (.error e, u)
    | (.ok y, u) => (.ok (some y), u)

/-- The stacks that the frame on top of the return stack has left, data and return, with the switches of the frames outside it: those
that its entry noted, and of a frame that software has built those of a saved BASE that is not the present one (R281, R282). -/
def leftStacks (s : State) (k : Core) (f : Frame') : Option Stk × Option Stk × List RegionSw :=
  let b (i : Nat) : W32 := f.old.getD i 0
  match switchOf s k with
  | (some w, t) => (w.ds, w.rs, t)
  | (none, t) =>
    (if b 0 = s.spn.dsBase then none else some (regionStk s (regionKey (b 0) 0)),
      if b 2 = s.spn.rsBase then none else some (regionStk s (regionKey (b 2) 1)), t)

/-- What RETG leaves on the spindle's stacks and regions: the results moved, the regions as they were, the stacks that the entry left
filled back (R71, R238, R281, R282). -/
def retStacksSpn (s : State) (env : Env) (k : Core) (f : Frame') : Except Exc Core × State :=
  if bit f.finfo 11 then
    let b (i : Nat) : W32 := f.old.getD i 0
    let (ds, rs, outer) := leftStacks s k f
    let argc := bits f.finfo 16 4
    let resc := bits f.finfo 20 4
    let moved (caller : Option Stk) : Except Exc (Stk × Stk) :=
      moveResults (decide (bits f.status 0 2 = 0)) (caller.getD (k.dsU.drop resc)) k.dsU argc resc 0 (spillCap (b 0) (b 1))
    match moved ds with
    | .error e => (.error e, s)
    | .ok _ => match comeBack s env (b 0) ds with
      | (.error e, u) => (.error e, u)
      | (.ok d, u) => match comeBack u env (b 2) rs with
        | (.error e, v) => (.error e, v)
        | (.ok r, v) =>
          let v1 := if ds.isSome then setRegion v (regionKey (b 0) 0) Stk.empty else v
          let v2 := if rs.isSome then setRegion v1 (regionKey (b 2) 1) Stk.empty else v1
          let v3 := { v2 with spn := { v2.spn with
            dsBase := b 0, dsLimit := b 1, rsBase := b 2, rsLimit := b 3, switches := outer } }
          let back : Core := { k with dsU := d.getD k.dsU, rsU := r.getD k.rsU }
          match moved d with
          | .error e => (.error e, v)
          | .ok (x, _) => moveStacks v3 env back { back with dsU := x, rsU := r.getD (k.rsU.drop 15) }
  else moveStacks s env k { k with rsU := k.rsU.drop 11 }

/-- A bobbin's entry claims its source (R516): what its claim word will show. -/
def claimFor (s : State) (c : Nat) : Option W32 × State :=
  if c = spindle then (none, s)
  else
    let (w, s1) := eicClaim s (eicTarget c)
    (some w, s1)

/-- The frame on top of the return stack as a chained entry leaves it: its FINFO VECTOR rewritten. A frame on the U set, which
an entry from U to a handler at U has left there, goes to the privileged set, as an entry from U would have pushed it, with
SW set and the gate-return register open (R282; DEDUCED, log entry 134). None where the privileged set has no room. -/
def chainFrame (c : Nat) (k : Core) (vec : Nat) (user : Bool) : Option Core :=
  let i := if c = spindle then 3 else 2
  let n := if c = spindle then 0 else 7
  let fi := (k.rs.peek i).pay
  let w (sw : Bool) : TWord := TWord.nat (w32 ((if sw then Nat.lor fi.toNat (2 ^ 11) else fi.toNat) / 2 ^ 10 * 2 ^ 10 + vec))
  if c ≠ spindle ∧ k.pset = false then
    let cells := (List.range n).map fun j => if n - 1 - j = i then w user else k.rsU.peek (n - 1 - j)
    if 16 < k.rsP.depth + n then none
    else some { k with
      rsU := k.rsU.drop n, rsP := k.rsP.pushAll cells, pset := true
      gateReg := if user then some ⟨0, 0, k.dsP.depth, k.rsP.depth⟩ else k.gateReg }
  else some (k.setRs (k.rs.put (k.rs.depth - 1 - i) (w false)))

/-- The chained entry of R295: the restore is abandoned, the frame stays as the new handler's own, its FINFO VECTOR is rewritten, the
handler is entered; ESC is the saved one, as after the RETG that the entry replaces. A bobbin waits for bank 5, and writes
its claim word after the descriptor's words (R179, R248). On the spindle the new descriptor switches no spill region: the frame is the old
one's own, whose saved registers are those of the code it interrupted (DEDUCED, log entry 165). -/
def chained (s : State) (c : Nat) (env : Env) (prio : Nat) (f : Frame') : State :=
  let vec := 32 + prio
  let (claim, s0) := claimFor (pmcCount s c 5 1) c
  let (wt, s1) := if c = spindle then (0, s0) else bankStall s0 c (bankAddr (pilOf c) 5 (0x7000 + 4 * vec)) env
  let (ws, s2) := readDesc s1 c vec env.ecc
  let s3 := writeClaim s2 c claim
  let lv := Level.ofCode (bits f.status 0 2)
  let desc := ws.bind fun l => if l.any (·.rsv) then none else descOf c vec lv (l.map (·.pay))
  match desc, chainFrame c (core s3 c) vec (decide (lv = .u)) with
  | some d, some k1 =>
    let s4 := setCore s3 c (atEntry { k1 with esc := bit f.status 30 } d d.mask false)
    spend (if c = spindle then clearRsv s4 else s4) c ((if c = spindle then 20 else 10) + wt)
  | _, _ => lockUp s3 c

/-- The return predictor gives its latest address up to a return to `a`; whether it was another (R206, R240). -/
def popRet (s : State) (a : Nat) : Bool × State :=
  (decide (s.spn.rets.head? ≠ some a), { s with spn := { s.spn with rets := s.spn.rets.tail } })

/-- A misprediction of the spindle: counted, with its 12 further cycles (R206, R240). -/
def mispredicted (s : State) : State := spend (addWrap s pgSPN 0x0B0 0 1) spindle 12

/-- A return that the return predictor has foretold or not. -/
def predictRet (s : State) (c a : Nat) : State :=
  if c = spindle then
    let (bad, u) := popRet s a
    if bad then mispredicted u else u
  else s

/-- What comes due when RETG has returned on a bobbin: BUDGET again where the overrun of a strand has waited for its gate frame
(log entry 72); SUSPEND or FREE at the drain point (R342, R369); the rest of a strand switch once the runtime context has
returned (R251). -/
def returned (s : State) (c : Nat) (env : Env) : State :=
  if c = spindle then s
  else
    let s1 := modCore s c fun k => { k with budgetPend := k.budgetPend || (k.budgetOver && !k.pset), budgetOver := k.budgetOver && k.pset }
    match goesHere s1 c with
    | some u => u
    | none => match (core s1 c).switch with
      | some w => if (core s1 c).rsP.depth ≤ w.depth then
          match finishSwitch s1 c env with
          | (some e, u) => takeExc u c env e
          | (none, u) => u
        else s1
      | none => s1

/-- BUDGET, or the late bus error, is taken before the interrupt that the EIC presents where both are admitted (R287). -/
def asyncFirst (k : Core) (mask : Nat) : Bool := (k.budgetPend && k.strand.isSome) || (k.lbePend && decide (mask < 6))

/-- RETG on a drained core, restored or chained; the exception it raises, if any, changes no more than the error bits that its fills
have set (R71, R281). The resume point may be where the body of a pending loop starts (R86). -/
def retg (s : State) (c : Nat) (env : Env) : Except Exc Unit × State :=
  let k := core s c
  match frameOn c k with
  | .error e => (.error e, s)
  | .ok l =>
    let f := readFrame c l
    let lv := bits f.status 0 2
    if lv = 3 ∨ k.modes.level.code < lv then (.error Exc.pv, s)
    else
      match if c = spindle then retStacksSpn s env k f else (retStacksBob k f, s) with
      | (.error e, u) => (.error e, u)
      | (.ok k1, s1) =>
        let (m, warn) := pModes (runsP s k) k.modes (modesOf f.status)
        let mask := min m.mask k.modes.mask
        match if asyncFirst k mask then none else admitted s c mask with
        | some (_, p) => (.ok (), chained s c env p f)
        | none =>
          let (ls, s2) := loopsOf s1 (f.loops.getD 0 0) (f.loops.getD 1 0) (f.loops.getD 2 0)
          let (dest, ls') := if f.slot.isSome then (f.slot.getD 0, ls) else arrive ls.length f.link ls
          let k2 : Core := { k1 with
            modes := m
            flags := flagsOf f.status
            pset := decide (c ≠ spindle) && decide (lv ≠ 0)
            esc := bit f.status 30
            loops := ls'
            pc := dest
            delay := if f.slot.isSome then some (.branch f.link 0 false) else none
            bubbles := 0
            atHandler := false }
          let s3 := setCore s2 c { k2 with condNow := snapOf k2 }
          let s4 := traceRec (if c = spindle then clearRsv s3 else s3) (some c) 3 k.pc 0
          let s5 := longStall (spend s4 c (if c = spindle then 8 else 6)) c 6
          let s6 := predictRet (if warn then warnEvent s5 (pgBOB c) else s5) c f.link
          (.ok (), returned s6 c env)

/-! ### Asynchronous entries (R285 to R287, R193, R207) -/

/-- A core at a recognition point: it runs or sleeps, and no GATE waits for its slot to end (R249). -/
def canRecognise (k : Core) : Bool :=
  decide (k.pstate = .strand ∨ k.pstate = .system ∨ k.pstate = .idle) &&
    (match k.delay with | some (.gate _ _) => false | _ => true)

/-- A spindle word that waits for a line, or for a barrier, is discarded; its request stays (R207). -/
def discardWait (s : State) (c : Nat) : State :=
  if c = spindle then { s with spn := { s.spn with pend := none }, clb := { s.clb with waits := false } } else s

/-- BUDGET (entry 13) is taken at a recognition point; neither MASK nor R195 holds it (R285, R355). -/
def takeBudget (s : State) (b : Nat) (env : Env) : State :=
  let k := core s b
  if !k.budgetPend || !canRecognise k || k.strand.isNone then s
  else enter (modCore s b fun x => { x with budgetPend := false, budgetOver := true }) b env 13 0 0 false

/-- The runtime stands in its handler of BUDGET with the strand's own context in that entry's frame. -/
def budgetHandler (k : Core) : Bool :=
  k.budgetOver && (match openFrame k with | some (fi, _) => decide (bits fi 0 10 = 13) | none => false)

/-- What stands at a bobbin: the runtime in its handler of BUDGET deals with the strand by its overrun policy (R356, R357);
else BUDGET is taken. -/
def budgetStep (s : State) (b : Nat) (env : Env) : State :=
  let k := core s b
  match if budgetHandler k && decide (k.pstate = .strand) then k.strand else none with
  | some o => overrun s b o
  | none => takeBudget s b env

/-- The late bus error (entry 12), where the mask level admits it (R221, R286). -/
def takeLate (s : State) (env : Env) : State :=
  let k := core s spindle
  if !k.lbePend || !canRecognise k || decide (6 ≤ k.modes.mask) then s
  else enter (modCore (discardWait s spindle) spindle fun x => { x with lbePend := false }) spindle env 12 0 0 false

/-- BUDGET_EXHAUSTED: the budget is used up before the drain, and BUDGET is raised at the recognition point (R355); given again
while its handler runs, the handler's end: the overrun policy (R356). -/
def execBudgetExhausted (o : BudgetObs) (s : State) : Host.Outcome State Fault Refusal :=
  .next (if o.bob < 256 then budgetStep s o.bob o.env else s)

/-- EXCEPTION_ENTRY: the asynchronous exception that stands is entered, BUDGET before the late bus error (R287, R292). The
entry of a synchronous exception belongs to the word that raises it. -/
def execExceptionEntry (c : Nat) (env : Env) (s : State) : Host.Outcome State Fault Refusal :=
  .next (if c < 256 then budgetStep s c env else if c = spindle then takeLate s env else s)

/-- The mask level that governs recognition before a core's next word: the one that the word in D samples, so a mode change
that lands in that word's slot counts already (R183, R193). -/
def sampledMask (c : Nat) (k : Core) : Nat :=
  if c = spindle then k.modes.mask
  else (k.flight.foldl (fun m f => match f.land with
    | .modes x => if f.left ≤ k.bubbles + 1 then x else m
    | _ => m) k.modes).mask

/-- INTERRUPT_ENTRY: the interrupt that the EIC presents and the mask level admits is entered at 32 + its priority (R193,
R207, R286, R287, R516); an exception that stands comes first. -/
def execInterruptEntry (c : Nat) (env : Env) (s : State) : Host.Outcome State Fault Refusal :=
  .next (
    let k := core s c
    if 257 ≤ c ∨ (!canRecognise k || asyncFirst k k.modes.mask) = true then s
    else match admitted s c (sampledMask c k) with
      | none => s
      | some (_, p) => match goesHere s c with
        | some u => u
        | none =>
          let (claim, u) := claimFor (discardWait s c) c
          enter u c env (32 + p) 0 0 false claim)

end Sys2Proof.Machine
end

