-- ==== Sys2Proof/Machine/Issue.lean ====
section
/-!
DEFINITION. One instruction word of a core (06_bobbin_pipeline.md, 03_kendil_encoding.md R74 to R86): pipe slots and the results
that land in them, fetch, conditions, the commit of a word's effects, delay slots, hardware loops and the loop buffer.
-/

namespace Sys2Proof.Machine

/-! ### What a word brings about -/

/-- Where the flow goes after a word. -/
inductive Flow where
  /-- the next word, after some fetch bubbles -/
  | seq (bubbles : Nat)
  /-- the next word; after `words` more of them some bubbles pass (R186, R188) -/
  | later (words bubbles : Nat)
  /-- a branch: taken, its target, bubbles after the delay slot, a call -/
  | branch (taken : Bool) (target bubbles : Nat) (call : Bool)
  /-- GATE n acts after its delay slot -/
  | gate (n : Nat)
  /-- the same word again -/
  | stay
  /-- the word's last action has placed the flow itself -/
  | placed
  /-- the word's routine has met an error of its control store: the core locks up (R252, R253) -/
  | locks
  deriving DecidableEq, Repr

/-- What of a word the spindle predicts (R206): nothing, a branch direction, an indirect target, a return. -/
inductive Pred where
  | none | direction | target | ret
  deriving DecidableEq, Repr

/-- A word that has passed its checks: its core, the flow, its issue cycles, the addresses it accesses (true for a store),
the store it makes, operations it retires, and what it does once its core is written. -/
structure Done where
  k : Core
  flow : Flow := .seq 0
  cycles : Nat := 1
  acc : List (Bool × Nat) := []
  store : Option (Place × TWord) := none
  /-- host byte addresses it accesses -/
  host : List (Bool × Nat) := []
  /-- cycles it waits besides those of `acc` -/
  wait : Nat := 0
  ops : Nat := 1
  annulled : Bool := false
  pred : Pred := .none
  after : State → State := fun s => s

/-- The outcome of a word: an exception, or what it brings about, with the state its reads have left. -/
abbrev Res := Except Exc Done × State

/-! ### Pipe slots (R173 to R176) -/

/-- One pipe slot passes: what is due lands; the bank words of the store two slots back are the stored ones. A landing prevails
over a single-cycle write of the word just before, whose W is the cycle of the landing, and of two landings in one slot the
younger prevails (R175 leaves both open: DEDUCED, log entry 135). -/
def passSlot (k : Core) : Core :=
  let fl := k.flight.map fun f => { f with left := f.left - 1 }
  let k1 := (fl.filter fun f => decide (f.left = 0)).foldl (fun u f => land u f.land) k
  { k1 with flight := fl.filter (fun f => decide (f.left ≠ 0)), stale := k.staleNew, staleNew := [] }

/-- A fetch bubble: a slot that no word fills. -/
def passBubble (k : Core) : Core :=
  let k1 := passSlot k
  { k1 with condNow := snapOf k1 }

/-- n bubbles. -/
def passBubbles (k : Core) : Nat → Core
  | 0 => { k with bubbles := 0 }
  | n + 1 => passBubbles (passBubble k) n

/-- A core at its next word, with what the COND of a branch there sees, one slot early on a bobbin (R176). -/
def enterSlot (c : Nat) (k : Core) : Core × CondSnap :=
  if c = spindle then (k, snapOf k)
  else
    let k1 := passBubbles k k.bubbles
    let k2 := passSlot k1
    ({ k2 with condNow := snapOf k2 }, k1.condNow)

/-! ### Fetch (R187 to R191, R214, R215) -/

/-- The loop buffer serves the fetch of the next word (R187). -/
def fromBuffer (s : State) (c : Nat) (k : Core) : Bool :=
  decide (c ≠ spindle) && k.lbActive && rdB s (pgBOB c) 0x080 1 &&
    (match k.inner with | some l => decide (l.start ≤ k.pc ∧ k.pc < l.stop) | none => false)

/-- A body that the loop buffer holds: at most 32 words. -/
def fitsBuffer (s : State) (c : Nat) (k : Core) : Bool :=
  decide (c ≠ spindle) && rdB s (pgBOB c) 0x080 1 &&
    (match k.inner with | some l => decide (l.stop ≤ l.start + 32) | none => false)

/-- The wait of a fetch miss: counted, its maximum kept, the bound of 70 cycles watched (R179, R180, R190). -/
def fetchStall (s : State) (c n : Nat) : State :=
  let s1 := maxField (addWrap s (pgBOB c) 0x0A0 0 n) (pgBOB c) 0x0A8 24 8 n
  if 70 < n then raiseErr s1 (pgBOB c) 2 else s1

/-- The lines that a set of a bobbin's instruction cache holds, the latest used first (R189). -/
def icSet (k : Core) (line : Nat) : List Nat := SMap.get k.icache [] (line % 64)

/-- The cache of a bobbin holds a line of eight words (R189). -/
def icHolds (k : Core) (line : Nat) : Bool := decide (line ∈ icSet k line)

/-- A line used, or filled: it is the latest used of its set, which keeps two (R189). -/
def icTouch (k : Core) (line : Nat) : Core :=
  { k with icache := SMap.set k.icache [] (line % 64) ((line :: (icSet k line).filter (· ≠ line)).take 2) }

/-- A line invalidated (R190). -/
def icDrop (k : Core) (line : Nat) : Core :=
  { k with icache := SMap.set k.icache [] (line % 64) ((icSet k line).filter (· ≠ line)) }

/-- The fetch of a bobbin's word from its cache: a hit, or a miss, counted, that fills the line where the cache is in use; a
parity error invalidates the line and refetches it (R189, R190). A line that holds a word that cannot be read raises IA on the
word fetched and is not filled; a corrected word sets BANK_SEC (13_pillow_memory.md R425, R438). -/
def fetchCache (s : State) (c : Nat) (k : Core) (env : Env) : Check × Nat × State :=
  let p := pilOf c
  let line := k.pc / 8
  let used := rdB s (pgBOB c) 0x080 0
  if used && icHolds k line && decide (env.fetch = .clean) then (none, 0, modCore s c fun x => icTouch x line)
  else
    let s1 := if env.fetch = .parity then raiseErr (modCore s c fun x => icDrop x line) (pgBOB c) 3 else s
    let s2 := fetchStall (addWrap s1 (pgBOB c) 0x0AC 0 1) c env.fetchWait
    let words := if used then (List.range 8).map (8 * line + ·) else [k.pc]
    match words.find? fun a => decide (p * 2 ^ 16 + a ∈ s.mem.codeBad) with
    | some a => (some (Exc.ia k.pc), env.fetchWait, codeDed s2 p a 4)
    | none =>
      if env.fetch = .uncorrectable then (some (Exc.ia k.pc), env.fetchWait, codeDed s2 p k.pc 4)
      else
        let s3 := if env.fetch = .corrected then raiseErr s2 (pgPIL p) 0 8 [fabricUnit p] else s2
        (none, env.fetchWait, if used then modCore s3 c fun x => icTouch x line else s3)

/-- A bobbin's fetch: the exception, or none; the cycles it waits. A LOADING page raises IA (R191). A parity error in the loop
buffer gives up the captured body, and the word comes from the cache (R190). -/
def fetchBob (s : State) (c : Nat) (k : Core) (env : Env) : Check × Nat × State :=
  if k.pc / 1024 ∈ s.mem.loading then (some (Exc.ia k.pc), 0, s)
  else if fromBuffer s c k then
    let s1 := addWrap s (pgBOB c) 0x0B0 0 1
    if env.fetch = .parity then
      fetchCache (raiseErr (modCore s1 c fun x => { x with lbActive := false, lbCap := false }) (pgBOB c) 3) c k
        { env with fetch := .clean }
    else (none, 0, s1)
  else
    let s1 := if fitsBuffer s c k && (match k.inner with | some l => decide (l.start = k.pc) | none => false) then
        modCore s c fun x => { x with lbCap := true } else s
    fetchCache s1 c k env

/-- What a fetch of the spindle gives: the word, an exception, or nothing yet. -/
inductive Fetched where
  | word
  | bad (e : Exc)
  | waits
  deriving DecidableEq, Repr

/-- A line put into the L1 instruction cache; a full set gives up one of its four lines (R212). -/
def l1iPut (s : State) (line : Nat) : State :=
  let put (u : State) (gone : Option Nat) : State :=
    { u with spn := { u.spn with l1i := line :: u.spn.l1i.filter fun l => decide (l ≠ line ∧ some l ≠ gone) } }
  let others := s.spn.l1i.filter fun l => decide (l % 128 = line % 128 ∧ l ≠ line)
  if others.length < 4 then put s none
  else match pickOne s others with | (v, s1) => put s1 v

/-- The spindle's fetch (R212 to R216, R230): parity is corrected by a refetch; a line that L1 does not hold comes from L2, and a
line that L2 does not hold is requested, the word waiting for its fill; an error of L2, and a poisoned line outside the
caches, are ME. -/
def fetchSpn (s : State) (k : Core) (env : Env) : Fetched × State :=
  if !fetchAllowed s k k.pc then (.bad (Exc.ia k.pc), s)
  else
    let line := k.pc / 64
    let s1 := if env.fetch = .parity then
        raiseErr { s with spn := { s.spn with l1i := s.spn.l1i.filter fun l => decide (l ≠ line) } } pgSPN 1
      else s
    if env.fetch = .uncorrectable then (.bad (Exc.me k.pc), raiseErr s1 pgSPN 3)
    else if line ∈ s1.spn.l1i then (.word, s1)
    else if regionType s k.pc ≠ 1 then
      (if env.busError || lineBad s1 line then (.bad (Exc.me k.pc), if linePoisoned s1 line then raiseErr s1 pgSPN 6 else s1)
        else (.word, s1))
    else if (l2Get s1 line).st.held then
      match env.ecc with
      | .double => (.bad (Exc.me k.pc), raiseErr s1 pgSPN 3)
      | .single => (.word, l1iPut (raiseErr s1 pgSPN 2) line)
      | _ => (.word, l1iPut s1 line)
    else if env.busError || lineBad s1 line then
      (.bad (Exc.me k.pc), if linePoisoned s1 line then raiseErr s1 pgSPN 6 else s1)
    else if (l2Get s1 line).st = .fp ∨ (l2Get s1 line).st = .ep then (.waits, s1)
    else (.waits, missL2 s1 line false)

/-! ### The next word (R85, R86, R130, R131, R185) -/

/-- What a sequential step did to the loops. -/
inductive Edge where
  | none | back | ended
  deriving DecidableEq, Repr

/-- The word after `pc` in sequence: the last body word of an iteration that is not the last leads to the body start; a
loop whose last iteration is over ends, and an outer loop that ends at the same word then takes its own back-edge. A loop
whose body has not been reached is no active loop, and is passed over. -/
def follow (step pc : Nat) : List Loop → Nat × List Loop × Edge
  | [] => (pc + step, [], .none)
  | l :: t =>
    if !l.entered then
      let r := follow step pc t
      (r.1, l :: r.2.1, r.2.2)
    else if pc + step = l.stop then
      if 1 < l.now then (l.start, { l with left := l.now - 1, taken := false } :: t, .back)
      else
        let r := follow step pc t
        (r.1, r.2.1, .ended)
    else (pc + step, l :: t, .none)

/-- The core placed at an address. -/
def goto (c : Nat) (k : Core) (pc : Nat) (loops : List Loop) : Core :=
  let (p, ls) := arrive loops.length pc loops
  { k with pc := pcWrap c p, loops := ls }

/-- A branch taken from inside the innermost loop's body to a target outside ends that loop, a call apart (R185). -/
def leavesLoop (k : Core) (target : Nat) (call : Bool) : Bool :=
  match k.inner with
  | some l => !call && decide (l.start ≤ k.pc ∧ k.pc < l.stop) && decide (target < l.start ∨ l.stop ≤ target)
  | none => false

/-- The core one word further in sequence. -/
def stepSeq (c : Nat) (k : Core) : Core :=
  let (p, ls, e) := follow (pcStep c) k.pc k.loops
  let k1 := goto c k p ls
  match e with
  | .none => k1
  | .back => { k1 with lbActive := k.lbCap }
  | .ended => { k1 with lbActive := false, lbCap := false }

/-- The core after a word with the given flow, bubbles that pass later apart; `k` still stands at the word. A GATE that its slot
completes is returned, to be acted on. -/
def flowTo (c : Nat) (k : Core) (f : Flow) : Core × Option (Nat × Nat) :=
  match f with
  | .stay => (k, none)
  | .placed => (k, none)
  | .locks => (k, none)
  | _ =>
    match k.delay with
    | some (.branch t b ends) =>
      let k1 := goto c { k with delay := none, bubbles := if c = spindle then 0 else b } t (if ends then dropInner k.loops else k.loops)
      (if ends then { k1 with lbActive := false, lbCap := false } else k1, none)
    | some (.gate n pc) => ({ k with delay := none }, some (n, pc))
    | _ =>
      let k1 := stepSeq c { k with delay := none }
      match f with
      | .branch true t b call =>
        let same : Bool := match k.inner, k1.inner with | some l, some m => decide (l.start = m.start ∧ l.stop = m.stop) | _, _ => false
        let k2 := { k1 with delay := some (.branch t b (leavesLoop k t call && same)) }
        (if call then { k2 with lbActive := false, lbCap := false } else k2, none)
      | .branch false _ _ _ => ({ k1 with delay := some .fallThrough }, none)
      | .gate n => ({ k1 with delay := some (.gate n k.pc), lbActive := false, lbCap := false }, none)
      | .seq b => ({ k1 with bubbles := if c = spindle then 0 else b }, none)
      | _ => (k1, none)

/-- Bubbles due after a word: its own, and those that earlier words of the path have left (R186, R188). -/
def dueBubbles (k : Core) (f : Flow) : Nat × List (Nat × Nat) :=
  let old := k.late.map fun e => (e.1 - 1, e.2)
  let all := match f with | .later n b => (n, b) :: old | _ => old
  (((all.filter fun e => decide (e.1 = 0)).map (·.2)).sum, all.filter fun e => decide (e.1 ≠ 0))

/-- The core after a word with the given flow. -/
def flowOn (c : Nat) (k : Core) (f : Flow) : Core × Option (Nat × Nat) :=
  let (k1, g) := flowTo c k f
  match f with
  | .stay => (k1, g)
  | .placed => (k1, g)
  | .locks => (k1, g)
  | _ =>
    let (b, l) := dueBubbles k f
    ({ k1 with bubbles := if c = spindle then k1.bubbles else k1.bubbles + b, late := if c = spindle then [] else l }, g)

/-! ### Commit -/

/-- The store of a word: on a bobbin the bank word it replaces is what a load at distance 1 still sees (R174). -/
def commitStore (s : State) (c : Nat) (k : Core) (st : Option (Place × TWord)) : State :=
  match st with
  | none => s
  | some (pl, w) =>
    let s1 := match pl with
      | .bank a => if c = spindle then s else modCore s c fun x => { x with staleNew := (a, bankSeen s a) :: x.staleNew }
      | _ => s
    writePlace s1 c k pl w

/-- The waits of a word's accesses. -/
def stalls (s : State) (c : Nat) (env : Env) (acc : List (Bool × Nat)) : Nat × State :=
  acc.foldl (fun a e =>
    let (n, u) := accessStall a.2 c env e.2
    (a.1 + n, u)) (0, s)

/-- Data breakpoints of accesses, by word address on a bobbin and by byte address on the spindle (R668). -/
def dataBreaks (s : State) (c : Nat) (acc : List (Bool × Nat)) : State :=
  acc.foldl (fun u e => (bpTake u c (if e.1 then 3 else 2) e.2).2) s

/-- Engine word addresses as breakpoints compare them: on the spindle, where its window shows them. -/
def bpAddrs (s : State) (c : Nat) (acc : List (Bool × Nat)) : List (Bool × Nat) :=
  if c = spindle then acc.map fun e => (e.1, s.spn.winBase + 8 * e.2) else acc

/-- What the spindle foretold of a word (R206, R240): with the history-indexed predictor on, its guess of a direction or of an
indirect target is what the command says of it; with it off every branch is predicted not taken; a return is the return
predictor's. A call pushes the address it returns to. How the history indexes the predictor is not stated (log entry 136). -/
def predict (s : State) (d : Done) (link : Nat) (env : Env) : State :=
  let on := rdB s pgSPN 0x080 1
  match d.pred, d.flow with
  | .direction, .branch taken _ _ call =>
    let s1 := if (if on then env.mispredict else taken) then mispredicted s else s
    if taken && call then pushRet s1 spindle link else s1
  | .target, .branch true _ _ call =>
    let s1 := if env.mispredict || !on then mispredicted s else s
    if call then pushRet s1 spindle link else s1
  | .ret, .branch true t _ _ => predictRet s spindle t
  | _, .branch true _ _ true => pushRet s spindle link
  | _, _ => s

/-- Counts of a word that has committed or was annulled (R240, R677); a word that stays has retired nothing. -/
def countWord (s : State) (c : Nat) (d : Done) (link : Nat) (env : Env) : State :=
  let s1 := if d.flow = .stay then s else pmcCount s c (if d.annulled then 3 else 2) 1
  if c = spindle then (if d.flow = .stay then s1 else predict (add64 s1 pgSPN 0x0A8 0x0AC 0 d.ops) d link env)
  else if 1 < d.cycles then addWrap s1 (pgBOB c) 0x0A4 0 (d.cycles - 1) else s1

/-- What a word's stack changes spill or fill on the spindle (R69, R238): the exception, or the core with what was filled. -/
def depthSpill (s : State) (c : Nat) (k k' : Core) (env : Env) : Except Exc Core × State :=
  if c ≠ spindle then (.ok k', s) else moveStacks s env k k'

/-- A word that has passed every check: its store, its core, its waits and cycles, its counts, what follows from it, a
GATE that its slot completes. `wait` holds cycles spent before it. A word that stays has not ended. -/
def commit (s : State) (c : Nat) (env : Env) (k : Core) (d : Done) (wait : Nat) : State :=
  let (k1, g) := flowOn c d.k d.flow
  let stays := decide (d.flow = .stay)
  let k2 := { k1 with lastPc := if stays then k.lastPc else k.pc, atHandler := false, bpPass := stays }
  let s1 := commitStore (setCore s c k2) c k d.store
  let (n, s2) := stalls s1 c env d.acc
  let s3 := spend (countWord s2 c d (pcWrap c ((stepSeq c k).pc + pcStep c)) env) c (d.cycles + d.wait + n + wait)
  let s4 := match d.flow with
    | .branch true _ _ _ => traceRec s3 (some c) 1 k.pc (match k.strand with
      | some o => (match strand s3 o.idx with | some x => x.id | none => 0) | none => 0)
    | _ => s3
  let s5 := d.after s4
  let s6 := match g with | some (m, pc) => gate s5 c env m pc | none => s5
  let s7 := dataBreaks s6 c (bpAddrs s6 c d.acc ++ d.host)
  if stays then s7 else stepDone s7 c

/-! ### One word -/

/-- The core runs words now. -/
def runs (s : State) (c : Nat) : Bool :=
  let k := core s c
  if c = spindle then decide (k.pstate = .strand ∧ s.clk.spnPause ≤ s.now) && s.spn.pend.isNone
  else decide (c < 256) && decide (k.pstate = .strand ∨ k.pstate = .system)

/-- The end of a word that core `k` has read, with `spent` cycles gone: its exception is entered, or its effect committed; a
snoop that the reservation held off is answered where the word has cleared it (R228). -/
def settle (s : State) (c : Nat) (env : Env) (k : Core) (spent : Nat) (r : Res) : State :=
  match r with
  | (.error e, u) => stepDone (takeExc (spend u c spent) c env e) c
  | (.ok d, u) =>
    if d.flow = .locks then lockUp (spend u c spent) c
    else match depthSpill u c k d.k env with
      | (.error e, v) => stepDone (takeExc (spend v c spent) c env e) c
      | (.ok k', v) =>
        let w := commit v c env k { d with k := k' } spent
        if c = spindle then rsvGone s w else w

/-- A word of a core: instruction breakpoints, the slots that pass, the fetch, then its operations; an exception is entered,
an effect committed. A word for a core that runs none has no effect, and one whose line the spindle must wait for is not
begun. -/
def runWord (s : State) (c : Nat) (env : Env) (body : State → Core → CondSnap → Res) : State :=
  if !runs s c then s
  else
    let k := core s c
    let (halts, s1) := if k.bpPass then (false, s) else bpTake s c 1 k.pc
    if halts then s1
    else
      let s2 := if c = spindle then drainSb s1 else s1
      let (k1, snap) := enterSlot c k
      let bub := if c = spindle then 0 else k.bubbles
      let s2' := setCore s2 c k1
      let (got, wait, s3) :=
        if c = spindle then ((fetchSpn s2' k1 env).1, 0, (fetchSpn s2' k1 env).2)
        else match fetchBob s2' c k1 env with
          | (some e, n, u) => (Fetched.bad e, n, u)
          | (none, n, u) => (Fetched.word, n, u)
      match got with
      | .bad e => stepDone (takeExc (spend s3 c (wait + bub)) c env e) c
      | .waits => s3
      | .word =>
        let s4 := if env.stackParity && decide (c ≠ spindle) then raiseErr s3 (pgBOB c) 4 else s3
        let k2 := core s4 c
        settle s4 c env k2 (wait + bub) (body s4 k2 snap)

/-! ### Conditions and annulment (R77 to R80) -/

/-- A long-format word under its COND; `early` where it is a branch word (R176), of which the entry that QG and QN need is looked for
one slot early too (DEDUCED, log entry 175). An annulled word takes one cycle; an
annulled branch keeps its delay slot. -/
def conditioned (cond : Cond) (early : Bool) (slot : Bool) (snap : CondSnap) (k : Core) (s : State) (body : Res) : Res :=
  let p := if early then snap else snapOf k
  match condCheck cond p with
  | some e => (.error e, s)
  | none =>
    if condHolds cond p (lastIter k) then body
    else (.ok {
      k := k
      flow := if slot then .branch false 0 0 false else .seq 0
      annulled := true
      pred := if slot then .direction else .none }, s)

/-- A long-format word. -/
def runLong (w : LWord) (body : State → Core → Res) (s : State) : State :=
  runWord s w.core w.env fun u k snap => conditioned w.cond false false snap k u (body u k)

/-- A word with a delay slot: illegal in a delay slot (R130); `early` for BR, CALL and BRX, whose COND is evaluated in F2
(R176). -/
def runSlot (early : Bool) (w : LWord) (body : State → Core → Res) (s : State) : State :=
  runWord s w.core w.env fun u k snap =>
    conditioned w.cond early true snap k u (if k.delay.isSome then (.error Exc.il, u) else body u k)

/-- A branch word. -/
def runBranch (w : LWord) (body : State → Core → Res) (s : State) : State := runSlot true w body s

/-- What of a taken branch with the given flow the spindle predicts: the direction of a conditional one, and what `p` says
(R206). -/
def foretold (w : LWord) (p : Pred) (r : Res) : Res :=
  match r with
  | (.ok d, u) => (.ok { d with pred := if p = .none ∧ w.cond ≠ .al then .direction else p }, u)
  | _ => r

/-- A microcoded word whose condition holds: its routine's run comes first; a FAULT raises its cause, and an error of the control store
locks the core up (R79, R246, R252, R253). -/
def routine (c : Nat) (env : Env) (atomic : Bool) (body : State → Core → Res) (s : State) (k : Core) : Res :=
  match sequencer s c atomic true env.seq with
  | (.locked, u) => (.ok { k := k, flow := .locks }, u)
  | (.faulted v, u) => (.error ⟨v, 0, 0⟩, u)
  | (_, u) => body u k

/-! ### Paired words (R81 to R83) -/

/-- Operation A as it will commit: its effect, its accesses and its store. -/
structure AEff where
  out : AOut
  acc : List (Bool × Nat) := []
  store : Option (Place × TWord) := none

/-- The effect of a data-unit operation on a core; results with an exposed distance are in flight on a bobbin (R174,
R175). -/
def applyA (c : Nat) (k : Core) (o : AOut) : Core :=
  let d := k.ds.drop o.pop
  let late := decide (c ≠ spindle ∧ 1 < o.lat)
  let k1 :=
    if late then
      let k2 := k.setDs { d with depth := d.depth + o.push.length }
      { k2 with flight := k2.flight ++
        ((List.range o.push.length).map fun i => ⟨o.lat, .entry k.pset (d.depth + i) (o.push.getD i voidWord)⟩) ++
        (if o.sticky = 0 then [] else [⟨o.lat, .sticky o.sticky⟩]) }
    else
      let k2 := k.setDs (d.pushAll o.push)
      { k2 with sticky := Nat.lor k2.sticky o.sticky }
  match o.flags with | some f => { k1 with flags := f } | none => k1

/-- The effect of an address-unit operation. -/
def applyB (k : Core) (o : BOut) : Core := { k.setRs o.rs with areg := o.areg, loops := o.loops }

/-- An engine word address as a core offers it: the word's payload, or A plus a displacement. -/
def loadChecked (s : State) (c : Nat) (k : Core) (env : Env) (a : Nat) : Except Exc TWord × State :=
  match loadWord s c k env a with
  | (.error e, u) => (.error e, u)
  | (.ok w, u) => match tagCauses k [(.move, w)] with
    | some t => (.error (Exc.tf t), accessSpent u c env a)
    | none => (.ok w, u)

/-- A load to TOS of the word at an address that has passed its checks. -/
def loadOp (s : State) (c : Nat) (k : Core) (env : Env) (pre : Check) (pop a : Nat) : Except Exc AEff × State :=
  match pre with
  | some e => (.error e, s)
  | none => match loadChecked s c k env a with
    | (.error e, u) => (.error e, u)
    | (.ok w, u) => (.ok { out := { pop := pop, push := [w], lat := 3 }, acc := [(false, a)] }, u)

/-- A store of a word to an address that has passed its checks. -/
def storeOp (s : State) (c : Nat) (k : Core) (env : Env) (pre : Check) (pop a : Nat) (w : TWord) : Except Exc AEff × State :=
  match pre with
  | some e => (.error e, s)
  | none => match accessCheck s c k env .write a with
    | (.error e, u) => (.error e, u)
    | (.ok pl, u) => (.ok { out := { pop := pop }, acc := [(true, a)], store := some (pl, w) }, u)

/-- An operation that reads the top n entries of the data stack: on the spindle those below the top eight come from their containers,
whose errors it meets (R69, R71, R238). -/
def deepOp (s : State) (c : Nat) (k : Core) (env : Env) (n : Nat) (op : Core → Except Exc AEff) : Except Exc AEff × State :=
  if c ≠ spindle ∨ n ≤ 8 ∨ k.dsU.depth < n then (op k, s)
  else match op k with
    | .error e => (.error e, s)
    | .ok _ =>
      let base := s.spn.dsBase
      match spillAt s env base (k.dsU.depth - n) (k.dsU.depth - 8) with
      | (some e, u) => (.error e, u)
      | (none, u) =>
        let (x, v) := fillIn u base k.dsU (k.dsU.depth - n) (k.dsU.depth - 8)
        (op { k with dsU := x }, v)

/-- A data-unit operation with its memory accesses and its reading of the time (R95 to R97, R127, R138). -/
def opA (s : State) (c : Nat) (k : Core) (env : Env) (op : AOp) : Except Exc AEff × State :=
  let cap := dsCap s c
  let n := k.ds.depth
  let t := k.ds.peek 0
  match op with
  | .ld => loadOp s c k env (firstExc [depthCheck 0 n cap 1 1 1, tagCheck (tagCauses k [(.addr, t)])]) 1 t.pay.toNat
  | .st => storeOp s c k env
      (firstExc [depthCheck 0 n cap 2 2 0, tagCheck (tagCauses k [(.move, k.ds.peek 1), (.addr, t)])]) 2 t.pay.toNat (k.ds.peek 1)
  | .ldA d => loadOp s c k env
      (firstExc [depthCheck 0 n cap 0 0 1, tagCheck (tagCauses k [(.addr, k.areg.word)])]) 0 (k.areg.pay.toNat + d.toNat)
  | .stA d => storeOp s c k env
      (firstExc [depthCheck 0 n cap 1 1 0, tagCheck (tagCauses k [(.move, t), (.addr, k.areg.word)])]) 1
      (k.areg.pay.toNat + d.toNat) t
  | .timNow =>
    match depthCheck 0 n cap 0 0 2 with
    | some e => (.error e, s)
    | none =>
      let v := cntAt s env.sub
      (.ok { out := { push := [TWord.mk' .tim (stcQual s) (w32 (secOf v)), TWord.mk' .tim (stcQual s) (nsCell (nsOf v))], lat := 3 } }, s)
  | .pick j => deepOp s c k env (j.toNat + 1) fun x => (dataOp cap x op).map fun o => { out := o }
  | .roll j => deepOp s c k env (j.toNat + 1) fun x => (dataOp cap x op).map fun o => { out := o }
  | _ => ((dataOp cap k op).map fun o => { out := o }, s)

/-- The microcoded operations of a paired word (R246). -/
def microcoded : AOp → Bool
  | .timAddns | .timSub | .timCmp => true
  | _ => false

/-- A paired word: both operations read the core as it stands; A's exception comes first; both commit or neither (R81,
R82). A microcoded operation A runs its routine only where it is not annulled (R79). -/
def paired (c : Nat) (cond : Cond) (ca cb : Bool) (a : AOp) (b : BOp) (env : Env) (s : State) (k : Core) : Res :=
  let p := snapOf k
  let used := ca || cb
  match if used then condCheck cond p else none with
  | some e => (.error e, s)
  | none =>
    let ok := !used || condHolds cond p (lastIter k)
    let doA := !ca || ok
    let doB := !cb || ok
    match if doA && microcoded a then sequencer s c true ok env.seq else (.ended, s) with
    | (.locked, v) => (.ok { k := k, flow := .locks }, v)
    | (.faulted x, v) => (.error ⟨x, 0, 0⟩, v)
    | (_, v) =>
    match if doA then opA v c k env a else (.ok { out := {} }, v) with
    | (.error e, u) => (.error e, u)
    | (.ok ea, u) =>
      match if doB then addrOp c (rsCap s c) k.pc k b else .ok ⟨k.rs, k.areg, k.loops, 0, 0⟩ with
      | .error e => (.error e, u)
      | .ok eb =>
        (.ok {
          k := applyB (applyA c k ea.out) eb
          flow := if eb.bubbles = 0 then .seq 0 else .later eb.after eb.bubbles
          cycles := ea.out.cycles
          acc := ea.acc
          store := ea.store
          ops := 2
          annulled := !doA && !doB }, u)

/-- A paired word of a core. -/
def runPaired (c : Nat) (cond : Cond) (ca cb : Bool) (a : AOp) (b : BOp) (env : Env) (s : State) : State :=
  runWord s c env fun u k _ => paired c cond ca cb a b env u k

/-- The row of a data-unit operation. -/
def runA (a : AOp) (w : AWord) (s : State) : State := runPaired w.core w.cond w.ca w.cb a w.b w.env s
/-- The row of an address-unit operation. -/
def runB (b : BOp) (w : BWord) (s : State) : State := runPaired w.core w.cond w.ca w.cb w.a b w.env s

end Sys2Proof.Machine
end

