-- ==== Sys2Proof/Machine/LongOps.lean ====
section
/-!
DEFINITION. Long-format words that stay within the flow: literals, loads and stores, bank atomics, control registers
(03_kendil_encoding.md R84, R87, R88, 04_kendil_reference.md R110, R127, R128, R144, 07_spindle_core.md R239).
-/

namespace Sys2Proof.Machine

/-- A word whose effect is a data-unit effect. -/
def aDone (c : Nat) (k : Core) (o : AOut) : Done := { k := applyA c k o, cycles := o.cycles }

/-- The same with its accesses. -/
def effDone (c : Nat) (k : Core) (r : Except Exc AEff × State) : Res :=
  match r with
  | (.error e, u) => (.error e, u)
  | (.ok e, u) => (.ok { aDone c k e.out with acc := e.acc, store := e.store }, u)

/-! ### Literals (R87, R88, R110) -/

/-- A literal pushed. -/
def litRes (c : Nat) (w : TWord) (s : State) (k : Core) : Res :=
  ((checked [depthCheck 0 k.ds.depth (dsCap s c) 0 0 1] (aDone c k { push := [w] })), s)

/-- LIT.I -/
def execLitI (w : LWord) (v : BitVec 22) (s : State) : Host.Outcome State Fault Refusal :=
  .next (runLong w (litRes w.core (TWord.ofTy .int (v.signExtend 32))) s)

/-- LIT.N -/
def execLitN (w : LWord) (v : BitVec 22) (s : State) : Host.Outcome State Fault Refusal :=
  .next (runLong w (litRes w.core (TWord.nat (v.setWidth 32))) s)

/-- LIT.F: the operand is payload [31:10]. -/
def execLitF (w : LWord) (v : BitVec 22) (s : State) : Host.Outcome State Fault Refusal :=
  .next (runLong w (litRes w.core (TWord.ofTy .flt (w32 (v.toNat * 2 ^ 10)))) s)

/-- The raw value of LIT.X. -/
def litXRaw (v : BitVec 22) : W32 :=
  let x : BitVec 32 := (v.setWidth 21).signExtend 32
  if v.msb then w32 (x.toNat * 2 ^ 11) else x

/-- LIT.X -/
def execLitX (w : LWord) (v : BitVec 22) (s : State) : Host.Outcome State Fault Refusal :=
  .next (runLong w (litRes w.core (TWord.ofTy .fix (litXRaw v))) s)

/-- LIT.A -/
def execLitA (w : LWord) (v : BitVec 22) (s : State) : Host.Outcome State Fault Refusal :=
  .next (runLong w (litRes w.core (TWord.ofTy .adr (v.setWidth 32))) s)

/-- LIT.H: payload [31:22] of TOS replaced, type and tag kept (R88); a VOID word raises cause 2 (R42). -/
def litHRes (c : Nat) (v : BitVec 10) (s : State) (k : Core) : Res :=
  let t := k.ds.peek 0
  let n : TWord := { t with pay := w32 (bits t.pay 0 22 + v.toNat * 2 ^ 22) }
  (checked [depthCheck 0 k.ds.depth (dsCap s c) 1 1 1, tagCheck (tagCauses k [(.plain sendable, t)])] (aDone c k { pop := 1, push := [n] }), s)

/-- LIT.H -/
def execLitH (w : LWord) (v : BitVec 10) (s : State) : Host.Outcome State Fault Refusal :=
  .next (runLong w (litHRes w.core v) s)

/-! ### Absolute and strand-local accesses (R96, R97, R127) -/

/-- LD.G -/
def execLdG (w : LWord) (a : BitVec 22) (s : State) : Host.Outcome State Fault Refusal :=
  .next (runLong w (fun u k => effDone w.core k (loadOp u w.core k w.env
    (depthCheck 0 k.ds.depth (dsCap u w.core) 0 0 1) 0 a.toNat)) s)

/-- ST.G -/
def execStG (w : LWord) (a : BitVec 22) (s : State) : Host.Outcome State Fault Refusal :=
  .next (runLong w (fun u k => effDone w.core k (storeOp u w.core k w.env
    (firstExc [depthCheck 0 k.ds.depth (dsCap u w.core) 1 1 0, tagCheck (tagCauses k [(.move, k.ds.peek 0)])]) 1 a.toNat
    (k.ds.peek 0))) s)

/-- The bank address of strand-local cell n of the strand on a bobbin: context word 40 + n. Without a strand no cell belongs
to the code, and AF is raised (R97). -/
def localCell (c : Nat) (k : Core) (n : Nat) : Except Exc Nat :=
  match k.strand with
  | some o => .ok (ctxAddr (pilOf c) o.slot (40 + n))
  | none => .error (Exc.af 0)

/-- Checks of LDL and STL before their access. -/
def localCheck (c : Nat) (k : Core) (n : Nat) (more : List Check) : Except Exc Nat :=
  match firstExc (failIf (decide (c = spindle ∨ 23 < n)) Exc.il :: more) with
  | some e => .error e
  | none => localCell c k n

/-- The wait of a bank access that ends in an exception (R179, R180). -/
def bankSpent (s : State) (c a : Nat) (env : Env) : State :=
  let (n, u) := bankStall s c a env
  spend u c n

/-- LDL n. A bank in RETAIN or OFF raises AF (R415). -/
def ldlRes (c n : Nat) (env : Env) (s : State) (k : Core) : Res :=
  match localCheck c k n [depthCheck 0 k.ds.depth 16 0 0 1] with
  | .error e => (.error e, s)
  | .ok a =>
    if !bankServes s a then (.error (Exc.af a), s)
    else match readSeen s c k (.bank a) env.ecc with
    | (none, u) => (.error (Exc.me a), bankSpent u c a env)
    | (some v, u) =>
      match tagCauses k [(.move, v)] with
      | some t => (.error (Exc.tf t), bankSpent u c a env)
      | none =>
        let (n', u1) := bankStall u c a env
        (.ok { aDone c k { push := [v], lat := 3 } with wait := n' }, u1)

/-- STL n -/
def stlRes (c n : Nat) (env : Env) (s : State) (k : Core) : Res :=
  let t := k.ds.peek 0
  match localCheck c k n [depthCheck 0 k.ds.depth 16 1 1 0, tagCheck (tagCauses k [(.move, t)])] with
  | .error e => (.error e, s)
  | .ok a =>
    if !bankServes s a then (.error (Exc.af a), s)
    else
      let (n', u) := bankStall s c a env
      (.ok { aDone c k { pop := 1 } with store := some (.bank a, t), wait := n' }, u)

/-- LDL -/
def execLdl (w : LWord) (n : BitVec 5) (s : State) : Host.Outcome State Fault Refusal :=
  .next (runLong w (ldlRes w.core n.toNat w.env) s)

/-- STL -/
def execStl (w : LWord) (n : BitVec 5) (s : State) : Host.Outcome State Fault Refusal :=
  .next (runLong w (stlRes w.core n.toNat w.env) s)

/-! ### Bank atomics (R128) -/

/-- The bank word of an atomic, past its checks. -/
def atomicRead (s : State) (c : Nat) (k : Core) (env : Env) (a : Nat) : Except Exc (Place × TWord) × State :=
  match accessCheck s c k env .atomic a with
  | (.error e, u) => (.error e, u)
  | (.ok pl, u) => match readPlace u c pl env.ecc with
    | (none, v) => (.error (Exc.me a), accessSpent v c env a)
    | (some x, v) => (.ok (pl, x), v)

/-- ATADD: the sum is written back and pushed, both with the quality merged over n, the bank word and the address (R36, R37);
its flags travel with the word, and where a word between ATADD and the landing writes flags, ATADD's landing replaces them
(DEDUCED, log entry 125). -/
def ataddRes (c : Nat) (env : Env) (s : State) (k : Core) : Res :=
  let n := k.ds.peek 1
  let adr := k.ds.peek 0
  let a := adr.pay.toNat
  match firstExc [depthCheck 0 k.ds.depth (dsCap s c) 2 2 1, tagCheck (tagCauses k [(.arith intIn, n), (.addr, adr)])] with
  | some e => (.error e, s)
  | none => match atomicRead s c k env a with
    | (.error e, u) => (.error e, u)
    | (.ok (pl, x), u) => match tagCauses k [(.arith intIn, x)] with
      | some t => (.error (Exc.tf t), accessSpent u c env a)
      | none =>
        let r := addW x.pay n.pay false
        let q := mergeOf [x, n, adr]
        let w := TWord.mk' (intTy [x, n]) q r.1
        let f := arithFlags r q
        let k1 := applyA c k { pop := 2, push := [w], lat := 3 }
        let k2 := if c = spindle then { k1 with flags := f }
          else { k1 with flight := k1.flight ++ [⟨3, .flags f.z f.n f.c f.v f.cq⟩] }
        (.ok { k := k2, acc := [(true, a)], store := some (pl, w) }, u)

/-- ATSWP: the word written and the word replaced keep their tags. -/
def atswpRes (c : Nat) (env : Env) (s : State) (k : Core) : Res :=
  let x := k.ds.peek 1
  let adr := k.ds.peek 0
  let a := adr.pay.toNat
  match firstExc [depthCheck 0 k.ds.depth (dsCap s c) 2 2 1, tagCheck (tagCauses k [(.move, x), (.addr, adr)])] with
  | some e => (.error e, s)
  | none => match atomicRead s c k env a with
    | (.error e, u) => (.error e, u)
    | (.ok (pl, old), u) => match tagCauses k [(.move, old)] with
      | some t => (.error (Exc.tf t), accessSpent u c env a)
      | none => (.ok { aDone c k { pop := 2, push := [old], lat := 3 } with acc := [(true, a)], store := some (pl, x) }, u)

/-- ATADD -/
def execAtadd (w : LWord) (s : State) : Host.Outcome State Fault Refusal := .next (runLong w (ataddRes w.core w.env) s)

/-- ATSWP -/
def execAtswp (w : LWord) (s : State) : Host.Outcome State Fault Refusal := .next (runLong w (atswpRes w.core w.env) s)

/-! ### Control registers (R144, R239, R271) -/

/-- A control register that the core has. -/
def ctlExists (c n : Nat) : Bool := decide (n < 0x00A) || (decide (c = spindle) && decide (0x100 ≤ n ∧ n ≤ 0x10C))

/-- A control register that no write reaches. -/
def ctlReadOnly (n : Nat) : Bool := decide (n ∈ [0x007, 0x008, 0x009, 0x103, 0x106, 0x107, 0x108, 0x109, 0x10B, 0x10C])

/-- FPCSR. -/
def fpcsr (k : Core) : W32 := w32 (k.modes.rm.code + k.sticky % 32 * 2 ^ 4 + k.traps % 32 * 2 ^ 12)

/-- What a control register reads, with what the read leaves: CYCLE_LO latches the high half of the spindle's cycle count (R239). The
strand registers of code without a strand are free values (log entry 100). -/
def ctlValue (s : State) (c : Nat) (k : Core) (n : Nat) : TWord × State :=
  let nat (v : W32) : TWord × State := (TWord.nat v, s)
  let free : TWord × State := let (v, u) := free32 s; (TWord.nat v, u)
  match n, k.strand with
  | 0x000, _ => nat (statusWord c k)
  | 0x001, _ => nat (fpcsr k)
  | 0x002, _ => nat k.acb
  | 0x003, _ => nat k.acl
  | 0x004, _ => nat k.crcPoly
  | 0x005, _ => nat k.crcCfg
  | 0x006, _ => (k.fillw, s)
  | 0x007, some _ => nat (w32 k.budgetLeft)
  | 0x008, some o => nat (match strand s o.idx with | some x => x.id | none => 0)
  | 0x009, some o => nat (w32 (match ply? s o.idx o.ply with | some p => p.tickNum % 2 ^ 17 | none => 0))
  | 0x100, _ => nat s.spn.spillHi
  | 0x101, _ => nat s.spn.dsBase
  | 0x102, _ => nat s.spn.dsLimit
  | 0x103, _ => nat (w32 (k.dsU.depth % 2 ^ 24))
  | 0x104, _ => nat s.spn.rsBase
  | 0x105, _ => nat s.spn.rsLimit
  | 0x106, _ => nat (w32 (k.rsU.depth % 2 ^ 24))
  | 0x107, _ => nat (rd s pgSPN 0x098)
  | 0x108, _ => nat (rd s pgSPN 0x09C)
  | 0x109, _ => nat (rd s pgSPN 0x0A0)
  | 0x10A, _ => nat 0
  | 0x10B, _ => (TWord.nat (w32 s.spn.cyc), { s with spn := { s.spn with cycHi := w32 (s.spn.cyc / 2 ^ 32) } })
  | 0x10C, _ => nat s.spn.cycHi
  | _, _ => free

/-- CTL.RD. A RET word in FILLW is not placed on the data stack at U (R42, cause 4). -/
def ctlRdRes (c n : Nat) (s : State) (k : Core) : Res :=
  match firstExc [failIf (!ctlExists c n) Exc.il, failIf (decide (0x100 ≤ n) && decide (k.modes.level = .u)) Exc.pv,
    depthCheck 0 k.ds.depth (dsCap s c) 0 0 1] with
  | some e => (.error e, s)
  | none =>
    let (v, u) := ctlValue s c k n
    if v.ty = .ret ∧ k.modes.level = .u then (.error (Exc.tf 4), s)
    else (.ok (aDone c k { push := [v], cycles := if c = spindle then 2 else 1 }), u)

/-- The modes that the newest mode change in flight will leave. -/
def newestModes (k : Core) : Modes :=
  k.flight.foldl (fun m f => match f.land with | .modes x => x | _ => m) k.modes

/-- A mode change: at distance 3 on a bobbin, at once on the spindle (R183, R271). -/
def changeModes (c : Nat) (k : Core) (l : List Landing) : Core :=
  if c = spindle then l.foldl land k else { k with flight := k.flight ++ l.map fun x => ⟨3, x⟩ }

/-- Privilege of a write (R144, R239, R271). -/
def ctlPriv (c n : Nat) (k : Core) (v : W32) : Check :=
  let u := decide (k.modes.level = .u)
  if n = 0 then
    failIf (u || decide (bits v 0 2 = 3 ∨ k.modes.level.code < bits v 0 2) ||
      (decide (c ≠ spindle) && k.pset && decide (bits v 0 2 = 0))) Exc.pv
  else failIf (decide (0x100 ≤ n) && u) Exc.pv

/-- The operand ranges of R239. -/
def ctlRange (s : State) (k : Core) (n : Nat) (v : W32) : Check :=
  let deepD := decide (8 < k.dsU.depth)
  let deepR := decide (8 < k.rsU.depth)
  let low := decide (v.toNat % 8 ≠ 0)
  failIf (match n with
    | 0x100 => deepD || deepR
    | 0x101 => deepD || low
    | 0x102 => deepD || low || decide (v.toNat ≤ s.spn.dsBase.toNat)
    | 0x104 => deepR || low
    | 0x105 => deepR || low || decide (v.toNat ≤ s.spn.rsBase.toNat)
    | _ => false) Exc.or'

/-- A control register written, outside the spindle's own. -/
def ctlSet (s : State) (c : Nat) (k : Core) (n : Nat) (w : TWord) : Core × Bool :=
  let v := w.pay
  match n with
  | 0x000 =>
    let (m, warn) := pModes (runsP s k) (newestModes k) (modesOf v)
    let f := flagsOf v
    (changeModes c k [.modes m, .flags f.z f.n f.c f.v f.cq], warn)
  | 0x001 =>
    let k1 := { k with sticky := bits v 4 5, traps := bits v 12 5 }
    (changeModes c k1 [.modes { newestModes k with rm := Rm.ofCode (bits v 0 2) }], false)
  | 0x002 => ({ k with acb := w32 (bits v 0 24) }, false)
  | 0x003 => ({ k with acl := w32 (bits v 0 16) }, false)
  | 0x004 => ({ k with crcPoly := v }, false)
  | 0x005 => ({ k with crcCfg := w32 (bits v 0 11) }, false)
  | 0x006 => ({ k with fillw := w }, false)
  | _ => (k, false)

/-- LBE_CLR (R221, R239). -/
def clearLbe (s : State) : State := wr (wr (wr s pgSPN 0x0A0 0) pgSPN 0x098 0) pgSPN 0x09C 0

/-- The spindle's own control registers written; a mode change serialises it (R242, R271). -/
def ctlSpn (n : Nat) (v : W32) (s : State) : State :=
  let x := s.spn
  match n with
  | 0x000 => marSync s
  | 0x001 => marSync s
  | 0x100 => { s with spn := { x with spillHi := w32 (bits v 0 16) } }
  | 0x101 => { s with spn := { x with dsBase := v } }
  | 0x102 => { s with spn := { x with dsLimit := v } }
  | 0x104 => { s with spn := { x with rsBase := v } }
  | 0x105 => { s with spn := { x with rsLimit := v } }
  | 0x10A => if bit v 0 then clearLbe s else s
  | _ => s

/-- CTL.WR -/
def ctlWrRes (c n : Nat) (s : State) (k : Core) : Res :=
  let w := k.ds.peek 0
  let u : Use := if n = 6 then .move else .plain intIn
  match firstExc [failIf (!ctlExists c n || ctlReadOnly n) Exc.il,
    (if k.ds.depth = 0 then failIf ((decide (n = 0) || decide (0x100 ≤ n)) && decide (k.modes.level = .u)) Exc.pv
      else ctlPriv c n k w.pay),
    depthCheck 0 k.ds.depth (dsCap s c) 1 1 0, tagCheck (tagCauses k [(u, w)]),
    if c = spindle then ctlRange s k n w.pay else none] with
  | some e => (.error e, s)
  | none =>
    let (k1, warn) := ctlSet s c (applyA c k { pop := 1 }) n w
    (.ok {
      k := k1
      cycles := if c = spindle then 2 else 1
      after := fun x =>
        let y := if c = spindle then ctlSpn n w.pay x else x
        if warn then warnEvent y (pgBOB c) else y }, s)

/-- CTL.RD -/
def execCtlRd (w : LWord) (n : BitVec 12) (s : State) : Host.Outcome State Fault Refusal :=
  .next (runLong w (ctlRdRes w.core n.toNat) s)

/-- CTL.WR -/
def execCtlWr (w : LWord) (n : BitVec 12) (s : State) : Host.Outcome State Fault Refusal :=
  .next (runLong w (ctlWrRes w.core n.toNat) s)

end Sys2Proof.Machine
end

