-- ==== Sys2Proof/Machine/Control.lean ====
section
/-!
DEFINITION. Control transfer (03_kendil_encoding.md R85, R86, R98, R99, 04_kendil_reference.md R129 to R131,
09_privilege_exceptions.md R279, R281), illegal words (R75, R76) and the code-load barrier at a bobbin (R192).
-/

namespace Sys2Proof.Machine

/-! ### Host double cells (R98) -/

/-- The tag-fault cause of one cell of a host address. -/
def hostCause (k : Core) (w : TWord) : Option Nat :=
  let sc := k.modes.tcs
  let retU := decide (w.ty = .ret ∧ k.modes.level = .u)
  let ok := decide (w.ty = .nat) || (decide (sc = .address) && decide (w.ty = .int)) || decide (sc = .off)
  if w.ty = .void ∧ sc ≠ .off then some 2 else if w.rsv then some 3 else if retU then some 4
  else if !ok then some 7 else none

/-- The address of two cells. -/
def hostAddr (hi lo : TWord) : Nat := bits hi.pay 0 16 * 2 ^ 32 + lo.pay.toNat

/-- The access fault of a high cell with a bit above [15:0]. -/
def hostHigh (hi lo : TWord) : Check := failIf (decide (bits hi.pay 16 16 ≠ 0)) (Exc.af (hostAddr hi lo))

/-! ### Branches (R85, R129, R130) -/

/-- The address of the delay slot. -/
def slotAddr (c : Nat) (k : Core) : Nat := (stepSeq c k).pc

/-- The link that a call pushes: the word after its delay slot (R72). -/
def callLink (c : Nat) (k : Core) : List TWord := linkCells c (pcWrap c (slotAddr c k + pcStep c))

/-- The target of BR and CALL (R85): none outside a bobbin's code memory, with the address that fails. -/
def relTarget (c : Nat) (k : Core) (off : BitVec 22) : Except Exc Nat :=
  let t : Int := (k.pc : Int) + off.toInt * pcStep c
  if c = spindle then .ok (t % 2 ^ 48).toNat
  else if t < 0 ∨ 65535 < t then .error (Exc.ia (t % 2 ^ 32).toNat) else .ok t.toNat

/-- BR -/
def brRes (c : Nat) (off : BitVec 22) (s : State) (k : Core) : Res :=
  ((relTarget c k off).map fun t => { k := k, flow := .branch true t 0 false }, s)

/-- CALL: stack overflow comes before the target's IA (R109). -/
def callRes (c : Nat) (off : BitVec 22) (s : State) (k : Core) : Res :=
  let l := callLink c k
  match depthCheck 1 k.rs.depth (rsCap s c) 0 0 l.length with
  | some e => (.error e, s)
  | none => ((relTarget c k off).map fun t => { k := k.setRs (k.rs.pushAll l), flow := .branch true t 0 true }, s)

/-- BR -/
def execBr (w : LWord) (off : BitVec 22) (s : State) : Host.Outcome State Fault Refusal :=
  .next (runBranch w (fun u k => foretold w .none (brRes w.core off u k)) s)

/-- CALL -/
def execCall (w : LWord) (off : BitVec 22) (s : State) : Host.Outcome State Fault Refusal :=
  .next (runBranch w (fun u k => foretold w .none (callRes w.core off u k)) s)

/-- RET: the link consumed is of type RET with its reserved bits 0 (R72, R73); the lowest cause comes first (R109). -/
def retRes (c : Nat) (s : State) (k : Core) : Res :=
  let n := if c = spindle then 2 else 1
  let lo := k.rs.peek 0
  let hi := k.rs.peek 1
  let cells := if c = spindle then [hi, lo] else [lo]
  let rsvBits := if c = spindle then bits hi.pay 16 16 else bits lo.pay 16 16
  let cause := if (cells.any fun w => decide (w.ty = .void)) && decide (k.modes.tcs ≠ .off) then some 2
    else if cells.any (·.rsv) then some 3
    else if (cells.any fun w => decide (w.ty ≠ .ret)) || decide (rsvBits ≠ 0) then some 4 else none
  let t := if c = spindle then hostAddr hi lo else bits lo.pay 0 16
  (checked [depthCheck 1 k.rs.depth (rsCap s c) n n 0, tagCheck cause]
    { k := k.setRs (k.rs.drop n), flow := .branch true t 1 false, cycles := if c = spindle then 1 else 2 }, s)

/-- RET -/
def execRet (w : LWord) (s : State) : Host.Outcome State Fault Refusal := .next (runBranch w (fun u k => foretold w .ret (retRes w.core u k)) s)

/-- JMP.T and CALL.T: a code address on a bobbin, a host double cell on the spindle (R99). -/
def indirectRes (c : Nat) (call : Bool) (s : State) (k : Core) : Res :=
  let lo := k.ds.peek 0
  let hi := k.ds.peek 1
  let n := if c = spindle then 2 else 1
  let l := if call then callLink c k else []
  let t := if c = spindle then hostAddr hi lo else lo.pay.toNat
  let tags := if c = spindle then lowest (hostCause k hi) (hostCause k lo) else tagCauses k [(.addr, lo)]
  (checked [depthCheck 0 k.ds.depth (dsCap s c) n n 0, depthCheck 1 k.rs.depth (rsCap s c) 0 0 l.length, tagCheck tags,
      failIf (decide (c = spindle ∧ t % 4 ≠ 0)) (Exc.al t), failIf (decide (c ≠ spindle ∧ 65535 < t)) (Exc.ia t),
      if c = spindle then hostHigh hi lo else none]
    { k := (k.setDs (k.ds.drop n)).setRs (k.rs.pushAll l), flow := .branch true t 1 call, cycles := if c = spindle then 1 else 2 }, s)

/-- JMP.T -/
def execJmpT (w : LWord) (s : State) : Host.Outcome State Fault Refusal := .next (runBranch w (fun u k => foretold w .target (indirectRes w.core false u k)) s)

/-- CALL.T -/
def execCallT (w : LWord) (s : State) : Host.Outcome State Fault Refusal := .next (runBranch w (fun u k => foretold w .target (indirectRes w.core true u k)) s)

/-! ### Gates (R279 to R281) -/

/-- GATE n: its delay slot runs first; the checks and the switch follow the slot (R130, R279). It is no word whose COND R176
evaluates in F2. -/
def execGate (w : LWord) (n : BitVec 10) (s : State) : Host.Outcome State Fault Refusal :=
  .next (runSlot false w (fun u k => (.ok { k := k, flow := .gate n.toNat }, u)) s)

/-- RETG: a drain point without a delay slot; a branch word all the same, so illegal in one (R130, R177). -/
def retgRes (c : Nat) (env : Env) (s : State) (k : Core) : Res :=
  let k1 := drain k
  let s1 := setCore s c k1
  match retg s1 c env with
  | (.error e, u) => (.error e, u)
  | (.ok _, _) => (.ok { k := k1, flow := .placed, cycles := 0, after := fun x => (retg x c env).2 }, s1)

/-- RETG -/
def execRetg (w : LWord) (s : State) : Host.Outcome State Fault Refusal :=
  .next (runWord s w.core w.env fun v k snap =>
    conditioned w.cond true false snap k v
      (if k.delay.isSome then (.error Exc.il, v) else routine w.core w.env true (retgRes w.core w.env) v k))

/-! ### Hardware loops (R63, R86) -/

/-- Two loops are in use, or the body has no legal place (R63, R86). -/
def loopBad (c : Nat) (k : Core) (dist len : Nat) : Bool :=
  decide (2 ≤ (k.loops.filter fun l => l.entered || decide (l.left ≠ 0)).length) || decide (dist < 2 ∨ len = 0) ||
    decide ((if c = spindle then 2 ^ 48 else 2 ^ 16) < k.pc + (dist + len) * pcStep c)

/-- A loop set up; a zero count with S = 2 costs a bubble where it comes from TOS, in the place of the body
word that the word after LOOP has been followed by (R186). -/
def loopDone (c : Nat) (k : Core) (dist len count : Nat) (tos : Bool) : Done :=
  let start := k.pc + dist * pcStep c
  { k := { k with loops := ⟨start, start + len * pcStep c, count, false, false⟩ :: k.loops, lbActive := false, lbCap := false }
    flow := if tos && decide (count = 0 ∧ dist = 2) then .later 1 1 else .seq 0 }

/-- LOOP: the count is TOS, NAT or an INT that is not negative. -/
def loopRes (c dist len : Nat) (s : State) (k : Core) : Res :=
  let t := k.ds.peek 0
  (checked [failIf (loopBad c k dist len) Exc.il, depthCheck 0 k.ds.depth (dsCap s c) 1 1 0,
      tagCheck (tagCauses k [(.strict intIn, t)]), failIf (decide (t.ty = .int) && t.pay.msb) Exc.or']
    (loopDone c (k.setDs (k.ds.drop 1)) dist len t.pay.toNat true), s)

/-- LOOP -/
def execLoop (w : LWord) (dist : BitVec 6) (len : BitVec 16) (s : State) : Host.Outcome State Fault Refusal :=
  .next (runLong w (loopRes w.core dist.toNat len.toNat) s)

/-- LOOP.I -/
def execLoopI (w : LWord) (dist : BitVec 6) (count : BitVec 10) (len : BitVec 6) (s : State) : Host.Outcome State Fault Refusal :=
  .next (runLong w (fun u k => (checked [failIf (loopBad w.core k dist.toNat len.toNat) Exc.il]
    (loopDone w.core k dist.toNat len.toNat count.toNat false), u)) s)

/-! ### Illegal words (R75, R76) -/

/-- A word that no other row carries: it raises IL whatever its COND, and changes nothing. A word that is legal on this core
kind belongs to its own row. -/
def execIllegalInstruction (w : LWord) (_form : IllegalForm) (s : State) : Host.Outcome State Fault Refusal :=
  .next (runWord s w.core w.env fun u _ _ => (.error Exc.il, u))

/-! ### The barrier (R192) -/

/-- CLB_ACK: an idle bobbin acknowledges; a bobbin at YIELD does so there, and for one without power, halted or retired the
controller does. A bobbin that runs a strand does not. -/
def execClbAck (bob : Nat) (s : State) : Host.Outcome State Fault Refusal :=
  .next (
    let k := core s bob
    if 256 ≤ bob ∨ k.strand.isSome = true ∧ k.pstate ≠ .halted then s
    else if k.pstate = .lockedUp ∨ (k.pstate = .system ∧ domSt s bob = .on) then s else clbAck s bob)

end Sys2Proof.Machine
end

