-- ==== Sys2Proof/Machine/StrandOps.lean ====
section
/-!
DEFINITION. Strand control, outputs and messages (04_kendil_reference.md R139 to R143, 09_privilege_exceptions.md R300,
11_strands_whorl.md R352, R359 to R365): TRIP.SET, PUB.WR, SEND, WAIT and YIELD.
-/

namespace Sys2Proof.Machine

/-! ### Outputs (R140) -/

/-- TRIP.SET: the output must be assigned to the strand on the bobbin, and a fifth command for it in a release is refused (R491). -/
def tripSetRes (c n : Nat) (env : Env) (s : State) (k : Core) : Res :=
  let t := k.ds.peek 0
  match firstExc [failIf (decide (c = spindle)) Exc.il, depthCheck 0 k.ds.depth (dsCap s c) 1 1 0,
    tagCheck (tagCauses k [(.plain intIn, t)])] with
  | some e => (.error e, s)
  | none => match k.strand with
    | none => (.error (Exc.af 0), s)
    | some o =>
      let given := match ply? s o.idx o.ply with | some p => SMap.get p.trips 0 n | none => 0
      if n ∉ outsOf s o.idx ∨ 4 ≤ given then (.error (Exc.af 0), s)
      else (.ok { aDone c k { pop := 1 } with after := fun x => tripSet x o.idx o.ply n env.sub t env.agree }, s)

/-- TRIP.SET -/
def execTripSet (w : LWord) (n : BitVec 5) (s : State) : Host.Outcome State Fault Refusal :=
  .next (runLong w (tripSetRes w.core n.toNat w.env) s)

/-- The commit marker (R140). -/
abbrev commitMarker : Nat := 4095

/-- PUB.WR: VOID is refused but at the commit marker, which discards its word unchecked (R42, R140). -/
def pubWrRes (c slot m : Nat) (env : Env) (s : State) (k : Core) : Res :=
  let t := k.ds.peek 0
  let tag := if m = commitMarker then none
    else tagCauses k [(.plain [.int, .nat, .fix, .flt, .tim, .adr, .ret], t)]
  match firstExc [failIf (decide (c = spindle)) Exc.il, depthCheck 0 k.ds.depth (dsCap s c) 1 1 0, tagCheck tag] with
  | some e => (.error e, s)
  | none => match k.strand with
    | none => (.error (Exc.af 0), s)
    | some o =>
      let members := match pub? s slot with | some p => pubMembers p.entry | none => 0
      if slot ∉ pubsOf s o.idx ∨ (m ≠ commitMarker ∧ members ≤ m) then (.error (Exc.af 0), s)
      else (.ok { aDone c k { pop := 1 } with
        after := fun x => if m = commitMarker then pubCommit x o.idx o.ply slot env.sub env.agree
          else pubWrite x o.idx o.ply slot m t }, s)

/-- PUB.WR -/
def execPubWr (w : LWord) (slot : BitVec 10) (m : BitVec 12) (s : State) : Host.Outcome State Fault Refusal :=
  .next (runLong w (pubWrRes w.core slot.toNat m.toNat w.env) s)

/-! ### Messages (R141, R362 to R366) -/

/-- SEND's message and its status. A sender without a strand has no ID: a free value (log entry 1). -/
def sendFrom (s : State) (k : Core) (dest : W32) (words : List TWord) : Nat × State :=
  match k.strand with
  | some o => match strand s o.idx with
    | some x => if 1 < x.plies.length then sendPly s o.idx o.ply x dest words else sendNow s dest ⟨x.id, words⟩
    | none => sendNow s dest ⟨0, words⟩
  | none =>
    let (id, u) := free32 s
    sendNow u dest ⟨id, words⟩

/-- The status pushed with the merged quality of the words consumed (R36), and Z (R141). -/
def pushStatus (s : State) (c st : Nat) (q : Qual) : State :=
  modCore s c fun k => { k.setDs (k.ds.push (TWord.mk' .nat q (w32 st))) with flags := { k.flags with z := decide (st = 0) } }

/-- The wait of a SEND at bank 5 of the pillow whose message pool its destination's plies have, the remote one's bound where that is
another pillow (R179, R180, R196, R362); of a message that leaves the engine, at the sender's own. -/
def sendStall (s : State) (c : Nat) (dest : W32) (env : Env) : Nat × State :=
  let pils := match if idEngine dest = s.glb.engineNum then strand s (idIndex dest) else none with
    | some x => (x.plies.map fun (p : Ply) => pilOf p.bob).eraseDups
    | none => [pilOf c]
  pils.foldl (fun a p => let (w, u) := poolStall a.2 c p env; (a.1 + w, u)) (0, s)

/-- SEND of n words. Its payload is consumed and its status merges every word consumed (R36, R42); the rules make no exception
for SEND (DEDUCED, log entry 127). -/
def sendRes (c n : Nat) (env : Env) (s : State) (k : Core) : Res :=
  let id := k.ds.peek 0
  let words := (k.top (n + 1)).take n
  match firstExc [depthCheck 0 k.ds.depth (dsCap s c) (n + 1) (n + 1) 1,
    tagCheck (lowest (tagCauses k [(.plain [.nat], id)]) (tagCauses k (words.map fun w => (.plain sendable, w))))] with
  | some e => (.error e, s)
  | none =>
    let (wt, u) := sendStall s c id.pay env
    (.ok { aDone c k { pop := n + 1, cycles := (if c = spindle then 4 else 2) + n } with
      wait := wt
      after := fun x =>
        let (st, y) := sendFrom x k id.pay words
        pushStatus y c st (mergeOf (words ++ [id])) }, u)

/-- SEND -/
def execSend (w : LWord) (n : BitVec 3) (s : State) : Host.Outcome State Fault Refusal :=
  .next (runLong w (routine w.core w.env true (sendRes w.core (n.toNat + 1) w.env)) s)

/-! ### Leaving the bobbin (R143, R300, R352) -/

/-- The code that yields runs for no strand at U: the runtime context then waits for the next release, its word the YIELD or
WAIT itself; with a frame from U open, the strand is placed in FAULTED (R300). `pc` is the word's address. -/
def yieldRuntime (s : State) (b pc : Nat) : State :=
  let k := drain (core s b)
  match k.strand with
  | none =>
    let k1 := wdogReload s { k with pstate := .idle, pc := pc, rtPc := pc, rtModes := k.modes, delay := none, loops := [] }
    retainPil (clbAck (msgRelease (setCore s b k1) b) b) (pilOf b)
  | some o =>
    let s1 := saveU s b k o
    let id := match strand s1 o.idx with | some x => x.id | none => 0
    let s2 := soe (modStrand s1 o.idx fun x => { x with vector := 0 }) 9 RUnit.whrl.cls 0 (TWord.nat 0).tag
      (w32 (pc % 2 ^ 16 * 2 ^ 16)) id
    let s3 := setCore s2 b (wdogReload s2 (leaveCore (closeFrame k)))
    clbAck (afterLeave (plyLeaves s3 o.idx o.ply .faulted) b o.idx) b

/-- A switch that does not start while another core is in the middle of a switch of the strand: the word stays (R251). -/
def awaitPartner (s : State) (c : Nat) (o : OnCore) (k : Core) (d : Done) : Done :=
  if partnerSwitching s c o.idx then { k := k, flow := .stay, cycles := 0, ops := 0 } else d

/-- YIELD -/
def yieldRes (c : Nat) (env : Env) (s : State) (k : Core) : Res :=
  if c = spindle ∨ k.delay.isSome = true then (.error Exc.il, s)
  else
    let rec' : State → State := fun x => traceRec x (some c) 5 k.pc
      (match k.strand with | some o => (match strand x o.idx with | some y => y.id | none => 0) | none => 0)
    match if atUser k then k.strand else none with
    | some o => (.ok (awaitPartner s c o k
        { k := k, after := fun x => leaveWith (rec' x) c o ⟨true, false, .staged, none, env.agree⟩ env }), s)
    | none => (.ok { k := k, after := fun x => yieldRuntime (rec' x) c k.pc }, s)

/-- YIELD -/
def execYield (w : LWord) (s : State) : Host.Outcome State Fault Refusal :=
  .next (runLong w (routine w.core w.env false (yieldRes w.core w.env)) s)

/-! ### WAIT (R142, R359, R360) -/

/-- What ends a WAIT of n: a message alone, closes of the strand's tick line, or a whole millisecond of the STC. -/
def waitSpan (s : State) (d : List W32) (n : Nat) : WaitFor :=
  if n = 0 then .message
  else if dTrig d = 0 then .closes n
  else .msAt ((s.stc.cnt + n * (secU / 1000) + secU / 1000 - 1) / (secU / 1000) * (secU / 1000))

/-- WAIT: a queued message is delivered at once; a strand of class P goes on with a timeout; any other leaves its bobbin in
WAITING. Either way it is a drain point, at which SUSPEND or FREE takes the strand (R177, R369). -/
def waitRes (c n : Nat) (env : Env) (s : State) (k : Core) : Res :=
  match firstExc [failIf (decide (c = spindle) || k.delay.isSome) Exc.il, failIf (decide (6 < k.ds.depth)) (Exc.so 0)] with
  | some e => (.error e, s)
  | none =>
    let rec' : State → State := fun x => traceRec x (some c) 5 k.pc
      (match k.strand with | some o => (match strand x o.idx with | some y => y.id | none => 0) | none => 0)
    match if atUser k then k.strand else none with
    | none => (.ok { k := k, after := fun x => yieldRuntime (rec' x) c k.pc }, s)
    | some o => match strand s o.idx, ply? s o.idx o.ply with
      | some x, some p =>
        match p.queue with
        | b :: t =>
          let (wt, u) := poolStall s c (pilOf c) env
          match takeMsg u c k b env with
          | (.error e, v) => (.error e, spend v c wt)
          | (.ok m, v) =>
            let take : State → State := fun y => drainDone (modPly y o.idx o.ply fun q => { q with queue := t }) c
            (.ok { k := waitPush (drain k) (some m), cycles := 4 + m.words.length, wait := wt, after := take }, v)
        | [] =>
          if dCls x.decl = 0 then (.ok { k := waitPush (drain k) none, cycles := 4, after := fun y => drainDone y c }, s)
          else
            let leave : State → State := fun y =>
              leaveWith (rec' y) c o ⟨false, false, .waiting, some (waitSpan y x.decl n), env.agree⟩ env
            (.ok (awaitPartner s c o k { k := k, after := leave }), s)
      | _, _ => (.ok { k := k, after := fun y => leaveBob y c }, s)

/-- A message waits for the strand on a core: WAIT delivers it, in an atomic routine; else its context save is a resumable one (R246). -/
def delivers (s : State) (k : Core) : Bool :=
  match if atUser k then k.strand else none with
  | some o => (match ply? s o.idx o.ply with | some p => !p.queue.isEmpty | none => false)
  | none => false

/-- WAIT -/
def execWait (w : LWord) (n : BitVec 22) (s : State) : Host.Outcome State Fault Refusal :=
  .next (runLong w (fun u k => routine w.core w.env (delivers u k) (waitRes w.core n.toNat w.env) u k) s)

/-! ### Start and preemption (R353, R354) -/

/-- STRAND_START: an idle bobbin takes its first READY strand; its context is loaded and its budget starts (R352 step 6,
R353, R355). A slot that cannot be read places the strand in FAULTED (R367). A switch that a COMMIT point has stopped goes
on first (R251). -/
def execStrandStart (bob : Nat) (inBound : Bool) (env : Env) (s : State) : Host.Outcome State Fault Refusal :=
  .next (
    if 256 ≤ bob ∨ (core s bob).pstate ≠ .idle ∨ domSt s bob ≠ .on ∨ (core s bob).haltReq = .pending then s
    else if (core s bob).switch.isSome then
      match finishSwitch s bob env with
      | (some e, u) => takeExc u bob env e
      | (none, u) => u
    else match firstReady s bob with
      | none => s
      | some (i, j) => match strand s i, ply? s i j with
        | some _, some p => match p.slot with
          | none => s
          | some k =>
            if partnerSwitching s bob i then s
            else match sequencer (if inBound then s else raiseErr s pgWHRL 3) bob false true env.seq with
              | (.locked, u) => lockUp u bob
              | (.faulted v, u) => takeExc u bob env ⟨v, 0, 0⟩
              | (_, u) => match loadOn u bob ⟨i, j, k⟩ [] p.side env with
                | (some e, v) => takeExc v bob env e
                | (none, v) => v
        | _, _ => s)

/-- STRAND_PREEMPT: a P- or C-class strand is READY on a bobbin that runs an M- or B-class one; that one is saved with its
remaining budget (R354), unless a gate or exception frame is open on it. -/
def execStrandPreempt (p : PreemptObs) (s : State) : Host.Outcome State Fault Refusal :=
  .next (
    let bob := p.bob
    let k := core s bob
    match k.strand with
    | none => s
    | some o =>
      match strand s o.idx with
      | none => s
      | some x =>
        let urgent := (readyOn s bob).any fun e => match strand s e.1 with
          | some y => decide (dCls y.decl < 2) | none => false
        let gate : Bool := match k.delay with | some (.gate _ _) => true | _ => false
        if 256 ≤ bob ∨ k.pstate ≠ .strand ∨ dCls x.decl < 2 ∨ (k.pset || gate || !urgent || partnerSwitching s bob o.idx) = true then s
        else match sequencer s bob false true p.env.seq with
          | (.locked, u) => lockUp u bob
          | (.faulted v, u) => takeExc u bob p.env ⟨v, 0, 0⟩
          | (_, u) => leaveWith u bob o ⟨false, true, .ready, none, true⟩ p.env)

end Sys2Proof.Machine
end

