-- ==== Sys2Proof/Machine/Block.lean ====
section
/-!
DEFINITION. Block operations (04_kendil_reference.md R134 to R136): resumable, element by element, with the operands on the
data stack showing the next element.
-/

namespace Sys2Proof.Machine

/-- The block operations. -/
inductive BlkOp where
  | move | fill | brev | crc
  deriving DecidableEq, Repr

/-- Operands of an operation; its issue cycles per element on a bobbin. -/
def BlkOp.args : BlkOp → Nat
  | .move => 3 | .fill => 2 | .brev => 4 | .crc => 3
def BlkOp.per : BlkOp → Nat
  | .move => 2 | .fill => 1 | .brev => 2 | .crc => 1

/-- How each operand is taken, the deepest first: n and kj are NAT. -/
def BlkOp.uses : BlkOp → List Use
  | .move => [.addr, .addr, .plain [.nat]]
  | .fill => [.addr, .plain [.nat]]
  | .brev => [.addr, .addr, .plain [.nat], .plain [.nat]]
  | .crc => [.arith intIn, .addr, .plain [.nat]]

/-- The operand ranges of R134 and R133. -/
def blkRange (op : BlkOp) (k : Core) (ws : List TWord) : Bool :=
  let n := (ws.getLastD voidWord).pay.toNat
  let kj := (ws.getD 2 voidWord).pay
  decide (65535 < n) || (match op with
    | .brev => decide (bits kj 0 5 = 0 ∨ 16 < bits kj 0 5 ∨ bits kj 21 11 ≠ 0 ∨ 2 ^ bits kj 0 5 < bits kj 5 16 + n)
    | .crc => (crcParams k.crcCfg k.crcPoly).isNone
    | _ => false)

/-- A word one higher; one lower. -/
def wordUp (w : TWord) : TWord := { w with pay := w.pay + 1 }
def wordDown (w : TWord) : TWord := { w with pay := w.pay - 1 }

/-- A source word moved to a destination: RSV raises cause 3, and AF comes before ME (R42, R109, R136). -/
def blkCopy (s : State) (c : Nat) (k : Core) (env : Env) (src dst : Nat) : Check × State :=
  match accessCheck s c k env .read src with
  | (.error e, u) => (some e, u)
  | (.ok pl, u) =>
    let (r, v) := readPlace u c pl env.ecc
    if (match r with | some w => w.rsv | none => false) then (some (Exc.tf 3), accessSpent v c env src)
    else match accessCheck v c k env .write dst, r with
      | (.error e, x), _ => (some e, accessSpent x c env src)
      | (.ok _, x), none => (some (Exc.me src), accessSpent x c env src)
      | (.ok pd, x), some w => (none, writePlace x c k pd w)

/-- One element: the operands that show the next one, the addresses accessed. -/
def blkElem (op : BlkOp) (s : State) (c : Nat) (k : Core) (env : Env) (ws : List TWord) :
    Except Exc (List TWord × List (Bool × Nat)) × State :=
  match op, ws with
  | .move, [src, dst, n] =>
    match blkCopy s c k env src.pay.toNat dst.pay.toNat with
    | (some e, u) => (.error e, u)
    | (none, u) => (.ok ([wordUp src, wordUp dst, wordDown n], [(false, src.pay.toNat), (true, dst.pay.toNat)]), u)
  | .brev, [src, dst, kj, n] =>
    let d := dst.pay.toNat + revBits (bits kj.pay 0 5) (bits kj.pay 5 16)
    match blkCopy s c k env src.pay.toNat d with
    | (some e, u) => (.error e, u)
    | (none, u) =>
      (.ok ([wordUp src, dst, { kj with pay := kj.pay + 32 }, wordDown n], [(false, src.pay.toNat), (true, d)]), u)
  | .fill, [dst, n] =>
    match accessCheck s c k env .write dst.pay.toNat with
    | (.error e, u) => (.error e, u)
    | (.ok pl, u) => (.ok ([wordUp dst, wordDown n], [(true, dst.pay.toNat)]), writePlace u c k pl k.fillw)
  | .crc, [crc, src, n] =>
    match accessCheck s c k env .read src.pay.toNat with
    | (.error e, u) => (.error e, u)
    | (.ok pl, u) =>
      match readPlace u c pl env.ecc with
      | (none, v) => (.error (Exc.me src.pay.toNat), accessSpent v c env src.pay.toNat)
      | (some w, v) => match tagCauses k [(.arith intIn, w)], crcParams k.crcCfg k.crcPoly with
        | some t, _ => (.error (Exc.tf t), accessSpent v c env src.pay.toNat)
        | none, none => (.error Exc.or', v)
        | none, some p =>
          (.ok ([TWord.mk' .nat (crc.q.merge w.q) (crcStepW p crc.pay w.pay), wordUp src, wordDown n], [(false, src.pay.toNat)]), v)
  | _, _ => (.ok (ws, []), s)

/-- Up to `m` elements, each committed before the next (R135, R136): the exception that ends them, the operands, the
accesses, latest first, and the elements done. -/
def blkRun (op : BlkOp) (c : Nat) (k : Core) (env : Env) :
    Nat → State → List TWord → List (Bool × Nat) → Nat → Check × State × List TWord × List (Bool × Nat) × Nat
  | 0, s, ws, acc, i => (none, s, ws, acc, i)
  | m + 1, s, ws, acc, i =>
    match blkElem op s c k env ws with
    | (.error e, u) => (some e, u, ws, acc, i)
    | (.ok (ws', a), u) => blkRun op c k env m u ws' (a.reverse ++ acc) (i + 1)

/-- Operands out of range raise OR, after a tag or access fault that the first element meets (R109). -/
def blkRefuse (op : BlkOp) (s : State) (c : Nat) (k : Core) (env : Env) (ws : List TWord) (n : Nat) : Res :=
  if n = 0 then (.error Exc.or', s)
  else match blkElem op s c k env ws with
    | (.error e, u) => if e.vec ≤ 8 then (.error e, u) else (.error Exc.or', s)
    | (.ok _, _) => (.error Exc.or', s)

/-- The CRC that CRC.BLK leaves (R133, R134): NAT, the bits above the register's width 0, its quality merged over every word
consumed (R36, R106). -/
def crcOut (k : Core) (ws : List TWord) (w : TWord) : TWord :=
  let width := match crcParams k.crcCfg k.crcPoly with | some p => p.1 | none => 32
  TWord.mk' .nat (mergeOf (w :: ws)) (w32 (bits w.pay 0 width))

/-- A block operation. -/
def blkRes (op : BlkOp) (c : Nat) (env : Env) (s : State) (k : Core) : Res :=
  let ws := k.top op.args
  let slow := if c = spindle then 2 else 1
  let n := (ws.getLastD voidWord).pay.toNat
  match firstExc [depthCheck 0 k.ds.depth (dsCap s c) op.args op.args 0, tagCheck (tagCauses k (op.uses.zip ws))] with
  | some e => (.error e, s)
  | none =>
  if blkRange op k ws then blkRefuse op s c k env ws n
  else
    let m := match env.elems with | some e => min e n | none => n
    let (bad, u, ws', acc, i) := blkRun op c k env m s ws [] 0
    let base := k.ds.drop op.args
    let k1 := k.setDs (base.pushAll ws')
    let fault (e : Exc) (x : State) : Res :=
      let (w, v) := stalls (setCore x c k1) c env acc.reverse
      let cy := slow * (4 + op.per * i)
      (.error e, dataBreaks (longStall (spend v c (cy + w)) c cy) c (bpAddrs v c acc.reverse))
    match bad with
    | some e => fault e u
    | none =>
      if i < n then (.ok { k := k1, flow := .stay, cycles := slow * (op.per * i), acc := acc.reverse }, u)
      else
        let out := match op, ws' with | .crc, w :: _ => [crcOut k ws w] | _, _ => []
        let k2 := k.setDs (base.pushAll out)
        match depthSpill u c k k2 env with
        | (.error e, v) => fault e v
        | (.ok _, _) => (.ok { k := k2, cycles := slow * (4 + op.per * i), acc := acc.reverse }, u)

/-- A block operation as a microcoded word (R246). -/
def runBlk (op : BlkOp) (w : LWord) (s : State) : State := runLong w (routine w.core w.env false (blkRes op w.core w.env)) s

/-- MOVE.BLK -/
def execMoveBlk (w : LWord) (s : State) : Host.Outcome State Fault Refusal := .next (runBlk .move w s)

/-- FILL.BLK -/
def execFillBlk (w : LWord) (s : State) : Host.Outcome State Fault Refusal := .next (runBlk .fill w s)

/-- BREV.BLK -/
def execBrevBlk (w : LWord) (s : State) : Host.Outcome State Fault Refusal := .next (runBlk .brev w s)

/-- CRC.BLK -/
def execCrcBlk (w : LWord) (s : State) : Host.Outcome State Fault Refusal := .next (runBlk .crc w s)

end Sys2Proof.Machine
end

