-- ==== Sys2Proof/Machine/Fp64.lean ====
section
/-!
DEFINITION. The spindle's FP64 operations (02_tagged_words.md R48, 04_kendil_reference.md R125, R146, 05_arithmetic.md R168 to
R170): pairs of FLT cells, the high cell deeper.
-/

namespace Sys2Proof.Machine

/-- The FP64 pattern of the pair whose low cell is at depth i. -/
def pairAt (k : Core) (i : Nat) : Nat := (k.ds.peek (i + 1)).pay.toNat * 2 ^ 32 + (k.ds.peek i).pay.toNat

/-- The pair of a pattern: the high cell, then the low one. -/
def pairOf (q : Qual) (v : Nat) : List TWord := [TWord.mk' .flt q (w32 (v / 2 ^ 32)), TWord.mk' .flt q (w32 v)]

/-- A long-format word of the spindle alone: on a bobbin it raises IL whatever its COND (R76). -/
def runSpn (w : LWord) (body : State → Core → Res) (s : State) : State :=
  runWord s w.core w.env fun u k snap =>
    if w.core ≠ spindle then (.error Exc.il, u) else conditioned w.cond false false snap k u (body u k)

/-- An operation on n operand cells of types `ok`: its flags, the words delivered, the flags written. -/
def f64Res (c n : Nat) (ok : List Ty) (cycles : Nat) (fl : FFlags) (push : List TWord) (flags : Option Flags) (s : State)
    (k : Core) : Res :=
  (checked [depthCheck 0 k.ds.depth (dsCap s c) n n push.length,
      tagCheck (tagCauses k ((k.top n).map fun w => (Use.arith ok, w))), fxCheck k fl]
    (aDone c k { pop := n, push := push, flags := flags, sticky := fl.code, cycles := cycles }), s)

/-- The quality of a result over n operand cells, with the NaN rule of R40. -/
def f64Q (k : Core) (n : Nat) (nan : Bool) : Qual := nanQ k nan (mergeOf (k.top n))

/-- An arithmetic operation on `n` FP64 operands, the last of which is on top. -/
def f64Arith (c n cycles : Nat) (op : Core → Nat × FFlags) (s : State) (k : Core) : Res :=
  let r := op k
  let nan := f64.isNaN r.1 || (List.range n).any fun i => f64.isNaN (pairAt k (2 * i))
  f64Res c (2 * n) [.flt] cycles r.2 (pairOf (f64Q k (2 * n) nan) r.1) none s k

/-- D.ADD -/
def execDAdd (w : LWord) (s : State) : Host.Outcome State Fault Refusal :=
  .next (runSpn w (f64Arith w.core 2 4 fun k => f64.add k.modes.rm (pairAt k 2) (pairAt k 0)) s)

/-- D.SUB -/
def execDSub (w : LWord) (s : State) : Host.Outcome State Fault Refusal :=
  .next (runSpn w (f64Arith w.core 2 4 fun k => f64.sub k.modes.rm (pairAt k 2) (pairAt k 0)) s)

/-- D.MUL -/
def execDMul (w : LWord) (s : State) : Host.Outcome State Fault Refusal :=
  .next (runSpn w (f64Arith w.core 2 6 fun k => f64.mul k.modes.rm (pairAt k 2) (pairAt k 0)) s)

/-- D.FMA -/
def execDFma (w : LWord) (s : State) : Host.Outcome State Fault Refusal :=
  .next (runSpn w (f64Arith w.core 3 6 fun k => f64.fma k.modes.rm (pairAt k 4) (pairAt k 2) (pairAt k 0)) s)

/-- D.DIV -/
def execDDiv (w : LWord) (s : State) : Host.Outcome State Fault Refusal :=
  .next (runSpn w (f64Arith w.core 2 28 fun k => f64.div k.modes.rm (pairAt k 2) (pairAt k 0)) s)

/-- D.SQRT -/
def execDSqrt (w : LWord) (s : State) : Host.Outcome State Fault Refusal :=
  .next (runSpn w (f64Arith w.core 1 30 fun k => f64.sqrt k.modes.rm (pairAt k 0)) s)

/-- D.CMP: flags as FCMP (R122). -/
def dCmpRes (c : Nat) (s : State) (k : Core) : Res :=
  let a := pairAt k 2
  let b := pairAt k 0
  let fl : FFlags := { iv := (f64.cmp a b).2.2.2 }
  f64Res c 4 [.flt] 2 fl [] (some (fcmpFlags f64 a b (f64Q k 4 (f64.isNaN a || f64.isNaN b)))) s k

/-- D.CMP -/
def execDCmp (w : LWord) (s : State) : Host.Outcome State Fault Refusal := .next (runSpn w (dCmpRes w.core) s)

/-- CVT.FD (R169) -/
def cvtFdRes (c : Nat) (s : State) (k : Core) : Res :=
  let a := (k.ds.peek 0).pay.toNat
  let r := cvtFD a
  f64Res c 1 [.flt] 4 r.2 (pairOf (f64Q k 1 (f32.isNaN a)) r.1) none s k

/-- CVT.FD -/
def execCvtFd (w : LWord) (s : State) : Host.Outcome State Fault Refusal := .next (runSpn w (cvtFdRes w.core) s)

/-- CVT.DF (R169) -/
def cvtDfRes (c : Nat) (s : State) (k : Core) : Res :=
  let a := pairAt k 0
  let r := cvtDF k.modes.rm a
  f64Res c 2 [.flt] 4 r.2 [TWord.mk' .flt (f64Q k 2 (f64.isNaN a)) (w32 r.1)] none s k

/-- CVT.DF -/
def execCvtDf (w : LWord) (s : State) : Host.Outcome State Fault Refusal := .next (runSpn w (cvtDfRes w.core) s)

/-- CVT.ID: exact. -/
def cvtIdRes (c : Nat) (s : State) (k : Core) : Res :=
  let t := k.ds.peek 0
  f64Res c 1 [.int] 4 .nil (pairOf (f64Q k 1 false) (f64.ofInt .rne t.pay.toInt 0).1) none s k

/-- CVT.ID -/
def execCvtId (w : LWord) (s : State) : Host.Outcome State Fault Refusal := .next (runSpn w (cvtIdRes w.core) s)

/-- CVT.DI (R125) -/
def cvtDiRes (c : Nat) (s : State) (k : Core) : Res :=
  let a := pairAt k 0
  let r := f64.toInt k.modes.rm 0 (-2147483648) 2147483647 a
  f64Res c 2 [.flt] 4 r.2 [TWord.mk' .int (f64Q k 2 (f64.isNaN a)) (ofI r.1)] none s k

/-- CVT.DI -/
def execCvtDi (w : LWord) (s : State) : Host.Outcome State Fault Refusal := .next (runSpn w (cvtDiRes w.core) s)

end Sys2Proof.Machine
end

