-- ==== Sys2Proof/Machine/Spn.lean ====
section
/-!
DEFINITION. The spindle's own words and events (04_kendil_reference.md R145, R147, R148, 07_spindle_core.md R210 to R237, R241):
host loads and stores, cache and engine operations, reservations, the coherent agent.
-/

namespace Sys2Proof.Machine

/-! ### Host accesses and their checks (R214 to R216, R222, R223) -/

/-- Bytes of a size, and its code (R145). -/
def hBytes : HSize → Nat
  | .byte => 1 | .half => 2 | .word => 4 | .dword => 8
def hCode : HSize → Nat
  | .byte => 0 | .half => 1 | .word => 2 | .dword => 3

/-- The parts of an access, two where it crosses a line: address and bytes. -/
def hostParts (a n : Nat) : List (Nat × Nat) :=
  let room := 64 - a % 64
  if n ≤ room then [(a, n)] else [(a, room), (a + room, n - room)]

/-- Extra cycles of an access that is not aligned (R222). -/
def splitCycles (a n : Nat) : Nat := if a % n = 0 then 0 else (hostParts a n).length

/-- Checks of an access outside the window: alignment where the region asks for it, the window taking precedence over a region
(R242), then region and permission. -/
def hostChecks (s : State) (k : Core) (write : Bool) (a n : Nat) : List Check :=
  let parts := hostParts a n
  [failIf (decide (a % n ≠ 0) && parts.any fun p => !inSpnWindow s p.1 && decide (2 ≤ regionType s p.1)) (Exc.al a),
    firstExc (parts.map fun p => failIf (inSpnWindow s p.1 || !hostAllowed s k write p.1) (Exc.af p.1))]

/-- The address on the data stack. -/
def argAddr (k : Core) : Nat := hostAddr (k.ds.peek 1) (k.ds.peek 0)

/-- Checks of a spindle-only word with an address on top of its operands: PV, depths, tags. -/
def argChecks (s : State) (c : Nat) (k : Core) (pv : Bool) (need pop push : Nat) (uses : List (Use × TWord)) : List Check :=
  [failIf pv Exc.pv, depthCheck 0 k.ds.depth (dsCap s c) need pop push,
    tagCheck (lowest (lowest (hostCause k (k.ds.peek 1)) (hostCause k (k.ds.peek 0))) (tagCauses k uses))]

/-! ### Reading -/

/-- The word waits, for line `line` where its fill has been requested. -/
def awaitLine (s : State) (line : Nat) (pk : PendKind) : State :=
  if (l2Get s line).st = .fp then { s with spn := { s.spn with pend := some ⟨line, pk⟩ } } else s

/-- A line of WB memory read, or owned: its bytes, an error, or none while it must be waited for (R212, R229). A double error
in L1 is refetched from L2 where the line is clean there. -/
def readWb (s : State) (env : Env) (line : Nat) (own : Bool) (pk : PendKind) : Option (Except Unit (List Byte)) × State :=
  let x := l2Get s line
  let s0 := if (l1Get s line).isNone && firstTry s line then bumpWrap s pgSPN 0x0B4 0 else s
  if (if own then x.st.owned else x.st.held) then
    match lineEcc s0 env (line * 64) with
    | (some _, u) => (some (.error ()), u)
    | (none, u) =>
      match l1Get s line with
      | some y => if env.l1 = .double then (some (.ok x.data), l1Set u line (some ⟨false, x.data⟩)) else (some (.ok y.data), u)
      | none => (some (.ok x.data), l1Put u line ⟨false, x.data⟩)
  else
    match x.st with
    | .ep => (none, s)
    | .fp => (none, awaitLine s line pk)
    | _ => (none, awaitLine (missL2 s0 line own) line pk)

/-- n bytes that the spec leaves open: what a device answers (log entry 1). -/
def freeBytes (s : State) (n : Nat) : List Byte × State :=
  let (lo, s1) := free32 s
  let (hi, s2) := free32 s1
  ((leBytes 8 (lo.toNat + hi.toNat * 2 ^ 32)).take n, s2)

/-- One part of a load (R213, R218, R236): a device load waits for the device stores before it. -/
def readPart (s : State) (env : Env) (p : Nat × Nat) (own : Bool) (pk : PendKind) : Option (Except Unit (List Byte)) × State :=
  let (a, n) := p
  let line := a / 64
  match regionType s a with
  | 1 =>
    match readWb s env line own pk with
    | (some (.ok l), u) => (some (.ok (forward u a ((l.drop (a % 64)).take n))), u)
    | r => r
  | 2 =>
    if env.busError || lineBad s line then (some (.error ()), if linePoisoned s line then raiseErr s pgSPN 6 else s)
    else (some (.ok (forward s a (physBytes s a n))), s)
  | _ =>
    if s.spn.sb.any (·.device) then (none, s)
    else if env.busError then (some (.error ()), s)
    else
      let (l, u) := freeBytes s n
      (some (.ok l), u)

/-- The parts of a load in turn. -/
def readParts (s : State) (env : Env) (own : Bool) (pk : PendKind) :
    List (Nat × Nat) → Option (Except Nat (List Byte)) × State
  | [] => (some (.ok []), s)
  | p :: t =>
    match readPart s env p own pk with
    | (none, u) => (none, u)
    | (some (.error _), u) => (some (.error p.1), u)
    | (some (.ok l), u) =>
      match readParts u env own pk t with
      | (some (.ok m), v) => (some (.ok (l ++ m)), v)
      | r => r

/-- The word stays, to be issued again. -/
def stays (k : Core) : Done := { k := k, flow := .stay, cycles := 0, ops := 0 }

/-- A load that has passed its checks: it waits, takes ME, or delivers. -/
def hostLoad (s : State) (k : Core) (env : Env) (a n : Nat) (own : Bool) (pk : PendKind)
    (deliver : List Byte → Except Exc Done) : Res :=
  match readParts s env own pk (hostParts a n) with
  | (none, u) => (.ok (stays k), u)
  | (some (.error b), u) => (.error (Exc.me b), u)
  | (some (.ok l), u) => (deliver l, u)

/-- The words that loaded bytes push (R51, R145): NAT, extended to 32 bits; two for a double word. -/
def loadedWords (z : HSize) (sx : Bool) (l : List Byte) : List TWord :=
  let v := leNat l
  let n := 8 * hBytes z
  match z with
  | .dword => [TWord.nat (w32 (v / 2 ^ 32)), TWord.nat (w32 v)]
  | _ => [TWord.nat (w32 (if sx = true ∧ 2 ^ (n - 1) ≤ v then v + (2 ^ 32 - 2 ^ n) else v))]

/-! ### The window (R216, R217) -/

/-- The engine word of a byte address in the window. -/
def windowWord (s : State) (a : Nat) : Nat := (a - s.spn.winBase) / 8

/-- A place reached through the window by a byte address. -/
def windowCheck (s : State) (k : Core) (x : AccKind) (a : Nat) : Except Exc Place :=
  match accessPlace s spindle k x (windowWord s a) with
  | .ok pl => .ok pl
  | .error _ => .error (Exc.af a)

/-- A container read through the window. -/
def windowRead (s : State) (k : Core) (env : Env) (a : Nat) : Except Exc TWord × State :=
  match windowCheck s k .read a with
  | .error e => (.error e, s)
  | .ok pl => match readPlace s spindle pl env.ecc with
    | (none, u) => (.error (Exc.me a), accessSpent u spindle env (windowWord s a))
    | (some w, u) => (.ok w, u)

/-! ### LD.H, LD.T -/

/-- LD.H: in the window a container as two NAT words, size 3 and aligned only. A container whose RSV bit is 1 raises cause 3, which R42
gives any instruction that reads such a word from a bank, beside R145's row and R216's tag bits (DEDUCED, log entry 166). -/
def ldHRes (c : Nat) (z : HSize) (sx : Bool) (env : Env) (s : State) (k : Core) : Res :=
  let n := hBytes z
  let a := argAddr k
  let base := argChecks s c k false 2 2 (if z = .dword then 2 else 1) []
  let out (l : List TWord) (cy : Nat) : Done := { aDone c k { pop := 2, push := l, cycles := cy } with host := [(false, a)] }
  if inSpnWindow s a then
    match firstExc (base ++ [hostHigh (k.ds.peek 1) (k.ds.peek 0), failIf (decide (z ≠ .dword ∨ a % 8 ≠ 0)) (Exc.af a)]) with
    | some e => (.error e, s)
    | none => match windowRead s k env a with
      | (.error e, u) => (.error e, u)
      | (.ok w, u) =>
        if w.rsv then (.error (Exc.tf 3), accessSpent u spindle env (windowWord s a))
        else
          let d := out [TWord.nat (w32 w.tag), TWord.nat w.pay] 4
          (.ok { d with host := [], acc := [(false, windowWord s a)] }, u)
  else
    match firstExc (base ++ hostChecks s k false a n ++ [hostHigh (k.ds.peek 1) (k.ds.peek 0)]) with
    | some e => (.error e, s)
    | none => hostLoad s k env a n false (.load z sx) fun l => .ok (out (loadedWords z sx l) (4 + splitCycles a n))

/-- LD.H -/
def execLdH (w : LWord) (z : HSize) (sx : Bool) (s : State) : Host.Outcome State Fault Refusal :=
  .next (runSpn w (ldHRes w.core z sx w.env) s)

/-- LD.T: a container whose word is moved, so that RSV and RET are checked (R42, R50). -/
def ldTRes (c : Nat) (env : Env) (s : State) (k : Core) : Res :=
  let a := argAddr k
  let base := argChecks s c k false 2 2 1 [] ++ [failIf (decide (a % 8 ≠ 0)) (Exc.al a)]
  let out (w : TWord) : Except Exc Done :=
    match tagCauses k [(.move, w)] with
    | some t => .error (Exc.tf t)
    | none => .ok (aDone c k { pop := 2, push := [w], cycles := 4 })
  if inSpnWindow s a then
    match firstExc (base ++ [hostHigh (k.ds.peek 1) (k.ds.peek 0)]) with
    | some e => (.error e, s)
    | none => match windowRead s k env a with
      | (.error e, u) => (.error e, u)
      | (.ok w, u) => match out w with
        | .error e => (.error e, accessSpent u spindle env (windowWord s a))
        | .ok d => (.ok { d with acc := [(false, windowWord s a)] }, u)
  else
    match firstExc (base ++ hostChecks s k false a 8 ++ [hostHigh (k.ds.peek 1) (k.ds.peek 0)]) with
    | some e => (.error e, s)
    | none => hostLoad s k env a 8 false .loadT fun l =>
        (out (TWord.ofContainer (BitVec.ofNat 64 (leNat l)))).map fun d => { d with host := [(false, a)] }

/-- LD.T -/
def execLdT (w : LWord) (s : State) : Host.Outcome State Fault Refusal := .next (runSpn w (ldTRes w.core w.env) s)

/-! ### ST.H, ST.T (R218, R220, R223) -/

/-- The held lines that a store meets (R212, R223, R243): the first that shows a double error that is not cured, and the errors that
are set. -/
def storeMeets (env : Env) : List (Nat × Nat) → State → Check × State
  | [], s => (none, s)
  | p :: t, s =>
    if regionType s p.1 = 1 ∧ ((l1Get s (p.1 / 64)).isSome || (l2Get s (p.1 / 64)).st.held) = true then
      match lineEcc s env p.1 with
      | (some e, u) => (some e, u)
      | (none, u) => storeMeets env t u
    else storeMeets env t s

/-- The entries of a store in the buffer: one, or the two parts of a split one. -/
def storeEnts (s : State) (a z : Nat) (l : List Byte) : List SbEnt :=
  let dev := decide (regionType s a = 3)
  match hostParts a l.length with
  | [_, (b, _)] => [⟨a, placed a (l.take (b - a)), z, dev, false⟩, ⟨b, placed b (l.drop (b - a)), z, dev, true⟩]
  | _ => [⟨a, placed a l, z, dev, false⟩]

/-- A store that has passed its checks retires into the buffer of 16 entries, or waits for room (R204, R220). -/
def hostStore (c : Nat) (s : State) (k : Core) (a z pop : Nat) (push : List TWord) (l : List Byte) : Res :=
  let ents := storeEnts s a z l
  if 16 < s.spn.sb.length + ents.length then (.ok (stays k), s)
  else
    let after := fun x => ents.foldl pushStore x
    let o : AOut := { pop := pop, push := push, cycles := 1 + splitCycles a l.length }
    (.ok { aDone c k o with host := [(true, a)], after := after }, s)

/-- The bytes of the data operands below an address. -/
def storeBytes (k : Core) (z : HSize) : List Byte :=
  let lo := (k.ds.peek 2).pay.toNat
  match z with
  | .dword => leBytes 8 (lo + (k.ds.peek 3).pay.toNat * 2 ^ 32)
  | _ => leBytes (hBytes z) lo

/-- The data operands of a store, as it takes them. -/
def storeUses (k : Core) (z : HSize) : List (Use × TWord) :=
  if z = .dword then [(.move, k.ds.peek 3), (.move, k.ds.peek 2)] else [(.move, k.ds.peek 2)]

/-- Operands of a store of a size. -/
def storeArgs (z : HSize) : Nat := if z = .dword then 4 else 3

/-- ST.H: the window takes none. -/
def stHRes (c : Nat) (z : HSize) (env : Env) (s : State) (k : Core) : Res :=
  let n := hBytes z
  let a := argAddr k
  let args := storeArgs z
  match firstExc (argChecks s c k false args args 0 (storeUses k z) ++ hostChecks s k true a n ++
      [hostHigh (k.ds.peek 1) (k.ds.peek 0)]) with
  | some e => (.error e, s)
  | none => match storeMeets env (hostParts a n) s with
    | (some e, u) => (.error e, u)
    | (none, u) => hostStore c u k a (hCode z) args [] (storeBytes k z)

/-- ST.H -/
def execStH (w : LWord) (z : HSize) (s : State) : Host.Outcome State Fault Refusal :=
  .next (runSpn w (stHRes w.core z w.env) s)

/-- ST.T: a container, [63:40] written as zero (R50). -/
def stTRes (c : Nat) (env : Env) (s : State) (k : Core) : Res :=
  let a := argAddr k
  let x := k.ds.peek 2
  let high := hostHigh (k.ds.peek 1) (k.ds.peek 0)
  let base := argChecks s c k false 3 3 0 [(.move, x)] ++ [failIf (decide (a % 8 ≠ 0)) (Exc.al a)]
  if inSpnWindow s a then
    match firstExc (base ++ [high]) with
    | some e => (.error e, s)
    | none => match windowCheck s k .write a with
      | .error e => (.error e, s)
      | .ok pl => (.ok { aDone c k { pop := 3 } with acc := [(true, windowWord s a)], store := some (pl, x) }, s)
  else
    match firstExc (base ++ hostChecks s k true a 8 ++ [high]) with
    | some e => (.error e, s)
    | none => match storeMeets env (hostParts a 8) s with
      | (some e, u) => (.error e, u)
      | (none, u) => hostStore c u k a 3 3 [] (leBytes 8 x.container.toNat)

/-- ST.T -/
def execStT (w : LWord) (s : State) : Host.Outcome State Fault Refusal := .next (runSpn w (stTRes w.core w.env) s)

/-! ### CACHE (R147, R213, R219) -/

/-- A CACHE word on the line of an address: one that writes dirty data back, `reads`, meets its arrays (R212, R243); `act` answers whether
it is done, or must wait. -/
def cacheRes (c : Nat) (env : Env) (sys write reads : Bool) (act : State → Nat → Bool × State) (s : State) (k : Core) : Res :=
  let a := argAddr k
  match firstExc (argChecks s c k (sys && decide (k.modes.level = .u)) 2 2 0 [] ++
      [failIf (inSpnWindow s a || !hostAllowed s k write a) (Exc.af a), hostHigh (k.ds.peek 1) (k.ds.peek 0)]) with
  | some e => (.error e, s)
  | none =>
    let d := aDone c k { pop := 2, cycles := 2 }
    if regionType s a = 1 then
      match if reads && lineDirty s (a / 64) then lineEcc s env a else (none, s) with
      | (some e, u) => (.error e, u)
      | (none, u) => match act u (a / 64) with
        | (true, v) => (.ok d, v)
        | (false, _) => (.ok (stays k), (act s (a / 64)).2)
    else (.ok d, s)

/-- Stores to a line are still buffered. -/
def lineBuffered (s : State) (line : Nat) : Bool := s.spn.sb.any fun e => decide (e.addr / 64 = line)

/-- DC.CLEAN -/
def execDcClean (w : LWord) (s : State) : Host.Outcome State Fault Refusal :=
  .next (runSpn w (cacheRes w.core w.env false false true fun u line => (true, cleanL1 u line)) s)

/-- DC.INV: a drain point on its line. -/
def dcInvAct (s : State) (line : Nat) : Bool × State := if lineBuffered s line then (false, s) else (true, l1Set s line none)

/-- DC.INV -/
def execDcInv (w : LWord) (s : State) : Host.Outcome State Fault Refusal := .next (runSpn w (cacheRes w.core w.env true false false dcInvAct) s)

/-- DC.CINV: a drain point on its line. -/
def dcCinvAct (s : State) (line : Nat) : Bool × State :=
  if lineBuffered s line then (false, s) else (true, l1Set (cleanL1 s line) line none)

/-- DC.CINV -/
def execDcCinv (w : LWord) (s : State) : Host.Outcome State Fault Refusal :=
  .next (runSpn w (cacheRes w.core w.env false false true dcCinvAct) s)

/-- A line of zeros. -/
def zeroLine : List Byte := List.replicate 64 0

/-- DC.ZERO: once the line is owned, it holds zeros; stores to it that came before are done first. -/
def dcZeroAct (s : State) (line : Nat) : Bool × State :=
  if lineBuffered s line then (false, s)
  else match (l2Get s line).st with
    | .e | .m => (true, l1Put (l2Set (curePoison s line) line ⟨.m, zeroLine⟩) line ⟨true, zeroLine⟩)
    | .ep => (false, s)
    | .fp => (false, awaitLine s line .zero)
    | _ => (false, awaitLine (missL2 s line true) line .zero)

/-- DC.ZERO -/
def execDcZero (w : LWord) (s : State) : Host.Outcome State Fault Refusal :=
  .next (runSpn w (cacheRes w.core w.env false true false dcZeroAct) s)

/-- IC.INV -/
def execIcInv (w : LWord) (s : State) : Host.Outcome State Fault Refusal :=
  .next (runSpn w (cacheRes w.core w.env false false false fun u line =>
    (true, { u with spn := { u.spn with l1i := u.spn.l1i.filter fun l => decide (l ≠ line) } })) s)

/-- DC.PF: a request for read of a line not held. -/
def execDcPf (w : LWord) (s : State) : Host.Outcome State Fault Refusal :=
  .next (runSpn w (cacheRes w.core w.env false false false fun u line =>
    (true, if (l2Get u line).st = .i then request (countL2 u line) line false else u)) s)

/-- L2.CLEAN: the line's data goes to memory, and the line stays owned. -/
def l2CleanAct (s : State) (line : Nat) : Bool × State :=
  if (l2Get s line).st.held && lineDirty s line then
    let s1 := cleanL1 s line
    let d := lineData s1 line
    (true, l2Set (physSetList (curePoison s1 line) (line * 64) d) line ⟨.e, d⟩)
  else (true, s)

/-- L2.CLEAN -/
def execL2Clean (w : LWord) (s : State) : Host.Outcome State Fault Refusal :=
  .next (runSpn w (cacheRes w.core w.env false false true l2CleanAct) s)

/-- L2.CINV: a dirty line leaves through the writeback buffer, and waits while that is full (R230). -/
def l2CinvAct (s : State) (line : Nat) : Bool × State :=
  if (l2Get s line).st.held then
    match evict s line with
    | some u => (true, u)
    | none => (false, s)
  else (true, s)

/-- L2.CINV -/
def execL2Cinv (w : LWord) (s : State) : Host.Outcome State Fault Refusal :=
  .next (runSpn w (cacheRes w.core w.env true false true l2CinvAct) s)

/-! ### FLUSH.I and ENG (R148, R192, R219) -/

/-- A word without operands: PV below a level; at a drain point it waits for the store buffer. -/
def engRes (need : Level) (drains : Bool) (cycles : Nat) (after : State → State) (s : State) (k : Core) : Res :=
  match firstExc [failIf (decide (k.modes.level.code < need.code)) Exc.pv] with
  | some e => (.error e, s)
  | none => if drains && s.spn.sb.length ≠ 0 then (.ok (stays k), s) else (.ok { k := k, cycles := cycles, after := after }, s)

/-- FLUSH.I -/
def execFlushI (w : LWord) (s : State) : Host.Outcome State Fault Refusal :=
  .next (runSpn w (engRes .u true 30 fun x => { x with spn := { x.spn with l1i := [] } }) s)

/-- The barrier starts: a request to every bobbin; the controller acknowledges for those without power, halted or retired. -/
def clbStart (s : State) : State :=
  let s1 := { s with clb := { s.clb with seq := (s.clb.seq + 1) % 2 ^ 16, active := true, acks := [] } }
  (List.range 256).foldl (fun u b =>
    let p := (core u b).pstate
    if p = .off ∨ p = .halted ∨ p = .retired then clbAck u b else modCore u b fun k => { k with clbPending := true }) s1

/-- ENG CLB: the word lasts until the barrier completes. Taken again after an interrupt, it waits for a barrier that is still
in progress. -/
def clbRes (s : State) (k : Core) : Res :=
  match firstExc [failIf (decide (k.modes.level = .u)) Exc.pv] with
  | some e => (.error e, s)
  | none =>
    let s1 := if s.clb.waits || s.clb.active then s else clbStart s
    let mark (v : Bool) : State := { s1 with clb := { s1.clb with waits := v } }
    if s1.clb.active then (.ok (stays k), mark true) else (.ok { k := k, after := marSync }, mark false)

/-- ENG CLB -/
def execClb (w : LWord) (s : State) : Host.Outcome State Fault Refusal := .next (runSpn w (clbRes) s)

/-- ENG FENCE.ENG: window accesses complete with their words, so that the drain orders both kinds (R217, R219). -/
def execFenceEng (w : LWord) (s : State) : Host.Outcome State Fault Refusal :=
  .next (runSpn w (engRes .s true 1 marSync) s)

/-- The spindle sleeps, unless an interrupt is there already (R522). -/
def spnSleep (s : State) : State :=
  if (presented s 0).isSome && rdB s (pgEICT 0) 0x088 1 then s else modCore s spindle fun k => { k with pstate := .idle }

/-- ENG WFI -/
def execWfi (w : LWord) (s : State) : Host.Outcome State Fault Refusal :=
  .next (runSpn w (engRes .s true 1 fun x => spnSleep (marSync x)) s)

/-- ENG WIPE (R433, R434): `env.ecc` says what the read-back finds. -/
def execWipe (w : LWord) (s : State) : Host.Outcome State Fault Refusal :=
  .next (runSpn w (engRes .m false 1 fun x => wipe (marSync x) (decide (w.env.ecc ≠ .double))) s)

/-! ### Reservations (R226 to R228) -/

/-- RSV.LD: a drain point; the line with ownership, then the reservation. Outside WB memory no line can be held, and the load
sets no reservation (log entry 48). -/
def rsvLdRes (c : Nat) (z : HSize) (env : Env) (s : State) (k : Core) : Res :=
  let n := hBytes z
  let a := argAddr k
  let line := a / 64
  let wb := decide (regionType s a = 1)
  match firstExc (argChecks s c k false 2 2 (if z = .dword then 2 else 1) [] ++ [failIf (decide (a % n ≠ 0)) (Exc.al a)] ++
      hostChecks s k false a n ++ [hostHigh (k.ds.peek 1) (k.ds.peek 0)]) with
  | some e => (.error e, s)
  | none =>
    if s.spn.sb.length ≠ 0 then (.ok (stays k), s)
    else
      let after := fun x =>
        let y := clearRsv x
        if wb then { y with spn := { y.spn with rsv := some line, rsvHold := true } } else y
      hostLoad s k env a n wb (.rsvLoad z) fun l =>
        .ok { aDone c k { pop := 2, push := loadedWords z false l, cycles := 4 } with host := [(false, a)], after := after }

/-- RSV.LD -/
def execRsvLd (w : LWord) (z : HSize) (s : State) : Host.Outcome State Fault Refusal :=
  .next (runSpn w (rsvLdRes w.core z w.env) s)

/-- RSV.ST: a drain point; it stores and pushes 1 while the reservation on its line stands, else pushes 0. -/
def rsvStRes (c : Nat) (z : HSize) (env : Env) (s : State) (k : Core) : Res :=
  let n := hBytes z
  let a := argAddr k
  let args := storeArgs z
  match firstExc (argChecks s c k false args args 1 (storeUses k z) ++ [failIf (decide (a % n ≠ 0)) (Exc.al a)] ++
      hostChecks s k true a n ++ [hostHigh (k.ds.peek 1) (k.ds.peek 0)]) with
  | some e => (.error e, s)
  | none => match storeMeets env (hostParts a n) s with
    | (some e, u) => (.error e, u)
    | (none, s) =>
    if s.spn.sb.length ≠ 0 then (.ok (stays k), s)
    else
      let ok := decide (s.spn.rsv = some (a / 64)) && (l2Get s (a / 64)).st.owned
      let bytes := storeBytes k z
      let after := fun x => clearRsv (if ok then writeLine x (a / 64) (placed a bytes) else x)
      let d := aDone c k { pop := args, push := [TWord.nat (w32 ok.toNat)], cycles := 4 }
      (.ok { d with host := if ok then [(true, a)] else [], after := after }, s)

/-- RSV.ST -/
def execRsvSt (w : LWord) (z : HSize) (s : State) : Host.Outcome State Fault Refusal :=
  .next (runSpn w (rsvStRes w.core z w.env) s)

/-! ### The agent's events (R229 to R237) -/

/-- The access of a word that waited. -/
def pendBody (pk : PendKind) : State → Core → Res :=
  match pk with
  | .load z sx => ldHRes spindle z sx {}
  | .loadT => ldTRes spindle {}
  | .rsvLoad z => rsvLdRes spindle z {}
  | .zero => cacheRes spindle {} false true false dcZeroAct

/-- The word that waits for a line is performed, or takes ME (R233, R236). -/
def resume (s : State) (line : Nat) (ok : Bool) : State :=
  match s.spn.pend with
  | none => s
  | some p =>
    if p.line ≠ line then s
    else
      let s1 := { s with spn := { s.spn with pend := none } }
      let k := core s1 spindle
      if k.pstate ≠ .strand then s1
      else if ok then settle s1 spindle {} k 0 (pendBody p.kind s1 k)
      else settle s1 spindle {} k 0 (.error (Exc.me (argAddr k)), s1)

/-- The stores that waited for a line that answers an error: each meets it (R221, R236). -/
def failStores (s : State) (line : Nat) : State :=
  let bad := fun e : SbEnt => decide (e.addr / 64 = line) && !e.device
  let s1 := { s with spn := { s.spn with sb := s.spn.sb.filter fun e => !bad e } }
  (s.spn.sb.filter bad).foldl (fun u e => lateError u e (linePoisoned u line)) s1

/-- COH_TIMEOUT ceases to be live once no request is late (R9, R234). -/
def cohAnswered (s : State) : State := if s.spn.reqs.any (·.late) then s else condEnd s pgSPN 8

/-- COH_FILL_ARRIVE: the line is installed, the access that asked for it performed, waiting stores drained, held snoops
answered. A fill whose victim waits for a writeback entry waits too (R230). -/
def execCohFillArrive (line : Nat) (s : State) : Host.Outcome State Fault Refusal :=
  .next (
    match s.spn.reqs.find? fun r => decide (r.line = line) && !r.retried with
    | none => s
    | some r =>
      let zero : Bool := match s.spn.pend with | some p => decide (p.line = line ∧ p.kind = .zero) | none => false
      let s0 := if zero then curePoison s line else s
      let s1 := cohAnswered { s0 with spn := { s0.spn with reqs := s0.spn.reqs.filter fun x => decide (x.line ≠ line) } }
      if lineBad s1 line then
        let waits : Bool := match s1.spn.pend with | some p => decide (p.line = line) | none => false
        let s2 := if waits && linePoisoned s1 line then raiseErr s1 pgSPN 6 else s1
        serveSnoops (drainSb (resume (failStores (l2Set s2 line L2Line.none) line) line false))
      else
        let d := if zero then zeroLine else memLine s1 line
        match install s1 line ⟨if r.own then .e else .s, d⟩ with
        | none => s
        | some s2 =>
          let s3 := match s2.spn.pend with | some p => if p.line = line then l1Put s2 line ⟨false, d⟩ else s2 | none => s2
          serveSnoops (drainSb (resume s3 line true)))

/-- COH_WRITEBACK_ACK: the entry is freed, and memory holds its data. -/
def execCohWritebackAck (line : Nat) (s : State) : Host.Outcome State Fault Refusal :=
  .next (
    match s.spn.wb.find? fun e => decide (e.1 = line) with
    | none => s
    | some e =>
      let s1 := physSetList (curePoison s line) (line * 64) e.2
      rsvGone s (drainSb (l2Set { s1 with spn := { s1.spn with wb := s1.spn.wb.filter fun x => decide (x.1 ≠ line) } } line L2Line.none)))

/-- SNOOP_RX: answered from the line's state, "in transit" without data in EP; held while the line is in FP or its
reservation is held (R228, R232, R233). -/
def execSnoopRx (line : Nat) (kind : Snoop) (s : State) : Host.Outcome State Fault Refusal :=
  .next (
    if !s.spn.connected then s
    else if snoopHeld s line then { s with spn := { s.spn with snoops := s.spn.snoops ++ [(line, kind)] } }
    else answerSnoop s line kind)

/-- A request changed in place. -/
def modReq (s : State) (line : Nat) (f : CohReq → CohReq) : State :=
  { s with spn := { s.spn with reqs := s.spn.reqs.map fun r => if r.line = line then f r else r } }

/-- DIRECTORY_RETRY: the request is held and the retry counted (R231). -/
def execDirectoryRetry (line : Nat) (s : State) : Host.Outcome State Fault Refusal :=
  .next (
    if s.spn.reqs.any fun r => decide (r.line = line) && !r.retried then
      cohAnswered (modReq (bumpWrap s pgSPN 0x0BC 0) line fun r => { r with retried := true, late := false })
    else s)

/-- COH_RETRY_GRANT: the held request is issued again on the credit granted (R231). -/
def execCohRetryGrant (line : Nat) (s : State) : Host.Outcome State Fault Refusal :=
  .next (modReq s line fun r => if r.retried then { r with retried := false, since := s.now } else r)

/-- COH_TIMEOUT: neither data nor a retry for 100 µs; the request stays (R234). -/
def execCohTimeout (line : Nat) (s : State) : Host.Outcome State Fault Refusal :=
  .next (
    if s.spn.reqs.any fun r => decide (r.line = line ∧ r.since + 100 * usN ≤ s.now) && !r.retried then
      condErr (modReq s line fun r => { r with late := true }) pgSPN 8
    else s)

/-- RSV_SNOOP_HOLD_EXPIRE: 64 cycles after RSV.LD the reservation holds no snoop off (R228). -/
def execRsvSnoopHoldExpire (s : State) : Host.Outcome State Fault Refusal :=
  .next (serveSnoops { s with spn := { s.spn with rsvHold := false } })

/-- HALT_TAKEN: a pending halt is taken at a recognition point; a drained bobbin halts at idle; the spindle's reservation
sequence ends first, or by force after 256 cycles, and then
the snoops that it held off are answered (R227, R228, R666). -/
def execHaltTaken (core' : Nat) (forced : Bool) (s : State) : Host.Outcome State Fault Refusal :=
  .next (
    let k := core s core'
    match k.haltReq with
    | .pending =>
      if core' = spindle ∧ s.spn.rsv.isSome = true then
        if forced then
          haltCore (raiseErr (clearRsv s) pgDBG 2) core' 5
        else s
      else haltCore s core' k.haltCause
    | .draining =>
      if (pliesOn s core').isEmpty && k.strand.isNone then haltCore s core' k.haltCause else s
    | _ => s)

/-- PWR_DISCONNECT: the handshake with the directory completes: no request is outstanding, no line waits for one, the reservation
is gone and the snoops held off are answered (R228, R608). -/
def execPwrDisconnect (s : State) : Host.Outcome State Fault Refusal :=
  .next (
    if curMode s = .off ∨ domSt s 401 ≠ .on then s
    else
      let s1 := { s with spn := { s.spn with reqs := [], missed := [], pend := none, l2 := s.spn.l2.filter fun e => decide (e.2.st ≠ .fp) } }
      let s2 := cohAnswered (clearRsv s1)
      { s2 with spn := { s2.spn with connected := false } })

/-- LATE_BUS_ERROR: the oldest retired store meets an error as it drains (R221). -/
def execLateBusError (e : StoreErr) (s : State) : Host.Outcome State Fault Refusal :=
  .next (
    match s.spn.sb with
    | [] => s
    | x :: t => lateError { s with spn := { s.spn with sb := t } } x (decide (e = .poison)))

/-- SPINDLE_LOCKSTEP_MISMATCH: the cores freeze, nothing of the mismatch leaves them, the agent is dead (R209, R210). -/
def execSpindleLockstepMismatch (s : State) : Host.Outcome State Fault Refusal :=
  .next (
    let p := (core s spindle).pstate
    if p = .off ∨ p = .fenced ∨ p = .lockedUp then s
    else declareDead (raiseErr (modCore s spindle fun k => { k with pstate := .fenced, haltReq := .none }) pgSPN 0))

/-- A dead agent reconnects with empty caches before the spindle runs on (R237). -/
def reconnect (s : State) : State :=
  raiseIrq { s with spn := { s.spn with connected := true, dead := false, l2 := [], l1d := [], l1i := [] } } pgSPN 2

/-- DEAD_AGENT: the host declares the agent dead; a spindle that runs reconnects, one that is stopped does so at its start. -/
def execDeadAgent (s : State) : Host.Outcome State Fault Refusal :=
  .next (
    if !s.spn.connected then s
    else
      let s1 := declareDead s
      let p := (core s spindle).pstate
      if p = .off ∨ p = .fenced ∨ p = .lockedUp then s1 else reconnect s1)

/-! ### Commands of the page (R241) -/

/-- SPN_CNT_CLR -/
def execSpnCntClr (s : State) : Host.Outcome State Fault Refusal :=
  .next (
    if !pagePowered s pgSPN then warnEvent s pgSPN
    else [0x0A8, 0x0AC, 0x0B0, 0x0B4, 0x0B8, 0x0BC].foldl (fun u o => wr u pgSPN o 0) s)

/-- SPN_LBE_CLR -/
def execSpnLbeClr (s : State) : Host.Outcome State Fault Refusal :=
  .next (if !pagePowered s pgSPN then warnEvent s pgSPN else clearLbe s)

/-- CORE_WAKE: a presented priority wakes a core that sleeps (R522); a power-gated bobbin starts anew (R615). -/
def execCoreWake (c : Nat) (s : State) : Host.Outcome State Fault Refusal :=
  .next (
    let t := eicTarget c
    if 257 ≤ c ∨ !asleep s c ∨ (presented s t).isNone ∨ !rdB s (pgEICT t) 0x088 1 then s
    else if (core s c).pstate = .off then domOn s c
    else modCore s c fun k => { k with pstate := if c = spindle then .strand else .system })

end Sys2Proof.Machine
end

