-- ==== Sys2Proof/Machine/Ucs.lean ====
section
/-!
DEFINITION. Microcode patches and the commands of the UCS and BOB pages (06_bobbin_pipeline.md R200, 08_microcode.md R253, R258 to
R267).
-/

namespace Sys2Proof.Machine

/-! ### The image (R258) -/

/-- A field of the patch image at an address. -/
def patchWord (s : State) (a off : Nat) : W32 := w32 (imgField s a off 4)
/-- WORDS, MATCHES, TARGET. -/
def patchWords (s : State) (a : Nat) : Nat := imgField s a 0x14 2
def patchMatches (s : State) (a : Nat) : Nat := imgField s a 0x16 2
def patchTarget (s : State) (a : Nat) : Nat := imgField s a 6 1
/-- The 1,024 microword slots and the MATCHES match entries. -/
def patchUw (s : State) (a : Nat) : List W32 := (List.range 1024).map fun i => patchWord s a (0x40 + 4 * i)
def patchMt (s : State) (a : Nat) : List W32 := (List.range (patchMatches s a)).map fun i => patchWord s a (0x1040 + 4 * i)

/-- The format fields; MAJOR and MINOR are the ROM's (R266). -/
def patchFormat (s : State) (a : Nat) : Bool :=
  let v := patchWord s a 8
  decide (patchWord s a 0 = 0x55435350 ∧ imgField s a 4 2 = 1 ∧ patchTarget s a ≤ 1 ∧ bits v 16 16 = 0x0201 ∧ bits v 0 16 ≠ 0) &&
    decide (1 ≤ patchWords s a ∧ patchWords s a ≤ 1024 ∧ 1 ≤ patchMatches s a ∧ patchMatches s a ≤ 32)

/-- One microword below WORDS is acceptable: no reserved CLASS, [31:24] zero, an aligned MWAY base, no unmapped target
(R244, R252, R261). A return names no target. -/
def uwOk (w : W32) : Bool :=
  let base := bits w 0 14
  decide (bits w 24 8 = 0 ∧ bits w 20 4 < 9) && (match bits w 20 4 with
    | 1 => decide (base % 2 ^ (bits w 14 2 + 1) = 0 ∧ base < 0x2400)
    | 2 => decide (bits w 17 3 = 7 ∨ base < 0x2400)
    | _ => true)

/-- The content check of R261: an entry that is not valid is looked at too, as far as its patch RAM word. A match slot at or
beyond MATCHES is no entry; where it is not zero (R258), R261 names no refusal, and it is not looked at (DESIGN CHOICE, log
entry 137). -/
def patchContent (words : Nat) (uw mt : List W32) : Bool :=
  let addrs := (mt.filter fun m => bit m 31).map fun m => bits m 0 13
  (uw.take words).all uwOk && (uw.drop words).all (fun w => decide (w = 0)) &&
    mt.all (fun m => decide (bits m 16 10 < words)) && decide (addrs.Nodup)

/-- The RESULT that the checks of R260 give, in their order; 2 for an image that passes. The keys are those of the boot ROM's
Haldim table that are not revoked (20_security.md R638). -/
def patchCheck (s : State) (a : Nat) : Nat :=
  let signed := physBytes s a 0x10C0
  let ec := physBytes s (a + 0x10C0) 96
  let ml := physBytes s (a + 0x1120) 3309
  let keys := (List.range 4).filter fun n => decide (s.fuses.hrkRevoked / 2 ^ n % 2 = 0)
  let good := keys.filter fun n => Config.ecdsaVerify (Config.haldimEc n) ec (Config.sha384 signed)
  if physBad s a 7696 then 10
  else if !patchFormat s a then 4
  else if patchWord s a 0xC ≠ 0x00021A07 then 5
  else if imgField s a 0x10 4 < s.fuses.svnUcs then 6
  else if good = [] then 7
  else if !(good.any fun n => Config.mldsaVerify (Config.haldimMl n) ml signed) then 8
  else if !patchContent (patchWords s a) (patchUw s a) (patchMt s a) then 9 else 2

/-- The patch an image holds. Its digest word takes digest byte 0 as bits [31:24] (R265). -/
def patchOf (s : State) (a : Nat) : Patch :=
  let d := Config.sha384 (physBytes s a 0x10C0)
  ⟨patchWord s a 8, imgField s a 0x10 4, w32 (leNat (d.take 4).reverse), (patchUw s a).take (patchWords s a), patchMt s a⟩

/-! ### Loading (R259, R260, R262, R266) -/

/-- A load has ended with a RESULT. -/
def ucsEnd (s : State) (result : Nat) : State :=
  let s1 := raiseIrq (wrF s pgUCS 0x0A0 0 4 result) pgUCS 0
  if 4 ≤ result ∧ result ≤ 10 then raiseErr s1 pgUCS 4 else s1

/-- The sequencers of a target that have power: a pillow's, or the spindle's. -/
def seqsOf (s : State) (target : Nat) : List Nat :=
  if target = 1 then [16] else (List.range 16).filter fun p => decide (domSt s (384 + p) = .on)

/-- The patch is in every sequencer of its target: it is the master copy, and the registers show it. -/
def patchDone (s : State) (spn : Bool) (p : Patch) : State :=
  let s1 := wr (wr s pgUCS (if spn then 0x088 else 0x080) p.version) pgUCS (if spn then 0x08C else 0x084) p.digest
  let u := { s1.ucs with loading := none }
  ucsEnd { s1 with ucs := if spn then { u with spn := some p } else { u with pil := some p } } 2

/-- The patch image is copied and checked; a good one waits to be written into its sequencers. UCS_LOAD_STATUS.TARGET reads 0 where
the image cannot be read and takes the low bit of an invalid TARGET byte; a load refused by mode leaves it (DESIGN CHOICE, log entry
169). -/
def ucsRead (s : State) : State :=
  let a := (rd s pgUCS 0x094).toNat + (rd s pgUCS 0x098).toNat * 2 ^ 32
  let view := coherentView s
  let r := patchCheck view a
  let t := if r = 10 then 0 else patchTarget view a % 2
  let s1 := wrF (if r = 10 then raiseErr s pgHIF 0 else s) pgUCS 0x0A0 4 1 t
  if r ≠ 2 then ucsEnd s1 r
  else
    let p := patchOf view a
    let l := seqsOf s t
    if l = [] then patchDone s1 (decide (t = 1)) p
    else wrF { s1 with ucs := { s1.ucs with loading := some (p, l) } } pgUCS 0x0A0 0 4 1

/-- UCS_LOAD: in CONFIGURE the image is read, once the host's clock runs; RESULT is busy till then (R20, R259). -/
def execUcsLoad (s : State) : Host.Outcome State Fault Refusal :=
  .next (
    if !pagePowered s pgUCS then warnEvent s pgUCS
    else if rdF s pgUCS 0x0A0 0 4 = 1 then s
    else if curMode s ≠ .configure then warnEvent (ucsEnd s 3) pgUCS
    else hifDma (if s.hif.hostClock then s else wrF s pgUCS 0x0A0 0 4 1) .ucs ucsRead)

/-- A context of a sequencer is inside a routine: between commands that is the strand switch of a core, waiting at one of its
COMMIT points (R251, R262). -/
def seqBusy (s : State) (q : Nat) : Bool :=
  if q = 16 then (core s spindle).switch.isSome else (List.range 16).any fun i => (core s (16 * q + i)).switch.isSome

/-- UCS_PATCH_INSTALL: the next sequencer of the list is written, once none of its contexts is inside a routine; its patch RAM takes
new words with their check bits (R253). After the last one that has power the load ends. -/
def execUcsPatchInstall (seq : Nat) (s : State) : Host.Outcome State Fault Refusal :=
  .next (
    match s.ucs.loading with
    | none => s
    | some (p, l) =>
      let live := l.filter fun x => decide (x = 16 ∨ domSt s (384 + x) = .on)
      if live = [] then patchDone s false p
      else if seq ∉ live || seqBusy s seq then s
      else
        let rest := live.filter fun x => decide (x ≠ seq)
        let s1 := { s with ucs := { s.ucs with
          loading := some (p, rest), ram := SMap.set s.ucs.ram none seq (some p)
          bad := s.ucs.bad.filter fun a => decide (a / 2 ^ 14 ≠ seq ∨ a % 2 ^ 14 < 0x2000) } }
        if rest = [] then patchDone s1 (decide (seq = 16)) p else s1)

/-- UCS_ECC_CLR -/
def execUcsEccClr (s : State) : Host.Outcome State Fault Refusal :=
  .next (if !pagePowered s pgUCS then warnEvent s pgUCS else wr s pgUCS 0x0A4 0)

/-! ### The host's clock returns (R20, R544) -/

/-- An access that waited is made; the priority of its user (R544), with the channel's traffic, which is not HIF's, after it. -/
def dmaRun (s : State) : DmaWait → State
  | .rx k len stamp bytes busErr => fwqStore s k len stamp bytes busErr
  | .tx g h n busErr => fwqFetch s g h n busErr
  | .sent k entry stamp => fwqDone s k entry stamp
  | .log r => logWrite s r
  | .ucs => ucsRead s
  | .dram a bs => draPut s a bs
  | .create idx segs shadow => createNow s idx segs shadow
  | .arm decls at' => armNow s decls at'
  | .image kind modeOk => imageNow s kind modeOk
def DmaWait.rank : DmaWait → Nat
  | .rx _ _ _ _ _ | .tx _ _ _ _ | .sent _ _ _ => 0
  | .log _ => 1
  | .ucs => 2
  | .dram _ _ | .create _ _ _ | .arm _ _ | .image _ _ => 3

/-- HOST_CLOCK_RETURN: what waits in HIF and DRA leaves, hardware posts first, then firmware posts, firmware rings, the log and
patch images (R20, R544). -/
def execHostClockReturn (s : State) : Host.Outcome State Fault Refusal :=
  .next (
    let s1 := msiFlush (drainHeld { s with hif := { s.hif with hostClock := true } })
    let s2 := match s1.hif.stalled with
      | none => s1
      | some p => fwPost { s1 with hif := { s1.hif with stalled := none } } p false
    (sortBy DmaWait.rank s2.hif.dma).foldl dmaRun { s2 with hif := { s2.hif with dma := [] } })

/-! ### BOB_CMD (R200) -/

/-- BOB_CNT_CLR -/
def execBobCntClr (b : Nat) (s : State) : Host.Outcome State Fault Refusal :=
  .next (
    if 256 ≤ b then s
    else if !pagePowered s (pgBOB b) then warnEvent s (pgBOB b)
    else [0x090, 0x094, 0x098, 0x09C, 0x0A0, 0x0A4, 0x0A8, 0x0AC, 0x0B0].foldl (fun u o => wr u (pgBOB b) o 0) s)

/-- BOB_IC_INV: acted on only while the bobbin is halted or vacated. -/
def execBobIcInv (b : Nat) (s : State) : Host.Outcome State Fault Refusal :=
  .next (
    if 256 ≤ b then s
    else if !pagePowered s (pgBOB b) then warnEvent s (pgBOB b)
    else
      let p := (core s b).pstate
      if p = .halted ∨ p = .vacated then modCore s b fun k => { k with icache := [], lbActive := false, lbCap := false } else s)

end Sys2Proof.Machine
end

