-- ==== Sys2Proof/Machine/KendilRows.lean ====
section
/-!
DEFINITION. The rows of paired words (03_kendil_encoding.md R74, R81 to R83): a data-unit operation with the operation B
beside it, or an address-unit operation with the operation A beside it.
-/

namespace Sys2Proof.Machine

/-- NOP, R89, R110 -/
def execNop (w : AWord) (s : State) : Host.Outcome State Fault Refusal := .next (runA .nop w s)

/-- DUP, R89, R110 -/
def execDup (w : AWord) (s : State) : Host.Outcome State Fault Refusal := .next (runA .dup w s)

/-- DROP, R89, R110 -/
def execDrop (w : AWord) (s : State) : Host.Outcome State Fault Refusal := .next (runA .drop w s)

/-- SWAP, R89, R110 -/
def execSwap (w : AWord) (s : State) : Host.Outcome State Fault Refusal := .next (runA .swap w s)

/-- OVER, R89, R110 -/
def execOver (w : AWord) (s : State) : Host.Outcome State Fault Refusal := .next (runA .over w s)

/-- ROT, R89, R110 -/
def execRot (w : AWord) (s : State) : Host.Outcome State Fault Refusal := .next (runA .rot w s)

/-- NIP, R89, R110 -/
def execNip (w : AWord) (s : State) : Host.Outcome State Fault Refusal := .next (runA .nip w s)

/-- TUCK, R89, R110 -/
def execTuck (w : AWord) (s : State) : Host.Outcome State Fault Refusal := .next (runA .tuck w s)

/-- TWO_DUP, R89, R110 -/
def execTwoDup (w : AWord) (s : State) : Host.Outcome State Fault Refusal := .next (runA .dup2 w s)

/-- TWO_DROP, R89, R110 -/
def execTwoDrop (w : AWord) (s : State) : Host.Outcome State Fault Refusal := .next (runA .drop2 w s)

/-- TWO_SWAP, R89, R110 -/
def execTwoSwap (w : AWord) (s : State) : Host.Outcome State Fault Refusal := .next (runA .swap2 w s)

/-- TWO_OVER, R89, R110 -/
def execTwoOver (w : AWord) (s : State) : Host.Outcome State Fault Refusal := .next (runA .over2 w s)

/-- PICK, R89, R110 -/
def execPick (w : AWord) (n : BitVec 4) (s : State) : Host.Outcome State Fault Refusal := .next (runA (.pick n) w s)

/-- ROLL, R89, R110 -/
def execRoll (w : AWord) (n : BitVec 4) (s : State) : Host.Outcome State Fault Refusal := .next (runA (.roll n) w s)

/-- LIT_S, R89, R110 -/
def execLitS (w : AWord) (v : BitVec 8) (s : State) : Host.Outcome State Fault Refusal := .next (runA (.litS v) w s)

/-- AND, R111, R112 -/
def execAnd (w : AWord) (s : State) : Host.Outcome State Fault Refusal := .next (runA .and w s)

/-- OR, R111, R112 -/
def execOr (w : AWord) (s : State) : Host.Outcome State Fault Refusal := .next (runA .or w s)

/-- XOR, R111, R112 -/
def execXor (w : AWord) (s : State) : Host.Outcome State Fault Refusal := .next (runA .xor w s)

/-- NOT, R111, R112 -/
def execNot (w : AWord) (s : State) : Host.Outcome State Fault Refusal := .next (runA .not w s)

/-- ANDN, R111, R112 -/
def execAndn (w : AWord) (s : State) : Host.Outcome State Fault Refusal := .next (runA .andn w s)

/-- POPC, R111, R112 -/
def execPopc (w : AWord) (s : State) : Host.Outcome State Fault Refusal := .next (runA .popc w s)

/-- CLZ, R111, R112 -/
def execClz (w : AWord) (s : State) : Host.Outcome State Fault Refusal := .next (runA .clz w s)

/-- SHL, R111, R112 -/
def execShl (w : AWord) (n : Option (BitVec 5)) (s : State) : Host.Outcome State Fault Refusal :=
  .next (runA (.shift .shl n) w s)

/-- SHR, R111, R112 -/
def execShr (w : AWord) (n : Option (BitVec 5)) (s : State) : Host.Outcome State Fault Refusal :=
  .next (runA (.shift .shr n) w s)

/-- SAR, R111, R112 -/
def execSar (w : AWord) (n : Option (BitVec 5)) (s : State) : Host.Outcome State Fault Refusal :=
  .next (runA (.shift .sar n) w s)

/-- ROL, R111, R112 -/
def execRol (w : AWord) (n : Option (BitVec 5)) (s : State) : Host.Outcome State Fault Refusal :=
  .next (runA (.shift .rol n) w s)

/-- ADD, R113 to R115 -/
def execAdd (w : AWord) (s : State) : Host.Outcome State Fault Refusal := .next (runA .add w s)

/-- SUB, R113 to R115 -/
def execSub (w : AWord) (s : State) : Host.Outcome State Fault Refusal := .next (runA .sub w s)

/-- ADC, R113 to R115 -/
def execAdc (w : AWord) (s : State) : Host.Outcome State Fault Refusal := .next (runA .adc w s)

/-- SBC, R113 to R115 -/
def execSbc (w : AWord) (s : State) : Host.Outcome State Fault Refusal := .next (runA .sbc w s)

/-- NEG, R113 to R115 -/
def execNeg (w : AWord) (s : State) : Host.Outcome State Fault Refusal := .next (runA .neg w s)

/-- ABS, R113 to R115 -/
def execAbs (w : AWord) (s : State) : Host.Outcome State Fault Refusal := .next (runA .abs w s)

/-- CMP, R113 to R115 -/
def execCmp (w : AWord) (s : State) : Host.Outcome State Fault Refusal := .next (runA .cmp w s)

/-- EQ, R113 to R115 -/
def execEq (w : AWord) (s : State) : Host.Outcome State Fault Refusal := .next (runA .eq w s)

/-- LT, R113 to R115 -/
def execLt (w : AWord) (s : State) : Host.Outcome State Fault Refusal := .next (runA .lt w s)

/-- ULT, R113 to R115 -/
def execUlt (w : AWord) (s : State) : Host.Outcome State Fault Refusal := .next (runA .ult w s)

/-- MIN, R113 to R115 -/
def execMin (w : AWord) (s : State) : Host.Outcome State Fault Refusal := .next (runA .min w s)

/-- MAX, R113 to R115 -/
def execMax (w : AWord) (s : State) : Host.Outcome State Fault Refusal := .next (runA .max w s)

/-- UMIN, R113 to R115 -/
def execUmin (w : AWord) (s : State) : Host.Outcome State Fault Refusal := .next (runA .umin w s)

/-- UMAX, R113 to R115 -/
def execUmax (w : AWord) (s : State) : Host.Outcome State Fault Refusal := .next (runA .umax w s)

/-- INC, R113 to R115 -/
def execInc (w : AWord) (s : State) : Host.Outcome State Fault Refusal := .next (runA .inc w s)

/-- DEC, R113 to R115 -/
def execDec (w : AWord) (s : State) : Host.Outcome State Fault Refusal := .next (runA .dec w s)

/-- MUL, R116 to R118 -/
def execMul (w : AWord) (s : State) : Host.Outcome State Fault Refusal := .next (runA .mul w s)

/-- MULW_S, R116 to R118 -/
def execMulwS (w : AWord) (s : State) : Host.Outcome State Fault Refusal := .next (runA .mulwS w s)

/-- MULW_U, R116 to R118 -/
def execMulwU (w : AWord) (s : State) : Host.Outcome State Fault Refusal := .next (runA .mulwU w s)

/-- DIV, R116 to R118 -/
def execDiv (w : AWord) (s : State) : Host.Outcome State Fault Refusal := .next (runA .div w s)

/-- DIVU, R116 to R118 -/
def execDivu (w : AWord) (s : State) : Host.Outcome State Fault Refusal := .next (runA .divu w s)

/-- REM, R116 to R118 -/
def execRem (w : AWord) (s : State) : Host.Outcome State Fault Refusal := .next (runA .rem w s)

/-- REMU, R116 to R118 -/
def execRemu (w : AWord) (s : State) : Host.Outcome State Fault Refusal := .next (runA .remu w s)

/-- X_ADD, R119, R120 -/
def execXAdd (w : AWord) (sat : Bool) (s : State) : Host.Outcome State Fault Refusal := .next (runA (.fix .add sat) w s)

/-- X_SUB, R119, R120 -/
def execXSub (w : AWord) (sat : Bool) (s : State) : Host.Outcome State Fault Refusal := .next (runA (.fix .sub sat) w s)

/-- X_MUL, R119, R120 -/
def execXMul (w : AWord) (sat : Bool) (s : State) : Host.Outcome State Fault Refusal := .next (runA (.fix .mul sat) w s)

/-- X_DIV, R119, R120 -/
def execXDiv (w : AWord) (sat : Bool) (s : State) : Host.Outcome State Fault Refusal := .next (runA (.fix .div sat) w s)

/-- X_NEG, R119, R120 -/
def execXNeg (w : AWord) (sat : Bool) (s : State) : Host.Outcome State Fault Refusal := .next (runA (.fix .neg sat) w s)

/-- X_ABS, R119, R120 -/
def execXAbs (w : AWord) (sat : Bool) (s : State) : Host.Outcome State Fault Refusal := .next (runA (.fix .abs sat) w s)

/-- FADD, R121 to R123 -/
def execFadd (w : AWord) (s : State) : Host.Outcome State Fault Refusal := .next (runA .fadd w s)

/-- FSUB, R121 to R123 -/
def execFsub (w : AWord) (s : State) : Host.Outcome State Fault Refusal := .next (runA .fsub w s)

/-- FMUL, R121 to R123 -/
def execFmul (w : AWord) (s : State) : Host.Outcome State Fault Refusal := .next (runA .fmul w s)

/-- FMA, R121 to R123 -/
def execFma (w : AWord) (s : State) : Host.Outcome State Fault Refusal := .next (runA .fma w s)

/-- FDIV, R121 to R123 -/
def execFdiv (w : AWord) (s : State) : Host.Outcome State Fault Refusal := .next (runA .fdiv w s)

/-- FSQRT, R121 to R123 -/
def execFsqrt (w : AWord) (s : State) : Host.Outcome State Fault Refusal := .next (runA .fsqrt w s)

/-- FNEG, R121 to R123 -/
def execFneg (w : AWord) (s : State) : Host.Outcome State Fault Refusal := .next (runA .fneg w s)

/-- FABS, R121 to R123 -/
def execFabs (w : AWord) (s : State) : Host.Outcome State Fault Refusal := .next (runA .fabs w s)

/-- FMIN, R121 to R123 -/
def execFmin (w : AWord) (s : State) : Host.Outcome State Fault Refusal := .next (runA .fmin w s)

/-- FMAX, R121 to R123 -/
def execFmax (w : AWord) (s : State) : Host.Outcome State Fault Refusal := .next (runA .fmax w s)

/-- FCMP, R121 to R123 -/
def execFcmp (w : AWord) (s : State) : Host.Outcome State Fault Refusal := .next (runA .fcmp w s)

/-- CVT_IF, R124 to R126 -/
def execCvtIf (w : AWord) (s : State) : Host.Outcome State Fault Refusal := .next (runA .cvtIf w s)

/-- CVT_NF, R124 to R126 -/
def execCvtNf (w : AWord) (s : State) : Host.Outcome State Fault Refusal := .next (runA .cvtNf w s)

/-- CVT_FI, R124 to R126 -/
def execCvtFi (w : AWord) (s : State) : Host.Outcome State Fault Refusal := .next (runA .cvtFi w s)

/-- CVT_FN, R124 to R126 -/
def execCvtFn (w : AWord) (s : State) : Host.Outcome State Fault Refusal := .next (runA .cvtFn w s)

/-- CVT_XF, R124 to R126 -/
def execCvtXf (w : AWord) (s : State) : Host.Outcome State Fault Refusal := .next (runA .cvtXf w s)

/-- CVT_FX, R124 to R126 -/
def execCvtFx (w : AWord) (s : State) : Host.Outcome State Fault Refusal := .next (runA .cvtFx w s)

/-- CVT_IX, R124 to R126 -/
def execCvtIx (w : AWord) (s : State) : Host.Outcome State Fault Refusal := .next (runA .cvtIx w s)

/-- CVT_XI, R124 to R126 -/
def execCvtXi (w : AWord) (s : State) : Host.Outcome State Fault Refusal := .next (runA .cvtXi w s)

/-- AS_NAT, R124 to R126 -/
def execAsNat (w : AWord) (s : State) : Host.Outcome State Fault Refusal := .next (runA .asNat w s)

/-- AS_INT, R124 to R126 -/
def execAsInt (w : AWord) (s : State) : Host.Outcome State Fault Refusal := .next (runA .asInt w s)

/-- AS_FLT, R124 to R126 -/
def execAsFlt (w : AWord) (s : State) : Host.Outcome State Fault Refusal := .next (runA .asFlt w s)

/-- AS_ADR, R124 to R126 -/
def execAsAdr (w : AWord) (s : State) : Host.Outcome State Fault Refusal := .next (runA .asAdr w s)

/-- CRC_STEP, R132, R133 -/
def execCrcStep (w : AWord) (s : State) : Host.Outcome State Fault Refusal := .next (runA .crcStep w s)

/-- PAR, R132, R133 -/
def execPar (w : AWord) (s : State) : Host.Outcome State Fault Refusal := .next (runA .par w s)

/-- BREV, R132, R133 -/
def execBrev (w : AWord) (n : BitVec 5) (s : State) : Host.Outcome State Fault Refusal := .next (runA (.brev n) w s)

/-- TAG_RD, R41 -/
def execTagRd (w : AWord) (s : State) : Host.Outcome State Fault Refusal := .next (runA .tagRd w s)

/-- TAG_SET, R41 -/
def execTagSet (w : AWord) (s : State) : Host.Outcome State Fault Refusal := .next (runA .tagSet w s)

/-- SEL, R138 -/
def execSel (w : AWord) (s : State) : Host.Outcome State Fault Refusal := .next (runA .sel w s)

/-- LD, R96, R127 -/
def execLd (w : AWord) (s : State) : Host.Outcome State Fault Refusal := .next (runA .ld w s)

/-- ST, R96, R127 -/
def execSt (w : AWord) (s : State) : Host.Outcome State Fault Refusal := .next (runA .st w s)

/-- LD_AT_A, R96, R127 -/
def execLdAtA (w : AWord) (d : BitVec 8) (s : State) : Host.Outcome State Fault Refusal := .next (runA (.ldA d) w s)

/-- ST_AT_A, R96, R127 -/
def execStAtA (w : AWord) (d : BitVec 8) (s : State) : Host.Outcome State Fault Refusal := .next (runA (.stA d) w s)

/-- A_FETCH, R96, R127 -/
def execAFetch (w : AWord) (s : State) : Host.Outcome State Fault Refusal := .next (runA .aFetch w s)

/-- R_FETCH, R96, R127 -/
def execRFetch (w : AWord) (s : State) : Host.Outcome State Fault Refusal := .next (runA .rFetch w s)

/-- LC_FETCH, R96, R127 -/
def execLcFetch (w : AWord) (s : State) : Host.Outcome State Fault Refusal := .next (runA .lcFetch w s)

/-- TIM_NOW, R138 -/
def execTimNow (w : AWord) (s : State) : Host.Outcome State Fault Refusal := .next (runA .timNow w s)

/-- TIM_ADDNS, R138 -/
def execTimAddns (w : AWord) (s : State) : Host.Outcome State Fault Refusal := .next (runA .timAddns w s)

/-- TIM_SUB, R138 -/
def execTimSub (w : AWord) (s : State) : Host.Outcome State Fault Refusal := .next (runA .timSub w s)

/-- TIM_CMP, R138 -/
def execTimCmp (w : AWord) (s : State) : Host.Outcome State Fault Refusal := .next (runA .timCmp w s)

/-- RDROP, R91 -/
def execRdrop (w : BWord) (s : State) : Host.Outcome State Fault Refusal := .next (runB .rdrop w s)

/-- RDUP, R91 -/
def execRdup (w : BWord) (s : State) : Host.Outcome State Fault Refusal := .next (runB .rdup w s)

/-- RSWAP, R91 -/
def execRswap (w : BWord) (s : State) : Host.Outcome State Fault Refusal := .next (runB .rswap w s)

/-- ROVER, R91 -/
def execRover (w : BWord) (s : State) : Host.Outcome State Fault Refusal := .next (runB .rover w s)

/-- RPUSH_T, R91 -/
def execRpushT (w : BWord) (s : State) : Host.Outcome State Fault Refusal := .next (runB .rpushT w s)

/-- RPUSH_N, R91 -/
def execRpushN (w : BWord) (s : State) : Host.Outcome State Fault Refusal := .next (runB .rpushN w s)

/-- A_STEP, R92, R93 -/
def execAStep (w : BWord) (k : BitVec 9) (s : State) : Host.Outcome State Fault Refusal := .next (runB (.aStep k) w s)

/-- A_STEP_CIRC, R92, R93 -/
def execAStepCirc (w : BWord) (k : BitVec 9) (s : State) : Host.Outcome State Fault Refusal :=
  .next (runB (.aStepCirc k) w s)

/-- A_SET_TOS, R92, R93 -/
def execASetTos (w : BWord) (s : State) : Host.Outcome State Fault Refusal := .next (runB .aSetTos w s)

/-- A_ADD_TOS, R92, R93 -/
def execAAddTos (w : BWord) (s : State) : Host.Outcome State Fault Refusal := .next (runB .aAddTos w s)

/-- A_SET_NOS, R92, R93 -/
def execASetNos (w : BWord) (s : State) : Host.Outcome State Fault Refusal := .next (runB .aSetNos w s)

/-- A_SET_RTOS, R92, R93 -/
def execASetRtos (w : BWord) (s : State) : Host.Outcome State Fault Refusal := .next (runB .aSetRtos w s)

/-- LBRK, R94 -/
def execLbrk (w : BWord) (s : State) : Host.Outcome State Fault Refusal := .next (runB .lbrk w s)

end Sys2Proof.Machine
end

