-- ==== Sys2Proof/Machine/ReadReg.lean ====
section
/-!
DEFINITION. What a read of a register answers (00_scope.md R4 to R9, R7; the register tables of every chapter). No read but
a claim has an effect, and the claim is a command of its own (EIC_CLAIM); a read is therefore a view of the state: registers
that only report what a unit holds are computed from it, the others are the stored values.
-/

namespace Sys2Proof.Machine

/-- The low 32 bits of a signed number, saturated. -/
def satWord (x : Int) : W32 := satReg x

/-! ### The common header (22_register_index.md R689) -/

/-- The units of a page as the Selvedge tests and retires them. -/
def pageUnits (u : RUnit) (i : Nat) : List UnitId :=
  if u = .pil then (List.range 9).map fun k => ⟨u.cls, i, k⟩ else [⟨u.cls, i, 0⟩]

/-- The unit whose retirement a page shows: a pillow's own page shows its fabric (DEDUCED, log entry 49). -/
def pageMain (u : RUnit) (i : Nat) : UnitId := ⟨u.cls, i, if u = .pil then 8 else 0⟩

/-- POWER of UNIT_STATE: the state of the page's domain; the always-on domain is on (R626). -/
def unitPower (s : State) (page : Nat) : Nat :=
  match pageDom page with
  | none => if curMode s = .off then 0 else 1
  | some d => (domSt s d).code

/-- CLOCK of UNIT_STATE: the unit has power and is not clock-gated; CLK_REQ keeps the clock (DEDUCED, log entry 49). -/
def unitClock (s : State) (page : Nat) (u : RUnit) (i : Nat) : Bool :=
  pagePowered s page && (rdB s page 0x008 2 || !(decide (u = .bob) && decide ((core s i).pstate = .idle)))

/-- A test of one of the page's units waits, or runs. -/
def pageTest (s : State) (u : RUnit) (i : Nat) (ph : TestPhase) : Bool :=
  s.selv.tests.any fun t => decide (t.unit ∈ pageUnits u i ∧ t.phase = ph)

/-- UNIT_STATE. -/
def unitState (s : State) (page : Nat) (u : RUnit) (i : Nat) : W32 :=
  let main := pageMain u i
  let ret := (unitRec s main).retired
  let under := pageTest s u i .running
  let held := (s.selv.tests.any fun t => decide (t.unit = main ∧ t.phase = .waiting)) || (decide (u = .bob) && decide (i ∈ s.dbg.drains))
  w32 (unitPower s page + at' (unitClock s page u i) 2 + at' (rdB s page 0x008 0 && !ret && !under && !held) 3 + at' under 4 +
    at' ret 5)

/-- Errors whose condition the unit's own state shows as it stands: ERR_LIVE has them beside those it keeps (R9). -/
def standing (s : State) (u : RUnit) (i : Nat) : W32 :=
  match u with
  | .bob => w32 (at' (decide ((core s i).pstate = .lockedUp)) 5)
  | .spn =>
    let p := (core s spindle).pstate
    w32 (at' (decide (p = .fenced)) 0 + at' (rdB s pgSPN 0x0A0 31) 5 + at' s.spn.dead 7 + at' (decide (p = .lockedUp)) 9)
  | .mode => w32 (at' (s.mode.busy && s.mode.late.any fun ds => ds.isEmpty || ds.any fun d =>
      decide (domSt s d = .changing ∨ 256 ≤ d ∧ d < 384 ∧ bankPwr s ((d - 256) / 8) ((d - 256) % 8) = .waking)) 1)
  | .prck => w32 (at' (s.prck.behind && rotaLate s) 2)
  | .whrl => w32 (at' ((List.range 8).any fun n => (tline s n).running && decide (tlMode s n = 2) && (tline s n).trkNom) 2)
  | .pil => w32 (at' ((List.range 9).any fun k => decide (i * 9 + k ∈ s.pwr.wakeLate)) 5 +
      at' (decide (i ∈ s.mem.scrubLate) && rdB s (pgPIL i) 0x080 0) 3)
  | .pg => w32 (at' (decide (i ∈ s.clk.pgUnlock) && (List.range 8).any fun k => decide (laneMode s (8 * i + k) ≠ 0)) 0)
  | .trip => w32 (at' ((List.range 32).any fun n => rbStands s n) 2)
  | .stc => w32 (at' (decide (s.stc.st = .holdover ∧ s.stc.src = 0)) 4 + at' s.stc.expired 5 + at' s.stc.calBad 7)
  | .dra => w32 (at' s.dra.retired.isSome 3)
  | .pwr => w32 (at' (s.pwr.regBad.any fun p => decide (domSt s (384 + p) = .on)) 4 + at' (decide (s.pwr.late ≠ [])) 5)
  | .clk => w32 (at' (decide (domSt s 400 = .on) && !s.clk.spnLock) 0 +
      at' ((List.range 16).any fun p => decide (domSt s (384 + p) = .on) && !SMap.get s.clk.pilLock false p) 1)
  | _ => 0

/-- A header register of a page; IRQ_SET, a W1S register, shows the bits it sets, those of IRQ_STATUS (R5, R8). -/
def readHdr (s : State) (page : Nat) (u : RUnit) (i off : Nat) : W32 :=
  if off = 0x000 ∨ off = 0x004 then w32 (hdrReset u i off)
  else if off = 0x00C then unitState s page u i
  else if off = 0x020 ∨ off = 0x044 then 0
  else if off = 0x02C then rd s page 0x024
  else if off = 0x014 then rd s page off ||| standing s u i
  else rd s page off

/-! ### Unit registers -/

/-- The domain that PWR_DOM_SEL names; those of banks are kept with the banks (R609). -/
def domSelState (s : State) : Nat :=
  let d := rdF s pgPWR 0x094 0 9
  if 256 ≤ d ∧ d < 384 then
    match bankPwr s ((d - 256) / 8) ((d - 256) % 8) with
    | .off => 0 | .on => 1 | .retain => 2 | .waking => 3
  else (domSt s d).code

/-- MODE page (R623). -/
def readMode (s : State) (off : Nat) : W32 :=
  let m := s.mode
  match off with
  | 0x084 => w32 (m.cur.code + m.target.code * 2 ^ 4 + at' m.busy 8 + at' m.auto 9 + m.reject * 2 ^ 12 + m.detail * 2 ^ 16)
  | 0x088 => w32 (m.rejIndex % 2 ^ 21)
  | 0x08C => w32 m.entrySec
  | 0x090 => w32 m.entryNs
  | 0x094 => w32 (m.phBoot + m.phProof * 2 ^ 16)
  | 0x098 => w32 (m.phConf + m.phArm * 2 ^ 16)
  | 0x09C => w32 (m.prev.code + (if m.cur = .safe then (if m.safeFrom = .degraded then Mode.run else m.safeFrom).code else 0) * 2 ^ 4)
  | _ => rd s pgMODE off

/-- PWR page (R626). -/
def readPwr (s : State) (off : Nat) : W32 :=
  let p := (off - 0x104) / 8
  match off with
  | 0x084 => w32 (at' s.pwr.supplyOk 0 + at' s.pwr.tempOk 1 + at' (s.pwr.supplyOk && s.pwr.tempOk) 2 + s.pwr.tj.toNat * 2 ^ 8)
  | 0x090 => w32 (s.pwr.powerNow + s.pwr.powerPeak * 2 ^ 16)
  | 0x098 => w32 (domSelState s + SMap.get s.pwr.ups 0 (rdF s pgPWR 0x094 0 9) * 2 ^ 16)
  | _ =>
    if 0x104 ≤ off ∧ off % 8 = 4 then
      w32 (pilFreq s p % 2 ^ 11 + SMap.get s.pwr.vdd 0 p % 2 ^ 10 * 2 ^ 12 + SMap.get s.pwr.ageOff 0 p % 2 ^ 6 * 2 ^ 22 +
        at' (SMap.get s.pwr.vmax false p) 31)
    else rd s pgPWR off

/-- CLK page (R630). -/
def readClk (s : State) (off : Nat) : W32 :=
  match off with
  | 0x080 => w32 s.clk.refSel
  | 0x084 => w32 (at' s.clk.onIntOsc 0 + at' s.clk.spnLock 1 + (boolWord 16 fun p => SMap.get s.clk.pilLock false p).toNat * 2 ^ 16)
  | 0x08C => w32 (s.clk.intOscKhz % 2 ^ 16)
  | _ => rd s pgCLK off

/-! ### SELV_CERT (R594) -/

/-- Every page with a common header from ERR_STATUS on. -/
def unitPages : List Nat :=
  List.range 20 ++ (List.range 12).map pgPG ++ (List.range 96).map pgLANE ++ (List.range 16).map pgPIL ++ (List.range 256).map pgBOB

/-- A strand index is of a strand of class P. -/
def pClass (s : State) (i : Nat) : Bool :=
  match strand s i with | some x => decide (dCls x.decl = 0) | none => false

/-- A subscription is authenticated wherever it may arrive: AUTH in its entry, or AUTH_ALL in the groups of its lanes. -/
def subAuth (s : State) (e : List W32) : Bool :=
  bit (dword e 0) 1 || ((List.range 96).filter fun k => pubOnLane e k).all fun k => portB s (pgPG (k / 8)) 0x080 2

/-- AUTH: subscriptions consumed by a P-class strand; those that BIO feeds arrive in no frame. -/
def certAuth (s : State) : Bool :=
  (s.pio.sv.all fun e => match e.2 with
    | some x => subAuth s x.entry || !(x.cons.any fun c => pClass s (consStrand c))
    | none => true) &&
  (s.pio.goose.all fun e => match e.2 with
    | some x => bit (dword x.entry 0) 11 || subAuth s x.entry || !(x.cons.any fun c => pClass s (consStrand c))
    | none => true)

/-- OUTPUTS: outputs owned by a P-class strand, as configured in effect. -/
def certOutputs (s : State) : Bool :=
  (List.range 32).all fun n => match (outp s n).owner with
    | some i => !pClass s i || (decide (bits (outCfg s n) 0 2 = 1) && bit (outCfg s n) 24 && decide (bits (outCfg s n) 16 8 ≤ 4))
    | none => true

/-- DET_FIT: Σ + 584 cycles at FLOOR and 1 µs are at most 480 µs on every bobbin with a P-class ply. -/
def certFit (s : State) : Bool :=
  (List.range 256).all fun b =>
    let ds := bobLoad s b none
    let sum := ((ds.filter isPC).map fun d => dBudget d + 1168).foldl (· + ·) 0
    !(ds.any fun d => decide (dCls d = 0)) || decide (sum + 584 ≤ 479 * pilFloor s (pilOf b))

/-- ROUTES: every enable set, every route at or above its reset value, SELV_CTL at its reset value. -/
def certRoutes (s : State) : Bool :=
  decide (rd s pgSELV 0x080 = 0xF) && unitPages.all fun page =>
    decide (rd s page 0x018 = regReset (rkey page 0x018)) &&
      (List.range 16).all fun n => decide (bits (regReset (rkey page 0x01C)) (2 * n) 2 ≤ routeOf s page n)

/-- EIC: sources 4, 10 and 18 enabled at PRIO 15 on target 0 (R529). -/
def certEic (s : State) : Bool :=
  [4, 10, 18].all fun n => (esrc s n).en && decide ((esrc s n).prio = 15 ∧ (esrc s n).target = 0)

/-- An image in use has passed the checks of R638 and has the SVN of its counter. -/
def imgCurrent (i : Option Img) (counter : Nat) : Bool :=
  match i with | some x => x.checked && decide (x.svn = counter) | none => false

/-- SIGNED: DEPLOYED with nothing pending, and the firmware, any patch, the tables and every code image checked and at their
counters (R651); 0 while the crypto and secure domain is retired (R583). -/
def certSigned (s : State) : Bool :=
  let f := s.fuses
  let patch := fun (p : Option Patch) => match p with | some x => decide (x.svn = f.svnUcs) | none => true
  decide (f.state = .deployed ∧ f.fused = .deployed) && !(unitRec s ⟨RUnit.sec.cls, 0, 0⟩).retired &&
    imgCurrent s.sec.fw f.svnFw && imgCurrent s.sec.tbl f.svnTbl &&
    (s.sec.codeImgs.all fun c => imgCurrent (some c.img) f.svnCode) && patch s.ucs.pil && patch s.ucs.spn

/-- The conditions of SELV_CERT from bit 0 up (R594, R598, R691). -/
def certBits (s : State) : List Bool :=
  [ (s.whrl.strands.all fun e => match e.2 with
      | some x => decide (dCls x.decl ≠ 0) || decide (2 ≤ dPlies x.decl)
      | none => true) && !s.prck.plyShort,
    (List.range 16).all fun p => rdB s (pgPIL p) 0x080 0 && decide (rdF s (pgPIL p) 0x084 0 10 ≤ 100),
    rdB s pgPRCK 0x080 1 && rdB s pgPRCK 0x080 2 && decide (rdF s pgPRCK 0x0A0 0 16 ≤ 1000) &&
      unitPages.all (fun page => rdB s page 0x038 0),
    certAuth s,
    (srcQual s 1 && srcQual s 2) || ((srcQual s 1 || srcQual s 2) && srcQual s 4),
    decide (curMode s = .run ∨ curMode s = .degraded ∨ curMode s = .test ∨ curMode s = .blocked),
    s.pwr.supplyOk && s.pwr.tempOk,
    certSigned s,
    decide (dbgLevel s ≤ 1),
    certOutputs s,
    certFit s,
    certRoutes s,
    (List.range 96).all fun k => laneMode s k = 0 || !laneRing s k || portB s (pgPG (k / 8)) 0x080 1,
    certEic s ]

/-- SELV_CERT. -/
def certWord (s : State) : W32 :=
  let bs := certBits s
  boolWord 14 (fun i => bs.getD i false) ||| w32 (at' (bs.all id) 31)

/-- Bit j of a retirement vector. -/
def retBits (s : State) (cls : Nat) (i : Nat) : W32 := boolWord 32 fun j => (unitRec s ⟨cls, 32 * i + j, 0⟩).retired

/-- SELV page (R575, R598). -/
def readSelv (s : State) (off : Nat) : W32 :=
  let v := s.selv
  let any := fun (o n : Nat) => (List.range n).any fun i => decide (rd s pgSELV (o + 4 * i) ≠ 0)
  match off with
  | 0x084 => w32 (min 8 (testsRunning s).length + at' (decide (curMode s = .safe)) 4 + at' v.safeLatched 5 + at' (degradedCond s) 6 +
      at' v.fnOn 7 + at' (decide (v.lockups ≠ [])) 8 + at' (decide (curMode s = .safe) && !quietOver s) 9 + at' v.wdogHeld.isSome 10)
  | 0x088 => w32 (bits (rd s pgSELV 0x088) 0 20 + at' (any 0x08C 1) 20 + at' (any 0x090 3) 21 + at' (any 0x09C 1) 22 +
      at' (any 0x0A0 8) 23)
  | 0x0E0 =>
    let u := queried s
    let st := if (unitRec s u).retired then 3
      else match v.tests.find? fun t => decide (t.unit = u) with
        | some t => if t.phase = .running then 2 else 1
        | none => 0
    w32 (st + min 15 (recentRecov s u) * 2 ^ 4 + (unitRec s u).total * 2 ^ 16)
  | 0x0EC => certWord s
  | 0x13C =>
    let r := fun (cls i k : Nat) => (unitRec s ⟨cls, i, k⟩).retired
    w32 ((boolWord 12 fun g => r 20 g 0).toNat + (boolWord 16 fun p => r 22 p 8).toNat * 2 ^ 12 + at' (r 11 0 0) 28 +
      at' (r 13 0 0) 29 + at' (r 9 0 0) 30 + at' (r 14 0 0) 31)
  | _ =>
    if 0x100 ≤ off ∧ off < 0x120 then retBits s 23 ((off - 0x100) / 4)
    else if 0x120 ≤ off ∧ off < 0x130 then
      boolWord 32 fun j => (unitRec s (bankUnit ((32 * ((off - 0x120) / 4) + j) / 8) (j % 8))).retired
    else if 0x130 ≤ off ∧ off < 0x13C then retBits s 21 ((off - 0x130) / 4)
    else rd s pgSELV off

/-- EIC page (R528). -/
def readEic (s : State) (off : Nat) : W32 :=
  let n := rdF s pgEIC 0x088 0 10
  let x := esrc s n
  match off with
  | 0x084 => w32 ((List.range 1024).filter (srcPending s)).length
  | 0x08C => w32 (x.prio + x.target * 2 ^ 4 + at' (isEdgeSrc n) 13 + at' x.en 14)
  | 0x090 => w32 (at' (srcPending s n) 0 + at' x.active 1 + at' (if isEdgeSrc n then false else srcLine s n) 2 + at' x.redir 3 +
      at' x.held.isSome 4 + x.merged * 2 ^ 8)
  | 0x098 => match s.eic.orderFault with
    | some (t, k) => w32 (t + k * 2 ^ 9 + 2 ^ 31)
    | none => 0
  | _ =>
    if 0x100 ≤ off ∧ off < 0x180 then boolWord 32 fun j => srcPending s (32 * ((off - 0x100) / 4) + j)
    else if 0x180 ≤ off ∧ off < 0x200 then boolWord 32 fun j => (esrc s (32 * ((off - 0x180) / 4) + j)).active
    else rd s pgEIC off

/-- EIC target page (R532). The claim register shows what a read would claim, as the alias does (R526). -/
def readEicT (s : State) (t off : Nat) : W32 :=
  let x := tgt s t
  match off with
  | 0x080 => if t ≠ 0 then x.lastClaim else match presented s 0 with | some p => claimWord p | none => 0
  | 0x08C =>
    let held := decide (t ≠ 0) && runsP s (core s (t - 1))
    let redir := decide (t ≠ 0) && !tgtInService s t
    w32 (runPrio s t + x.stack.length * 2 ^ 4 + (match topOf (qualifying s t) with | some p => p.2 | none => 0) * 2 ^ 8 +
      at' x.offline 12 + at' redir 13 + at' held 14)
  | 0x094 =>
    match x.stack.reverse[rdF s (pgEICT t) 0x090 0 4]? with
    | some p => claimWord p
    | none => 0
  | 0x098 => x.privPend
  | 0x0A4 => match x.timer with
    | some d => w32 ((d - s.stc.cnt + 1000 * nsU - 1) / (1000 * nsU) % 2 ^ 24)
    | none => 0
  | 0x0A8 => w32 x.spurious
  | _ => rd s (pgEICT t) off

/-- WHRL page (R372). -/
def readWhrl (s : State) (off : Nat) : W32 :=
  let q := rdF s pgWHRL 0x094 0 21
  match off with
  | 0x084 => w32 ((boolWord 8 fun n => (tline s n).running).toNat + (boolWord 8 fun n => (tline s n).trkNom).toNat * 2 ^ 8 +
      at' (match curMode s with | .off | .keep | .boot | .proof | .configure => true | _ => false) 16 + at' s.whrl.resync 17)
  | 0x098 => match strand s q with
    | none => 0
    | some x =>
      let a := x.plies.head?
      w32 ((strandSt s q).code + (match a with | some p => p.bob | none => 0) * 2 ^ 3 + dPlies x.decl * 2 ^ 11 + dCls x.decl * 2 ^ 13 +
        at' (match a with | some p => p.preempted | none => false) 15 +
        (match a with | some p => p.queue.length | none => 0) % 2 ^ 5 * 2 ^ 16 + x.vector % 2 ^ 10 * 2 ^ 22)
  | 0x0A0 => w32 (s.whrl.overflow.length + rdF s pgWHRL 0x0A0 16 13 * 2 ^ 16)
  | _ =>
    if 0x100 ≤ off ∧ off % 0x40 = 0x14 then
      let n := (off - 0x100) / 0x40
      if tlMode s n = 1 then 0 else (tline s n).freq
    else rd s pgWHRL off

/-- PRCK page (R408). -/
def readPrck (s : State) (off : Nat) : W32 :=
  let q := rdF s pgPRCK 0x0A8 0 21
  let c := s.prck
  match off with
  | 0x084 => w32 (min 255 c.migs.length + at' c.plyShort 8 + at' (c.judged && allSpareFit s) 9 + at' (c.behind && rotaLate s) 10)
  | 0x0A4 => w32 (c.rotaB + c.rotaK * 2 ^ 8 + c.rotaL * 2 ^ 16)
  | 0x0AC => match strand s q with
    | none => 0
    | some x =>
      let b := fun (j : Nat) => match x.plies[j]? with | some p => p.bob | none => 0
      w32 (b 0 + b 1 * 2 ^ 8 + b 2 * 2 ^ 16 + (livePlies x).length * 2 ^ 24 + at' (x.plies.all fun p => p.slot.isSome) 26 +
        at' (c.migs.any fun m => decide (m.idx = q)) 27 + at' x.shadowOf.isSome 28 + at' (x.shadowed || s.prck.dir.any fun d => decide (d.primary = x.id)) 29 + at' x.taken 30 + 2 ^ 31)
  | 0x0CC => w32 ((c.staged.filter fun t => decide (s.now < t + 1000 * msN)).length % 2 ^ 24)
  | 0x0D4 =>
    let mine := s.whrl.strands.filterMap fun e => e.2.bind fun x => if x.shadowOf.isSome then some x.taken else none
    w32 (mine.length % 2 ^ 16 + (mine.filter id).length % 2 ^ 16 * 2 ^ 16)
  | _ =>
    if 0x100 ≤ off ∧ off < 0x140 then
      let p := (off - 0x100) / 4
      let ret := (unitRec s (fabricUnit p)).retired || ((List.range 8).any fun k => (unitRec s (bankUnit p k)).retired) ||
        (List.range 16).any fun b => (unitRec s (bobUnit (16 * p + b))).retired
      let proving := c.proving.any fun r => match r with
        | .bobbin b => decide (pilOf b = p) | .bank i _ => decide (i = p) | .lane _ => false
      w32 (SMap.get c.util 0 p % 2 ^ 8 + (BitVec.ofInt 8 (SMap.get c.temp 0 p)).toNat * 2 ^ 8 + SMap.get c.head 0 p % 2 ^ 8 * 2 ^ 16 +
        at' (excluded s p) 24 + at' ret 25 + at' proving 26)
    else if 0x140 ≤ off ∧ off < 0x180 then
      let p := (off - 0x140) / 4
      w32 ((slotsUsed s p).eraseDups.length % 2 ^ 11 + (if c.judged then pilFloor s p % 2 ^ 11 * 2 ^ 16 else 0))
    else rd s pgPRCK off

/-- STC page (R331). -/
def readStc (s : State) (off : Nat) : W32 :=
  let t := s.stc
  let left := satWord (t.adjLeft.tdiv nsU)
  let pps := fun (n o : Nat) =>
    let x := tsrc s n
    w32 (bits (rd s pgSTC o) 0 16 + x.swing % 2 ^ 8 * 2 ^ 16 + at' (x.lastEdge.isSome && decide (s.now < x.seenAt + 2000 * msN)) 24 + at' x.qual 25)
  match off with
  | 0x084 => w32 (t.st.code + t.src * 2 ^ 3 + at' t.traceable 6 + at' t.disagree 7 + at' (singleSource s) 8 +
      (boolWord 4 fun i => srcQual s (i + 1)).toNat * 2 ^ 9 + at' (decide (left ≠ 0)) 13 + at' s.clk.onIntOsc 14 +
      t.stepCount % 2 ^ 8 * 2 ^ 24)
  | 0x0A0 => w32 (holdEst s)
  | 0x0FC => if irigStale s then clrBit (rd s pgSTC off) 31 else rd s pgSTC off
  | 0x0B8 => left
  | 0x0E8 => pps 1 0x0E8
  | 0x0EC => pps 2 0x0EC
  | _ => rd s pgSTC off

/-- BIO page (R503). -/
def readBio (s : State) (off : Nat) : W32 :=
  let f := fun (o : Nat) (g : Bin → Bool) => boolWord 32 fun j => g (bin s (32 * o + j))
  match off with
  | 0x084 => f 0 (·.stable)
  | 0x088 => f 1 (·.stable)
  | 0x08C => f 0 (·.supp)
  | 0x090 => f 1 (·.supp)
  | 0x094 => f 0 (·.raw)
  | 0x098 => f 1 (·.raw)
  | _ => rd s pgBIO off

/-- TRIP page (R507). -/
def readTrip (s : State) (off : Nat) : W32 :=
  let f := fun (g : Out → Bool) => boolWord 32 fun n => g (outp s n)
  match off with
  | 0x084 => f (·.operated)
  | 0x088 => f (·.rb)
  | 0x08C => f (·.rbFault)
  | 0x090 => f (·.held)
  | 0x094 => f (·.fs)
  | _ => rd s pgTRIP off

/-- HIF page (R561): the ring registers show the ring of HIF_RING_SEL. -/
def readHif (s : State) (off : Nat) : W32 :=
  let r := selRing s
  match off with
  | 0x084 => w32 (at' s.hif.hostSleep 0 + at' s.hif.hostWake 1 + at' (decide (s.hif.msiHeld ≠ [])) 2)
  | 0x08C => r.baseLo
  | 0x090 => r.baseHi
  | 0x094 => r.cfg
  | 0x098 => w32 r.head
  | 0x09C => w32 r.tail
  | _ => rd s pgHIF off

/-- An HIRQ line: asserted while a pending ring is routed to it (R542). -/
def hirq (s : State) (line : Nat) : Bool :=
  (List.range 64).any fun n =>
    rdB s pgHIF (if n < 32 then 0x0AC else 0x0B0) (n % 32) &&
      (let c := (SMap.get s.hif.cpl Ring.reset n).cfg
       !bit c 5 && decide (bits c 6 4 = line))

/-- NVR page (R565). -/
def readNvr (s : State) (off : Nat) : W32 :=
  let v := s.nvr
  match off with
  | 0x084 => w32 (at' v.ready 0 + at' v.postFull 1 + v.queue.length * 2 ^ 2 + at' v.rdBusy 13)
  | 0x088 => w32 v.head
  | 0x08C => v.seq
  | 0x094 => v.lost
  | 0x098 => v.wraps
  | _ => if 0x0A0 ≤ off ∧ off < 0x0C0 then v.rdData.getD ((off - 0x0A0) / 4) 0 else rd s pgNVR off

/-- The code of a channel state (R569). -/
def DraState.code : DraState → Nat
  | .off => 0 | .training => 1 | .ready => 2 | .failed => 3

/-- DRA page (R569). -/
def readDra (s : State) (off : Nat) : W32 :=
  match off with
  | 0x084 => w32 (s.dra.st.code + at' s.dra.sr 2 + at' s.dra.migrating 3 + (match s.dra.retired with | some r => r + 1 | none => 0) * 2 ^ 4)
  | 0x0D4 => if s.dra.migrating then w32 (copyPos s) else rd s pgDRA off
  | _ => rd s pgDRA off

/-- SEC page (R653). -/
def readSec (s : State) (off : Nat) : W32 :=
  let c := s.sec
  let ver := fun (i : Option Img) => match i with | some x => x.version | none => 0
  match off with
  | 0x084 => w32 (c.bootSlot + at' c.hostLock 2 + at' (decide (0 ∈ c.tamper)) 3 + at' (decide (1 ∈ c.tamper)) 4 +
      at' s.fuses.ktk.isSome 5 + at' s.fuses.ownerRoot.isSome 6)
  | 0x09C => ver c.fw
  | 0x0A0 => ver c.tbl
  | 0x0A4 => w32 (s.fuses.svnFw + s.fuses.svnUcs * 2 ^ 8 + s.fuses.svnTbl * 2 ^ 16 + s.fuses.svnCode * 2 ^ 24)
  | 0x0A8 => Config.deviceId.setWidth 32
  | 0x0AC => (Config.deviceId >>> 32).setWidth 32
  | 0x0D0 =>
    let left := match c.grant with | some g => min 65535 (g.untilSec - secOf s.stc.cnt) | none => 0
    let lock := match c.lockUntil with | some t => min 255 ((t - secOf s.stc.cnt + 59) / 60) | none => 0
    w32 (dbgLevel s + at' (match c.grant with | some g => g.service | none => false) 2 + left * 2 ^ 8 + lock * 2 ^ 24)
  | _ =>
    if 0x0B0 ≤ off ∧ off < 0x0D0 then
      match c.challenge with
      | some b => w32 (leNat ((b.drop (off - 0x0B0)).take 4))
      | none => 0
    else rd s pgSEC off

/-- LCY page (R636, R656). -/
def readLcy (s : State) (off : Nat) : W32 :=
  match off with
  | 0x080 => w32 (s.fuses.fused.code + at' (decide (s.fuses.fused ≠ s.fuses.state)) 3 + s.fuses.devTrips % 2 ^ 5 * 2 ^ 4 +
      s.fuses.hrkRevoked % 2 ^ 4 * 2 ^ 9)
  | _ => rd s pgLCY off

/-- KEY page (R658). -/
def readKey (s : State) (off : Nat) : W32 :=
  let e := SMap.get s.sec.keys none (rdF s pgKEY 0x094 0 10)
  match off, e with
  | 0x080, _ => w32 (s.sec.keys.filter fun x => x.2.isSome).length
  | 0x098, some k => w32 (k.alg % 4 + k.tagLen % 4 * 2 ^ 2 + 2 ^ 4 + at' (keyInPeriod s k) 5)
  | 0x09C, some k => k.kid
  | 0x0A0, some k => w32 k.nb
  | 0x0A4, some k => w32 k.na
  | o, none => if o = 0x098 ∨ o = 0x09C ∨ o = 0x0A0 ∨ o = 0x0A4 then 0 else rd s pgKEY o
  | o, _ => rd s pgKEY o

/-- A snag of a page is enabled and acting (R679, R683). -/
def snagActs (s : State) (page : Nat) : Bool :=
  let n := rdF s page 0x034 16 16
  rdB s page 0x030 0 && (decide (n = 0) || decide (SMap.get s.dbg.snagFired 0 page < n))

/-- STATE of DBG_RC_STATUS (R683). -/
def rcState (s : State) (c : Nat) : Nat :=
  let k := core s c
  if k.pstate = .halted then 3
  else if k.pstate = .lockedUp ∧ keepLockup s = true then 4
  else match k.haltReq with
    | .draining => 1
    | .pending => 2
    | _ => 0

/-- DBG page (R661, R683): run control, watchdog and breakpoints show the target of DBG_RC_SEL, for a pillow its first
bobbin; trace and counters read 0 below OBSERVE. -/
def readDbg (s : State) (off : Nat) : W32 :=
  let c := (rcCores s).headD (selCore s)
  let seen := decide (1 ≤ dbgLevel s)
  let full := decide (dbgLevel s = 2)
  let i := (off - 0x0A0) / 8
  match off with
  | 0x084 => w32 (dbgLevel s + at' (snagAllowed s) 2 +
      at' (snagAllowed s && unitPages.any fun page => snagActs s page) 3 + at' (anyHalted s) 4)
  | 0x090 =>
    let k := core s c
    w32 (rcState s c + (if rcState s c = 4 then 4 else k.haltCause % 8) * 2 ^ 3 + at' k.delay.isSome 6 + rdF s pgDBG 0x090 8 8 * 2 ^ 8)
  | 0x098 => if full ∧ rcState s c ≥ 3 then (itemRead s c).1 else 0
  | 0x09C => if full ∧ rcState s c ≥ 3 then (itemRead s c).2 else 0
  | 0x0D4 => wdogCfg s c
  | 0x0E0 => if seen then rd s pgDBG 0x0E0 else 0
  | 0x0E4 => if seen then w32 s.dbg.head else 0
  | 0x0E8 => if seen then rd s pgDBG 0x0E8 else 0
  | _ =>
    if 0x0A0 ≤ off ∧ off < 0x0C0 then bpReg s c i (off % 8 / 4)
    else if 0x0F0 ≤ off ∧ off < 0x100 then
      if seen then (SMap.get s.dbg.trace [] (rdF s pgDBG 0x0E8 0 12)).getD ((off - 0x0F0) / 4) 0 else 0
    else if 0x100 ≤ off ∧ off < 0x140 then
      if !seen then 0 else if off % 8 = 4 then SMap.get s.dbg.pmc 0 ((off - 0x100) / 8) else rd s pgDBG off
    else rd s pgDBG off

/-- UCS page (R265). -/
def readUcs (s : State) (off : Nat) : W32 :=
  let ver := fun (p : Option Patch) => match p with | some x => x.version | none => 0x02010000
  let dig := fun (p : Option Patch) => match p with | some x => x.digest | none => 0
  match off with
  | 0x080 => ver s.ucs.pil
  | 0x084 => dig s.ucs.pil
  | 0x088 => ver s.ucs.spn
  | 0x08C => dig s.ucs.spn
  | _ => rd s pgUCS off

/-- PSTATE of SPN_STATUS (R241). -/
def spnPstate : PState → Nat
  | .off => 0 | .idle => 1 | .halted => 3 | .lockedUp => 4 | .fenced => 5 | _ => 2

/-- SPN page (R241). -/
def readSpn (s : State) (off : Nat) : W32 :=
  let k := core s spindle
  match off with
  | 0x084 => w32 (spnPstate k.pstate + k.modes.level.code * 2 ^ 3 + at' s.spn.connected 5 + at' (decide (s.spn.sb = [])) 6 +
      at' s.spn.rsv.isSome 7)
  | 0x088 => w32 k.lastPc
  | 0x08C => w32 (k.lastPc / 2 ^ 32 % 2 ^ 16)
  | _ => rd s pgSPN off

/-- PG page (R464): the pool left beside the buffers of the group's lanes that are not OFF. -/
def readPg (s : State) (g off : Nat) : W32 :=
  match off with
  | 0x084 =>
    let used := ((List.range 8).map fun i => if laneMode s (8 * g + i) = 0 then 0 else portF s (pgLANE (8 * g + i)) 0x084 0 5).foldl (· + ·) 0
    w32 (at' (decide (domSt s (402 + g) = .on) && decide (g ∉ s.clk.pgUnlock)) 0 + (128 - used) * 2 ^ 8)
  | _ => rd s (pgPG g) off

/-- LANE page (R468). -/
def readLane (s : State) (k off : Nat) : W32 :=
  let l := lane s k
  match off with
  | 0x098 => w32 (at' l.link 0 + at' l.signal 1 + at' l.anDone 2 + at' l.eqLocked 3 + at' l.inProof 4 + at' l.rdi 5 + l.nRx % 16 * 2 ^ 6)
  | 0x09C => w32 (l.ctle % 16 + l.eyeV % 256 * 2 ^ 16 + l.eyeH % 256 * 2 ^ 24)
  | _ => rd s (pgLANE k) off

/-- PIL page (R436). -/
def readPil (s : State) (p off : Nat) : W32 :=
  match off with
  | 0x088 => w32 (((List.range 8).map fun k => (bankPwr s p k).code * 4 ^ k).foldl (· + ·) 0 + at' (decide (p ∈ s.mem.codeRetain)) 16 +
      at' ((List.range 5).any fun k => decide (leaseOf s p k ≠ .free)) 17)
  | 0x08C => w32 (scrubPos s p)
  | 0x0A0 => boolWord 32 fun n => decide (n ∈ s.mem.loading)
  | 0x0A4 => boolWord 32 fun n => decide (32 + n ∈ s.mem.loading)
  | 0x0AC =>
    let b := rdF s (pgPIL p) 0x0A8 0 14
    if b < 10240 then w32 (ownOf s p b + 2 ^ 31) else 0
  | _ => rd s (pgPIL p) off

/-- PSTATE of BOB_STATUS (R200). -/
def bobPstate : PState → Nat
  | .off => 0 | .idle => 1 | .strand => 2 | .system => 3 | .halted => 4 | .vacated => 5 | .retired => 6 | .lockedUp => 7 | .fenced => 0

/-- BOB page (R200). -/
def readBob (s : State) (b off : Nat) : W32 :=
  let k := core s b
  match off with
  | 0x084 => w32 (bobPstate k.pstate + (k.loops.filter (·.entered)).length % 4 * 2 ^ 3 + at' k.lbActive 5 + at' (runsP s k) 6 +
      at' k.clbPending 7 + k.modes.level.code * 2 ^ 8 + at' k.strand.isSome 10)
  | 0x088 => match k.strand with
    | some o => (match strand s o.idx with | some x => x.id | none => 0)
    | none => 0
  | 0x08C => w32 (k.lastPc % 2 ^ 16)
  | _ => rd s (pgBOB b) off

/-- GLB page (R27). -/
def readGlb (s : State) (off : Nat) : W32 :=
  match off with
  | 0x08C => w32 (s.glb.role + at' s.glb.present 2 + at' s.glb.takeover 3 + at' s.glb.conflict 4)
  | _ => rd s pgGLB off

/-- SE1 lease page (R429): HOLDER and the lease's state. -/
def readLease (s : State) (p off : Nat) : W32 :=
  let k := (off - 0x080) / 4
  setField (rd s (pgSE1 p) off) 8 2 (leaseOf s p k).code

/-- A register from 0x080 on that a unit's table lists. -/
def readUnit (s : State) (page : Nat) (u : RUnit) (i off : Nat) : W32 :=
  match u with
  | .glb => readGlb s off
  | .mode => readMode s off
  | .pwr => readPwr s off
  | .clk => readClk s off
  | .selv => readSelv s off
  | .eic => readEic s off
  | .whrl => readWhrl s off
  | .prck => readPrck s off
  | .stc => readStc s off
  | .bio => readBio s off
  | .trip => readTrip s off
  | .hif => readHif s off
  | .dra => readDra s off
  | .nvr => readNvr s off
  | .sec => readSec s off
  | .lcy => readLcy s off
  | .dbg => readDbg s off
  | .ucs => readUcs s off
  | .spn => readSpn s off
  | .key => readKey s off
  | .pg => readPg s i off
  | .lane => readLane s i off
  | .pil => readPil s i off
  | .bob => readBob s i off
  | .eicT => readEicT s i off
  | .se1Lease => readLease s i off
  | .se1Ctl => rd s page off

/-- What a read of a register answers: reserved pages and places read 0, the alias shows the target pages, a page without
power shows its identity, version and state only, a write-only or write-1-to-set register reads as R5 says (R5, R7, R8, R526, R610, R687, R688). -/
def readReg (s : State) (page off : Nat) : W32 :=
  let pg := if 0x600 ≤ page ∧ page < 0x800 then page - 0x400 else page
  match pageUnit pg with
  | none => 0
  | some (u, i) =>
    if curMode s = .off then 0
    else if off < 0x080 then
      if u.shortHeader && decide (0x010 ≤ off) then 0
      else if !pagePowered s pg && decide (off ≠ 0x000 ∧ off ≠ 0x004 ∧ off ≠ 0x00C) then 0
      else if !u.hasSnag && decide (off = 0x030 ∨ off = 0x034) then 0
      else if 0x048 ≤ off then 0
      else readHdr s pg u i off
    else if !pagePowered s pg then 0
    else match u.row? off with
      | none => 0
      | some r => if r.acc = .wo then 0 else if r.acc = .w1s then (tgt s i).privPend &&& w32 r.mask else readUnit s pg u i off

/-- What a read of `size` bytes answers its requester: another width or alignment is a bus error (R4). -/
def readAccess (s : State) (page off size : Nat) : BusResp :=
  if size ≠ 4 ∨ off % 4 ≠ 0 ∨ 0x1000 ≤ off then .busError else .data (readReg s page off)

end Sys2Proof.Machine
end

