-- ==== Sys2Proof/Machine/RegWrite.lean ====
section
/-!
DEFINITION. REGISTER_WRITE: a write to the register window (00_scope.md R3 to R9, 22_register_index.md R687 to R692): width
and alignment, access code, mode lock, refused values, and what a written register starts at once. A register whose write is
a command of its own runs that command, with the ordinary outcome of what the command observes (log entry 50).
-/

namespace Sys2Proof.Machine

/-- The state that a command leaves. -/
def after (s : State) : Host.Outcome State Fault Refusal → State
  | .next t => t
  | _ => s

/-- Commands of a write-only register, one a bit, from bit 0 up. -/
def bitCmds (v : W32) (s : State) : Nat → List (State → State) → State
  | _, [] => s
  | n, f :: t => bitCmds v (if bit v n then f s else s) (n + 1) t

/-! ### Refused and ignored values -/

/-- The values that a register's table refuses. -/
def valueRefused (u : RUnit) (off : Nat) (v : W32) : Bool :=
  match u with
  | .selv => decide (off = 0x0CC) && decide (bits v 0 10 < 1 ∨ 1000 < bits v 0 10)
  | .pwr => decide (off = 0x088) && decide (bits v 0 8 < 5)
  | .prck => decide (off = 0x0A0) && decide (bits v 0 16 < 100 ∨ 1000 < bits v 0 16)
  | .dra => decide (off = 0x088) && decide (4 < bits v 0 3)
  | .pil => decide (off = 0x084) && decide (bits v 0 10 < 1 ∨ 1000 < bits v 0 10)
  | .lane => (decide (off = 0x080) &&
      decide (3 < bits v 0 3 ∨ bits v 8 2 = 3 ∨ 12 < bits v 3 4 ∨ (bits v 0 3 = 3 ∧ bits v 3 4 = 0))) ||
      (decide (off = 0x084) && decide (16 < bits v 0 5))
  | .whrl => decide (0x100 ≤ off ∧ off % 0x40 = 0 ∧ bits v 0 2 = 3)
  | .bio => decide (0x100 ≤ off ∧ (200 < bits v 0 8 ∨ bits v 12 4 = 1))
  | .trip => decide (0x100 ≤ off ∧ (bits v 0 2 = 3 ∨ bits v 4 2 = 3))
  | .stc => decide (off = 0x0DC) && bit v 16 && bit v 17
  | _ => false

/-! ### Write-only registers -/

/-- MODE_CMD (R602, R623): a TARGET that no command reaches is rejected as illegal. -/
def modeCmdWrite (who : Who) (v : W32) (s : State) : State :=
  let c : ModeCmd := ⟨who, bits v 24 8, bit v 8, .none⟩
  match Mode.ofCode? (bits v 0 4) with
  | some .keep => after s (execModeCmdKeep c s)
  | some .boot => after s (execModeCmdBoot c {} s)
  | some .proof => after s (execModeCmdProof c s)
  | some .configure => after s (execModeCmdConfigure c s)
  | some .armed => after s (execModeCmdArmed c [] s)
  | some .run => after s (execModeCmdRun c s)
  | some .test => after s (execModeCmdTest c s)
  | some .blocked => after s (execModeCmdBlocked c s)
  | some .service => after s (execModeCmdService c s)
  | _ => modeCmd s c [] id

/-- WHRL_SCMD (R369). A CREATE takes the segments that the last arming declared for its strand (R386). -/
def scmdWrite (v : W32) (s : State) : State :=
  match bits v 0 3 with
  | 1 =>
    let segs := match s.whrl.decls.find? fun d => decide (d.idx = scmdIdx s) with | some d => d.segs | none => []
    after s (execWhrlCreate segs none s)
  | 2 => after s (execWhrlSuspend s)
  | 3 => after s (execWhrlResume s)
  | 4 => after s (execWhrlReset s)
  | 5 => after s (execWhrlFree s)
  | 6 => after s (execWhrlClear s)
  | _ => s

/-- SEC_CMD (R653). -/
def secCmdWrite (v : W32) (s : State) : State :=
  match bits v 0 4 with
  | 1 => after s (execVerifyTables s)
  | 2 => after s (execLoadCode s)
  | 3 => after s (execSvnCommit s)
  | 4 => after s (execChallenge true s)
  | 5 => after s (execDbgResp s)
  | 6 => after s (execDbgRevoke s)
  | 7 => after s (execProvision s)
  | 8 => after s (execGetId s)
  | _ => s

/-- DBG_RC_CMD (R683). -/
def rcCmdWrite (v : W32) (s : State) : State :=
  match bits v 0 3 with
  | 1 => after s (execHalt s)
  | 2 => after s (execResume s)
  | 3 => after s (execStep (bit v 8) s)
  | 4 => after s (execResetLockup s)
  | 5 => after s (execCancel s)
  | _ => s

/-- A write-only register acts on the bits written as 1 (R5). -/
def writeWo (who : Who) (u : RUnit) (i off : Nat) (v : W32) (s : State) : State :=
  let f := fun (o : State → Host.Outcome State Fault Refusal) (t : State) => after t (o t)
  match u, off with
  | .mode, 0x080 => modeCmdWrite who v s
  | .pwr, 0x09C => bitCmds v s 0 [f execPwrDisconnect, f execPwrCntClr]
  | .selv, 0x0D8 => f (execSelvWdogKick v) s
  | .selv, 0x0E4 => bitCmds v s 0 [f execSelvTestReq, f execUnretire]
  | .selv, 0x0F8 => bitCmds v s 0 [f execFnRelease, f execSelvCntClr]
  | .eic, 0x094 => f (execEicSwSet v) s
  | .eic, 0x09C => bitCmds v s 0 [f execEicCntClr]
  | .whrl, 0x08C => scmdWrite v s
  | .whrl, 0x0A4 => bitCmds v s 0 [f execWhrlCntClr]
  | .prck, 0x0D0 =>
    if bits v 0 2 = 1 then f execHandBack s else if bits v 0 2 = 2 then f execShadowDrop s else s
  | .prck, 0x0D8 => bitCmds v s 0 [f execPrckCntClr]
  | .stc, 0x0B4 => f (execStcAdjWrite v) s
  | .stc, 0x0BC => bitCmds v s 0 [f execStcSetNow, f execStcSetAtEdge, f (execStcSnap 0), f execStcCntClr]
  | .bio, 0x0A0 => bitCmds v s 0 [f execBioCntClr]
  | .trip, 0x0A4 => bitCmds v s 0 [f execTripCntClr, f (execRbClr (readTrip s 0x088))]
  | .hif, 0x0B4 => f (execHifPost v false) s
  | .hif, 0x0E0 => bitCmds v s 0 [f execHifCntClr]
  | .dra, 0x0DC => bitCmds v s 0 [f execDraCntClr, f execRetrain, f execTrainDone, f execTrainFail]
  | .nvr, 0x09C => bitCmds v s 0 [f (execNvrPost who), f execNvrDiWrite, f execNvrCntClr]
  | .sec, 0x094 => secCmdWrite v s
  | .lcy, 0x084 => bitCmds v s 0 [f (execApply true true false)]
  | .dbg, 0x08C => rcCmdWrite v s
  | .dbg, 0x0CC => bitCmds v s 0 [f execDbgMemRead, f execDbgMemWrite]
  | .dbg, 0x0D8 => f (execDbgWdogKick who v) s
  | .ucs, 0x09C => bitCmds v s 0 [f execUcsLoad, f execUcsEccClr]
  | .spn, 0x0A4 => bitCmds v s 0 [f execSpnCntClr, f execSpnLbeClr]
  | .key, 0x08C => bitCmds v s 0 [f execKeyLoad, f execKeyErase, f execKeyEraseAll]
  | .lane, 0x0D4 => bitCmds v s 0 [f (execLaneCntClr i), f (execEqRestart i)]
  | .pil, 0x0B0 => bitCmds v s 0 [f (execPilCntClr i), f (execScrubNow i)]
  | .bob, 0x0B4 => bitCmds v s 0 [f (execBobCntClr i), f (execBobIcInv i)]
  | .eicT, 0x084 => f (execEicComplete i v true) s
  | _, _ => s

/-! ### Registers with an effect of their own -/

/-- Snags and ERR_INJECT act with a snag enabled: SNAG_STOP will be set when that ends (R678). -/
def snagMark (s : State) : State :=
  if snagAllowed s && unitPages.any fun page => snagActs s page then { s with dbg := { s.dbg with snagWas := true } } else s

/-- A debug register below its level (R661): trace and counters are ignored, breakpoints are refused with RESULT 2. -/
def dbgWrite (s : State) (off : Nat) (v new : W32) : State :=
  let cs := rcCores s
  if 0x0A0 ≤ off ∧ off < 0x0C0 then
    if dbgLevel s < 2 then rcResult s 2
    else cs.foldl (fun u c => { u with dbg := { u.dbg with
      bp := SMap.set u.dbg.bp 0 (dbgTarget c * 8 + (off - 0x0A0) / 4) new } }) s
  else if off = 0x0D4 then
    cs.foldl (fun u c => modCore { u with dbg := { u.dbg with wdog := SMap.set u.dbg.wdog 0x00012710 (dbgTarget c) new } } c
      (wdogReload u)) s
  else if off = 0x0E0 ∨ off = 0x0E8 ∨ 0x100 ≤ off then
    if dbgLevel s < 1 then s
    else if off = 0x0E0 then
      wr (if bit v 13 then after s (execTraceClr s) else s) pgDBG off (clrBit new 13)
    else wr s pgDBG off new
  else if off = 0x098 ∨ off = 0x09C then after s (execDbgCoreWrite (decide (off = 0x09C)) v s)
  else if off = 0x080 then
    let s1 := wr s pgDBG off new
    let s2 := if rdB s pgDBG 0x080 0 && !bit new 0 then s1.selv.lockups.foldl resetLockup s1 else s1
    snagMark s2
  else wr s pgDBG off new

/-- A ring register of HIF (R537, R560 to R562). -/
def ringWrite (s : State) (off : Nat) (v new : W32) : State :=
  let r := selRing s
  if off = 0x094 then after s (execHifRingCfgWrite v s)
  else if off = 0x08C ∨ off = 0x090 then
    if bit r.cfg 4 then warnEvent s pgHIF
    else setSelRing s (if off = 0x08C then { r with baseLo := new } else { r with baseHi := new })
  else if off = 0x098 then
    if selCpl s then s else after s (execHifCmdDoorbell (rdF s pgHIF 0x088 0 6) v s)
  else
    let s1 := setSelRing s { r with tail := bits v 0 12 }
    if selCpl s then drainHeld s1 else s1

/-- An RW register of a unit takes its new value, and the unit acts on it. A field outside its stated range that no rule refuses is taken as written
(DESIGN CHOICE, log entry 173). -/
def writeRw (u : RUnit) (page i off : Nat) (v new : W32) (s : State) : State :=
  let old := rd s page off
  let s1 := wr s page off new
  match u, off with
  | .clk, 0x088 => after s (execClkSpnCfgWrite v s)
  | .selv, 0x0D0 => fnSettle s1
  | .eic, 0x08C => after s (execEicSrcCfgWrite v s)
  | .prck, 0x080 =>
    if bit new 1 && !bit old 1 then { s1 with prck := { s1.prck with rotaSince := s1.now } } else s1
  | .prck, 0x094 => after s (execPrckExcludeWrite v s)
  | .bio, _ => binEnables s s1
  | .stc, 0x080 => stcSelect s1
  | .stc, 0x088 => stcSelect s1
  | .stc, 0x0F0 => irigCfg s1 (bit old 0) (bit new 0)
  | .stc, 0x0A4 => if stcMode s = 2 then s else s1
  | .stc, 0x0B0 => after s (execStcPtpOffsetWrite v s)
  | .hif, o => if 0x08C ≤ o ∧ o < 0x0A0 then ringWrite s o v new else s1
  | .dra, 0x080 =>
    if !bit new 0 then condEnd { s1 with dra := { s1.dra with st := .off, sr := false, training := false, migrating := false } } pgDRA 4
    else if s.dra.st = .off then { s1 with dra := { s1.dra with st := .training } }
    else s1
  | .dra, 0x0C0 => after s (execDraTrnGo v s)
  | .nvr, 0x090 => after s (execNvrRdIdxWrite v s)
  | .nvr, 0x0E0 => after s (execNvrDiSelWrite v s)
  | .dbg, o => dbgWrite s o v new
  | .pg, 0x0A8 => after s (execPgFwqTxHeadWrite i v false s)
  | .pil, 0x080 => if bit new 0 && !bit old 0 then scrubBegin s1 i else s1
  | .pil, 0x0A8 => after s (execPilOwnQuery i v s)
  | .bob, 0x080 =>
    if (core s i).pstate = .halted ∨ (core s i).pstate = .vacated then s1 else warnEvent s page
  | .eicT, 0x0A4 => setTgt s i { tgt s i with timer := if bits v 0 24 = 0 then none else some (s.stc.cnt + bits v 0 24 * 1000 * nsU) }
  | .se1Lease, _ => after s (execSe1LeaseWrite i ((off - 0x080) / 4) v s)
  | .se1Ctl, _ => if 4 < bits v 4 3 then wrF s page off 0 4 (bits v 0 4) else s1
  | _, _ => s1

/-- A register from 0x080 on (R5, R573, R688): places no table lists and read-only registers ignore the write; a mode lock
and a refused value also raise a warning-class event. A bit that hardware sets in the cycle of the clear reads 1 (R6). -/
def writeUnit (who : Who) (u : RUnit) (page i off : Nat) (v hw : W32) (s : State) : State :=
  match u.row? off with
  | none => s
  | some r =>
    let m := w32 r.mask
    match r.acc with
    | .ro => s
    | .wo => writeWo who u i off v s
    | .w1s => after s (execEicTPrivSet i v s)
    | .w1c =>
      let own := if u = .selv ∧ off = 0x088 then 0x000FFFFF else m
      wr s page off ((rd s page off &&& ~~~ (v &&& own)) ||| (hw &&& own))
    | .rw =>
      if !lockOpen s r.lock || valueRefused u off v then warnEvent s page
      else writeRw u page i off v ((rd s page off &&& ~~~ m) ||| (v &&& m)) s

/-! ### The common header -/

/-- Errors of a page that ERR_STATUS holds and that have become carried occur (R572). -/
def nowCarried (s t : State) (page : Nat) (u : RUnit) : State :=
  (List.range u.nErr).foldl (fun x n =>
    if rdB t page 0x010 n && carried t page n && !carried s page n then occur x ⟨page, n, 0, [], false, false⟩ else x) t

/-- Error conditions that arise in one cycle, given as bits of ERR_STATUS. -/
def raiseBits (u : RUnit) (page : Nat) (hw : W32) (s : State) : State :=
  (List.range u.nErr).foldl (fun t n => if bit hw n then raiseErr t page n else t) s

/-- A header register (R8, R572, R573, R679, R689 to R692); `hw` are the bits hardware sets in the cycle of a clear (R6). -/
def writeHdr (u : RUnit) (page off : Nat) (v hw : W32) (s : State) : State :=
  let mask := w32 (2 ^ u.nErr - 1)
  let locked := !(curMode s).cfgSvc
  if off = 0x008 then after s (execUnitCtrlWrite page v s)
  else if u.shortHeader then s
  else match off with
    | 0x010 => raiseBits u page hw (wr s page off (rd s page off &&& ~~~ v))
    | 0x018 => if locked then warnEvent s page else nowCarried s (wr s page off (v &&& mask)) page u
    | 0x01C => if locked then warnEvent s page else nowCarried s (wr s page off (v &&& w32 (4 ^ u.nErr - 1))) page u
    | 0x020 => after s (execErrInject page v s)
    | 0x024 => wr s page off ((rd s page off &&& ~~~ v) ||| (hw &&& w32 u.irqMask))
    | 0x028 => wr s page off (v &&& w32 u.irqMask)
    | 0x02C => after s (execIrqSet page v s)
    | 0x030 =>
      if !u.hasSnag then s
      else
        let s1 := wr s page off (v &&& 0xFFFFFF3F)
        snagMark (if bit v 0 && !rdB s page off 0 then
          { s1 with dbg := { s1.dbg with snagFired := SMap.set s1.dbg.snagFired 0 page 0 } } else s1)
    | 0x034 => if u.hasSnag then wr s page off v else s
    | 0x038 => if curMode s = .service then wr s page off (v &&& 1) else warnEvent s page
    | 0x044 => after s (execRecoveryClr page v s)
    | _ => s

/-! ### The command -/

/-- The aperture pages (R534, R535). -/
abbrev aperLo : Nat := 0xC10
abbrev aperHi : Nat := 0xC30

/-- REGISTER_WRITE: another width or alignment completes with a bus error (R4); reserved pages and the alias ignore writes
(R526, R687); a page without power ignores them with a warning (R610). The debug unit does not reach the window (R664). -/
def execRegisterWrite (w : RegWrite) (s : State) : Host.Outcome State Fault Refusal :=
  .next (
    if curMode s = .off ∨ w.who = .debug then s
    else if w.size ≠ 4 ∨ w.off % 4 ≠ 0 ∨ 0x1000 ≤ w.off then { s with lastAccess := .busError }
    else if aperLo ≤ w.page ∧ w.page < aperHi then
      after s (execSe1ApertureAccess ⟨(w.page - aperLo) * 0x1000 + w.off, w.size⟩ (some w.data) .clean s)
    else match pageUnit w.page with
      | none => s
      | some (u, i) =>
        let s0 := { s with lastAccess := .none }
        if !pagePowered s w.page then warnEvent s0 w.page
        else if w.off < 0x080 then writeHdr u w.page w.off w.data w.hw s0
        else writeUnit w.who u w.page i w.off w.data w.hw s0)

end Sys2Proof.Machine
end

