-- ==== Sys2Proof/Machine/Dispatch.lean ====
section
/-!
DEFINITION. The dispatcher: one direct call of a meaning for each command of the opcode table, in its order.
-/

namespace Sys2Proof.Machine

/-- The effect of a command on everything but the queue. -/
def exec (i : Instr) (s : State) : Host.Outcome State Fault Refusal :=
  match i with
  | .alwaysOnPowerUp ref => Sys2Proof.Machine.execAlwaysOnPowerUp ref s
  | .alwaysOnPowerLoss => Sys2Proof.Machine.execAlwaysOnPowerLoss s
  | .nvrScanDone => Sys2Proof.Machine.execNvrScanDone s
  | .refInLost => Sys2Proof.Machine.execRefInLost s
  | .refInReturn => Sys2Proof.Machine.execRefInReturn s
  | .registerWrite w => Sys2Proof.Machine.execRegisterWrite w s
  | .unitCtrlWrite page v => Sys2Proof.Machine.execUnitCtrlWrite page v s
  | .errInject page v => Sys2Proof.Machine.execErrInject page v s
  | .irqSet page v => Sys2Proof.Machine.execIrqSet page v s
  | .recoveryClr page v => Sys2Proof.Machine.execRecoveryClr page v s
  | .managerHeartbeatSend => Sys2Proof.Machine.execManagerHeartbeatSend s
  | .managerHeartbeatRx f => Sys2Proof.Machine.execManagerHeartbeatRx f s
  | .managerTakeover => Sys2Proof.Machine.execManagerTakeover s
  | .managerLost => Sys2Proof.Machine.execManagerLost s
  | .nop w => Sys2Proof.Machine.execNop w s
  | .dup w => Sys2Proof.Machine.execDup w s
  | .drop w => Sys2Proof.Machine.execDrop w s
  | .swap w => Sys2Proof.Machine.execSwap w s
  | .over w => Sys2Proof.Machine.execOver w s
  | .rot w => Sys2Proof.Machine.execRot w s
  | .nip w => Sys2Proof.Machine.execNip w s
  | .tuck w => Sys2Proof.Machine.execTuck w s
  | .twoDup w => Sys2Proof.Machine.execTwoDup w s
  | .twoDrop w => Sys2Proof.Machine.execTwoDrop w s
  | .twoSwap w => Sys2Proof.Machine.execTwoSwap w s
  | .twoOver w => Sys2Proof.Machine.execTwoOver w s
  | .pick w n => Sys2Proof.Machine.execPick w n s
  | .roll w n => Sys2Proof.Machine.execRoll w n s
  | .litS w v => Sys2Proof.Machine.execLitS w v s
  | .litI w v => Sys2Proof.Machine.execLitI w v s
  | .litN w v => Sys2Proof.Machine.execLitN w v s
  | .litH w v => Sys2Proof.Machine.execLitH w v s
  | .litF w v => Sys2Proof.Machine.execLitF w v s
  | .litX w v => Sys2Proof.Machine.execLitX w v s
  | .litA w v => Sys2Proof.Machine.execLitA w v s
  | .and w => Sys2Proof.Machine.execAnd w s
  | .or w => Sys2Proof.Machine.execOr w s
  | .xor w => Sys2Proof.Machine.execXor w s
  | .not w => Sys2Proof.Machine.execNot w s
  | .andn w => Sys2Proof.Machine.execAndn w s
  | .popc w => Sys2Proof.Machine.execPopc w s
  | .clz w => Sys2Proof.Machine.execClz w s
  | .shl w n => Sys2Proof.Machine.execShl w n s
  | .shr w n => Sys2Proof.Machine.execShr w n s
  | .sar w n => Sys2Proof.Machine.execSar w n s
  | .rol w n => Sys2Proof.Machine.execRol w n s
  | .add w => Sys2Proof.Machine.execAdd w s
  | .sub w => Sys2Proof.Machine.execSub w s
  | .adc w => Sys2Proof.Machine.execAdc w s
  | .sbc w => Sys2Proof.Machine.execSbc w s
  | .neg w => Sys2Proof.Machine.execNeg w s
  | .abs w => Sys2Proof.Machine.execAbs w s
  | .cmp w => Sys2Proof.Machine.execCmp w s
  | .eq w => Sys2Proof.Machine.execEq w s
  | .lt w => Sys2Proof.Machine.execLt w s
  | .ult w => Sys2Proof.Machine.execUlt w s
  | .min w => Sys2Proof.Machine.execMin w s
  | .max w => Sys2Proof.Machine.execMax w s
  | .umin w => Sys2Proof.Machine.execUmin w s
  | .umax w => Sys2Proof.Machine.execUmax w s
  | .inc w => Sys2Proof.Machine.execInc w s
  | .dec w => Sys2Proof.Machine.execDec w s
  | .mul w => Sys2Proof.Machine.execMul w s
  | .mulwS w => Sys2Proof.Machine.execMulwS w s
  | .mulwU w => Sys2Proof.Machine.execMulwU w s
  | .div w => Sys2Proof.Machine.execDiv w s
  | .divu w => Sys2Proof.Machine.execDivu w s
  | .rem w => Sys2Proof.Machine.execRem w s
  | .remu w => Sys2Proof.Machine.execRemu w s
  | .xAdd w sat => Sys2Proof.Machine.execXAdd w sat s
  | .xSub w sat => Sys2Proof.Machine.execXSub w sat s
  | .xMul w sat => Sys2Proof.Machine.execXMul w sat s
  | .xDiv w sat => Sys2Proof.Machine.execXDiv w sat s
  | .xNeg w sat => Sys2Proof.Machine.execXNeg w sat s
  | .xAbs w sat => Sys2Proof.Machine.execXAbs w sat s
  | .fadd w => Sys2Proof.Machine.execFadd w s
  | .fsub w => Sys2Proof.Machine.execFsub w s
  | .fmul w => Sys2Proof.Machine.execFmul w s
  | .fma w => Sys2Proof.Machine.execFma w s
  | .fdiv w => Sys2Proof.Machine.execFdiv w s
  | .fsqrt w => Sys2Proof.Machine.execFsqrt w s
  | .fneg w => Sys2Proof.Machine.execFneg w s
  | .fabs w => Sys2Proof.Machine.execFabs w s
  | .fmin w => Sys2Proof.Machine.execFmin w s
  | .fmax w => Sys2Proof.Machine.execFmax w s
  | .fcmp w => Sys2Proof.Machine.execFcmp w s
  | .cvtIf w => Sys2Proof.Machine.execCvtIf w s
  | .cvtNf w => Sys2Proof.Machine.execCvtNf w s
  | .cvtFi w => Sys2Proof.Machine.execCvtFi w s
  | .cvtFn w => Sys2Proof.Machine.execCvtFn w s
  | .cvtXf w => Sys2Proof.Machine.execCvtXf w s
  | .cvtFx w => Sys2Proof.Machine.execCvtFx w s
  | .cvtIx w => Sys2Proof.Machine.execCvtIx w s
  | .cvtXi w => Sys2Proof.Machine.execCvtXi w s
  | .asNat w => Sys2Proof.Machine.execAsNat w s
  | .asInt w => Sys2Proof.Machine.execAsInt w s
  | .asFlt w => Sys2Proof.Machine.execAsFlt w s
  | .asAdr w => Sys2Proof.Machine.execAsAdr w s
  | .crcStep w => Sys2Proof.Machine.execCrcStep w s
  | .par w => Sys2Proof.Machine.execPar w s
  | .brev w n => Sys2Proof.Machine.execBrev w n s
  | .tagRd w => Sys2Proof.Machine.execTagRd w s
  | .tagSet w => Sys2Proof.Machine.execTagSet w s
  | .sel w => Sys2Proof.Machine.execSel w s
  | .ld w => Sys2Proof.Machine.execLd w s
  | .st w => Sys2Proof.Machine.execSt w s
  | .ldAtA w d => Sys2Proof.Machine.execLdAtA w d s
  | .stAtA w d => Sys2Proof.Machine.execStAtA w d s
  | .aFetch w => Sys2Proof.Machine.execAFetch w s
  | .rFetch w => Sys2Proof.Machine.execRFetch w s
  | .lcFetch w => Sys2Proof.Machine.execLcFetch w s
  | .ldG w a => Sys2Proof.Machine.execLdG w a s
  | .stG w a => Sys2Proof.Machine.execStG w a s
  | .ldl w n => Sys2Proof.Machine.execLdl w n s
  | .stl w n => Sys2Proof.Machine.execStl w n s
  | .atadd w => Sys2Proof.Machine.execAtadd w s
  | .atswp w => Sys2Proof.Machine.execAtswp w s
  | .timNow w => Sys2Proof.Machine.execTimNow w s
  | .timAddns w => Sys2Proof.Machine.execTimAddns w s
  | .timSub w => Sys2Proof.Machine.execTimSub w s
  | .timCmp w => Sys2Proof.Machine.execTimCmp w s
  | .rdrop w => Sys2Proof.Machine.execRdrop w s
  | .rdup w => Sys2Proof.Machine.execRdup w s
  | .rswap w => Sys2Proof.Machine.execRswap w s
  | .rover w => Sys2Proof.Machine.execRover w s
  | .rpushT w => Sys2Proof.Machine.execRpushT w s
  | .rpushN w => Sys2Proof.Machine.execRpushN w s
  | .aStep w k => Sys2Proof.Machine.execAStep w k s
  | .aStepCirc w k => Sys2Proof.Machine.execAStepCirc w k s
  | .aSetTos w => Sys2Proof.Machine.execASetTos w s
  | .aAddTos w => Sys2Proof.Machine.execAAddTos w s
  | .aSetNos w => Sys2Proof.Machine.execASetNos w s
  | .aSetRtos w => Sys2Proof.Machine.execASetRtos w s
  | .lbrk w => Sys2Proof.Machine.execLbrk w s
  | .br w off => Sys2Proof.Machine.execBr w off s
  | .call w off => Sys2Proof.Machine.execCall w off s
  | .ret w => Sys2Proof.Machine.execRet w s
  | .jmpT w => Sys2Proof.Machine.execJmpT w s
  | .callT w => Sys2Proof.Machine.execCallT w s
  | .retg w => Sys2Proof.Machine.execRetg w s
  | .gate w n => Sys2Proof.Machine.execGate w n s
  | .loop w s' len => Sys2Proof.Machine.execLoop w s' len s
  | .loopI w s' count len => Sys2Proof.Machine.execLoopI w s' count len s
  | .tripSet w n => Sys2Proof.Machine.execTripSet w n s
  | .pubWr w slot member => Sys2Proof.Machine.execPubWr w slot member s
  | .send w k => Sys2Proof.Machine.execSend w k s
  | .wait w n => Sys2Proof.Machine.execWait w n s
  | .yield w => Sys2Proof.Machine.execYield w s
  | .moveBlk w => Sys2Proof.Machine.execMoveBlk w s
  | .fillBlk w => Sys2Proof.Machine.execFillBlk w s
  | .brevBlk w => Sys2Proof.Machine.execBrevBlk w s
  | .crcBlk w => Sys2Proof.Machine.execCrcBlk w s
  | .ctlRd w n => Sys2Proof.Machine.execCtlRd w n s
  | .ctlWr w n => Sys2Proof.Machine.execCtlWr w n s
  | .ldH w z sx => Sys2Proof.Machine.execLdH w z sx s
  | .stH w z => Sys2Proof.Machine.execStH w z s
  | .ldT w => Sys2Proof.Machine.execLdT w s
  | .stT w => Sys2Proof.Machine.execStT w s
  | .dcClean w => Sys2Proof.Machine.execDcClean w s
  | .dcInv w => Sys2Proof.Machine.execDcInv w s
  | .dcCinv w => Sys2Proof.Machine.execDcCinv w s
  | .dcZero w => Sys2Proof.Machine.execDcZero w s
  | .icInv w => Sys2Proof.Machine.execIcInv w s
  | .dcPf w => Sys2Proof.Machine.execDcPf w s
  | .l2Clean w => Sys2Proof.Machine.execL2Clean w s
  | .l2Cinv w => Sys2Proof.Machine.execL2Cinv w s
  | .flushI w => Sys2Proof.Machine.execFlushI w s
  | .clb w => Sys2Proof.Machine.execClb w s
  | .fenceEng w => Sys2Proof.Machine.execFenceEng w s
  | .wfi w => Sys2Proof.Machine.execWfi w s
  | .wipe w => Sys2Proof.Machine.execWipe w s
  | .rsvLd w z => Sys2Proof.Machine.execRsvLd w z s
  | .rsvSt w z => Sys2Proof.Machine.execRsvSt w z s
  | .dAdd w => Sys2Proof.Machine.execDAdd w s
  | .dSub w => Sys2Proof.Machine.execDSub w s
  | .dMul w => Sys2Proof.Machine.execDMul w s
  | .dFma w => Sys2Proof.Machine.execDFma w s
  | .dDiv w => Sys2Proof.Machine.execDDiv w s
  | .dSqrt w => Sys2Proof.Machine.execDSqrt w s
  | .dCmp w => Sys2Proof.Machine.execDCmp w s
  | .cvtFd w => Sys2Proof.Machine.execCvtFd w s
  | .cvtDf w => Sys2Proof.Machine.execCvtDf w s
  | .cvtId w => Sys2Proof.Machine.execCvtId w s
  | .cvtDi w => Sys2Proof.Machine.execCvtDi w s
  | .illegalInstruction w form => Sys2Proof.Machine.execIllegalInstruction w form s
  | .clbAck bob => Sys2Proof.Machine.execClbAck bob s
  | .exceptionEntry core' env => Sys2Proof.Machine.execExceptionEntry core' env s
  | .interruptEntry core' env => Sys2Proof.Machine.execInterruptEntry core' env s
  | .lateBusError e => Sys2Proof.Machine.execLateBusError e s
  | .spindleLockstepMismatch => Sys2Proof.Machine.execSpindleLockstepMismatch s
  | .snoopRx line kind => Sys2Proof.Machine.execSnoopRx line kind s
  | .cohFillArrive line => Sys2Proof.Machine.execCohFillArrive line s
  | .cohWritebackAck line => Sys2Proof.Machine.execCohWritebackAck line s
  | .cohRetryGrant line => Sys2Proof.Machine.execCohRetryGrant line s
  | .cohTimeout line => Sys2Proof.Machine.execCohTimeout line s
  | .rsvSnoopHoldExpire => Sys2Proof.Machine.execRsvSnoopHoldExpire s
  | .deadAgent => Sys2Proof.Machine.execDeadAgent s
  | .spnCntClr => Sys2Proof.Machine.execSpnCntClr s
  | .spnLbeClr => Sys2Proof.Machine.execSpnLbeClr s
  | .bobCntClr bob => Sys2Proof.Machine.execBobCntClr bob s
  | .bobIcInv bob => Sys2Proof.Machine.execBobIcInv bob s
  | .ucsLoad => Sys2Proof.Machine.execUcsLoad s
  | .ucsPatchInstall seq => Sys2Proof.Machine.execUcsPatchInstall seq s
  | .ucsEccClr => Sys2Proof.Machine.execUcsEccClr s
  | .ppsEdge e => Sys2Proof.Machine.execPpsEdge e s
  | .ppsEdgeMissed input => Sys2Proof.Machine.execPpsEdgeMissed input s
  | .irigFrame f => Sys2Proof.Machine.execIrigFrame f s
  | .irigTimeout => Sys2Proof.Machine.execIrigTimeout s
  | .stcPtpOffsetWrite v => Sys2Proof.Machine.execStcPtpOffsetWrite v s
  | .ptpLate => Sys2Proof.Machine.execPtpLate s
  | .stcAdjWrite v => Sys2Proof.Machine.execStcAdjWrite v s
  | .slewDone => Sys2Proof.Machine.execSlewDone s
  | .stcSetNow => Sys2Proof.Machine.execStcSetNow s
  | .stcSetAtEdge => Sys2Proof.Machine.execStcSetAtEdge s
  | .stcSnap sub => Sys2Proof.Machine.execStcSnap sub s
  | .stcCntClr => Sys2Proof.Machine.execStcCntClr s
  | .holdoverExpired => Sys2Proof.Machine.execHoldoverExpired s
  | .leapApply => Sys2Proof.Machine.execLeapApply s
  | .ppsOutPulse => Sys2Proof.Machine.execPpsOutPulse s
  | .windowClose o => Sys2Proof.Machine.execWindowClose o s
  | .trackingTick line o => Sys2Proof.Machine.execTrackingTick line o s
  | .strandStart bob inBound env => Sys2Proof.Machine.execStrandStart bob inBound env s
  | .strandPreempt o => Sys2Proof.Machine.execStrandPreempt o s
  | .budgetExhausted bob => Sys2Proof.Machine.execBudgetExhausted bob s
  | .strandFaultReport bob => Sys2Proof.Machine.execStrandFaultReport bob s
  | .timerTrigger idx => Sys2Proof.Machine.execTimerTrigger idx s
  | .waitTimeout idx => Sys2Proof.Machine.execWaitTimeout idx s
  | .whrlCreate segs shadow => Sys2Proof.Machine.execWhrlCreate segs shadow s
  | .whrlSuspend => Sys2Proof.Machine.execWhrlSuspend s
  | .whrlResume => Sys2Proof.Machine.execWhrlResume s
  | .whrlReset => Sys2Proof.Machine.execWhrlReset s
  | .whrlFree => Sys2Proof.Machine.execWhrlFree s
  | .whrlClear => Sys2Proof.Machine.execWhrlClear s
  | .whrlCntClr => Sys2Proof.Machine.execWhrlCntClr s
  | .prckLoopSample o => Sys2Proof.Machine.execPrckLoopSample o s
  | .migrationCopyDone idx ply ecc => Sys2Proof.Machine.execMigrationCopyDone idx ply ecc s
  | .stageStart idx => Sys2Proof.Machine.execStageStart idx s
  | .stageComplete idx => Sys2Proof.Machine.execStageComplete idx s
  | .rotaBobbinStep => Sys2Proof.Machine.execRotaBobbinStep s
  | .rotaBankStep => Sys2Proof.Machine.execRotaBankStep s
  | .rotaLaneStep => Sys2Proof.Machine.execRotaLaneStep s
  | .prckExcludeWrite v => Sys2Proof.Machine.execPrckExcludeWrite v s
  | .tickHeartbeatRx f => Sys2Proof.Machine.execTickHeartbeatRx f s
  | .handBack => Sys2Proof.Machine.execHandBack s
  | .shadowDrop => Sys2Proof.Machine.execShadowDrop s
  | .prckCntClr => Sys2Proof.Machine.execPrckCntClr s
  | .scrubRead pil eccs codeEcc codeEcc2 => Sys2Proof.Machine.execScrubRead pil eccs codeEcc codeEcc2 s
  | .scrubLate pil => Sys2Proof.Machine.execScrubLate pil s
  | .bankFillDone pil bank => Sys2Proof.Machine.execBankFillDone pil bank s
  | .pilCntClr pil => Sys2Proof.Machine.execPilCntClr pil s
  | .scrubNow pil => Sys2Proof.Machine.execScrubNow pil s
  | .pilOwnQuery pil v => Sys2Proof.Machine.execPilOwnQuery pil v s
  | .se1LeaseWrite pil k v => Sys2Proof.Machine.execSe1LeaseWrite pil k v s
  | .leaseGranted pil k => Sys2Proof.Machine.execLeaseGranted pil k s
  | .leaseReleased pil k => Sys2Proof.Machine.execLeaseReleased pil k s
  | .se1ApertureAccess place wr' ecc => Sys2Proof.Machine.execSe1ApertureAccess place wr' ecc s
  | .tamperAssert n stays wipeOk => Sys2Proof.Machine.execTamperAssert n stays wipeOk s
  | .laneSignalLoss k inFrame => Sys2Proof.Machine.execLaneSignalLoss k inFrame s
  | .laneSignalRestore k => Sys2Proof.Machine.execLaneSignalRestore k s
  | .laneLinkUp k halfDuplexOnly => Sys2Proof.Machine.execLaneLinkUp k halfDuplexOnly s
  | .laneEyeMeasure e => Sys2Proof.Machine.execLaneEyeMeasure e s
  | .svFrameRx f => Sys2Proof.Machine.execSvFrameRx f s
  | .gooseFrameRx f => Sys2Proof.Machine.execGooseFrameRx f s
  | .ptpFrameRx f => Sys2Proof.Machine.execPtpFrameRx f s
  | .interEngineMessageRx m => Sys2Proof.Machine.execInterEngineMessageRx m s
  | .supervisionFrameRx f => Sys2Proof.Machine.execSupervisionFrameRx f s
  | .otherFrameRx f => Sys2Proof.Machine.execOtherFrameRx f s
  | .c3794FrameRx f => Sys2Proof.Machine.execC3794FrameRx f s
  | .dupEntryExpire pair src => Sys2Proof.Machine.execDupEntryExpire pair src s
  | .supervisionFrameTx pair => Sys2Proof.Machine.execSupervisionFrameTx pair s
  | .frameTxStart k sub => Sys2Proof.Machine.execFrameTxStart k sub s
  | .laneGuardOpen k line => Sys2Proof.Machine.execLaneGuardOpen k line s
  | .pgFwqTxHeadWrite g v busErr => Sys2Proof.Machine.execPgFwqTxHeadWrite g v busErr s
  | .laneCntClr k => Sys2Proof.Machine.execLaneCntClr k s
  | .eqRestart k => Sys2Proof.Machine.execEqRestart k s
  | .gooseTalExpiry sub => Sys2Proof.Machine.execGooseTalExpiry sub s
  | .pubCompareClose slot agree => Sys2Proof.Machine.execPubCompareClose slot agree s
  | .gooseRetransmit slot => Sys2Proof.Machine.execGooseRetransmit slot s
  | .statusRecordWrite => Sys2Proof.Machine.execStatusRecordWrite s
  | .tripVoteClose n k agree => Sys2Proof.Machine.execTripVoteClose n k agree s
  | .tripDeferredReset n => Sys2Proof.Machine.execTripDeferredReset n s
  | .tripReadbackFault n level => Sys2Proof.Machine.execTripReadbackFault n level s
  | .tripCntClr => Sys2Proof.Machine.execTripCntClr s
  | .rbClr levels => Sys2Proof.Machine.execRbClr levels s
  | .biEdge n level sub => Sys2Proof.Machine.execBiEdge n level sub s
  | .biChange n => Sys2Proof.Machine.execBiChange n s
  | .biChatterRelease n sub => Sys2Proof.Machine.execBiChatterRelease n sub s
  | .bioCntClr => Sys2Proof.Machine.execBioCntClr s
  | .eicSourceEvent src edge => Sys2Proof.Machine.execEicSourceEvent src edge s
  | .eicClaim target r => Sys2Proof.Machine.execEicClaim target r s
  | .eicComplete target v viaPage => Sys2Proof.Machine.execEicComplete target v viaPage s
  | .eicSrcCfgWrite v => Sys2Proof.Machine.execEicSrcCfgWrite v s
  | .eicSwSet v => Sys2Proof.Machine.execEicSwSet v s
  | .eicTPrivSet target v => Sys2Proof.Machine.execEicTPrivSet target v s
  | .eicTimerExpire target => Sys2Proof.Machine.execEicTimerExpire target s
  | .eicCntClr => Sys2Proof.Machine.execEicCntClr s
  | .coreWake core' => Sys2Proof.Machine.execCoreWake core' s
  | .hifCmdDoorbell n head => Sys2Proof.Machine.execHifCmdDoorbell n head s
  | .hifPost v busErr => Sys2Proof.Machine.execHifPost v busErr s
  | .hifModTimer n => Sys2Proof.Machine.execHifModTimer n s
  | .hostSleepFall => Sys2Proof.Machine.execHostSleepFall s
  | .hifCntClr => Sys2Proof.Machine.execHifCntClr s
  | .hifRingCfgWrite v => Sys2Proof.Machine.execHifRingCfgWrite v s
  | .nvrRecordCommit verifyOk => Sys2Proof.Machine.execNvrRecordCommit verifyOk s
  | .nvrPost who => Sys2Proof.Machine.execNvrPost who s
  | .nvrDiWrite => Sys2Proof.Machine.execNvrDiWrite s
  | .nvrCntClr => Sys2Proof.Machine.execNvrCntClr s
  | .nvrRdIdxWrite v => Sys2Proof.Machine.execNvrRdIdxWrite v s
  | .nvrReadCopyDone => Sys2Proof.Machine.execNvrReadCopyDone s
  | .nvrDiSelWrite v => Sys2Proof.Machine.execNvrDiSelWrite v s
  | .draTrnGo v => Sys2Proof.Machine.execDraTrnGo v s
  | .draTrnPatternDone pass errors => Sys2Proof.Machine.execDraTrnPatternDone pass errors s
  | .trainDone => Sys2Proof.Machine.execTrainDone s
  | .trainFail => Sys2Proof.Machine.execTrainFail s
  | .retrain => Sys2Proof.Machine.execRetrain s
  | .draCntClr => Sys2Proof.Machine.execDraCntClr s
  | .dramError addr kind => Sys2Proof.Machine.execDramError addr kind s
  | .draSpareCopyDone => Sys2Proof.Machine.execDraSpareCopyDone s
  | .draSelfRefreshEnter => Sys2Proof.Machine.execDraSelfRefreshEnter s
  | .draSelfRefreshExit => Sys2Proof.Machine.execDraSelfRefreshExit s
  | .errorLatch => Sys2Proof.Machine.execErrorLatch s
  | .degradedExit => Sys2Proof.Machine.execDegradedExit s
  | .selvTestStart => Sys2Proof.Machine.execSelvTestStart s
  | .selvTestDone u o => Sys2Proof.Machine.execSelvTestDone u o s
  | .selvTestTimeout u => Sys2Proof.Machine.execSelvTestTimeout u s
  | .safeExit o => Sys2Proof.Machine.execSafeExit o s
  | .faultNWidthEnd => Sys2Proof.Machine.execFaultNWidthEnd s
  | .fnRelease => Sys2Proof.Machine.execFnRelease s
  | .selvCntClr => Sys2Proof.Machine.execSelvCntClr s
  | .selvTestReq => Sys2Proof.Machine.execSelvTestReq s
  | .unretire => Sys2Proof.Machine.execUnretire s
  | .selvWdogKick v => Sys2Proof.Machine.execSelvWdogKick v s
  | .engineWdogPre => Sys2Proof.Machine.execEngineWdogPre s
  | .engineWdogExpire => Sys2Proof.Machine.execEngineWdogExpire s
  | .chkSelfTest o => Sys2Proof.Machine.execChkSelfTest o s
  | .modeCmdBoot c o => Sys2Proof.Machine.execModeCmdBoot c o s
  | .modeCmdProof c => Sys2Proof.Machine.execModeCmdProof c s
  | .proofEnd failed => Sys2Proof.Machine.execProofEnd failed s
  | .modeCmdConfigure c => Sys2Proof.Machine.execModeCmdConfigure c s
  | .modeCmdArmed c decls => Sys2Proof.Machine.execModeCmdArmed c decls s
  | .modeCmdRun c => Sys2Proof.Machine.execModeCmdRun c s
  | .modeCmdTest c => Sys2Proof.Machine.execModeCmdTest c s
  | .modeCmdBlocked c => Sys2Proof.Machine.execModeCmdBlocked c s
  | .modeCmdService c => Sys2Proof.Machine.execModeCmdService c s
  | .modeCmdKeep c => Sys2Proof.Machine.execModeCmdKeep c s
  | .modeTransitionDone => Sys2Proof.Machine.execModeTransitionDone s
  | .pwrDisconnect => Sys2Proof.Machine.execPwrDisconnect s
  | .pwrCntClr => Sys2Proof.Machine.execPwrCntClr s
  | .domainPowerUp d => Sys2Proof.Machine.execDomainPowerUp d s
  | .domainTimeout d => Sys2Proof.Machine.execDomainTimeout d s
  | .bobPowerGate bob => Sys2Proof.Machine.execBobPowerGate bob s
  | .bobPgWake bob => Sys2Proof.Machine.execBobPgWake bob s
  | .pillowVfUpdate o => Sys2Proof.Machine.execPillowVfUpdate o s
  | .envExcursion e => Sys2Proof.Machine.execEnvExcursion e s
  | .clkMonitor pll ratio intOsc => Sys2Proof.Machine.execClkMonitor pll ratio intOsc s
  | .pllUnlock pll => Sys2Proof.Machine.execPllUnlock pll s
  | .clkSpnCfgWrite v => Sys2Proof.Machine.execClkSpnCfgWrite v s
  | .verifyTables => Sys2Proof.Machine.execVerifyTables s
  | .loadCode => Sys2Proof.Machine.execLoadCode s
  | .svnCommit => Sys2Proof.Machine.execSvnCommit s
  | .challenge trngOk => Sys2Proof.Machine.execChallenge trngOk s
  | .dbgResp => Sys2Proof.Machine.execDbgResp s
  | .dbgRevoke => Sys2Proof.Machine.execDbgRevoke s
  | .provision => Sys2Proof.Machine.execProvision s
  | .getId => Sys2Proof.Machine.execGetId s
  | .challengeLapse => Sys2Proof.Machine.execChallengeLapse s
  | .dbgGrantExpire => Sys2Proof.Machine.execDbgGrantExpire s
  | .dbgLockoutEnd => Sys2Proof.Machine.execDbgLockoutEnd s
  | .apply fuseOk wipeOk torn => Sys2Proof.Machine.execApply fuseOk wipeOk torn s
  | .keyLoad => Sys2Proof.Machine.execKeyLoad s
  | .keyErase => Sys2Proof.Machine.execKeyErase s
  | .keyEraseAll => Sys2Proof.Machine.execKeyEraseAll s
  | .halt => Sys2Proof.Machine.execHalt s
  | .haltTaken core' forced => Sys2Proof.Machine.execHaltTaken core' forced s
  | .resume => Sys2Proof.Machine.execResume s
  | .step stepIrq => Sys2Proof.Machine.execStep stepIrq s
  | .resetLockup => Sys2Proof.Machine.execResetLockup s
  | .cancel => Sys2Proof.Machine.execCancel s
  | .dbgCoreWrite hi v => Sys2Proof.Machine.execDbgCoreWrite hi v s
  | .dbgMemRead => Sys2Proof.Machine.execDbgMemRead s
  | .dbgMemWrite => Sys2Proof.Machine.execDbgMemWrite s
  | .dbgMemDone o => Sys2Proof.Machine.execDbgMemDone o s
  | .dbgWdogKick who v => Sys2Proof.Machine.execDbgWdogKick who v s
  | .coreWdogPre core' => Sys2Proof.Machine.execCoreWdogPre core' s
  | .coreWdogExpire core' => Sys2Proof.Machine.execCoreWdogExpire core' s
  | .traceClr => Sys2Proof.Machine.execTraceClr s
  | .snagStop => Sys2Proof.Machine.execSnagStop s
  | .refInEdge o => Sys2Proof.Machine.execRefInEdge o s
  | .hostSleepAssert clockStops => Sys2Proof.Machine.execHostSleepAssert clockStops s
  | .hostClockReturn => Sys2Proof.Machine.execHostClockReturn s
  | .laneLinkDown k inFrame => Sys2Proof.Machine.execLaneLinkDown k inFrame s
  | .laneSymbolError k => Sys2Proof.Machine.execLaneSymbolError k s
  | .directoryRetry line => Sys2Proof.Machine.execDirectoryRetry line s
  | .stepTimeout o => Sys2Proof.Machine.execStepTimeout o s
  | .wakeFail pil bank => Sys2Proof.Machine.execWakeFail pil bank s

end Sys2Proof.Machine
end

