-- ==== Sys2Proof/Safety.lean ====
section
/-!
DEFINITION. The terms that statements about the block use: a core standing at an undisturbed word, the state that word
leaves, what a command leaves alone, the canonical form of the stores, and what no command takes back.
-/

namespace Sys2Proof.Machine

/-! ### Words of a bobbin -/

/-- Every loop is active and the address is neither the start nor the last word of its body. -/
def Inside (pc : Nat) (ls : List Loop) : Prop := ∀ l ∈ ls, l.entered = true ∧ l.start ≠ pc ∧ l.stop ≠ pc + 1

/-- A bobbin stands at a word with nothing in flight, and with d pending from the word before: it runs, its instruction
cache is enabled and holds its line, no result or bubble is in flight, the word is inside the body of every open loop, no
debugger has the bobbin, and its page of code is loaded. -/
def Still (s : State) (c : Nat) (d : Option Delay) : Prop :=
  c < 256 ∧ runs s c = true ∧ dbgLevel s = 0 ∧ (core s c).haltReq = .none ∧ (core s c).delay = d ∧
    (Inside (core s c).pc (core s c).loops ∧ (core s c).lbActive = false) ∧ ((core s c).bubbles = 0 ∧ (core s c).late = []) ∧
    (core s c).flight = [] ∧ icHolds (core s c) ((core s c).pc / 8) = true ∧
    rdB s (pgBOB c) 0x080 0 = true ∧ (core s c).pc / 1024 ∉ s.mem.loading ∧ (core s c).pc < 65535

/-- The same with no delay slot open. -/
abbrev Quiet (s : State) (c : Nat) : Prop := Still s c none

/-- A word's fetch and the stack entries have no parity error. -/
def Calm (e : Env) : Prop := e.fetch = .clean ∧ e.stackParity = false

/-- A paired word with no condition and no operation B. -/
def Plain (w : AWord) : Prop := w.ca = false ∧ w.cb = false ∧ w.b = .nop ∧ Calm w.env

/-- The same led by an address-unit operation, with no operation A. -/
def PlainB (w : BWord) : Prop := w.ca = false ∧ w.cb = false ∧ w.a = .nop ∧ Calm w.env

/-- A core at its next word, fetched from a line that its instruction cache holds: one pipe slot has passed (R173, R174, R189). -/
def here (k : Core) : Core :=
  icTouch { k with flight := [], bubbles := 0, stale := k.staleNew, staleNew := [], condNow := snapOf k } (k.pc / 8)

/-- The core of a quiet bobbin as its word reads it. -/
abbrev at_ (s : State) (c : Nat) : Core := here (core s c)

/-- The core past its word, with the next one due in sequence. -/
def onward (k : Core) : Core :=
  { k with pc := k.pc + 1, lastPc := k.pc, delay := none, bubbles := 0, late := [], atHandler := false, bpPass := false }

/-- The state after a word of a quiet bobbin that leaves the core `k` and issues for n cycles: the cycles are counted and
charged (R200, R355), those beyond the first as issue stalls (R200). -/
def wordEnd (s : State) (c : Nat) (k : Core) (n : Nat) : State :=
  let u := setCore s c k
  spend (if 1 < n then addWrap u (pgBOB c) 0x0A4 0 (n - 1) else u) c n

/-- The state after a word whose only effect is a data-unit effect. -/
def afterOp (s : State) (c : Nat) (o : AOut) : State := wordEnd s c (onward (applyA c (at_ s c) o)) o.cycles

/-- The core's operands from the top raise no tag fault when taken with a use (R42, R43). -/
def Takes (k : Core) (n : Nat) (u : Use) : Prop := tagCauses k ((k.top n).map fun w => (u, w)) = none

/-- The data stack holds `need` entries and has room for `grow` more than it loses (R66, R67). -/
def Fits (k : Core) (need pop push : Nat) : Prop := need ≤ k.ds.depth ∧ (pop < push → k.ds.depth - pop + push ≤ 16)

/-! ### Words with effects beyond the stack -/

/-- The two states differ in stored registers of one page only. -/
def OnPage (s t : State) (p : Nat) : Prop :=
  t = { s with regs := t.regs } ∧ ∀ q o, q ≠ p → o < 0x1000 → rd t q o = rd s q o

/-- A core charged with cycles: a strand's budget falls, and at its end is marked for BUDGET (R355). -/
def charge (k : Core) (n : Nat) : Core :=
  if k.strand.isSome then { k with budgetLeft := k.budgetLeft - n, budgetPend := k.budgetPend || decide (0 < k.budgetLeft ∧ k.budgetLeft ≤ n) } else k

/-- The word leaves `u` with core c as `k` past it after n cycles, and touches nothing else but registers of the bobbin's own
page: its cycle, stall and interrupt counters (R200). -/
def Leaves (u t : State) (c : Nat) (k : Core) (n : Nat) : Prop := OnPage (setCore u c (charge (onward k) n)) t (pgBOB c)

/-- A long-format word with no condition in calm surroundings. -/
def PlainL (w : LWord) : Prop := w.cond = .al ∧ Calm w.env

/-- A bank access of a bobbin that its surroundings answer without an error of their own, within the bounds of R179. -/
def Serves (s : State) (c : Nat) (e : Env) (k : Core) (x : AccKind) (a b : Nat) : Prop :=
  accessPlace s c k x a = .ok (.bank b) ∧ placeOf c a = some (.bank b) ∧ e.ownParity = false ∧ e.ecc = .clean ∧
    e.bankWait ≤ 17 ∧ e.remoteWait ≤ 200

/-- Cycles a bank access waits: those of the local bank, or of the remote one. -/
def waitOf (c : Nat) (e : Env) (b : Nat) : Nat := if b / 2 ^ 18 = pilOf c then e.bankWait else e.remoteWait

/-- The word a load of a bank word sees (R174): what a store in the word before has just replaced, or the stored word; none where
that word cannot be read. -/
def loadSees (s : State) (k : Core) (b : Nat) : Option TWord :=
  match k.stale.find? fun e => decide (e.1 = b) with
  | some e => e.2
  | none => bankSeen s b

/-! ### Control flow -/

/-- The innermost loop has pc in its body and not t: a branch from pc to t that is no call ends it (R185). -/
def Leaving (k : Core) (t : Nat) : Bool :=
  match k.loops with
  | l :: _ => decide (l.start ≤ k.pc ∧ k.pc < l.stop) && decide (t < l.start ∨ l.stop ≤ t)
  | [] => false

/-- The core past a word that leaves d for its delay slot. -/
def slotted (k : Core) (d : Delay) : Core := { onward k with delay := some d }

/-- The state after a word of a quiet bobbin that leaves the core `k`, issues for n cycles and waits for m more, once its effect f on
the block has happened; a step of a debugger ends there (R667). -/
def wordThen (s : State) (c : Nat) (k : Core) (n m : Nat) (f : State → State) : State :=
  let u := setCore s c k
  stepDone (f (spend (if 1 < n then addWrap u (pgBOB c) 0x0A4 0 (n - 1) else u) c (n + m))) c

/-- The core past its word, at another place. -/
def placedAt (k : Core) (pc : Nat) : Core := { onward k with pc := pc }

/-- A bobbin stands at the last body word of its one loop l, in all else as at a quiet word. -/
def AtEdge (s : State) (c : Nat) (l : Loop) : Prop :=
  Quiet (setCore s c { core s c with loops := [] }) c ∧ (core s c).loops = [l] ∧ l.entered = true ∧ l.stop = (core s c).pc + 1 ∧
    l.start < (core s c).pc

/-! ### Entry (R272 to R283) -/

/-- The bank address of word i of entry n of a bobbin's gate table (R275). -/
def entryWord (c n i : Nat) : Nat := bankAddr (pilOf c) 5 (0x7000 + 4 * n + i)

/-- Entry n can be read, no word of it carries RSV, and it describes d to code at a level (R277). -/
def Describes (s : State) (c n : Nat) (caller : Level) (d : Desc) : Prop :=
  (∀ i < 4, entryWord c n i ∉ s.mem.bankBad ∧ (bankGet s (entryWord c n i)).rsv = false) ∧
    descOf c n caller ((List.range 4).map fun i => (bankGet s (entryWord c n i)).pay) = some d

/-- The surroundings serve an entry sequence: its routine, and that of the word or switch it belongs to, run to their END with no
microcycle told apart, and its descriptor reads without an error, within the waits of R179. -/
def Enters (e : Env) : Prop := e.seq.fetches = [] ∧ e.entry.fetches = [] ∧ e.ecc = .clean ∧ e.bankWait ≤ 17

/-- No SUSPEND and no FREE waits for a drain point of the strand on a core (R342, R369). -/
def Stays (s : State) (c : Nat) : Prop :=
  ∀ o p, (core s c).strand = some o → ply? s o.idx o.ply = some p → p.atDrain = none

/-- The frame of a bobbin, deepest first (R283): three loop cells, zero without a loop, FADDR, FINFO, the status word, the
link. -/
def FrameOf (c : Nat) (k : Core) (finfo resume : Nat) (fr : List TWord) : Prop :=
  ∃ a b z, fr = [TWord.nat a, TWord.nat b, TWord.nat z, TWord.nat 0, TWord.nat (w32 finfo), TWord.nat (statusWord c k),
    TWord.ofTy .ret (w32 (resume % 2 ^ 16))] ∧ (k.loops = [] → a = 0 ∧ b = 0 ∧ z = 0)

/-- A core with nothing in flight, as an entry finds it. -/
def settledCore (k : Core) : Core :=
  { k with flight := [], stale := [], staleNew := [], bubbles := 0, late := [], condNow := snapOf k, delay := none, loops := []
           lbActive := false, lbCap := false, atHandler := true }

/-- The core k has entered a handler by an exception or an interrupt and stands as k', its budget apart (R281, R282). -/
def EnteredAs (k k' : Core) (d : Desc) (mask : Nat) (esc : Bool) (fr : List TWord) : Prop :=
  k' = { settledCore k with
    pc := d.handler
    modes := { k.modes with level := d.level, mask := mask }
    rsP := k.rsP.pushAll fr
    gateReg := if k.modes.level = .u then some ⟨0, 0, k.dsP.depth, k.rsP.depth⟩ else k.gateReg
    pset := true
    condNow := snapOf { k with pset := true }
    esc := esc
    pstate := if k.pstate = .idle then (if k.strand.isSome then .strand else .system) else k.pstate
    budgetLeft := k'.budgetLeft
    budgetPend := k'.budgetPend }

/-- No other core and no register of another page than the bobbin's own differs. -/
def Beside (s t : State) (c : Nat) : Prop :=
  (∀ e, e ≠ c → core t e = core s e) ∧ ∀ q o, q ≠ pgBOB c → o < 0x1000 → rd t q o = rd s q o

/-! ### Time -/

/-- The phase error of a counter value in sixteenths of a nanosecond, the unit in which the servo compares it (R313). -/
def phase16 (c : Int) : Int := phaseErr c / 2 ^ 28

/-! ### The stores' canonical form -/

/-- Every addressed store holds its canonical form: addresses strictly rising, no entry equal to what an unlisted address
reads as. -/
def Memory.wf (s : State) : Bool :=
  SMap.wf (fun _ => voidWord) s.mem.bank && SMap.wf (fun _ => (0 : W32)) s.mem.code && SMap.wf (fun _ => (0 : Byte)) s.mem.host &&
    SMap.wf (fun _ => voidWord) s.mem.gate && SMap.wf (fun _ => voidWord) s.mem.scratch &&
    SMap.wf (fun _ => (0 : Byte)) s.dra.mem && SMap.wf regReset s.regs

/-! ### What no command takes back -/

/-- The transitions of R635. -/
def LcyState.next : LcyState → LcyState → Bool
  | .blank, .manufacture | .manufacture, .develop | .develop, .manufacture | .manufacture, .deployed | .deployed, .returned => true
  | .scrapped, .scrapped => false
  | _, .scrapped => true
  | _, _ => false

/-! ### Words of the spindle -/

/-- The spindle runs a long-format word with no condition, and nothing but the word happens: no debugger, no delay slot or
loop, an empty store buffer, its line in L1, both user stacks in the registers with room for one more. -/
def QuietSpn (s : State) (w : LWord) : Prop :=
  let k := core s spindle
  w.core = spindle ∧ w.cond = .al ∧ w.env.fetch = .clean ∧ runs s spindle = true ∧ dbgLevel s = 0 ∧
    k.haltReq = .none ∧ k.delay = none ∧ k.loops = [] ∧ k.pc + 4 < 2 ^ 48 ∧ s.spn.sb = [] ∧ fetchAllowed s k k.pc = true ∧
    k.pc / 64 ∈ s.spn.l1i ∧ k.dsU.depth ≤ 7 ∧ k.rsU.depth ≤ 7

/-- The spindle past its word of n cycles, with k as its core: the retired operation and the cycles are counted (R239, R240). -/
def spnEnd (u : State) (k : Core) (n : Nat) : State :=
  let v := add64 (setCore u spindle { k with
    pc := k.pc + 4, lastPc := k.pc, delay := none, bubbles := 0, late := [], atHandler := false, bpPass := false }) pgSPN 0x0A8 0x0AC 0 1
  { v with spn := { v.spn with cyc := v.spn.cyc + n } }

/-- The state a word of the spindle reads. -/
abbrev spnHere (s : State) : State := setCore s spindle (core s spindle)

/-- The spindle's stack admits a word that needs, pops and pushes so many cells (R66, R67, R238). -/
def FitsSpn (s : State) (need pop push : Nat) : Prop :=
  let k := core s spindle
  need ≤ k.ds.depth ∧ (pop < push → k.ds.depth - pop + push ≤ dsCap s spindle)

/-- The operands give the byte address a of host memory: two clean cells that take no tag fault, of n bytes that the region's
type admits, outside the window (R214 to R216, R222). -/
def Reaches (s : State) (write : Bool) (a n : Nat) : Prop :=
  let k := core s spindle
  a = argAddr k ∧ hostCause k (k.ds.peek 1) = none ∧ hostCause k (k.ds.peek 0) = none ∧
    hostHigh (k.ds.peek 1) (k.ds.peek 0) = none ∧
    ∀ p ∈ hostParts a n, inSpnWindow s p.1 = false ∧ hostAllowed s k write p.1 = true ∧ (a % n = 0 ∨ regionType s p.1 < 2)

/-! ### Modes -/

/-- A write of MODE_CMD that the sequencer judges by the mode alone (R602, R604): an agent that may command, its KEY, nothing
else asked for in its cycle, and no transition under way. -/
def Commanded (s : State) (c : ModeCmd) : Prop :=
  curMode s ≠ .off ∧ c.who ≠ .debug ∧ (c.who = .spindle → (core s spindle).modes.level ≠ .u) ∧ c.key = 0xC3 ∧ c.met = .none ∧
    s.mode.busy = false

/-! ### The Whorl -/

/-- The Whorl takes a strand command: its page has power, none is busy, and the mode permits commands (R369, R370). -/
def WhrlReady (s : State) : Prop :=
  pagePowered s pgWHRL = true ∧ rdF s pgWHRL 0x090 0 4 ≠ 1 ∧ 4 ≤ (curMode s).code ∧ curMode s ≠ .safe

/-! ### Security -/

/-- SEC takes a command: its page has power, none is busy, and its domain is in service (R583, R653). -/
def SecReady (s : State) : Prop := pagePowered s pgSEC = true ∧ rdF s pgSEC 0x098 0 4 ≠ 1 ∧ secServes s = true

/-- The end of a command of SEC that succeeds: RESULT 2 and its interrupt (R653). -/
def secDone (s : State) : State := raiseIrq (wr s pgSEC 0x098 2) pgSEC 0

/-- Address of the code region, to which images of tables and code are copied before they are checked (R640). -/
def codeRegion (s : State) : Nat := s.dra.base + (rd s pgDRA 0x0BC).toNat * 2 ^ 20

end Sys2Proof.Machine
end

