-- ==== Sys2Proof/WellFormed.lean ====
section
/-!
DEFINITION. The commands whose operands name things the engine has: pages, cores, bobbins, pillows, lanes, lines, and the
instants between two edges of REF_IN (00_scope.md R2, R3, 01_engine_organisation.md R13, R17). The machine gives an
ill-formed command a meaning too; statements may ask for a well-formed one.
-/

namespace Sys2Proof

/-- Instants between two REF_IN edges, in sixteenths of a nanosecond: the longest period is 100 ns (R17). -/
abbrev subMax : Nat := 1600

/-- A word's surroundings: its instant. -/
abbrev Env.wf (e : Env) : Prop := e.sub < subMax

/-- A register access: a page of the 16 MiB window, an offset in the page (R3), a transfer size of the bus. -/
abbrev RegWrite.wf (w : RegWrite) : Prop := w.page < 4096 ∧ w.off < 4096 ∧ w.size ∈ [1, 2, 4, 8]

/-- A frame: a lane, an instant, 48-bit addresses, a 12-bit VID, a 16-bit sequence number. -/
abbrev Frame.wf (f : Frame) : Prop :=
  f.lane < 96 ∧ f.sub < subMax ∧ f.da < 2 ^ 48 ∧ f.sa < 2 ^ 48 ∧ f.vid.getD 0 < 4096 ∧ f.seq.getD 0 < 65536 ∧ f.etype < 65536

/-- Every operand of the command lies in the range of what it names. -/
def Instr.wf (i : Instr) : Bool :=
  match i with
  | .alwaysOnPowerUp _ => true
  | .alwaysOnPowerLoss => true
  | .nvrScanDone => true
  | .refInLost => true
  | .refInReturn => true
  | .registerWrite w1 => decide (w1.wf)
  | .unitCtrlWrite page1 _ => decide (page1 < 4096)
  | .errInject page1 _ => decide (page1 < 4096)
  | .irqSet page1 _ => decide (page1 < 4096)
  | .recoveryClr page1 _ => decide (page1 < 4096)
  | .managerHeartbeatSend => true
  | .managerHeartbeatRx f1 => decide (f1.h.f.wf)
  | .managerTakeover => true
  | .managerLost => true
  | .nop w1 => decide (w1.core < 257 ∧ w1.env.wf)
  | .dup w1 => decide (w1.core < 257 ∧ w1.env.wf)
  | .drop w1 => decide (w1.core < 257 ∧ w1.env.wf)
  | .swap w1 => decide (w1.core < 257 ∧ w1.env.wf)
  | .over w1 => decide (w1.core < 257 ∧ w1.env.wf)
  | .rot w1 => decide (w1.core < 257 ∧ w1.env.wf)
  | .nip w1 => decide (w1.core < 257 ∧ w1.env.wf)
  | .tuck w1 => decide (w1.core < 257 ∧ w1.env.wf)
  | .twoDup w1 => decide (w1.core < 257 ∧ w1.env.wf)
  | .twoDrop w1 => decide (w1.core < 257 ∧ w1.env.wf)
  | .twoSwap w1 => decide (w1.core < 257 ∧ w1.env.wf)
  | .twoOver w1 => decide (w1.core < 257 ∧ w1.env.wf)
  | .pick w1 _ => decide (w1.core < 257 ∧ w1.env.wf)
  | .roll w1 _ => decide (w1.core < 257 ∧ w1.env.wf)
  | .litS w1 _ => decide (w1.core < 257 ∧ w1.env.wf)
  | .litI w1 _ => decide (w1.core < 257 ∧ w1.env.wf)
  | .litN w1 _ => decide (w1.core < 257 ∧ w1.env.wf)
  | .litH w1 _ => decide (w1.core < 257 ∧ w1.env.wf)
  | .litF w1 _ => decide (w1.core < 257 ∧ w1.env.wf)
  | .litX w1 _ => decide (w1.core < 257 ∧ w1.env.wf)
  | .litA w1 _ => decide (w1.core < 257 ∧ w1.env.wf)
  | .and w1 => decide (w1.core < 257 ∧ w1.env.wf)
  | .or w1 => decide (w1.core < 257 ∧ w1.env.wf)
  | .xor w1 => decide (w1.core < 257 ∧ w1.env.wf)
  | .not w1 => decide (w1.core < 257 ∧ w1.env.wf)
  | .andn w1 => decide (w1.core < 257 ∧ w1.env.wf)
  | .popc w1 => decide (w1.core < 257 ∧ w1.env.wf)
  | .clz w1 => decide (w1.core < 257 ∧ w1.env.wf)
  | .shl w1 _ => decide (w1.core < 257 ∧ w1.env.wf)
  | .shr w1 _ => decide (w1.core < 257 ∧ w1.env.wf)
  | .sar w1 _ => decide (w1.core < 257 ∧ w1.env.wf)
  | .rol w1 _ => decide (w1.core < 257 ∧ w1.env.wf)
  | .add w1 => decide (w1.core < 257 ∧ w1.env.wf)
  | .sub w1 => decide (w1.core < 257 ∧ w1.env.wf)
  | .adc w1 => decide (w1.core < 257 ∧ w1.env.wf)
  | .sbc w1 => decide (w1.core < 257 ∧ w1.env.wf)
  | .neg w1 => decide (w1.core < 257 ∧ w1.env.wf)
  | .abs w1 => decide (w1.core < 257 ∧ w1.env.wf)
  | .cmp w1 => decide (w1.core < 257 ∧ w1.env.wf)
  | .eq w1 => decide (w1.core < 257 ∧ w1.env.wf)
  | .lt w1 => decide (w1.core < 257 ∧ w1.env.wf)
  | .ult w1 => decide (w1.core < 257 ∧ w1.env.wf)
  | .min w1 => decide (w1.core < 257 ∧ w1.env.wf)
  | .max w1 => decide (w1.core < 257 ∧ w1.env.wf)
  | .umin w1 => decide (w1.core < 257 ∧ w1.env.wf)
  | .umax w1 => decide (w1.core < 257 ∧ w1.env.wf)
  | .inc w1 => decide (w1.core < 257 ∧ w1.env.wf)
  | .dec w1 => decide (w1.core < 257 ∧ w1.env.wf)
  | .mul w1 => decide (w1.core < 257 ∧ w1.env.wf)
  | .mulwS w1 => decide (w1.core < 257 ∧ w1.env.wf)
  | .mulwU w1 => decide (w1.core < 257 ∧ w1.env.wf)
  | .div w1 => decide (w1.core < 257 ∧ w1.env.wf)
  | .divu w1 => decide (w1.core < 257 ∧ w1.env.wf)
  | .rem w1 => decide (w1.core < 257 ∧ w1.env.wf)
  | .remu w1 => decide (w1.core < 257 ∧ w1.env.wf)
  | .xAdd w1 _ => decide (w1.core < 257 ∧ w1.env.wf)
  | .xSub w1 _ => decide (w1.core < 257 ∧ w1.env.wf)
  | .xMul w1 _ => decide (w1.core < 257 ∧ w1.env.wf)
  | .xDiv w1 _ => decide (w1.core < 257 ∧ w1.env.wf)
  | .xNeg w1 _ => decide (w1.core < 257 ∧ w1.env.wf)
  | .xAbs w1 _ => decide (w1.core < 257 ∧ w1.env.wf)
  | .fadd w1 => decide (w1.core < 257 ∧ w1.env.wf)
  | .fsub w1 => decide (w1.core < 257 ∧ w1.env.wf)
  | .fmul w1 => decide (w1.core < 257 ∧ w1.env.wf)
  | .fma w1 => decide (w1.core < 257 ∧ w1.env.wf)
  | .fdiv w1 => decide (w1.core < 257 ∧ w1.env.wf)
  | .fsqrt w1 => decide (w1.core < 257 ∧ w1.env.wf)
  | .fneg w1 => decide (w1.core < 257 ∧ w1.env.wf)
  | .fabs w1 => decide (w1.core < 257 ∧ w1.env.wf)
  | .fmin w1 => decide (w1.core < 257 ∧ w1.env.wf)
  | .fmax w1 => decide (w1.core < 257 ∧ w1.env.wf)
  | .fcmp w1 => decide (w1.core < 257 ∧ w1.env.wf)
  | .cvtIf w1 => decide (w1.core < 257 ∧ w1.env.wf)
  | .cvtNf w1 => decide (w1.core < 257 ∧ w1.env.wf)
  | .cvtFi w1 => decide (w1.core < 257 ∧ w1.env.wf)
  | .cvtFn w1 => decide (w1.core < 257 ∧ w1.env.wf)
  | .cvtXf w1 => decide (w1.core < 257 ∧ w1.env.wf)
  | .cvtFx w1 => decide (w1.core < 257 ∧ w1.env.wf)
  | .cvtIx w1 => decide (w1.core < 257 ∧ w1.env.wf)
  | .cvtXi w1 => decide (w1.core < 257 ∧ w1.env.wf)
  | .asNat w1 => decide (w1.core < 257 ∧ w1.env.wf)
  | .asInt w1 => decide (w1.core < 257 ∧ w1.env.wf)
  | .asFlt w1 => decide (w1.core < 257 ∧ w1.env.wf)
  | .asAdr w1 => decide (w1.core < 257 ∧ w1.env.wf)
  | .crcStep w1 => decide (w1.core < 257 ∧ w1.env.wf)
  | .par w1 => decide (w1.core < 257 ∧ w1.env.wf)
  | .brev w1 _ => decide (w1.core < 257 ∧ w1.env.wf)
  | .tagRd w1 => decide (w1.core < 257 ∧ w1.env.wf)
  | .tagSet w1 => decide (w1.core < 257 ∧ w1.env.wf)
  | .sel w1 => decide (w1.core < 257 ∧ w1.env.wf)
  | .ld w1 => decide (w1.core < 257 ∧ w1.env.wf)
  | .st w1 => decide (w1.core < 257 ∧ w1.env.wf)
  | .ldAtA w1 _ => decide (w1.core < 257 ∧ w1.env.wf)
  | .stAtA w1 _ => decide (w1.core < 257 ∧ w1.env.wf)
  | .aFetch w1 => decide (w1.core < 257 ∧ w1.env.wf)
  | .rFetch w1 => decide (w1.core < 257 ∧ w1.env.wf)
  | .lcFetch w1 => decide (w1.core < 257 ∧ w1.env.wf)
  | .ldG w1 _ => decide (w1.core < 257 ∧ w1.env.wf)
  | .stG w1 _ => decide (w1.core < 257 ∧ w1.env.wf)
  | .ldl w1 _ => decide (w1.core < 257 ∧ w1.env.wf)
  | .stl w1 _ => decide (w1.core < 257 ∧ w1.env.wf)
  | .atadd w1 => decide (w1.core < 257 ∧ w1.env.wf)
  | .atswp w1 => decide (w1.core < 257 ∧ w1.env.wf)
  | .timNow w1 => decide (w1.core < 257 ∧ w1.env.wf)
  | .timAddns w1 => decide (w1.core < 257 ∧ w1.env.wf)
  | .timSub w1 => decide (w1.core < 257 ∧ w1.env.wf)
  | .timCmp w1 => decide (w1.core < 257 ∧ w1.env.wf)
  | .rdrop w1 => decide (w1.core < 257 ∧ w1.env.wf)
  | .rdup w1 => decide (w1.core < 257 ∧ w1.env.wf)
  | .rswap w1 => decide (w1.core < 257 ∧ w1.env.wf)
  | .rover w1 => decide (w1.core < 257 ∧ w1.env.wf)
  | .rpushT w1 => decide (w1.core < 257 ∧ w1.env.wf)
  | .rpushN w1 => decide (w1.core < 257 ∧ w1.env.wf)
  | .aStep w1 _ => decide (w1.core < 257 ∧ w1.env.wf)
  | .aStepCirc w1 _ => decide (w1.core < 257 ∧ w1.env.wf)
  | .aSetTos w1 => decide (w1.core < 257 ∧ w1.env.wf)
  | .aAddTos w1 => decide (w1.core < 257 ∧ w1.env.wf)
  | .aSetNos w1 => decide (w1.core < 257 ∧ w1.env.wf)
  | .aSetRtos w1 => decide (w1.core < 257 ∧ w1.env.wf)
  | .lbrk w1 => decide (w1.core < 257 ∧ w1.env.wf)
  | .br w1 _ => decide (w1.core < 257 ∧ w1.env.wf)
  | .call w1 _ => decide (w1.core < 257 ∧ w1.env.wf)
  | .ret w1 => decide (w1.core < 257 ∧ w1.env.wf)
  | .jmpT w1 => decide (w1.core < 257 ∧ w1.env.wf)
  | .callT w1 => decide (w1.core < 257 ∧ w1.env.wf)
  | .retg w1 => decide (w1.core < 257 ∧ w1.env.wf)
  | .gate w1 _ => decide (w1.core < 257 ∧ w1.env.wf)
  | .loop w1 _ _ => decide (w1.core < 257 ∧ w1.env.wf)
  | .loopI w1 _ _ _ => decide (w1.core < 257 ∧ w1.env.wf)
  | .tripSet w1 _ => decide (w1.core < 257 ∧ w1.env.wf)
  | .pubWr w1 _ _ => decide (w1.core < 257 ∧ w1.env.wf)
  | .send w1 _ => decide (w1.core < 257 ∧ w1.env.wf)
  | .wait w1 _ => decide (w1.core < 257 ∧ w1.env.wf)
  | .yield w1 => decide (w1.core < 257 ∧ w1.env.wf)
  | .moveBlk w1 => decide (w1.core < 257 ∧ w1.env.wf)
  | .fillBlk w1 => decide (w1.core < 257 ∧ w1.env.wf)
  | .brevBlk w1 => decide (w1.core < 257 ∧ w1.env.wf)
  | .crcBlk w1 => decide (w1.core < 257 ∧ w1.env.wf)
  | .ctlRd w1 _ => decide (w1.core < 257 ∧ w1.env.wf)
  | .ctlWr w1 _ => decide (w1.core < 257 ∧ w1.env.wf)
  | .ldH w1 _ _ => decide (w1.core < 257 ∧ w1.env.wf)
  | .stH w1 _ => decide (w1.core < 257 ∧ w1.env.wf)
  | .ldT w1 => decide (w1.core < 257 ∧ w1.env.wf)
  | .stT w1 => decide (w1.core < 257 ∧ w1.env.wf)
  | .dcClean w1 => decide (w1.core < 257 ∧ w1.env.wf)
  | .dcInv w1 => decide (w1.core < 257 ∧ w1.env.wf)
  | .dcCinv w1 => decide (w1.core < 257 ∧ w1.env.wf)
  | .dcZero w1 => decide (w1.core < 257 ∧ w1.env.wf)
  | .icInv w1 => decide (w1.core < 257 ∧ w1.env.wf)
  | .dcPf w1 => decide (w1.core < 257 ∧ w1.env.wf)
  | .l2Clean w1 => decide (w1.core < 257 ∧ w1.env.wf)
  | .l2Cinv w1 => decide (w1.core < 257 ∧ w1.env.wf)
  | .flushI w1 => decide (w1.core < 257 ∧ w1.env.wf)
  | .clb w1 => decide (w1.core < 257 ∧ w1.env.wf)
  | .fenceEng w1 => decide (w1.core < 257 ∧ w1.env.wf)
  | .wfi w1 => decide (w1.core < 257 ∧ w1.env.wf)
  | .wipe w1 => decide (w1.core < 257 ∧ w1.env.wf)
  | .rsvLd w1 _ => decide (w1.core < 257 ∧ w1.env.wf)
  | .rsvSt w1 _ => decide (w1.core < 257 ∧ w1.env.wf)
  | .dAdd w1 => decide (w1.core < 257 ∧ w1.env.wf)
  | .dSub w1 => decide (w1.core < 257 ∧ w1.env.wf)
  | .dMul w1 => decide (w1.core < 257 ∧ w1.env.wf)
  | .dFma w1 => decide (w1.core < 257 ∧ w1.env.wf)
  | .dDiv w1 => decide (w1.core < 257 ∧ w1.env.wf)
  | .dSqrt w1 => decide (w1.core < 257 ∧ w1.env.wf)
  | .dCmp w1 => decide (w1.core < 257 ∧ w1.env.wf)
  | .cvtFd w1 => decide (w1.core < 257 ∧ w1.env.wf)
  | .cvtDf w1 => decide (w1.core < 257 ∧ w1.env.wf)
  | .cvtId w1 => decide (w1.core < 257 ∧ w1.env.wf)
  | .cvtDi w1 => decide (w1.core < 257 ∧ w1.env.wf)
  | .illegalInstruction w1 _ => decide (w1.core < 257 ∧ w1.env.wf)
  | .clbAck bob1 => decide (bob1 < 256)
  | .exceptionEntry core1 env1 => decide (core1 < 257 ∧ env1.wf)
  | .interruptEntry core1 env1 => decide (core1 < 257 ∧ env1.wf)
  | .lateBusError _ => true
  | .spindleLockstepMismatch => true
  | .snoopRx line1 _ => decide (line1 < 2 ^ 42)
  | .cohFillArrive line1 => decide (line1 < 2 ^ 42)
  | .cohWritebackAck line1 => decide (line1 < 2 ^ 42)
  | .cohRetryGrant line1 => decide (line1 < 2 ^ 42)
  | .cohTimeout line1 => decide (line1 < 2 ^ 42)
  | .rsvSnoopHoldExpire => true
  | .deadAgent => true
  | .spnCntClr => true
  | .spnLbeClr => true
  | .bobCntClr bob1 => decide (bob1 < 256)
  | .bobIcInv bob1 => decide (bob1 < 256)
  | .ucsLoad => true
  | .ucsPatchInstall seq1 => decide (seq1 < 17)
  | .ucsEccClr => true
  | .ppsEdge e1 => decide (e1.input < 2 ∧ e1.sub < subMax)
  | .ppsEdgeMissed input1 => decide (input1 < 2)
  | .irigFrame f1 => decide (f1.sub < subMax)
  | .irigTimeout => true
  | .stcPtpOffsetWrite _ => true
  | .ptpLate => true
  | .stcAdjWrite _ => true
  | .slewDone => true
  | .stcSetNow => true
  | .stcSetAtEdge => true
  | .stcSnap sub1 => decide (sub1 < subMax)
  | .stcCntClr => true
  | .holdoverExpired => true
  | .leapApply => true
  | .ppsOutPulse => true
  | .windowClose o1 => decide (o1.line < 8 ∧ o1.sub < subMax)
  | .trackingTick line1 o => decide (line1 < 8 ∧ o.sub < subMax)
  | .strandStart bob1 _ _ => decide (bob1 < 256)
  | .strandPreempt o => decide (o.bob < 256)
  | .budgetExhausted o1 => decide (o1.bob < 256)
  | .strandFaultReport bob1 => decide (bob1 < 256)
  | .timerTrigger idx1 => decide (idx1 < 65536)
  | .waitTimeout idx1 => decide (idx1 < 65536)
  | .whrlCreate _ _ => true
  | .whrlSuspend => true
  | .whrlResume => true
  | .whrlReset => true
  | .whrlFree => true
  | .whrlClear => true
  | .whrlCntClr => true
  | .prckLoopSample _ => true
  | .migrationCopyDone idx1 ply1 _ => decide (idx1 < 65536 ∧ ply1 < 3)
  | .stageStart idx1 => decide (idx1 < 65536)
  | .stageComplete idx1 => decide (idx1 < 65536)
  | .rotaBobbinStep => true
  | .rotaBankStep => true
  | .rotaLaneStep => true
  | .prckExcludeWrite _ => true
  | .tickHeartbeatRx f1 => decide (f1.h.f.wf ∧ f1.line < 8)
  | .handBack => true
  | .shadowDrop => true
  | .prckCntClr => true
  | .scrubRead pil1 _ _ _ => decide (pil1 < 16)
  | .scrubLate pil1 => decide (pil1 < 16)
  | .bankFillDone pil1 bank1 => decide (pil1 < 16 ∧ bank1 < 8)
  | .pilCntClr pil1 => decide (pil1 < 16)
  | .scrubNow pil1 => decide (pil1 < 16)
  | .pilOwnQuery pil1 _ => decide (pil1 < 16)
  | .se1LeaseWrite pil1 k1 _ => decide (pil1 < 16 ∧ k1 < 5)
  | .leaseGranted pil1 k1 => decide (pil1 < 16 ∧ k1 < 5)
  | .leaseReleased pil1 k1 => decide (pil1 < 16 ∧ k1 < 5)
  | .se1ApertureAccess a _ _ => decide (a.off < 0x20000 ∧ a.size ∈ [1, 2, 4, 8])
  | .tamperAssert n1 _ _ => decide (n1 < 2)
  | .laneSignalLoss o1 _ => decide (o1.lane < 96)
  | .laneSignalRestore o1 => decide (o1.lane < 96)
  | .laneLinkUp k1 _ => decide (k1 < 96)
  | .laneEyeMeasure e1 => decide (e1.lane < 96)
  | .svFrameRx f1 => decide (f1.f.wf ∧ f1.asdus ≠ [])
  | .gooseFrameRx f1 => decide (f1.f.wf)
  | .ptpFrameRx f1 => decide (f1.wf)
  | .interEngineMessageRx m1 => decide (m1.h.f.wf)
  | .supervisionFrameRx f1 => decide (f1.wf)
  | .otherFrameRx f1 => decide (f1.wf)
  | .c3794FrameRx f1 => decide (f1.lane < 96)
  | .dupEntryExpire pair1 src1 => decide (pair1 < 48 ∧ src1 < 2 ^ 48)
  | .supervisionFrameTx pair1 => decide (pair1 < 48)
  | .frameTxStart k1 sub1 => decide (k1 < 96 ∧ sub1 < subMax)
  | .laneGuardOpen k1 line1 => decide (k1 < 96 ∧ line1 < 8)
  | .pgFwqTxHeadWrite g1 _ _ => decide (g1 < 12)
  | .laneCntClr k1 => decide (k1 < 96)
  | .eqRestart k1 => decide (k1 < 96)
  | .gooseTalExpiry sub1 => decide (sub1 < 1024)
  | .pubCompareClose slot1 _ => decide (slot1 < 1024)
  | .gooseRetransmit slot1 => decide (slot1 < 1024)
  | .statusRecordWrite => true
  | .tripVoteClose n1 _ _ => decide (n1 < 32)
  | .tripDeferredReset n1 => decide (n1 < 32)
  | .tripReadbackFault n1 _ => decide (n1 < 32)
  | .tripCntClr => true
  | .rbClr _ => true
  | .biEdge n1 _ sub1 => decide (n1 < 64 ∧ sub1 < subMax)
  | .biChange n1 => decide (n1 < 64)
  | .biChatterRelease n1 sub1 => decide (n1 < 64 ∧ sub1 < subMax)
  | .bioCntClr => true
  | .eicSourceEvent src1 _ => decide (src1 < 1024)
  | .eicClaim target1 r => decide (target1 < 257 ∧ r.off < 4 ∧ r.size ∈ [1, 2, 4, 8])
  | .eicComplete target1 _ _ => decide (target1 < 257)
  | .eicSrcCfgWrite _ => true
  | .eicSwSet _ => true
  | .eicTPrivSet target1 _ => decide (target1 < 257)
  | .eicTimerExpire target1 => decide (target1 < 257)
  | .eicCntClr => true
  | .coreWake core1 => decide (core1 < 257)
  | .hifCmdDoorbell n1 _ => decide (n1 < 64)
  | .hifPost _ _ => true
  | .hifModTimer n1 => decide (n1 < 64)
  | .hostSleepFall => true
  | .hifCntClr => true
  | .hifRingCfgWrite _ => true
  | .nvrRecordCommit _ => true
  | .nvrPost _ => true
  | .nvrDiWrite => true
  | .nvrCntClr => true
  | .nvrRdIdxWrite _ => true
  | .nvrReadCopyDone => true
  | .nvrDiSelWrite _ => true
  | .draTrnGo _ => true
  | .draTrnPatternDone _ errors1 => decide (errors1 < 65536)
  | .trainDone => true
  | .trainFail => true
  | .retrain => true
  | .draCntClr => true
  | .dramError addr1 _ => decide (addr1 < 2 ^ 40)
  | .draSpareCopyDone => true
  | .draSelfRefreshEnter => true
  | .draSelfRefreshExit => true
  | .errorLatch => true
  | .degradedExit => true
  | .selvTestStart => true
  | .selvTestDone _ _ => true
  | .selvTestTimeout _ => true
  | .safeExit _ => true
  | .faultNWidthEnd => true
  | .fnRelease => true
  | .selvCntClr => true
  | .selvTestReq => true
  | .unretire => true
  | .selvWdogKick _ => true
  | .engineWdogPre => true
  | .engineWdogExpire => true
  | .chkSelfTest _ => true
  | .modeCmdBoot _ _ => true
  | .modeCmdProof _ => true
  | .proofEnd _ => true
  | .modeCmdConfigure _ => true
  | .modeCmdArmed _ _ => true
  | .modeCmdRun _ => true
  | .modeCmdTest _ => true
  | .modeCmdBlocked _ => true
  | .modeCmdService _ => true
  | .modeCmdKeep _ => true
  | .modeTransitionDone => true
  | .pwrDisconnect => true
  | .pwrCntClr => true
  | .domainPowerUp d1 => decide (d1 < 417)
  | .domainTimeout d1 => decide (d1 < 417)
  | .bobPowerGate bob1 => decide (bob1 < 256)
  | .bobPgWake bob1 => decide (bob1 < 256)
  | .pillowVfUpdate o1 => decide (o1.pillow < 16)
  | .envExcursion _ => true
  | .clkMonitor _ _ _ => true
  | .pllUnlock _ => true
  | .clkSpnCfgWrite _ => true
  | .verifyTables => true
  | .loadCode => true
  | .svnCommit => true
  | .challenge _ => true
  | .dbgResp => true
  | .dbgRevoke => true
  | .provision => true
  | .getId => true
  | .challengeLapse => true
  | .dbgGrantExpire => true
  | .dbgLockoutEnd => true
  | .apply _ _ _ => true
  | .keyLoad => true
  | .keyErase => true
  | .keyEraseAll => true
  | .halt => true
  | .haltTaken core1 _ => decide (core1 < 257)
  | .resume => true
  | .step _ => true
  | .resetLockup => true
  | .cancel => true
  | .dbgCoreWrite _ _ => true
  | .dbgMemRead => true
  | .dbgMemWrite => true
  | .dbgMemDone _ => true
  | .dbgWdogKick _ _ => true
  | .coreWdogPre core1 => decide (core1 < 257)
  | .coreWdogExpire core1 => decide (core1 < 257)
  | .traceClr => true
  | .snagStop => true
  | .refInEdge o => decide (∀ e ∈ o.seen, e.page < 4096 ∧ e.bit < 16 ∧ e.sub < 256)
  | .hostSleepAssert _ => true
  | .hostClockReturn => true
  | .laneLinkDown o1 _ => decide (o1.lane < 96)
  | .laneSymbolError k1 => decide (k1 < 96)
  | .directoryRetry line1 => decide (line1 < 2 ^ 42)
  | .stepTimeout _ => true
  | .wakeFail pil1 _ => decide (pil1 < 16)

end Sys2Proof
end

