-- ==== Sys2Proof/Certificates/Slice0/Obligations.lean ====
section
/-!
DEFINITION. The statements about the block, one definition each. A docstring cites the rules a statement formalises.
-/

open Sys2Proof Sys2Proof.Machine
/-! ### Words of a bobbin: data-unit operations -/

/-- R110: what the stack moves and LIT.S leave on the data stack of a quiet bobbin; PICK n copies entry n, ROLL n brings it
up. -/
def Obligations.StackMovesRearrangeTheStack : Prop :=
  ∀ (s : State) (w : AWord), Quiet s w.core → Plain w →
    let c := w.core
    let k := at_ s c
    let x := k.ds.peek
    exec (.nop w) s = .next (afterOp s c {}) ∧
    (Fits k 1 1 2 → Takes k 1 .move → exec (.dup w) s = .next (afterOp s c { pop := 1, push := [x 0, x 0] })) ∧
    (Fits k 1 1 0 → Takes k 1 .move → exec (.drop w) s = .next (afterOp s c { pop := 1 })) ∧
    (Fits k 2 2 2 → Takes k 2 .move → exec (.swap w) s = .next (afterOp s c { pop := 2, push := [x 0, x 1] })) ∧
    (Fits k 2 2 3 → Takes k 2 .move → exec (.over w) s = .next (afterOp s c { pop := 2, push := [x 1, x 0, x 1] })) ∧
    (Fits k 3 3 3 → Takes k 3 .move → exec (.rot w) s = .next (afterOp s c { pop := 3, push := [x 1, x 0, x 2] })) ∧
    (Fits k 2 2 1 → Takes k 2 .move → exec (.nip w) s = .next (afterOp s c { pop := 2, push := [x 0] })) ∧
    (Fits k 2 2 3 → Takes k 2 .move → exec (.tuck w) s = .next (afterOp s c { pop := 2, push := [x 0, x 1, x 0] })) ∧
    (Fits k 2 2 4 → Takes k 2 .move →
      exec (.twoDup w) s = .next (afterOp s c { pop := 2, push := [x 1, x 0, x 1, x 0] })) ∧
    (Fits k 2 2 0 → Takes k 2 .move → exec (.twoDrop w) s = .next (afterOp s c { pop := 2 })) ∧
    (Fits k 4 4 4 → Takes k 4 .move →
      exec (.twoSwap w) s = .next (afterOp s c { pop := 4, push := [x 1, x 0, x 3, x 2] })) ∧
    (Fits k 4 4 6 → Takes k 4 .move →
      exec (.twoOver w) s = .next (afterOp s c { pop := 4, push := [x 3, x 2, x 1, x 0, x 3, x 2] })) ∧
    (∀ n : BitVec 4, Fits k (n.toNat + 1) 0 1 → tagCauses k [(.move, x n.toNat)] = none →
      exec (.pick w n) s = .next (afterOp s c { push := [x n.toNat] })) ∧
    (∀ n : BitVec 4, Fits k (n.toNat + 1) 0 0 → Takes k (n.toNat + 1) .move →
      exec (.roll w n) s = .next (afterOp s c
        { pop := n.toNat + 1, push := ((List.range n.toNat).map fun i => x (n.toNat - 1 - i)) ++ [x n.toNat] })) ∧
    (∀ v : BitVec 8, Fits k 0 0 1 → exec (.litS w v) s = .next (afterOp s c { push := [TWord.ofTy .int (v.signExtend 32)] }))

/-- R111, R112: the logic operations and the bit counts, NAT with the merged quality, Z and N of the result. -/
def Obligations.LogicResults : Prop :=
  ∀ (s : State) (w : AWord), Quiet s w.core → Plain w →
    let c := w.core
    let k := at_ s c
    let a := (k.ds.peek 1).pay
    let b := (k.ds.peek 0).pay
    let q1 := (k.ds.peek 0).q
    let q2 := (k.ds.peek 1).q.merge (k.ds.peek 0).q
    let out (n : Nat) (q : Qual) (r : W32) : AOut :=
      { pop := n, push := [⟨.nat, q, false, r⟩], flags := some { k.flags with z := decide (r = 0), n := r.msb } }
    (Fits k 2 2 1 → Takes k 2 (.plain [.int, .nat]) →
      exec (.and w) s = .next (afterOp s c (out 2 q2 (a &&& b))) ∧
      exec (.or w) s = .next (afterOp s c (out 2 q2 (a ||| b))) ∧
      exec (.xor w) s = .next (afterOp s c (out 2 q2 (a ^^^ b))) ∧
      exec (.andn w) s = .next (afterOp s c (out 2 q2 (a &&& ~~~ b)))) ∧
    (Fits k 1 1 1 → Takes k 1 (.plain [.int, .nat]) →
      exec (.not w) s = .next (afterOp s c (out 1 q1 (~~~ b))) ∧
      exec (.popc w) s = .next (afterOp s c (out 1 q1 (w32 ((List.range 32).countP fun i => b.getLsbD i)))) ∧
      exec (.clz w) s = .next (afterOp s c (out 1 q1 (w32 (if b = 0 then 32 else 31 - Nat.log2 b.toNat)))))

/-- R111, R112: shifts by an immediate and by TOS read as an unsigned count. Z and N are the result's, C the last bit
shifted out and 0 for a count of 0, CQ the merged quality. -/
def Obligations.ShiftResults : Prop :=
  ∀ (s : State) (w : AWord) (i : Option (BitVec 5)), Quiet s w.core → Plain w →
    let c := w.core
    let k := at_ s c
    let n := if i.isSome then 1 else 2
    let a := (k.ds.peek (n - 1)).pay
    let count := match i with | some v => v.toNat | none => (k.ds.peek 0).pay.toNat
    let q := if i.isSome then (k.ds.peek 0).q else (k.ds.peek 1).q.merge (k.ds.peek 0).q
    let out (r : W32) (carry : Bool) : AOut :=
      { pop := n, push := [⟨.nat, q, false, r⟩]
        flags := some { k.flags with z := decide (r = 0), n := r.msb, c := carry, cq := q } }
    Fits k n n 1 → Takes k n (.plain [.int, .nat]) →
      exec (.shl w i) s = .next (afterOp s c (out (a <<< count) (decide (0 < count ∧ count ≤ 32) && a.getLsbD (32 - count)))) ∧
      exec (.shr w i) s = .next (afterOp s c (out (a >>> count) (decide (0 < count ∧ count ≤ 32) && a.getLsbD (count - 1)))) ∧
      exec (.sar w i) s = .next (afterOp s c (out (a.sshiftRight count)
        (decide (0 < count) && a.getLsbD (min count 32 - 1)))) ∧
      exec (.rol w i) s = .next (afterOp s c (out (a.rotateLeft count)
        (decide (0 < count % 32) && (a.rotateLeft count).getLsbD 0)))

/-- R113, R114: integer addition, subtraction and comparison of INT and NAT operands: C the carry or the borrow, V the signed
overflow, CQ the merged quality, a result that is INT where an operand is. -/
def Obligations.IntegerResults : Prop :=
  ∀ (s : State) (w : AWord), Quiet s w.core → Plain w →
    let c := w.core
    let k := at_ s c
    let wa := k.ds.peek 1
    let wb := k.ds.peek 0
    let a := wa.pay
    let b := wb.pay
    let i := k.flags.c.toNat
    let q2 := wa.q.merge wb.q
    let qc := q2.merge k.flags.cq
    let ty2 := if wa.ty = .int ∨ wb.ty = .int then Ty.int else Ty.nat
    let ty1 := if wb.ty = .int then Ty.int else Ty.nat
    let far (v : Int) : Bool := decide (v < -2 ^ 31 ∨ 2 ^ 31 ≤ v)
    let out (n : Nat) (t : Ty) (q : Qual) (r : W32) (carry ov : Bool) : AOut :=
      { pop := n, push := [⟨t, q, false, r⟩], flags := some ⟨decide (r = 0), r.msb, carry, ov, q⟩ }
    let rel (h : Bool) : AOut :=
      { pop := 2, push := [⟨.nat, q2, false, if h then 1 else 0⟩], flags := some { k.flags with z := !h } }
    let choose (first : Bool) : AOut :=
      let x := if first then wa else wb
      { pop := 2, push := [{ x with q := q2 }], flags := some { k.flags with z := decide (x.pay = 0), n := x.pay.msb } }
    (Fits k 2 2 1 → Takes k 2 (.arith [.int, .nat]) → wa.ty ≠ .adr → wb.ty ≠ .adr →
      exec (.add w) s = .next (afterOp s c (out 2 ty2 q2 (a + b) (decide (2 ^ 32 ≤ a.toNat + b.toNat)) (far (a.toInt + b.toInt)))) ∧
      exec (.sub w) s = .next (afterOp s c (out 2 ty2 q2 (a - b) (decide (a.toNat < b.toNat)) (far (a.toInt - b.toInt))))) ∧
    (Fits k 2 2 1 → Takes k 2 (.arith [.int, .nat]) →
      exec (.adc w) s = .next (afterOp s c
        (out 2 ty2 qc (a + b + w32 i) (decide (2 ^ 32 ≤ a.toNat + b.toNat + i)) (far (a.toInt + b.toInt + i)))) ∧
      exec (.sbc w) s = .next (afterOp s c
        (out 2 ty2 qc (a - b - w32 i) (decide (a.toNat < b.toNat + i)) (far (a.toInt - b.toInt - i)))) ∧
      exec (.eq w) s = .next (afterOp s c (rel (decide (a = b)))) ∧
      exec (.lt w) s = .next (afterOp s c (rel (a.slt b))) ∧
      exec (.ult w) s = .next (afterOp s c (rel (a.ult b))) ∧
      exec (.min w) s = .next (afterOp s c (choose (a.sle b))) ∧
      exec (.max w) s = .next (afterOp s c (choose (b.sle a))) ∧
      exec (.umin w) s = .next (afterOp s c (choose (a.ule b))) ∧
      exec (.umax w) s = .next (afterOp s c (choose (b.ule a)))) ∧
    (Fits k 2 2 0 → Takes k 2 (.arith [.int, .nat]) →
      let f : Flags := ⟨decide (a = b), (a - b).msb, decide (a.toNat < b.toNat), far (a.toInt - b.toInt), q2⟩
      exec (.cmp w) s = .next (afterOp s c { pop := 2, flags := some f })) ∧
    (Fits k 1 1 1 → Takes k 1 (.arith [.int, .nat]) →
      exec (.neg w) s = .next (afterOp s c (out 1 ty1 wb.q (-b) (decide (b ≠ 0)) (decide (b = 0x80000000)))) ∧
      exec (.abs w) s = .next (afterOp s c
        { pop := 1, push := [⟨wb.ty, wb.q, false, if b.msb then -b else b⟩]
          flags := some { k.flags with z := decide (b = 0), n := decide (b = 0x80000000), v := decide (b = 0x80000000) } })) ∧
    (Fits k 1 1 1 → Takes k 1 (.arith [.int, .nat]) → wb.ty ≠ .adr →
      exec (.inc w) s = .next (afterOp s c (out 1 ty1 wb.q (b + 1) (decide (b = 0xFFFFFFFF)) (decide (b = 0x7FFFFFFF)))) ∧
      exec (.dec w) s = .next (afterOp s c (out 1 ty1 wb.q (b - 1) (decide (b = 0)) (decide (b = 0x80000000)))))

/-- R115: address arithmetic is taken modulo 2²⁴, an INT step signed and any other unsigned; Z and C describe the address, N
and V are 0. The difference of two addresses is an INT word. -/
def Obligations.AddressArithmetic : Prop :=
  ∀ (s : State) (w : AWord), Quiet s w.core → Plain w →
    let c := w.core
    let k := at_ s c
    let wa := k.ds.peek 1
    let wb := k.ds.peek 0
    let q := wa.q.merge wb.q
    let step (x : TWord) : Int := if x.ty = .int then x.pay.toInt else x.pay.toNat
    let moved (n : Nat) (q : Qual) (x : W32) (d : Int) : AOut :=
      let e : Int := (x.toNat % 2 ^ 24 : Nat) + d
      let r := BitVec.ofInt 32 (e % 2 ^ 24)
      { pop := n, push := [⟨.adr, q, false, r⟩]
        flags := some ⟨decide (r = 0), false, decide (e < 0 ∨ 2 ^ 24 ≤ e), false, q⟩ }
    (Fits k 2 2 1 → Takes k 2 (.arith [.int, .nat, .adr]) →
      (wa.ty = .adr → wb.ty ≠ .adr →
        exec (.add w) s = .next (afterOp s c (moved 2 q wa.pay (step wb))) ∧
        exec (.sub w) s = .next (afterOp s c (moved 2 q wa.pay (-step wb)))) ∧
      (wb.ty = .adr → wa.ty ≠ .adr → exec (.add w) s = .next (afterOp s c (moved 2 q wb.pay (step wa)))) ∧
      (wa.ty = .adr → wb.ty = .adr →
        let d : Int := (wa.pay.toNat % 2 ^ 24 : Nat) - (wb.pay.toNat % 2 ^ 24 : Nat)
        exec (.sub w) s = .next (afterOp s c
          { pop := 2, push := [⟨.int, q, false, BitVec.ofInt 32 d⟩]
            flags := some ⟨decide (d = 0), decide (d < 0), decide (d < 0), false, q⟩ }))) ∧
    (Fits k 1 1 1 → Takes k 1 (.arith [.int, .nat, .adr]) → wb.ty = .adr →
      exec (.inc w) s = .next (afterOp s c (moved 1 wb.q wb.pay 1)) ∧
      exec (.dec w) s = .next (afterOp s c (moved 1 wb.q wb.pay (-1))))

/-- R116 to R118, R150: products and quotients of INT and NAT operands. MUL keeps the low word, MULW both words with the high
one below; DIV and REM truncate toward zero; a division by zero answers 0 or the dividend with VAL at least invalid and V
set, and raises nothing. -/
def Obligations.ProductsAndQuotients : Prop :=
  ∀ (s : State) (w : AWord), Quiet s w.core → Plain w →
    let c := w.core
    let k := at_ s c
    let wa := k.ds.peek 1
    let wb := k.ds.peek 0
    let a := wa.pay
    let b := wb.pay
    let q := wa.q.merge wb.q
    let ty := if wa.ty = .int ∨ wb.ty = .int then Ty.int else Ty.nat
    let ps : Int := a.toInt * b.toInt
    let pu : Nat := a.toNat * b.toNat
    let wide (hi lo : W32) (z n : Bool) (signed : Bool) : AOut :=
      { pop := 2, push := [⟨ty, q, false, hi⟩, ⟨.nat, q, false, lo⟩], flags := some { k.flags with z := z, n := n }
        cycles := mulCycles k.modes.ft signed b }
    let div (r : W32) (ov : Bool) : AOut :=
      { pop := 2, push := [⟨ty, if b = 0 then q.atLeast .invalid else q, false, r⟩]
        flags := some { k.flags with z := decide (r = 0), n := r.msb, v := ov }, cycles := 18 }
    (Fits k 2 2 1 → Takes k 2 (.arith [.int, .nat]) →
      (ty = .int → exec (.mul w) s = .next (afterOp s c
        { pop := 2, push := [⟨.int, q, false, a * b⟩]
          flags := some { k.flags with z := decide (a * b = 0), n := (a * b).msb, v := decide (ps < -2 ^ 31 ∨ 2 ^ 31 ≤ ps) }
          cycles := mulCycles k.modes.ft true b })) ∧
      (ty = .nat → exec (.mul w) s = .next (afterOp s c
        { pop := 2, push := [⟨.nat, q, false, a * b⟩]
          flags := some { k.flags with z := decide (a * b = 0), n := (a * b).msb, v := decide (2 ^ 32 ≤ pu) }
          cycles := mulCycles k.modes.ft false b })) ∧
      exec (.div w) s = .next (afterOp s c (div (if b = 0 then 0 else BitVec.ofInt 32 (a.toInt.tdiv b.toInt))
        (decide (b = 0 ∨ a = 0x80000000 ∧ b = 0xFFFFFFFF)))) ∧
      exec (.divu w) s = .next (afterOp s c (div (if b = 0 then 0 else a / b) (decide (b = 0)))) ∧
      exec (.rem w) s = .next (afterOp s c (div (if b = 0 then a else BitVec.ofInt 32 (a.toInt.tmod b.toInt)) (decide (b = 0)))) ∧
      exec (.remu w) s = .next (afterOp s c (div (if b = 0 then a else a % b) (decide (b = 0))))) ∧
    (Fits k 2 2 2 → Takes k 2 (.arith [.int, .nat]) →
      exec (.mulwS w) s = .next (afterOp s c
        (wide (BitVec.ofInt 32 (ps / 2 ^ 32)) (BitVec.ofInt 32 ps) (decide (ps = 0)) (decide (ps < 0)) true)) ∧
      exec (.mulwU w) s = .next (afterOp s c (wide (w32 (pu / 2 ^ 32)) (w32 pu) (decide (pu = 0)) false false)))

/-- R119, R120, R155: Q15.16 arithmetic. V says that the exact result lies outside the range, whether the result wraps or,
with suffix .S, saturates; a division by zero gives 0 with VAL at least invalid. -/
def Obligations.FixedPointResults : Prop :=
  ∀ (s : State) (w : AWord) (sat : Bool), Quiet s w.core → Plain w →
    let c := w.core
    let k := at_ s c
    let a : Int := (k.ds.peek 1).pay.toInt
    let b : Int := (k.ds.peek 0).pay.toInt
    let q1 := (k.ds.peek 0).q
    let q2 := (k.ds.peek 1).q.merge (k.ds.peek 0).q
    let fit (r : Int) : W32 := BitVec.ofInt 32 (if sat then max (-2 ^ 31) (min (2 ^ 31 - 1) r) else r)
    let far (v : Int) : Bool := decide (v < -2 ^ 31 ∨ 2 ^ 31 ≤ v)
    let out (n : Nat) (q : Qual) (r : W32) (ov : Bool) (cyc : Nat) : AOut :=
      { pop := n, push := [⟨.fix, q, false, r⟩]
        flags := some { k.flags with z := decide (r = 0), n := r.msb, v := ov }, cycles := cyc }
    (Fits k 2 2 1 → Takes k 2 (.arith [.fix]) →
      exec (.xAdd w sat) s = .next (afterOp s c (out 2 q2 (fit (a + b)) (far (a + b)) 1)) ∧
      exec (.xSub w sat) s = .next (afterOp s c (out 2 q2 (fit (a - b)) (far (a - b)) 1)) ∧
      exec (.xMul w sat) s = .next (afterOp s c (out 2 q2 (fit ((a * b + 2 ^ 15) / 2 ^ 16))
        (decide (a * b < -2 ^ 47 ∨ (2 ^ 31 - 1) * 2 ^ 16 < a * b)) (mulCycles k.modes.ft true (k.ds.peek 0).pay))) ∧
      (b ≠ 0 → 0 < b → exec (.xDiv w sat) s = .next (afterOp s c (out 2 q2 (fit ((a * 2 ^ 16).tdiv b))
        (decide (a * 2 ^ 16 < -2 ^ 31 * b ∨ (2 ^ 31 - 1) * b < a * 2 ^ 16)) 18))) ∧
      (b < 0 → exec (.xDiv w sat) s = .next (afterOp s c (out 2 q2 (fit ((a * 2 ^ 16).tdiv b))
        (decide (-2 ^ 31 * b < a * 2 ^ 16 ∨ a * 2 ^ 16 < (2 ^ 31 - 1) * b)) 18))) ∧
      (b = 0 → exec (.xDiv w sat) s = .next (afterOp s c (out 2 (q2.atLeast .invalid) 0 true 18)))) ∧
    (Fits k 1 1 1 → Takes k 1 (.arith [.fix]) →
      exec (.xNeg w sat) s = .next (afterOp s c (out 1 q1 (fit (-b)) (decide (b = -2 ^ 31)) 1)) ∧
      exec (.xAbs w sat) s = .next (afterOp s c (out 1 q1 (fit b.natAbs) (decide (b = -2 ^ 31)) 1)))

/-- R121 to R123, R37, R40: the binary32 operations on a quiet bobbin whose traps for the flags raised are off. The result of
FADD, FSUB, FMUL and FMA is in flight for four words; a NaN among operands and result makes the quality at least invalid
while NAN_INVALID is 1. FMIN and FMAX keep the TYPE of the operand they choose. The values are those of the model's own binary32 arithmetic (R157 to R163). -/
def Obligations.FloatResults : Prop :=
  ∀ (s : State) (w : AWord), Quiet s w.core → Plain w →
    let c := w.core
    let k := at_ s c
    let x (i : Nat) : Nat := (k.ds.peek i).pay.toNat
    let q (i : Nat) : Qual := (k.ds.peek i).q
    let rm := k.modes.rm
    let q1 := q 0
    let q2 := (q 1).merge (q 0)
    let q3 := ((q 2).merge (q 1)).merge (q 0)
    let anyNan (n r : Nat) : Bool := f32.isNaN r || (List.range n).any fun i => f32.isNaN (x i)
    let qual (n r : Nat) (m : Qual) : Qual := if k.modes.nanInvalid && anyNan n r then m.atLeast .invalid else m
    let out (n : Nat) (m : Qual) (lat cyc : Nat) (r : Nat × FFlags) : AOut :=
      { pop := n, push := [⟨.flt, qual n r.1 m, false, w32 r.1⟩], lat := lat, sticky := r.2.code, cycles := cyc }
    let quiet (r : Nat × FFlags) : Prop := r.2.trap k.traps = none
    let chosen (r : Nat × FFlags) : AOut :=
      let ty := if x 1 = r.1 then (k.ds.peek 1).ty else if x 0 = r.1 then (k.ds.peek 0).ty else .flt
      { out 2 q2 1 1 r with push := [⟨ty, qual 2 r.1 q2, false, w32 r.1⟩] }
    (Fits k 1 1 1 → Takes k 1 (.arith [.flt]) →
      exec (.fneg w) s = .next (afterOp s c (out 1 q1 1 1 (f32.neg (x 0), .nil))) ∧
      exec (.fabs w) s = .next (afterOp s c (out 1 q1 1 1 (f32.abs (x 0), .nil))) ∧
      (quiet (f32.sqrt rm (x 0)) → exec (.fsqrt w) s = .next (afterOp s c (out 1 q1 1 14 (f32.sqrt rm (x 0)))))) ∧
    (Fits k 2 2 1 → Takes k 2 (.arith [.flt]) →
      (quiet (f32.add rm (x 1) (x 0)) → exec (.fadd w) s = .next (afterOp s c (out 2 q2 4 1 (f32.add rm (x 1) (x 0))))) ∧
      (quiet (f32.sub rm (x 1) (x 0)) → exec (.fsub w) s = .next (afterOp s c (out 2 q2 4 1 (f32.sub rm (x 1) (x 0))))) ∧
      (quiet (f32.mul rm (x 1) (x 0)) → exec (.fmul w) s = .next (afterOp s c (out 2 q2 4 1 (f32.mul rm (x 1) (x 0))))) ∧
      (quiet (f32.div rm (x 1) (x 0)) → exec (.fdiv w) s = .next (afterOp s c (out 2 q2 1 14 (f32.div rm (x 1) (x 0))))) ∧
      (quiet (f32.minmax false (x 1) (x 0)) →
        exec (.fmin w) s = .next (afterOp s c (chosen (f32.minmax false (x 1) (x 0))))) ∧
      (quiet (f32.minmax true (x 1) (x 0)) →
        exec (.fmax w) s = .next (afterOp s c (chosen (f32.minmax true (x 1) (x 0)))))) ∧
    (Fits k 3 3 1 → Takes k 3 (.arith [.flt]) → quiet (f32.fma rm (x 2) (x 1) (x 0)) →
      exec (.fma w) s = .next (afterOp s c (out 3 q3 4 1 (f32.fma rm (x 2) (x 1) (x 0))))) ∧
    (Fits k 2 2 0 → Takes k 2 (.arith [.flt]) →
      ∀ less equal unordered signalling, f32.cmp (x 1) (x 0) = (less, equal, unordered, signalling) →
        FFlags.trap { iv := signalling } k.traps = none →
        let m := if k.modes.nanInvalid && (f32.isNaN (x 1) || f32.isNaN (x 0)) then q2.atLeast .invalid else q2
        let f : Flags := ⟨equal, less, unordered, false, m⟩
        exec (.fcmp w) s = .next (afterOp s c { pop := 2, flags := some f, sticky := FFlags.code { iv := signalling } }))

/-- R124 to R126: conversions. An integer or fixed-point word becomes binary32 by one rounding; a binary32 word is rounded
by the mode to the range of its target; CVT.IX saturates with V, CVT.XI truncates; AS changes the type alone. -/
def Obligations.ConversionResults : Prop :=
  ∀ (s : State) (w : AWord), Quiet s w.core → Plain w →
    let c := w.core
    let k := at_ s c
    let x := k.ds.peek 0
    let rm := k.modes.rm
    let out (t : Ty) (m : Qual) (r : W32) (fl : FFlags) : AOut :=
      { pop := 1, push := [⟨t, m, false, r⟩], lat := 4, sticky := fl.code }
    let toF (from_ : Ty) (i : Instr) (r : Nat × FFlags) : Prop :=
      Takes k 1 (.arith [from_]) → r.2.trap k.traps = none → exec i s = .next (afterOp s c (out .flt x.q (w32 r.1) r.2))
    let ofF (t : Ty) (i : Instr) (r : Int × FFlags) : Prop :=
      Takes k 1 (.arith [.flt]) → r.2.trap k.traps = none →
        exec i s = .next (afterOp s c
          (out t (if k.modes.nanInvalid && f32.isNaN x.pay.toNat then x.q.atLeast .invalid else x.q) (BitVec.ofInt 32 r.1) r.2))
    Fits k 1 1 1 →
      toF .int (.cvtIf w) (f32.ofInt rm x.pay.toInt 0) ∧
      toF .nat (.cvtNf w) (f32.ofInt rm x.pay.toNat 0) ∧
      toF .fix (.cvtXf w) (f32.ofInt rm x.pay.toInt (-16)) ∧
      ofF .int (.cvtFi w) (f32.toInt rm 0 (-2 ^ 31) (2 ^ 31 - 1) x.pay.toNat) ∧
      ofF .nat (.cvtFn w) (f32.toInt rm 0 0 (2 ^ 32 - 1) x.pay.toNat) ∧
      ofF .fix (.cvtFx w) (f32.toInt rm 16 (-2 ^ 31) (2 ^ 31 - 1) x.pay.toNat) ∧
      (Takes k 1 (.arith [.int]) →
        let v := x.pay.toInt * 2 ^ 16
        let r := BitVec.ofInt 32 (max (-2 ^ 31) (min (2 ^ 31 - 1) v))
        exec (.cvtIx w) s = .next (afterOp s c
          { pop := 1, push := [⟨.fix, x.q, false, r⟩]
            flags := some { k.flags with z := decide (r = 0), n := r.msb, v := decide (v < -2 ^ 31 ∨ 2 ^ 31 ≤ v) } })) ∧
      (Takes k 1 (.arith [.fix]) →
        let r := BitVec.ofInt 32 (x.pay.toInt.tdiv (2 ^ 16))
        exec (.cvtXi w) s = .next (afterOp s c
          { pop := 1, push := [⟨.int, x.q, false, r⟩], flags := some { k.flags with z := decide (r = 0), n := r.msb } })) ∧
      (x.ty ≠ .ret → x.rsv = false → (k.modes.tcs = .off ∨ x.ty ≠ .void ∧ x.ty ≠ .tim) →
        exec (.asNat w) s = .next (afterOp s c { pop := 1, push := [{ x with ty := .nat }] }) ∧
        exec (.asInt w) s = .next (afterOp s c { pop := 1, push := [{ x with ty := .int }] }) ∧
        exec (.asFlt w) s = .next (afterOp s c { pop := 1, push := [{ x with ty := .flt }] }) ∧
        exec (.asAdr w) s = .next (afterOp s c { pop := 1, push := [{ x with ty := .adr }] }))

/-- R132, R133, R41, R137, R127: CRC.STEP, PAR and BREV with Z alone written; TAG.RD shows a tag as NAT and keeps its word;
TAG.SET replaces the tag, at U keeping TST and DER and marking a better VAL derived; SEL takes the deeper word while the
selector is not 0; A@, R@ and LC@ copy address-unit state: LC@ the innermost
active loop's count, 0 without one. -/
def Obligations.BitTagAndCopyResults : Prop :=
  ∀ (s : State) (w : AWord), Quiet s w.core → Plain w →
    let c := w.core
    let k := at_ s c
    let x := k.ds.peek
    let q1 := (x 0).q
    let q2 := (x 1).q.merge (x 0).q
    let q3 := ((x 2).q.merge (x 1).q).merge (x 0).q
    let out (n : Nat) (m : Qual) (r : W32) : AOut :=
      { pop := n, push := [⟨.nat, m, false, r⟩], flags := some { k.flags with z := decide (r = 0) } }
    (∀ p, crcParams k.crcCfg k.crcPoly = some p → Fits k 2 2 1 → Takes k 2 (.arith [.int, .nat]) →
      exec (.crcStep w) s = .next (afterOp s c (out 2 q2 (crcStepW p (x 1).pay (x 0).pay)))) ∧
    (Fits k 1 1 1 → Takes k 1 (.arith [.int, .nat]) →
      exec (.par w) s = .next (afterOp s c (out 1 q1 (w32 (((List.range 32).countP fun i => (x 0).pay.getLsbD i) % 2)))) ∧
      ∀ n : BitVec 5, exec (.brev w n) s = .next (afterOp s c (out 1 q1 (w32 (revBits (n.toNat + 1) (x 0).pay.toNat))))) ∧
    (Fits k 1 0 1 → Takes k 1 .move → exec (.tagRd w) s = .next (afterOp s c { push := [TWord.nat (w32 (x 0).tag)] })) ∧
    (Fits k 2 2 1 → tagCauses k [(.plain [.int, .nat, .fix, .flt, .tim, .adr, .ret], x 1), (.plain [.int, .nat], x 0)] = none →
      let t := TWord.ofTag ((x 0).pay.toNat % 256) (x 1).pay
      t.rsv = false → (k.modes.tcs = .full → t.ty = (x 1).ty) → ¬ (t.ty = .ret ∧ k.modes.level = .u) →
      let u := decide (k.modes.level = .u)
      let q : Qual := ⟨t.q.val, t.q.tst || (u && (x 1).q.tst),
        t.q.der || decide (t.q.val.code < (x 1).q.val.code) || (u && (x 1).q.der)⟩
      exec (.tagSet w) s = .next (afterOp s c { pop := 2, push := [{ t with q := q }] })) ∧
    (Fits k 3 3 1 →
      tagCauses k [(.plain [.int, .nat, .fix, .flt, .tim, .adr, .ret], x 2),
        (.plain [.int, .nat, .fix, .flt, .tim, .adr, .ret], x 1), (.plain [.int, .nat], x 0)] = none →
      exec (.sel w) s = .next (afterOp s c
        { pop := 3, push := [{ (if (x 0).pay = 0 then x 1 else x 2) with q := q3 }] })) ∧
    (Fits k 0 0 1 →
      (tagCauses k [(.move, k.areg.word)] = none → exec (.aFetch w) s = .next (afterOp s c { push := [k.areg.word] })) ∧
      (1 ≤ k.rs.depth → tagCauses k [(.move, k.rs.peek 0)] = none →
        exec (.rFetch w) s = .next (afterOp s c { push := [k.rs.peek 0] })) ∧
      exec (.lcFetch w) s = .next (afterOp s c
        { push := [TWord.nat (w32 (match k.inner with | some l => l.now | none => 0))] }))

/-- R138, R45, R46, R305, R307: TIM.NOW gives the station time at the word as a pair with the clock's quality; TIM.ADDNS,
TIM.SUB and TIM.CMP work on unbroken pairs in whole nanoseconds, in two cycles. -/
def Obligations.TimeResults : Prop :=
  ∀ (s : State) (w : AWord), Quiet s w.core → Plain w → w.env.seq.fetches = [] →
    let c := w.core
    let k := at_ s c
    let x := k.ds.peek
    let ns (t : TWord) : Int := (t.pay.toNat % 2 ^ 30 : Nat)
    let good (a b : TWord) : Prop := a.ty = .tim ∧ b.ty = .tim ∧ b.pay.toNat / 2 ^ 30 = 1 ∧ b.pay.toNat % 2 ^ 30 ≤ 999999999
    let q3 := ((x 2).q.merge (x 1).q).merge (x 0).q
    let q4 := (((x 3).q.merge (x 2).q).merge (x 1).q).merge (x 0).q
    (Fits k 0 0 2 →
      let v := cntAt s w.env.sub
      exec (.timNow w) s = .next (afterOp s c
        { push := [⟨.tim, stcQual s, false, w32 (secOf v)⟩, ⟨.tim, stcQual s, false, w32 (2 ^ 30 + nsOf v)⟩], lat := 3 })) ∧
    (Fits k 3 3 2 → good (x 2) (x 1) → tagCauses k [(.move, x 2), (.move, x 1), (.plain [.int], x 0)] = none →
      let t : Int := (x 2).pay.toNat * 1000000000 + ns (x 1) + (x 0).pay.toInt
      let sec := BitVec.ofInt 32 (t / 1000000000)
      exec (.timAddns w) s = .next (afterOp s c
        { pop := 3, push := [⟨.tim, q3, false, sec⟩, ⟨.tim, q3, false, w32 (2 ^ 30 + (t % 1000000000).toNat)⟩]
          flags := some { k.flags with z := decide (sec = 0 ∧ t % 1000000000 = 0), n := sec.msb }, cycles := 2 })) ∧
    (good (x 3) (x 2) → good (x 1) (x 0) → Takes k 4 .move →
      let a : Int := (x 3).pay.toInt * 1000000000 + ns (x 2)
      let b : Int := (x 1).pay.toInt * 1000000000 + ns (x 0)
      (Fits k 4 4 1 →
        let r := BitVec.ofInt 32 (max (-2 ^ 31) (min (2 ^ 31 - 1) (a - b)))
        exec (.timSub w) s = .next (afterOp s c
          { pop := 4, push := [⟨.int, q4, false, r⟩], cycles := 2
            flags := some { k.flags with z := decide (r = 0), n := r.msb, v := decide (a - b < -2 ^ 31 ∨ 2 ^ 31 ≤ a - b) } })) ∧
      (Fits k 4 4 0 →
        let f : Flags := ⟨decide (a = b), decide (a < b), decide (a % 2 ^ 64 < b % 2 ^ 64), false, q4⟩
        exec (.timCmp w) s = .next (afterOp s c { pop := 4, flags := some f, cycles := 2 })))

/-- R95 to R97, R127, R174: a load delivers the bank word at distance 3, the word as it stood where the word before stored to
it; a store writes the word with its tag, and the word it replaces is what a load in the next word still sees. LD@A and
ST@A address A plus the displacement. -/
def Obligations.PairedLoadsAndStores : Prop :=
  ∀ (s : State) (w : AWord) (d : BitVec 8) (b : Nat), Quiet s w.core → Plain w →
    let c := w.core
    let k := at_ s c
    let n := 1 + waitOf c w.env b
    let far := k.areg.pay.toNat + d.toNat
    let load (pop : Nat) (x : TWord) : AOut := { pop := pop, push := [x], lat := 3 }
    let store (pop : Nat) : Core := { applyA c k { pop := pop } with staleNew := [(b, bankSeen s b)] }
    (∀ x, loadSees s k b = some x → b ∉ s.mem.bankBad → tagCauses k [(.move, x)] = none →
      (Fits k 1 1 1 → Takes k 1 .addr → Serves s c w.env k .read (k.ds.peek 0).pay.toNat b →
        ∃ t, exec (.ld w) s = .next t ∧ Leaves s t c (applyA c k (load 1 x)) n) ∧
      (Fits k 0 0 1 → tagCauses k [(.addr, k.areg.word)] = none → Serves s c w.env k .read far b →
        ∃ t, exec (.ldAtA w d) s = .next t ∧ Leaves s t c (applyA c k (load 0 x)) n)) ∧
    (eicWord b = none → (∀ m ∈ s.prck.migs, m.copying = false) →
      (Fits k 2 2 0 → tagCauses k [(.move, k.ds.peek 1), (.addr, k.ds.peek 0)] = none →
        Serves s c w.env k .write (k.ds.peek 0).pay.toNat b →
        ∃ t, exec (.st w) s = .next t ∧ Leaves (bankSet s b (k.ds.peek 1)) t c (store 2) n) ∧
      (Fits k 1 1 0 → tagCauses k [(.move, k.ds.peek 0), (.addr, k.areg.word)] = none → Serves s c w.env k .write far b →
        ∃ t, exec (.stAtA w d) s = .next t ∧ Leaves (bankSet s b (k.ds.peek 0)) t c (store 1) n))

/-- R89 to R94: what the return-stack moves do on a quiet bobbin. -/
def Obligations.ReturnStackMoves : Prop :=
  ∀ (s : State) (w : BWord), Quiet s w.core → PlainB w →
    let c := w.core
    let k := at_ s c
    let r := k.rs.peek
    let ends (rs : Stk) : State := wordEnd s c (onward (k.setRs rs)) 1
    (1 ≤ k.rs.depth → exec (.rdrop w) s = .next (ends (k.rs.drop 1))) ∧
    (1 ≤ k.rs.depth → k.rs.depth < 16 → (r 0).rsv = false → exec (.rdup w) s = .next (ends ((k.rs.drop 1).pushAll [r 0, r 0]))) ∧
    (2 ≤ k.rs.depth → (r 0).rsv = false → (r 1).rsv = false →
      exec (.rswap w) s = .next (ends ((k.rs.drop 2).pushAll [r 0, r 1])) ∧
      (k.rs.depth < 16 → exec (.rover w) s = .next (ends ((k.rs.drop 2).pushAll [r 1, r 0, r 1])))) ∧
    (k.rs.depth < 16 →
      (1 ≤ k.ds.depth → tagCauses k [(.move, k.ds.peek 0)] = none →
        exec (.rpushT w) s = .next (ends (k.rs.push (k.ds.peek 0)))) ∧
      (2 ≤ k.ds.depth → tagCauses k [(.move, k.ds.peek 1)] = none →
        exec (.rpushN w) s = .next (ends (k.rs.push (k.ds.peek 1)))))

/-- R92 to R94, R186: the operations on A, whose payload is taken modulo 2²⁴ on a bobbin: the steps, straight and circular
within the buffer of ACB and ACL; A set from TOS, NOS or RTOS where the source may be an address; A moved by TOS; LBRK,
which leaves the innermost active loop its present iteration. -/
def Obligations.AddressRegisterResults : Prop :=
  ∀ (s : State) (w : BWord) (d : BitVec 9), Quiet s w.core → PlainB w →
    let c := w.core
    let k := at_ s c
    let a : Int := k.areg.pay.toNat
    let base : Int := (k.acb.toNat % 2 ^ 24 : Nat)
    let len : Int := (k.acl.toNat % 2 ^ 16 : Nat)
    let toA (v : Int) : AReg := { k.areg with pay := BitVec.ofNat 48 (v % 2 ^ 24).toNat }
    let ends (x : AReg) : State := wordEnd s c (onward { k with areg := x }) 1
    let from_ (x : TWord) : AReg := ⟨x.ty, x.q, x.rsv, BitVec.ofNat 48 (x.pay.toNat % 2 ^ 24)⟩
    (tagCauses k [(.arith [.adr, .int, .nat], k.areg.word)] = none →
      exec (.aStep w d) s = .next (ends (toA (a + d.toInt))) ∧
      (len = 0 → exec (.aStepCirc w d) s = .next (ends (toA (a + d.toInt)))) ∧
      (len ≠ 0 → exec (.aStepCirc w d) s = .next (ends (toA (base + (a - base + d.toInt) % len))))) ∧
    (1 ≤ k.ds.depth → aSource k (k.ds.peek 0) true = none → exec (.aSetTos w) s = .next (ends (from_ (k.ds.peek 0)))) ∧
    (2 ≤ k.ds.depth → aSource k (k.ds.peek 1) true = none → exec (.aSetNos w) s = .next (ends (from_ (k.ds.peek 1)))) ∧
    (1 ≤ k.rs.depth → aSource k (k.rs.peek 0) false = none → exec (.aSetRtos w) s = .next (ends (from_ (k.rs.peek 0)))) ∧
    (1 ≤ k.ds.depth → tagCauses k [(.arith [.adr, .int, .nat], k.areg.word), (.arith [.int, .nat], k.ds.peek 0)] = none →
      let step : Int := if (k.ds.peek 0).ty = .int then (k.ds.peek 0).pay.toInt else (k.ds.peek 0).pay.toNat
      exec (.aAddTos w) s = .next (ends { toA (a + step) with q := k.areg.q.merge (k.ds.peek 0).q })) ∧
    (k.loops = [] → exec (.lbrk w) s = .next (wordEnd s c (onward k) 1)) ∧
    (∀ l t, k.loops = l :: t → l.stop - 1 - k.pc ≥ 3 →
      exec (.lbrk w) s = .next (wordEnd s c (onward { k with loops := { l with left := min 1 l.now, taken := false } :: t }) 1))

/-- R87, R88, R110: the long-format literals push a good word of their type; LIT.H replaces payload [31:22] of TOS. -/
def Obligations.LiteralsPushTheirWord : Prop :=
  ∀ (s : State) (w : LWord) (v : BitVec 22) (h : BitVec 10), Quiet s w.core → PlainL w →
    let c := w.core
    let k := at_ s c
    let lit (t : Ty) (x : W32) : State := afterOp s c { push := [TWord.ofTy t x] }
    (Fits k 0 0 1 →
      exec (.litI w v) s = .next (lit .int (v.signExtend 32)) ∧
      exec (.litN w v) s = .next (lit .nat (v.setWidth 32)) ∧
      exec (.litF w v) s = .next (lit .flt (v ++ 0#10)) ∧
      exec (.litA w v) s = .next (lit .adr (v.setWidth 32)) ∧
      (v.msb = false → exec (.litX w v) s = .next (lit .fix ((v.setWidth 21).signExtend 32))) ∧
      (v.msb = true → exec (.litX w v) s = .next (lit .fix ((v.setWidth 21) ++ 0#11)))) ∧
    (Fits k 1 1 1 → Takes k 1 (.plain [.int, .nat, .fix, .flt, .tim, .adr, .ret]) →
      let t := k.ds.peek 0
      exec (.litH w h) s = .next (afterOp s c { pop := 1, push := [{ t with pay := h ++ t.pay.setWidth 22 }] }))

/-- R96, R97, R127, R128, R174: the absolute and strand-local accesses of a quiet bobbin, and the two bank atomics. ATADD
writes the sum back and delivers it with its flags three words later; ATSWP exchanges a word and its tag. Strand-local cell
n is context word 40 + n of the strand on the bobbin. -/
def Obligations.LongLoadsStoresAndAtomics : Prop :=
  ∀ (s : State) (w : LWord) (a : BitVec 22) (i : BitVec 5) (b : Nat), Quiet s w.core → PlainL w →
    let c := w.core
    let k := at_ s c
    let n := 1 + waitOf c w.env b
    let t := k.ds.peek 0
    let load (x : TWord) : AOut := { push := [x], lat := 3 }
    let noting (x : Core) : Core := { x with staleNew := [(b, bankSeen s b)] }
    let plainBank : Prop := eicWord b = none ∧ ∀ m ∈ s.prck.migs, m.copying = false
    (Fits k 0 0 1 → ∀ x, loadSees s k b = some x → b ∉ s.mem.bankBad → tagCauses k [(.move, x)] = none →
      Serves s c w.env k .read a.toNat b → ∃ u, exec (.ldG w a) s = .next u ∧ Leaves s u c (applyA c k (load x)) n) ∧
    (Fits k 1 1 0 → tagCauses k [(.move, t)] = none → plainBank → Serves s c w.env k .write a.toNat b →
      ∃ u, exec (.stG w a) s = .next u ∧ Leaves (bankSet s b t) u c (noting (applyA c k { pop := 1 })) n) ∧
    (∀ o, k.strand = some o → i.toNat ≤ 23 → b = ctxAddr (pilOf c) o.slot (40 + i.toNat) → bankServes s b = true →
      w.env.bankWait ≤ 17 → w.env.remoteWait ≤ 200 →
      (Fits k 0 0 1 → w.env.ecc = .clean → ∀ x, loadSees s k b = some x → b ∉ s.mem.bankBad → tagCauses k [(.move, x)] = none →
        ∃ u, exec (.ldl w i) s = .next u ∧ Leaves s u c (applyA c k (load x)) n) ∧
      (Fits k 1 1 0 → tagCauses k [(.move, t)] = none → plainBank →
        ∃ u, exec (.stl w i) s = .next u ∧ Leaves (bankSet s b t) u c (noting (applyA c k { pop := 1 })) n)) ∧
    (Fits k 2 2 1 → plainBank → Serves s c w.env k .atomic t.pay.toNat b → b ∉ s.mem.bankBad →
      let x := bankGet s b
      let y := k.ds.peek 1
      (tagCauses k [(.arith [.int, .nat], y), (.addr, t)] = none → tagCauses k [(.arith [.int, .nat], x)] = none →
        let q := (x.q.merge y.q).merge t.q
        let r := x.pay + y.pay
        let sum : TWord := ⟨if x.ty = .int ∨ y.ty = .int then .int else .nat, q, false, r⟩
        let v := x.pay.toInt + y.pay.toInt
        let k1 := applyA c k { pop := 2, push := [sum], lat := 3 }
        let late : Landing := .flags (decide (r = 0)) r.msb (decide (2 ^ 32 ≤ x.pay.toNat + y.pay.toNat))
          (decide (v < -2 ^ 31 ∨ 2 ^ 31 ≤ v)) q
        ∃ u, exec (.atadd w) s = .next u ∧
          Leaves (bankSet s b sum) u c (noting { k1 with flight := k1.flight ++ [⟨3, late⟩] }) n) ∧
      (tagCauses k [(.move, y), (.addr, t)] = none → tagCauses k [(.move, x)] = none →
        ∃ u, exec (.atswp w) s = .next u ∧
          Leaves (bankSet s b y) u c (noting (applyA c k { pop := 2, push := [x], lat := 3 })) n))

/-- R144, R271, R183: CTL.RD of a bobbin's control registers, and CTL.WR of those that software may write: a mode takes
effect at distance 3, the others at once. -/
def Obligations.ControlRegisterAccess : Prop :=
  ∀ (s : State) (w : LWord), Quiet s w.core → PlainL w →
    let c := w.core
    let k := at_ s c
    let t := k.ds.peek 0
    let v := t.pay
    let got (n : Nat) (x : TWord) : Prop := exec (.ctlRd w n) s = .next (afterOp s c { push := [x] })
    let put (n : Nat) (f : Core → Core) : Prop :=
      exec (.ctlWr w n) s = .next (wordEnd s c (onward (f (applyA c k { pop := 1 }))) 1)
    (Fits k 0 0 1 →
      got 0 (TWord.nat (statusWord c k)) ∧
      got 1 (TWord.nat (w32 (k.modes.rm.code + k.sticky % 32 * 2 ^ 4 + k.traps % 32 * 2 ^ 12))) ∧
      got 2 (TWord.nat k.acb) ∧ got 3 (TWord.nat k.acl) ∧ got 4 (TWord.nat k.crcPoly) ∧ got 5 (TWord.nat k.crcCfg) ∧
      (k.fillw.ty = .ret → k.modes.level ≠ .u → got 6 k.fillw) ∧ (k.fillw.ty ≠ .ret → got 6 k.fillw) ∧
      (∀ o x, k.strand = some o → strand s o.idx = some x → got 7 (TWord.nat (w32 k.budgetLeft)) ∧ got 8 (TWord.nat x.id))) ∧
    (Fits k 1 1 0 →
      (Takes k 1 (.plain [.int, .nat]) →
        put 2 (fun x => { x with acb := w32 (v.toNat % 2 ^ 24) }) ∧
        put 3 (fun x => { x with acl := w32 (v.toNat % 2 ^ 16) }) ∧
        put 4 (fun x => { x with crcPoly := v }) ∧
        put 5 (fun x => { x with crcCfg := w32 (v.toNat % 2 ^ 11) }) ∧
        put 1 (fun x => { x with
          sticky := v.toNat / 2 ^ 4 % 2 ^ 5, traps := v.toNat / 2 ^ 12 % 2 ^ 5
          flight := [⟨3, .modes { x.modes with rm := Rm.ofCode (v.toNat % 2 ^ 2) }⟩] }) ∧
        (k.modes.level ≠ .u → v.toNat % 4 ≠ 3 → v.toNat % 4 ≤ k.modes.level.code → (k.pset = true → v.toNat % 4 ≠ 0) →
          runsP s k = false →
          put 0 (fun x => { x with
            flight := [⟨3, .modes (modesOf v)⟩, ⟨3, .flags (bit v 11) (bit v 12) (bit v 13) (bit v 14)
              ⟨Val.ofCode (bits v 15 2), bit v 17, bit v 18⟩⟩] }))) ∧
      (Takes k 1 .move → put 6 (fun x => { x with fillw := t })))

/-- R85, R99, R129, R130, R185: BR, CALL, RET, JMP.T and CALL.T of a quiet bobbin leave their target to the delay slot; RET,
JMP.T and CALL.T cost a bubble after it. A call pushes the address of the word after its slot as a RET; a branch that is no
call ends the innermost loop when it leaves its body. -/
def Obligations.ControlTransfers : Prop :=
  ∀ (s : State) (w : LWord) (off : BitVec 22), Quiet s w.core → PlainL w →
    let c := w.core
    let k := at_ s c
    let d := k.ds.peek 0
    let r := k.rs.peek 0
    let link := TWord.ofTy .ret (w32 ((k.pc + 2) % 2 ^ 16))
    let jump (x : Core) (t b : Nat) : Core := slotted x (.branch t b (Leaving k t))
    let call (x : Core) (t b : Nat) : Core := { slotted (x.setRs (x.rs.push link)) (.branch t b false) with lbActive := false, lbCap := false }
    (∀ t : Nat, (t : Int) = k.pc + off.toInt → t < 65536 →
      exec (.br w off) s = .next (wordEnd s c (jump k t 0) 1) ∧
      (k.rs.depth < 16 → exec (.call w off) s = .next (wordEnd s c (call k t 0) 1))) ∧
    (1 ≤ k.rs.depth → r.ty = .ret → r.rsv = false → r.pay.toNat < 2 ^ 16 →
      exec (.ret w) s = .next (wordEnd s c (jump (k.setRs (k.rs.drop 1)) r.pay.toNat 1) 2)) ∧
    (1 ≤ k.ds.depth → tagCauses k [(.addr, d)] = none → d.pay.toNat < 2 ^ 16 →
      let x := k.setDs (k.ds.drop 1)
      exec (.jmpT w) s = .next (wordEnd s c (jump x d.pay.toNat 1) 2) ∧
      (k.rs.depth < 16 → exec (.callT w) s = .next (wordEnd s c (call x d.pay.toNat 1) 2)))

/-- R130, R182, R185: the word in a delay slot runs, then the flow is at the target, after the branch's bubbles; a branch that
ends the innermost loop has ended it there. A slot after a branch that is not taken goes on in sequence. -/
def Obligations.DelaySlotsRunBeforeTheTarget : Prop :=
  ∀ (s : State) (w : AWord) (t b : Nat) (ends : Bool), Plain w → t < 65536 →
    let c := w.core
    let k := at_ s c
    (Still s c (some (.branch t b ends)) →
      let out : Core := if ends then { k with loops := k.loops.tail, lbCap := false } else k
      exec (.nop w) s = .next (wordEnd s c { placedAt out t with bubbles := b } 1)) ∧
    (Still s c (some .fallThrough) → exec (.nop w) s = .next (wordEnd s c (onward k) 1))

/-- R63, R86, R186: LOOP and LOOP.I set a loop up behind its S − 1 words; LOOP takes a NAT or an INT that is not negative.
A zero count from TOS with S = 2 costs a bubble, in the place of the body word that it skips. -/
def Obligations.LoopsAreSetUp : Prop :=
  ∀ (s : State) (w : LWord) (dist : BitVec 6) (len : BitVec 16) (n : BitVec 10) (short : BitVec 6), Quiet s w.core → PlainL w →
    let c := w.core
    let k := at_ s c
    let d := k.ds.peek 0
    let looped (x : Core) (l m : Nat) : Core :=
      { onward x with
        loops := ⟨k.pc + dist.toNat, k.pc + dist.toNat + l, m, false, false⟩ :: k.loops
        lbActive := false, lbCap := false }
    2 ≤ dist.toNat → k.loops.length < 2 →
      (len ≠ 0 → k.pc + dist.toNat + len.toNat ≤ 65536 → 1 ≤ k.ds.depth → tagCauses k [(.plain [.int, .nat], d)] = none →
        (d.ty = .int → d.pay.msb = false) →
        exec (.loop w dist len) s = .next (wordEnd s c { looped (k.setDs (k.ds.drop 1)) len.toNat d.pay.toNat with
          late := if d.pay = 0 ∧ dist = 2 then [(1, 1)] else [] } 1)) ∧
      (short ≠ 0 → k.pc + dist.toNat + short.toNat ≤ 65536 →
        exec (.loopI w dist n short) s = .next (wordEnd s c (looped k short.toNat n.toNat) 1))

/-- R131, R185, R187, R86: after the last body word comes the body's start, while iterations are left, at no cost; after the
last iteration the word behind the body, the loop over. A loop whose count is 0 is skipped when its body is reached. -/
def Obligations.LoopsTakeTheirBackEdges : Prop :=
  ∀ (s : State) (w : AWord) (l : Loop), Plain w →
    let c := w.core
    let k := at_ s c
    (AtEdge s c l →
      (1 < l.now → exec (.nop w) s = .next (wordEnd s c
        { placedAt k l.start with loops := [{ l with left := l.now - 1, taken := false }], lbActive := k.lbCap } 1)) ∧
      (l.now ≤ 1 → exec (.nop w) s = .next (wordEnd s c { onward k with loops := [], lbCap := false } 1))) ∧
    (Quiet (setCore s c { core s c with loops := [] }) c → (core s c).loops = [l] → l.entered = false → l.start = (core s c).pc + 1 →
      l.stop < 65536 →
      (l.left = 0 → exec (.nop w) s = .next (wordEnd s c { placedAt k l.stop with loops := [] } 1)) ∧
      (l.left ≠ 0 → exec (.nop w) s = .next (wordEnd s c { onward k with loops := [{ l with entered := true }] } 1)))

/-- R75, R76, R282, R283, R288, R289: a word that no row carries raises IL, vector 1; the bobbin pushes a frame of seven cells
onto its privileged set and stands at the handler of entry 1, or of entry 0 with ESC and MASK 7 where MASK was 7. Memory, the
other cores and the other pages' registers stay. -/
def Obligations.IllegalWordsEnterTheirHandler : Prop :=
  ∀ (s : State) (w : LWord) (form : IllegalForm) (d : Desc), Quiet s w.core → Calm w.env → Enters w.env →
    let c := w.core
    let k := at_ s c
    let esc := decide (k.modes.mask = 7)
    Stays s c → k.esc = false → k.rsP.depth ≤ 9 → Describes s c (if esc then 0 else 1) k.modes.level d →
    ∃ t fr, exec (.illegalInstruction w form) s = .next t ∧ FrameOf c k (1 + at' (decide (k.modes.level = .u)) 11) k.pc fr ∧
      EnteredAs k (core t c) d (if esc then 7 else d.mask) esc fr ∧ Beside s t c ∧ t.mem = s.mem

/-- R193, R286, R287, R515, R516: a bobbin at a recognition point enters the interrupt that the EIC presents above its MASK,
at entry 32 + its priority; the entry claims the source, and the claim word stands in the target's record and in the claim
cell of bank 5. Every other word of the banks stays. -/
def Obligations.InterruptsAreEnteredAndClaimed : Prop :=
  ∀ (s : State) (c n p : Nat) (e : Env) (d : Desc), Enters e →
    let k := core s c
    let cell := bankAddr (pilOf c) 5 (0x6FC0 + c % 16)
    c < 256 → Stays s c → dbgLevel s = 0 → (k.pstate = .strand ∨ k.pstate = .system ∨ k.pstate = .idle) → k.delay = none → k.haltReq = .none →
    k.flight = [] → (k.budgetPend && k.strand.isSome) = false → k.lbePend = false → runsP s k = false → presented s (c + 1) = some (n, p) → k.modes.mask < (p + 1) / 2 →
    p ≤ 15 → k.rsP.depth ≤ 9 → Describes s c (32 + p) k.modes.level d →
    ∃ t fr, exec (.interruptEntry c e) s = .next t ∧ FrameOf c k (32 + p + at' (decide (k.modes.level = .u)) 11) k.pc fr ∧
      EnteredAs k (core t c) d d.mask k.esc fr ∧
      (tgt t (c + 1)).lastClaim = w32 (n + p * 2 ^ 16 + 2 ^ 31) ∧ (tgt t (c + 1)).stack = (n, p) :: (tgt s (c + 1)).stack ∧
      (n < 1024 → (esrc t n).active = true ∧ (esrc t n).pend = false) ∧
      bankGet t cell = TWord.nat (w32 (n + p * 2 ^ 16 + 2 ^ 31)) ∧ (∀ b, b ≠ cell → bankGet t b = bankGet s b) ∧
      ∀ e, e ≠ c → core t e = core s e

/-- R130, R279: GATE leaves its call to its delay slot. -/
def Obligations.GatesWaitForTheirSlot : Prop :=
  ∀ (s : State) (w : LWord) (n : BitVec 10), Quiet s w.core → PlainL w →
    let c := w.core
    let k := at_ s c
    exec (.gate w n) s = .next (wordEnd s c { slotted k (.gate n.toNat k.pc) with lbActive := false, lbCap := false } 1)

/-- R278 to R282, R130: once the word in its slot has run, GATE n, called from a level that entry n admits, with its arguments
of the signature's types on the stack and room for the entry, starts the handler at its level and mask: with the frame on the
return stack of the handler's set and the arguments copied to its data stack. The caller's arguments stay. -/
def Obligations.GatesStartTheirHandler : Prop :=
  ∀ (s : State) (w : AWord) (n pc : Nat) (d : Desc), Still s w.core (some (.gate n pc)) → Plain w → Enters w.env →
    let c := w.core
    let k := at_ s c
    let args := k.top d.argc
    let priv := k.pset || decide (d.level ≠ .u)
    Stays s c → 64 ≤ n → n < 1024 → pc < 65536 → Describes s c n k.modes.level d → (k.modes.level = .u → d.uCall = true) → (k.modes.level = .s → d.sCall = true) →
    d.argc ≤ k.ds.depth → k.ds.depth + (d.resc - d.argc) ≤ 16 →
    (if priv then k.dsP.depth else k.dsU.depth) + d.argc + d.dsFree ≤ 16 →
    (if priv then k.rsP.depth else k.rsU.depth) + 7 + d.rsFree ≤ 16 →
    sigFail (decide (k.modes.level = .u)) d.sig 0 ((List.range d.argc).map k.ds.peek) none = none →
    ∃ t fr, exec (.nop w) s = .next t ∧ Beside s t c ∧ t.mem = s.mem ∧
      FrameOf c k (n + at' (decide (k.modes.level = .u ∧ d.level ≠ .u)) 11) (k.pc + 1) fr ∧
      core t c = { settledCore k with
        pc := d.handler
        lastPc := k.pc
        bpPass := false
        modes := { k.modes with level := d.level, mask := d.mask }
        dsP := if priv then k.dsP.pushAll args else k.dsP
        rsP := if priv then k.rsP.pushAll fr else k.rsP
        dsU := if priv then k.dsU else k.dsU.pushAll args
        rsU := if priv then k.rsU else k.rsU.pushAll fr
        gateReg := if priv ∧ k.modes.level = .u then some ⟨d.argc, d.resc, k.dsP.depth, k.rsP.depth⟩ else k.gateReg
        pset := k.pset || decide (d.level ≠ .u)
        condNow := snapOf { k with
          pset := priv, dsP := if priv then k.dsP.pushAll args else k.dsP, dsU := if priv then k.dsU else k.dsU.pushAll args }
        budgetLeft := (core t c).budgetLeft
        budgetPend := (core t c).budgetPend }


/-! ### The common header and the roles -/

/-- R690, R681, R8, R689: writes of the common header's command registers reach a page whose unit has power. UNIT_CTRL of a unit
that stays enabled or disabled is written in CONFIGURE and SERVICE while LOCK is 0; ERR_INJECT sets every error bit written
that the unit has and leaves every other register; IRQ_SET adds interrupt bits; RECOVERY_CLR clears the count. A page without
power keeps its registers and the write is a warning event. -/
def Obligations.HeaderCommandsActOnPoweredPages : Prop :=
  ∀ (s : State) (page i : Nat) (u : RUnit) (v : W32), pageUnit page = some (u, i) →
    (pagePowered s page = true → (curMode s).cfgSvc = true → rdB s page 0x008 3 = false → rdB s page 0x008 0 = bit v 0 →
      exec (.unitCtrlWrite page v) s = .next (wr s page 0x008 (v &&& 0xF))) ∧
    (pagePowered s page = true → u.shortHeader = false → snagAllowed s = true →
      ∃ t, exec (.errInject page v) s = .next t ∧
        (∀ n < 32, rdB t page 0x010 n = (rdB s page 0x010 n || (decide (n < u.nErr) && bit v n))) ∧
        (∀ q o, o < 0x1000 → (q ≠ page ∨ o ≠ 0x010) → rd t q o = rd s q o) ∧
        t = { s with regs := t.regs, selv := { s.selv with occ := t.selv.occ } }) ∧
    (pagePowered s page = true → u.shortHeader = false →
      exec (.irqSet page v) s = .next (wr s page 0x024 (rd s page 0x024 ||| (v &&& w32 u.irqMask))) ∧
      exec (.recoveryClr page v) s = .next (if bit v 0 then wr s page 0x040 0 else s)) ∧
    (pagePowered s page = false → exec (.unitCtrlWrite page v) s = .next (warnEvent s page) ∧
      (u.shortHeader = false → exec (.errInject page v) s = .next (warnEvent s page) ∧
        exec (.irqSet page v) s = .next (warnEvent s page) ∧ exec (.recoveryClr page v) s = .next (warnEvent s page)))

/-- R22 to R29: a manager or standby manager sends one heartbeat in each millisecond of STC time; a heartbeat of a manager in a
running mode that passes the frame checks makes the manager present, and of two managers the one with the higher number
becomes a worker and marks the conflict; after 10 ms without one a standby manager takes over, and after 20 ms the loss is a
standing error. -/
def Obligations.RolesFollowTheHeartbeats : Prop :=
  ∀ s : State, curMode s ≠ .off →
    ((s.glb.role = 2 ∨ s.glb.role = 3) → stcMs s ≠ s.glb.hbSentAt →
      exec .managerHeartbeatSend s = .next (interSend { s with glb := { s.glb with hbSentAt := stcMs s } } 3 0x7FF 8
        (.mgrHb s.glb.role s.mode.cur.code s.prck.dirGen))) ∧
    (∀ (f : MgrHb) (t : State), interRx s f.h = (true, t) → t.glb.role ≠ 0 → f.role = 2 → 5 ≤ f.mode → f.mode < 10 →
      f.h.src ≠ t.glb.engineNum → ∃ u, exec (.managerHeartbeatRx f) s = .next u ∧ u.glb.present = true ∧
        u.glb.lastMgr = some f.h.src ∧ u.glb.lastAt = t.now ∧ rdB u pgGLB 0x014 1 = false ∧
        (t.glb.role = 2 ∧ f.h.src < t.glb.engineNum → u.glb.role = 1 ∧ u.glb.conflict = true ∧
          rdB u pgGLB 0x010 0 = true ∧ rdB u pgGLB 0x024 2 = true) ∧
        (t.glb.role ≠ 2 ∨ t.glb.engineNum ≤ f.h.src → u.glb.role = t.glb.role ∧ u.glb.conflict = t.glb.conflict) ∧
        (t.glb.present = false ∨ t.glb.lastMgr ≠ some f.h.src → rdB u pgGLB 0x024 1 = true)) ∧
    (s.glb.role = 3 → s.glb.lastAt + 10 * msN ≤ s.now → ∃ t, exec .managerTakeover s = .next t ∧ t.glb.role = 2 ∧
      t.glb.takeover = true ∧ t.glb.present = false ∧ rdB t pgGLB 0x024 0 = true ∧ t.glb.engineNum = s.glb.engineNum) ∧
    (s.glb.role ≠ 0 → s.glb.lastAt + 20 * msN ≤ s.now → ∃ t, exec .managerLost s = .next t ∧ t.glb.present = false ∧
      rdB t pgGLB 0x014 1 = true ∧ t.glb.role = s.glb.role ∧
      (rdB s pgGLB 0x014 1 = false → rdB t pgGLB 0x010 1 = true) ∧
      (s.glb.present = true → rdB t pgGLB 0x024 1 = true))

/-! ### The interrupt controller -/

/-- R511 to R519, R526 to R532: an edge makes an edge source pending, or is merged and counted; the spindle's read of its
claim register claims the presented source, and through the mirror only shows it; a completion of the topmost source takes it
off the stack and makes a level source inactive, and one that names another is an order fault; the spindle's registers of
sources, software edges, private edges, the timer and the counts. -/
def Obligations.InterruptControllerCommands : Prop :=
  ∀ s : State, pagePowered s pgEIC = true →
    (∀ n, isEdgeSrc n = true → (esrc s n).pend = false → (esrc s n).active = false →
      exec (.eicSourceEvent n true) s = .next (setSrc s n { esrc s n with pend := true })) ∧
    (∀ n, isEdgeSrc n = true → ((esrc s n).pend = true ∨ (esrc s n).active = true) →
      let t := setSrc s n { esrc s n with
        merged := min 255 ((esrc s n).merged + 1), edgeAct := (esrc s n).edgeAct || (esrc s n).active }
      exec (.eicSourceEvent n true) s = .next (if (esrc s n).merged < 255 then raiseIrq t pgEIC 1 else t)) ∧
    (∀ n p off, off % 4 = 0 → presented s 0 = some (n, p) → n < 1024 → (esrc s n).redir = false →
      (∃ t, exec (.eicClaim 0 ⟨false, off, 4⟩) s = .next t ∧ t.lastAccess = .data (w32 (n + p * 2 ^ 16 + 2 ^ 31)) ∧
        (tgt t 0).stack = (n, p) :: (tgt s 0).stack ∧ (esrc t n).active = true ∧ (esrc t n).pend = false ∧
        (∀ m, m ≠ n → esrc t m = esrc s m) ∧ (∀ e, e ≠ 0 → tgt t e = tgt s e) ∧ t.regs = s.regs ∧ t.cores = s.cores) ∧
      exec (.eicClaim 0 ⟨true, off, 4⟩) s = .next { s with lastAccess := .data (w32 (n + p * 2 ^ 16 + 2 ^ 31)) }) ∧
    (∀ v n p rest, bits v 0 11 = n → n < 1024 → (tgt s 0).stack = (n, p) :: rest → (esrc s n).held = none →
      exec (.eicComplete 0 v true) s = .next (setSrc (setTgt s 0 { tgt s 0 with stack := rest }) n
        { esrc s n with active := false, pend := (esrc s n).edgeAct, edgeAct := false })) ∧
    (∀ v n p rest, bits v 0 11 ≠ n → (tgt s 0).stack = (n, p) :: rest →
      ∃ t, exec (.eicComplete 0 v true) s = .next t ∧ rdB t pgEIC 0x010 0 = true ∧
        t.selv.eicFaults = s.selv.eicFaults ++ [0] ∧ t.eic.tgts = s.eic.tgts ∧ t.eic.srcs = s.eic.srcs ∧
        (s.eic.orderFault = none → t.eic.orderFault = some (0, bits v 0 11))) ∧
    (∀ v n, n = rdF s pgEIC 0x088 0 10 → (isEdgeSrc n || isLevelSrc n) = true → bits v 4 9 ≤ 256 →
      ((esrc s n).active = true →
        exec (.eicSrcCfgWrite v) s = .next (setSrc s n { esrc s n with held := some (bits v 4 9, bits v 0 4, bit v 14) })) ∧
      ((esrc s n).active = false →
        let out := !tgtInService s (bits v 4 9)
        let t := setSrc s n { esrc s n with target := bits v 4 9, prio := bits v 0 4, en := bit v 14, held := none, redir := out }
        exec (.eicSrcCfgWrite v) s = .next (if (esrc s n).redir = out then t else raiseIrq t pgEIC 0))) ∧
    (∀ v, bits v 0 10 < 768 → exec (.eicSwSet v) s = .next s) ∧
    (∀ v n, n = bits v 0 10 → 768 ≤ n → n < 1024 → (esrc s n).pend = false → (esrc s n).active = false →
      exec (.eicSwSet v) s = .next (setSrc s n { esrc s n with pend := true })) ∧
    (∀ target v, target ≤ 256 →
      let x := tgt s target
      let active := boolWord 32 fun j => x.stack.any fun e => decide (e.1 = 1024 + j)
      exec (.eicTPrivSet target v) s = .next (setTgt s target { x with
        privPend := x.privPend ||| (v &&& 0xFF00 &&& ~~~ active), privHeld := x.privHeld ||| (v &&& 0xFF00 &&& active) })) ∧
    (∀ target d, (tgt s target).timer = some d → d ≤ s.stc.cnt + s.stc.incr → (tgt s target).offline = false →
      (∀ e ∈ (tgt s target).stack, e.1 ≠ 1024) →
      ∃ t, exec (.eicTimerExpire target) s = .next t ∧ (tgt t target).timer = none ∧
        (tgt t target).privPend = setBit (tgt s target).privPend 0 ∧ (∀ e, e ≠ target → tgt t e = tgt s e) ∧
        t.eic.srcs = s.eic.srcs) ∧
    (∃ t, exec .eicCntClr s = .next t ∧ t.eic.orderFault = none ∧
      (∀ n, esrc t n = { esrc s n with merged := 0 }) ∧ (∀ n, tgt t n = { tgt s n with spurious := 0 }) ∧
      t = { s with eic := t.eic })

/-! ### Station time -/

/-- R303, R304, R305, R315, R317, R325: the commands that move the counter. An edge of the always-on clock with no time waiting
advances the counter by the increment of the period that ends, and takes the next one; on REF_IN it tells an interpolator that leaves
its range; and what the units' own checks report arises. The end of a slew changes nothing of the period in progress. A correction too
large to slew waits as a step, a smaller one is slewed, and in modes 1 and 2 the write is refused; SET_NOW and SET_AT_EDGE wait for their edge, a nanosecond count out of range is refused; losing and regaining REF_IN changes
the source of the increment and tells it. -/
def Obligations.TheCounterAdvancesSlewsAndSteps : Prop :=
  ∀ s : State, curMode s ≠ .off →
    (∀ o : EdgeObs, s.stc.setNow = none → s.stc.stepBy = none → s.stc.ppsOut = false →
      exec (.refInEdge o) s = .next (
        let t := takeIncr { s with
          now := s.now + clkPeriod s / 2 ^ 28
          stc := { s.stc with cnt := s.stc.cnt + s.stc.incr, adjLeft := s.stc.adjLeft - s.stc.slew } }
        let u :=
          if s.clk.onIntOsc = true ∨ s.stc.calBad = !o.calOk then t
          else if o.calOk = true then { t with stc := { t.stc with calBad := false } }
          else raiseErr { t with stc := { t.stc with calBad := true } } pgSTC 7
        o.seen.foldl selfCheck (if o.agree then u else raiseErr u pgSELV 4))) ∧
    exec .slewDone s = .next s ∧
    (∀ v : W32, stcMode s ≠ 1 → stcMode s ≠ 2 → exec (.stcAdjWrite v) s = .next (
      if slewLimit s < v.toInt.natAbs * 16 then
        { s with stc := { s.stc with stepBy := some (s.stc.stepBy.getD 0 + v.toInt * nsU) } }
      else { s with stc := { s.stc with adjLeft := s.stc.adjLeft + v.toInt * nsU } })) ∧
    (∀ v : W32, stcMode s = 1 ∨ stcMode s = 2 → exec (.stcAdjWrite v) s = .next (warnEvent s pgSTC)) ∧
    (rdF s pgSTC 0x0C8 0 30 ≤ 999999999 →
      exec .stcSetNow s = .next { s with stc := { s.stc with
        setNow := some (rdF s pgSTC 0x0C0 0 16 * 2 ^ 32 + (rd s pgSTC 0x0C4).toNat, rdF s pgSTC 0x0C8 0 30) } } ∧
      exec .stcSetAtEdge s = .next { s with stc := { s.stc with
        setEdge := some (rdF s pgSTC 0x0C0 0 16 * 2 ^ 32 + (rd s pgSTC 0x0C4).toNat) } }) ∧
    (999999999 < rdF s pgSTC 0x0C8 0 30 →
      exec .stcSetNow s = .next (warnEvent s pgSTC) ∧ exec .stcSetAtEdge s = .next (warnEvent s pgSTC)) ∧
    (s.clk.onIntOsc = false → ∃ t, exec .refInLost s = .next t ∧ t.clk = { s.clk with onIntOsc := true } ∧
      t.stc = { s.stc with traceable := false, incr := s.clk.intOsc, slew := 0 } ∧ rdB t pgSTC 0x014 0 = true ∧
      rdB t pgCLK 0x024 0 = true ∧ t = { s with regs := t.regs, clk := t.clk, stc := t.stc, selv := t.selv }) ∧
    (s.clk.onIntOsc = true →
      let back := condEnd { s with clk := { s.clk with onIntOsc := false } } pgSTC 0
      exec .refInReturn s = .next (takeIncr (raiseIrq (stcResume back) pgCLK 0)) ∧
      let x := s.stc
      (x.st = .unset ∨ ((x.st = .locked ∨ x.st = .acquiring) ∧ x.src ≠ 0 ∧ x.disagree = false) ∨
        ((x.st = .freeRun ∨ x.st = .holdover) ∧ (x.src = 0 ∨ x.disagree = true)) → ∃ t, exec .refInReturn s = .next t ∧ t.clk = { s.clk with onIntOsc := false } ∧
        t.stc.cnt = s.stc.cnt ∧ t.stc.st = s.stc.st ∧ t.stc.traceable = s.stc.traceable ∧ rdB t pgSTC 0x014 0 = false ∧
        rdB t pgCLK 0x024 0 = true ∧ t = { s with regs := t.regs, clk := t.clk, stc := t.stc }))

/-- R305, R306, R326, R327, R331: the snapshot holds the interpolated counter; the leap second moves the UTC offset when SEC
becomes LEAP_AT; the output pulse starts at a whole second and lasts the programmed time; the counts clear. -/
def Obligations.TimeIsShownAndAdjusted : Prop :=
  ∀ s : State, curMode s ≠ .off →
    (∀ sub, exec (.stcSnap sub) s = .next (
      let c := cntAt s sub
      wr (wr (wr (wr s pgSTC 0x0CC (w32 (secOf c / 2 ^ 32))) pgSTC 0x0D0 (w32 (secOf c))) pgSTC 0x0D4 (w32 (nsOf c)))
        pgSTC 0x0D8 (w32 (fracOf c)))) ∧
    (∃ t, exec .stcCntClr s = .next t ∧ rdF t pgSTC 0x0E8 0 16 = 0 ∧ rdF t pgSTC 0x0EC 0 16 = 0 ∧
      rdF t pgSTC 0x0E8 16 16 = rdF s pgSTC 0x0E8 16 16 ∧ rdF t pgSTC 0x0EC 16 16 = rdF s pgSTC 0x0EC 16 16 ∧
      t = { s with regs := t.regs } ∧
      ∀ q o, o < 0x1000 → (q ≠ pgSTC ∨ (o ≠ 0x0E8 ∧ o ≠ 0x0EC)) → rd t q o = rd s q o) ∧
    (secOf s.stc.cnt = rdF s pgSTC 0x0E4 0 16 * 2 ^ 32 + (rd s pgSTC 0x0E0).toNat →
      (rdB s pgSTC 0x0DC 16 = true → exec .leapApply s =
        .next (raiseIrq (wr s pgSTC 0x0DC (w32 ((rdF s pgSTC 0x0DC 0 16 + 1) % 65536))) pgSTC 4)) ∧
      (rdB s pgSTC 0x0DC 16 = false → rdB s pgSTC 0x0DC 17 = true → exec .leapApply s =
        .next (raiseIrq (wr s pgSTC 0x0DC (w32 ((rdF s pgSTC 0x0DC 0 16 + 65535) % 65536))) pgSTC 4))) ∧
    ((s.stc.st = .locked ∨ s.stc.st = .holdover ∨ rdB s pgSTC 0x080 3 = true) →
      (phaseErr (s.stc.cnt + (BitVec.ofNat 16 (rdF s pgSTC 0x100 16 16)).toInt * nsU)).natAbs ≤ s.stc.incr →
      exec .ppsOutPulse s = .next
        { s with stc := { s.stc with ppsOut := true, ppsOutUntil := s.now + rdF s pgSTC 0x100 0 10 * msN } })

/-- R310 to R314, R319, R321, R323, R324, R333: the inputs. In free run a long pulse of an unqualified input is accepted and
counted; a locked counter whose selected input's pulse comes in its window is slewed by the phase error in mode 1; an input
whose edge is missing counts toward its disqualification; the first good IRIG frame is kept to be compared with the next, and one that
is a second on from it is valid: it gives its time and an edge, and ends the decoder's fault; a PTP offset qualifies PTP; the lateness of IRIG and PTP is told; and the holdover estimate beyond its limit leaves free
run. -/
def Obligations.TimeInputsDisciplineTheCounter : Prop :=
  ∀ s : State, curMode s ≠ .off →
    (∀ e : PpsEdge, e.input < 2 → e.rising ≠ rdB s pgSTC 0x098 e.input → rdF s pgSTC 0x098 8 8 ≤ e.width →
      let n := e.input + 1
      let x := tsrc s n
      let c : Int := cntAt s e.sub
      (stcMode s = 0 → s.stc.src = 0 → x.qual = false → x.lastEdge = none →
        let t := setTsrc s n { x with
          swing := e.swing, lastEdge := some c, seenAt := s.now + e.sub, run := 1, bad := 0, out := []
          qual := decide (lockCount s ≤ 1), qualAt := if lockCount s ≤ 1 then s.now + e.sub else x.qualAt
          phase := phase16 c }
        exec (.ppsEdge e) s = .next (if lockCount s ≤ 1 then condEnd t pgSTC n else t)) ∧
      (∀ l : Int, stcMode s = 1 → s.stc.src = n → prioList s = [n, 0, 0, 0] → s.stc.st = .locked →
        s.clk.onIntOsc = false → s.stc.disagree = false → s.stc.setEdge = none → x.qual = true → x.lastEdge = some l →
        inWindow s x c = true → (phase16 c).natAbs ≤ unlockThr s → (phase16 c).natAbs ≤ slewLimit s →
        ∃ t, exec (.ppsEdge e) s = .next t ∧ t.stc.cnt = moved (-(phaseErr c)) s.stc.cnt ∧
          rd t pgSTC 0x0A8 = satReg (phase16 c) ∧ t.stc.st = .locked ∧ t.stc.src = n ∧
          t = { s with regs := t.regs, stc := t.stc })) ∧
    (∀ (i : Nat) (l : Int), i < 2 → (tsrc s (i + 1)).lastEdge = some l →
      l + ((tsrc s (i + 1)).bad + 1) * secU + ppsWindow s ≤ s.stc.cnt + s.stc.incr → (tsrc s (i + 1)).qual = false →
      exec (.ppsEdgeMissed i) s = .next (setTsrc s (i + 1) { tsrc s (i + 1) with bad := (tsrc s (i + 1)).bad + 1, run := 0 })) ∧
    (∀ f : IrigFrame, rdB s pgSTC 0x0F0 0 = true → f.markersOk = true → f.digitsOk = true → f.second < 60 →
      s.stc.irigPrev = none →
      exec (.irigFrame f) s = .next { s with stc := { s.stc with irigPrev := some (irigSeconds s f).toNat } }) ∧
    (∀ (f : IrigFrame) (p : Nat), rdB s pgSTC 0x0F0 0 = true → f.markersOk = true → f.digitsOk = true →
      (f.second < 60 ∨ (f.second = 60 ∧ rdB s pgSTC 0x0DC 16 = true)) → s.stc.irigPrev = some p → irigSeconds s f = (p : Int) + 1 →
      stcMode s = 0 → s.stc.src = 0 → rdB s pgSTC 0x080 4 = false →
      let c : Int := cntAt s f.sub
      ∃ t, exec (.irigFrame f) s = .next t ∧
        rd t pgSTC 0x0F8 = BitVec.ofInt 32 ((p : Int) + 1) ∧ rd t pgSTC 0x0FC = setBit (f.cf &&& 0x07FFFFFF) 31 ∧
        rdB t pgSTC 0x014 6 = false ∧
        (s.stc.irig.qual = false ∨ inWindow s s.stc.irig c = true → t.stc.irig.lastEdge = some c ∧ t.stc.irig.phase = phase16 c) ∧
        t.stc = { s.stc with
          irigPrev := some (p + 1), irigAt := s.now + f.sub, irigDiff := 0, irigLoad := false, irig := t.stc.irig } ∧
        t = { s with regs := t.regs, stc := t.stc } ∧
        ∀ q o, o < 0x1000 → (q ≠ pgSTC ∨ (o ≠ 0x014 ∧ o ≠ 0x0F8 ∧ o ≠ 0x0FC)) → rd t q o = rd s q o) ∧
    (rdB s pgSTC 0x0F0 0 = true → s.stc.irigAt + 2000 * msN ≤ s.now → s.stc.irig.qual = false →
      exec .irigTimeout s = .next (condErr s pgSTC 6)) ∧
    (∀ v : W32, stcMode s = 0 → s.stc.src = 0 → exec (.stcPtpOffsetWrite v) s = .next { wr s pgSTC 0x0B0 v with
      stc := { s.stc with
        ptpAt := s.now, ptpQual := true, ptpQualAt := if s.stc.ptpQual then s.stc.ptpQualAt else s.now } }) ∧
    (stcMode s = 0 → s.stc.src = 0 → s.stc.ptpAt + 2000 * msN ≤ s.now → exec .ptpLate s = .next
      { (if 4 ∈ prioList s then raiseIrq s pgSTC 5 else s) with stc := { s.stc with ptpQual := false, ptpAt := s.now } }) ∧
    (s.stc.st = .holdover → s.clk.onIntOsc = false →
      rdF s pgSTC 0x09C 16 16 * 10 * 1600000000000 < rdF s pgSTC 0x09C 0 16 * (s.now - s.stc.holdAt) →
      let u := stcEnter (wr s pgSTC 0x0A0 (w32 (holdEst s))) .freeRun
      let t := raiseErr { u with stc := { u.stc with expired := true } } pgSTC 5
      exec .holdoverExpired s =
        .next (if rdB t pgSTC 0x080 3 then t else { t with stc := { t.stc with ppsOut := false } }))

/-! ### Pillow memory -/

/-- R9, R424, R425, R426, R436, R438: scrubbing of a pillow reads one word of every bank and two instruction words at the next
offset, tells the end of a pass and a pass that is late, until the next begins; a bank whose fill ends is ON; a bank or code memory that is not ON in
time is an error; the pillow's counts clear and its ownership query names a block. -/
def Obligations.PillowMemoryCommands : Prop :=
  ∀ (s : State) (p : Nat), p < 16 → pagePowered s (pgPIL p) = true →
    exec (.pilCntClr p) s =
      .next (wr (wr (wr (wr s (pgPIL p) 0x090 0) (pgPIL p) 0x094 0) (pgPIL p) 0x098 0) (pgPIL p) 0x09C 0) ∧
    (∀ v, exec (.pilOwnQuery p v) s = .next (wr s (pgPIL p) 0x0A8 (w32 (bits v 0 14)))) ∧
    let begun (u : State) : State :=
      setScrub { u with mem := { u.mem with scrubLate := u.mem.scrubLate.filter (· ≠ p) } } (16 + p) s.now
    exec (.scrubNow p) s = .next (begun (setScrub s p (scrubPos s p / 2 ^ 16 * 2 ^ 16))) ∧
    (∀ es off, rdB s (pgPIL p) 0x080 0 = true → off = scrubPos s p % 2 ^ 15 →
      (∀ k < 8, es.getD k .clean = .clean ∧ bankAddr p k off ∉ s.mem.bankBad) →
      p * 2 ^ 16 + 2 * off ∉ s.mem.codeBad → p * 2 ^ 16 + (2 * off + 1) ∉ s.mem.codeBad →
      exec (.scrubRead p es .clean .clean) s = .next (
        if off + 1 < 2 ^ 15 then setScrub s p (scrubPos s p + 1)
        else raiseIrq (begun (setScrub s p ((scrubPos s p / 2 ^ 16 + 1) % 2 ^ 16 * 2 ^ 16))) (pgPIL p) 0)) ∧
    (∀ due, rdB s (pgPIL p) 0x080 0 = true → due = SMap.get s.mem.scrub 0 (16 + p) + rdF s (pgPIL p) 0x084 0 10 * msN →
      due ≤ s.now → exec (.scrubLate p) s = .next (raiseErr (setScrub { s with mem := { s.mem with
        scrubLate := if p ∈ s.mem.scrubLate then s.mem.scrubLate else p :: s.mem.scrubLate } } (16 + p) due)
        (pgPIL p) 3 8 [fabricUnit p])) ∧
    (∀ k < 8, bankPwr s p k = .waking →
      exec (.bankFillDone p k) s = .next (setBankPwr s p k .on) ∧
      (p * 9 + k ∉ s.pwr.wakeLate → exec (.wakeFail p (some k)) s = .next (raiseErr
        { s with pwr := { s.pwr with wakeLate := (p * 9 + k) :: s.pwr.wakeLate } } (pgPIL p) 5 k [bankUnit p k]))) ∧
    (p ∈ s.mem.codeRetain → domSt s (384 + p) = .changing → p * 9 + 8 ∉ s.pwr.wakeLate →
      exec (.wakeFail p none) s = .next (raiseErr
        { s with pwr := { s.pwr with wakeLate := (p * 9 + 8) :: s.pwr.wakeLate } } (pgPIL p) 5 8 [fabricUnit p]))

/-- R429 to R431, R534, R535: a request for a free bank makes its lease PENDING and vacates the bank; once every block is
free it is leased, ON and SYSTEM; a release of a leased bank fills it with VOID words and, when the fill ends, returns it to
placement. Through the aperture the host reads and writes a bank leased to it, as NAT words; another access reads 0 or is a
warning event, and one of another width, not aligned or out of the window is a bus error. -/
def Obligations.BanksAreLeasedToTheHost : Prop :=
  ∀ (s : State) (p k : Nat), p < 16 → k < 5 →
    (∀ v : W32, pagePowered s (pgSE1 p) = true → lockOpen s .lease = true →
      (leaseOf s p k = .free → bits v 0 2 = 1 ∨ bits v 0 2 = 2 →
        exec (.se1LeaseWrite p k v) s =
          .next (vacateBank (setLease (wr s (pgSE1 p) (0x080 + 4 * k) (v &&& 0xF3)) p k .pending) p k 8)) ∧
      (leaseOf s p k = .leased → bits v 0 2 = 0 →
        exec (.se1LeaseWrite p k v) s =
          .next (setLease (bankFill (wr s (pgSE1 p) (0x080 + 4 * k) (v &&& 0xF3)) (bankAddr p k 0) 32768) p k .releasing)) ∧
      (leaseOf s p k = .pending ∨ leaseOf s p k = .releasing →
        exec (.se1LeaseWrite p k v) s = .next (warnEvent s (pgSE1 p)))) ∧
    (leaseOf s p k = .pending → (∀ i < 2048, ownOf s p (k * 2048 + i) = 0) →
      exec (.leaseGranted p k) s =
        .next (raiseIrq (setLease (ownSet (bankOn s p k) p (k * 2048) 2048 3) p k .leased) (pgPIL p) 1)) ∧
    (leaseOf s p k = .releasing → exec (.leaseReleased p k) s =
      .next (raiseIrq (roomReturns (setLease (ownSet s p (k * 2048) 2048 0) p k .free)) (pgPIL p) 1)) ∧
    (∀ off e, off % 4 = 0 → off < 0x20000 → bits (rd s pgSE1C 0x080) 0 4 = p → bits (rd s pgSE1C 0x080) 4 3 = k →
      (leaseOf s p k = .leased → rdF s (pgSE1 p) (0x080 + 4 * k) 0 2 = 1 → pagePowered s pgSE1C = true →
        (∀ v, exec (.se1ApertureAccess ⟨off, 4⟩ (some v) e) s = .next (bankSet s (bankAddr p k (off / 4)) (TWord.nat v))) ∧
        (bankAddr p k (off / 4) ∉ s.mem.bankBad → exec (.se1ApertureAccess ⟨off, 4⟩ none .clean) s =
          .next { s with lastAccess := .data (bankGet s (bankAddr p k (off / 4))).pay })) ∧
      (leaseOf s p k ≠ .leased → exec (.se1ApertureAccess ⟨off, 4⟩ none e) s = .next { s with lastAccess := .data 0 } ∧
        ∀ v, exec (.se1ApertureAccess ⟨off, 4⟩ (some v) e) s = .next (warnEvent s pgSE1C))) ∧
    (∀ off size w e, size ≠ 4 ∨ off % 4 ≠ 0 ∨ 0x20000 ≤ off →
      exec (.se1ApertureAccess ⟨off, size⟩ w e) s = .next { s with lastAccess := .busError })

/-! ### The host interface, the record store and the DRAM channel -/

/-- R20, R536 to R544, R560 to R562: a doorbell sets a command ring's head and raises its source; a post to an enabled ring
with room writes its entry with PHASE and URGENT, advances the head and counts toward the signal, and is refused by a disabled
or a full ring; a ring whose timer has expired signals; a sleeping host holds MSI writes until it wakes or its clock returns;
the count clears; enabling a ring resets its pointers, and a size out of range is refused. -/
def Obligations.HostRingsPostAndSignal : Prop :=
  ∀ s : State, curMode s ≠ .off →
    (∀ n v, n < 64 → exec (.hifCmdDoorbell n v) s = .next (
      let t := setCmd s n { cmdRing s n with head := bits v 0 12 }
      if pagePowered t pgEIC then eicEdge t (512 + n) else t)) ∧
    (∀ (v : W32) (n : Nat) (r : Ring), bits v 0 6 = n → r = cplRing s n → bit v 31 = true → s.hif.stalled = none →
      s.hif.held = [] →
      (r.en = false → exec (.hifPost v false) s = .next (raiseIrq (wr s pgHIF 0x0B8 4) pgHIF 0)) ∧
      (r.en = true → r.full = true → exec (.hifPost v false) s = .next (raiseIrq (wr s pgHIF 0x0B8 3) pgHIF 0)) ∧
      (r.en = true → r.full = false → s.hif.hostClock = true → physBad s (r.entry 32 r.head) 32 = false → bit v 6 = false →
        bits r.cfg 10 10 ≠ 0 → r.count + 1 < bits r.cfg 20 6 →
        let w := w32 ((rd s pgHIF 0x0C0).toNat % 2 ^ 24 + at' r.phase 31)
        let bytes := wordBytes (w :: (List.range 7).map fun i => rd s pgHIF (0x0C0 + 4 * (i + 1)))
        let u := physSetList s (r.entry 32 r.head) bytes
        let nh := (r.head + 1) % r.size
        ∃ t, exec (.hifPost v false) s = .next t ∧ cplRing t n = { r with
            head := nh, phase := if nh = 0 then !r.phase else r.phase, count := r.count + 1
            timer := some (r.timer.getD (u.now + bits r.cfg 10 10 * usN)) } ∧
          rd t pgHIF 0x0B8 = 2 ∧ rdB t pgHIF 0x024 0 = true ∧ t.mem = u.mem ∧ t.dra = u.dra ∧
          ∀ m, m ≠ n → cplRing t m = cplRing u m)) ∧
    (∀ n d, n < 64 → (cplRing s n).timer = some d → d ≤ s.now → exec (.hifModTimer n) s = .next (hifSignal s n)) ∧
    (∀ b, exec (.hostSleepAssert b) s = .next { s with hif := { s.hif with
      hostSleep := true, hostClock := s.hif.hostClock && !b } }) ∧
    (s.hif.hostClock = true → exec .hostSleepFall s = .next { s with hif := { s.hif with
      hostSleep := false, hostWake := false, msiSent := s.hif.msiHeld.reverse ++ s.hif.msiSent, msiHeld := [] } }) ∧
    (s.hif.held = [] → s.hif.stalled = none → s.hif.dma = [] → s.hif.hostSleep = false → exec .hostClockReturn s = .next { s with
      hif := { s.hif with
        hostClock := true, held := [], msiSent := s.hif.msiHeld.reverse ++ s.hif.msiSent, msiHeld := [] } }) ∧
    exec .hifCntClr s = .next (wr s pgHIF 0x0BC 0) ∧
    (∀ v : W32, 4 ≤ bits v 0 4 → bits v 0 4 ≤ 12 → bit v 4 = true → (selRing s).en = false →
      exec (.hifRingCfgWrite v) s = .next (setSelRing s { selRing s with
        cfg := w32 (v.toNat % 2 ^ 26), head := 0, tail := 0, phase := true })) ∧
    (∀ v : W32, bits v 0 4 < 4 ∨ 12 < bits v 0 4 → exec (.hifRingCfgWrite v) s = .next (warnEvent s pgHIF))

/-- R545 to R551, R565, R567: the record at the head of the queue takes SEQ, its CRC and the next slot, and every 4,096
records a checkpoint is due; a start-up scan that finds an empty slot at the newest checkpoint makes the store ready there;
a post joins the queue with its kind 12, or is refused by a full one; a copy of a slot runs in two commands; the data items
are written and shown; the count clears. -/
def Obligations.RecordsAreStored : Prop :=
  ∀ s : State, curMode s ≠ .off →
    (∀ r rest, s.nvr.queue = r :: rest → s.nvr.ready = true → s.nvr.sinceCheck + 1 < 4096 → rdB s pgNVR 0x080 0 = false →
      rdB s pgHIF 0x080 0 = false → unitOff s ⟨RUnit.nvr.cls, 0, 0⟩ = false →
      let ws := soeWords r s.nvr.seq
      let nh := (s.nvr.head + 1) % 524288
      exec (.nvrRecordCommit true) s = .next (raiseIrq { s with nvr := { s.nvr with
        ring := SMap.set s.nvr.ring (List.replicate 8 0) s.nvr.head (ws ++ [crc32c (wordBytes (ws.take 7))])
        queue := rest, head := nh, seq := s.nvr.seq + 1, wraps := if nh = 0 then s.nvr.wraps + 1 else s.nvr.wraps
        sinceCheck := s.nvr.sinceCheck + 1 } } pgNVR 0)) ∧
    (∀ i v, s.nvr.ready = false → newestCheck s.nvr.checkpoints = some (i, v) →
      nvrSlot s (v.getD 0 0 % 524288) = List.replicate 8 0 →
      exec .nvrScanDone s = .next { s with nvr := { s.nvr with
        ready := true, head := v.getD 0 0 % 524288, seq := w32 (v.getD 1 0 + s.nvr.carry), carry := 0
        nextCheck := (i + 1) % 256, sinceCheck := 0 } }) ∧
    (∀ who, s.nvr.queue.length < 1024 → ∃ r : Soe, exec (.nvrPost who) s = .next { s with nvr := { s.nvr with
        queue := s.nvr.queue ++ [r], postFull := false } } ∧ r.kind = 12 ∧ r.number = rdF s pgNVR 0x0C0 16 16 ∧
        r.sec = (rd s pgNVR 0x0C4).toNat + rdF s pgNVR 0x0CC 0 16 * 2 ^ 32 ∧ r.ns = rdF s pgNVR 0x0C8 0 30 ∧
        r.tval = rdF s pgNVR 0x0C8 30 2 ∧ r.tag = rdF s pgNVR 0x0CC 16 8 ∧ r.value = rd s pgNVR 0x0D0 ∧
        r.word5 = rd s pgNVR 0x0D4) ∧
    (∀ who, 1024 ≤ s.nvr.queue.length →
      exec (.nvrPost who) s = .next { s with nvr := { s.nvr with postFull := true } }) ∧
    exec .nvrDiWrite s = .next (
      let ws := (List.range 8).map fun i => rd s pgNVR (0x0E4 + 4 * i)
      { s with nvr := { s.nvr with di := SMap.set s.nvr.di (List.replicate 8 0) (rdF s pgNVR 0x0E0 0 12) ws } }) ∧
    exec .nvrCntClr s = .next { s with nvr := { s.nvr with lost := 0 } } ∧
    (∀ v, exec (.nvrRdIdxWrite v) s =
      .next (wr { s with nvr := { s.nvr with rdBusy := true } } pgNVR 0x090 (w32 (bits v 0 19)))) ∧
    (s.nvr.rdBusy = true → exec .nvrReadCopyDone s = .next { s with nvr := { s.nvr with
      rdBusy := false, rdData := SMap.get s.nvr.ring (List.replicate 8 0) (rdF s pgNVR 0x090 0 19) } }) ∧
    (∀ v, ∃ t, exec (.nvrDiSelWrite v) s = .next t ∧ rd t pgNVR 0x0E0 = w32 (bits v 0 12) ∧
      (∀ i < 8, rd t pgNVR (0x0E4 + 4 * i) = (SMap.get s.nvr.di (List.replicate 8 0) (bits v 0 12)).getD i 0) ∧
      t = { s with regs := t.regs })

/-- R554 to R559, R569 to R571: training patterns and their end, the channel's way to READY or back to training, its counts,
a corrected error, an uncorrectable error on a line that the copy has not yet reached, the end of the copy, and self-refresh, which
begins once the channel has been idle for SR_IDLE. A channel that fails
to train is FAILED. -/
def Obligations.TheDramChannelTrainsAndReports : Prop :=
  ∀ s : State, pagePowered s pgDRA = true →
    (∀ v : W32, lockOpen s .bootSvc = true → s.dra.st = .training → bit v 16 = true → exec (.draTrnGo v) s = .next (
      let t := wr s pgDRA 0x0C0 (v &&& 0x1033F)
      wr { t with dra := { t.dra with training := true } } pgDRA 0x0C8 0)) ∧
    (s.dra.st = .training → masksOk s = true → exec .trainDone s =
      .next { s with dra := { s.dra with st := .ready, training := false, sr := false } }) ∧
    (s.dra.st = .training → masksOk s = false → exec .trainDone s = .next (warnEvent s pgDRA)) ∧
    (s.dra.st = .training → exec .trainFail s = .next (channelFailed s)) ∧
    (curMode s = .service → s.dra.st ≠ .off → exec .retrain s =
      .next (condEnd { s with dra := { s.dra with st := .training, training := false, sr := false } } pgDRA 4)) ∧
    exec .draCntClr s = .next (wr (wr (wr s pgDRA 0x0CC 0) pgDRA 0x0D0 0) pgDRA 0x0D8 0) ∧
    (rdB s pgDRA 0x080 0 = true →
      (∀ pass n, s.dra.training = true → exec (.draTrnPatternDone pass n) s =
        .next (raiseIrq (wr { s with dra := { s.dra with training := false } } pgDRA 0x0C8
          (w32 (1 + at' pass 1 + min 255 n * 2 ^ 8))) pgDRA 0)) ∧
      (∀ a, s.dra.st = .ready → exec (.dramError a .corrected) s = .next (raiseErr (bumpWrap s pgDRA 0x0CC 2) pgDRA 0)) ∧
      (∀ a, s.dra.st = .ready → a < dramSize s → uncopied s a = true →
        rdB s pgDRA 0x0D0 31 = false → a / 64 * 64 ∉ s.dra.poison → exec (.dramError a .uncorrectable) s =
          .next (raiseErr (wr { s with dra := { s.dra with poison := a / 64 * 64 :: s.dra.poison } } pgDRA 0x0D0
            (w32 (a / 64 % 2 ^ 31 + 2 ^ 31))) pgDRA 1)) ∧
      (s.dra.migrating = true → exec .draSpareCopyDone s =
        .next (raiseIrq (wr { s with dra := { s.dra with migrating := false } } pgDRA 0x0D4
          (w32 (2 ^ (12 + rdF s pgDRA 0x088 0 3)))) pgDRA 1)) ∧
      (rdB s pgDRA 0x080 1 = true → s.dra.st = .ready → s.dra.migrating = false →
        s.dra.idleFrom + rdF s pgDRA 0x080 8 8 * usN ≤ s.now → exec .draSelfRefreshEnter s =
        .next { s with dra := { s.dra with sr := true } }) ∧
      exec .draSelfRefreshExit s = .next { s with dra := { s.dra with sr := false, idleFrom := s.now } })

/-! ### The register window -/

/-- R4, R688: a write of another width or alignment answers a bus error and changes nothing; an aligned word written from
offset 0x080 up where no table of a page that is not reserved lists a register is ignored, and such a place reads 0. A page
without power ignores the write with a warning event (R610). A read-only register ignores an aligned word (R5). The debug
unit does not reach the window (R664). -/
def Obligations.RegisterWritesKeepTheirWidthAndPlace : Prop :=
  ∀ (s : State) (w : RegWrite), curMode s ≠ .off → w.who ≠ .debug →
    let s0 := { s with lastAccess := .none }
    (w.size ≠ 4 ∨ w.off % 4 ≠ 0 → exec (.registerWrite w) s = .next { s with lastAccess := .busError }) ∧
    (∀ u i, w.size = 4 → w.off % 4 = 0 → 0x080 ≤ w.off → w.off < 0x1000 → pageUnit w.page = some (u, i) →
      (u.row? w.off = none → readReg s w.page w.off = 0) ∧
      (pagePowered s w.page = true → (∀ r, u.row? w.off = some r → r.acc = .ro) → exec (.registerWrite w) s = .next s0) ∧
      (pagePowered s w.page = false → exec (.registerWrite w) s = .next (warnEvent s0 w.page)))

/-- R599, R627, R654: the registers of SELV, PWR and SEC that CONFIGURE and SERVICE alone write, and those that any mode
writes. Outside those modes the write leaves them and is a warning event; within them it sets the fields that the register
has, unless its table refuses the value (SELV_QUIET, PWR_PG_LEAD), which leaves it. A clear of status bits leaves those that
hardware sets in its cycle (R6). A command of SEC is ignored while RESULT is 1. -/
def Obligations.LockedRegistersAreWrittenInTheirModes : Prop :=
  ∀ (s : State) (who : Who) (v hw : W32), who ≠ .debug → curMode s ≠ .off →
    let s0 := { s with lastAccess := .none }
    let put (page off : Nat) : Host.Outcome State Fault Refusal := exec (.registerWrite ⟨who, page, off, 4, v, hw⟩) s
    let merged (page off : Nat) (mask : W32) : State := wr s0 page off ((rd s page off &&& ~~~ mask) ||| (v &&& mask))
    let ignored (page off : Nat) : Prop := put page off = .next (warnEvent s0 page)
    let sets (page off : Nat) (mask : W32) : Prop := put page off = .next (merged page off mask)
    let refuses (page off : Nat) : Prop := ∃ t, put page off = .next t ∧ rd t page off = rd s page off
    let clears (off : Nat) (mask own : W32) : Prop :=
      put pgSELV off = .next (wr s0 pgSELV off ((rd s pgSELV off &&& ~~~ (v &&& mask)) ||| (hw &&& own)))
    ((curMode s).cfgSvc = false →
      (∀ off ∈ [0x080, 0x0C8, 0x0CC, 0x0D0, 0x0D4], ignored pgSELV off) ∧
      (∀ off ∈ [0x080, 0x088, 0x08C], ignored pgPWR off) ∧ (∀ p < 16, ignored pgPWR (0x100 + 8 * p)) ∧
      (pagePowered s pgSEC = true → ignored pgSEC 0x080)) ∧
    ((curMode s).cfgSvc = true →
      sets pgSELV 0x080 0xF ∧ sets pgSELV 0x0C8 0xFF0F ∧ sets pgSELV 0x0D4 0x3FF ∧
      (1 ≤ bits v 0 10 ∧ bits v 0 10 ≤ 1000 → sets pgSELV 0x0CC 0xFF0F03FF) ∧
      (bits v 0 10 < 1 ∨ 1000 < bits v 0 10 → refuses pgSELV 0x0CC) ∧
      put pgSELV 0x0D0 = .next (fnSettle (merged pgSELV 0x0D0 0x3FF0001)) ∧
      sets pgPWR 0x080 0x3 ∧ sets pgPWR 0x08C 0xFF ∧ (5 ≤ bits v 0 8 → sets pgPWR 0x088 0xFF) ∧
      (bits v 0 8 < 5 → refuses pgPWR 0x088) ∧ (∀ p < 16, sets pgPWR (0x100 + 8 * p) 0x7FF0001) ∧
      (pagePowered s pgSEC = true → sets pgSEC 0x080 0x3)) ∧
    (sets pgSELV 0x0DC 0xFFF1F ∧ put pgSELV 0x0D8 = exec (.selvWdogKick v) s0 ∧
      (v = 1 → put pgSELV 0x0F8 = exec .fnRelease s0 ∧ put pgPWR 0x09C = exec .pwrDisconnect s0) ∧
      (v = 2 → put pgSELV 0x0F8 = exec .selvCntClr s0 ∧ put pgPWR 0x09C = exec .pwrCntClr s0) ∧
      put pgSELV 0x010 = .next (raiseBits .selv pgSELV hw (wr s0 pgSELV 0x010 (rd s pgSELV 0x010 &&& ~~~ v))) ∧
      clears 0x024 0xFFFFFFFF (w32 RUnit.selv.irqMask) ∧ clears 0x088 0xFFFFF 0xFFFFF ∧ clears 0x08C 0xFFF 0xFFF ∧
      clears 0x09C 0xFFFF 0xFFFF ∧ (∀ off ∈ [0x090, 0x094, 0x098], clears off 0xFFFFFFFF 0xFFFFFFFF) ∧
      (∀ i < 8, clears (0x0A0 + 4 * i) 0xFFFFFFFF 0xFFFFFFFF) ∧
      sets pgPWR 0x094 0x1FF) ∧
    (pagePowered s pgSEC = true → rdF s pgSEC 0x098 0 4 = 1 →
      ∀ c ∈ [Instr.verifyTables, .loadCode, .svnCommit, .challenge true, .challenge false, .dbgResp, .dbgRevoke, .provision, .getId],
        exec c s = .next s)

/-! ### The Selvedge's watchdog -/

/-- R591: the engine watchdog. A kick with KEY 0xA5 reloads it, and one with another KEY is a warning event; while WDOG_EN is
1 it sets WDOG_PRE half a PERIOD after the last kick and WDOG a PERIOD after it, and neither before; while WDOG_EN is 0
neither. PERIOD is 100 by default, and the watchdog pauses in DEVELOP alone. -/
def Obligations.EngineWatchdogExpiresAfterItsPeriod : Prop :=
  regReset (rkey pgSELV 0x0D4) = 100 ∧ (∀ s, wdogPaused s = true → s.fuses.state = .develop) ∧
  ∀ s : State, curMode s ≠ .off →
    (∀ v : W32, v.toNat % 256 ≠ 0xA5 → exec (.selvWdogKick v) s = .next (warnEvent s pgSELV)) ∧
    (∀ v : W32, v.toNat % 256 = 0xA5 → s.selv.wdogHeld = none →
      let period := rdF s pgSELV 0x0D4 0 10 * msN
      let t := { s with selv := { s.selv with wdogOn := true, wdogPre := false, wdogDue := s.now + period } }
      exec (.selvWdogKick v) s = .next t ∧
      ∀ n, let u := { t with now := n }
        (rdB s pgSELV 0x080 3 = true →
          (s.now + period ≤ n + period / 2 →
            exec .engineWdogPre u = .next (raiseIrq { u with selv := { u.selv with wdogPre := true } } pgSELV 5)) ∧
          (n + period / 2 < s.now + period → exec .engineWdogPre u = .next u) ∧
          (s.now + period ≤ n →
            exec .engineWdogExpire u = .next (raiseErr { u with selv := { u.selv with wdogOn := false } } pgSELV 6)) ∧
          (n < s.now + period → exec .engineWdogExpire u = .next u)) ∧
        (rdB s pgSELV 0x080 3 = false → exec .engineWdogPre u = .next u ∧ exec .engineWdogExpire u = .next u))

/-! ### Security -/

/-- R641: SVN_COMMIT in CONFIGURE or SERVICE raises each counter to the SVN of the image of its kind in use, and lowers none;
in another mode it changes none. A counter of 64 fuses stays within 64 while the SVNs in use do. -/
def Obligations.SvnCommitRaisesTheCounters : Prop :=
  ∀ s : State, SecReady s →
    let used (i : Option Img) : Nat := match i with | some x => x.svn | none => 0
    let patch (p : Option Patch) : Nat := match p with | some x => x.svn | none => 0
    ((curMode s).cfgSvc = true → ∃ f : Fuses, exec .svnCommit s = .next (secDone { s with fuses := f }) ∧
      f = { s.fuses with svnFw := f.svnFw, svnTbl := f.svnTbl, svnCode := f.svnCode, svnUcs := f.svnUcs } ∧
      f.svnFw = max s.fuses.svnFw (used s.sec.fw) ∧ f.svnTbl = max s.fuses.svnTbl (used s.sec.tbl) ∧
      f.svnCode = max s.fuses.svnCode (used s.sec.code) ∧
      f.svnUcs = max s.fuses.svnUcs (max (patch s.ucs.pil) (patch s.ucs.spn)) ∧
      (s.fuses.svnFw ≤ 64 → used s.sec.fw ≤ 64 → f.svnFw ≤ 64) ∧ (s.fuses.svnTbl ≤ 64 → used s.sec.tbl ≤ 64 → f.svnTbl ≤ 64) ∧
      (s.fuses.svnCode ≤ 64 → used s.sec.code ≤ 64 → f.svnCode ≤ 64) ∧
      (s.fuses.svnUcs ≤ 64 → patch s.ucs.pil ≤ 64 → patch s.ucs.spn ≤ 64 → f.svnUcs ≤ 64)) ∧
    ((curMode s).cfgSvc = false → exec .svnCommit s = .next (raiseIrq (wr s pgSEC 0x098 3) pgSEC 0))

/-- R646: a key entry is used while NB ≤ SEC < NA, and while the STC is UNSET only where its limits are the widest: KEY_INFO
shows it, and no other entry serves an authentication. KEY_ERASE clears the entry of KEY_SEL and KEY_ERASE_ALL every entry,
and nothing else; a domain out of service refuses both with RESULT 3 (R583). -/
def Obligations.KeysServeTheirPeriodAndAreErased : Prop :=
  ∀ s : State, curMode s ≠ .off → pagePowered s pgKEY = true →
    let entry (t : State) (i : Nat) : Option KeyEnt := SMap.get t.sec.keys none i
    let sel := rdF s pgKEY 0x094 0 10
    let served (k : KeyEnt) : Prop :=
      (s.stc.st = .unset → k.nb = 0 ∧ k.na = 0xFFFFFFFFFFFF) ∧
      (s.stc.st ≠ .unset → k.nb ≤ secOf s.stc.cnt ∧ secOf s.stc.cnt < k.na)
    (∀ k, entry s sel = some k → (bit (readReg s pgKEY 0x098) 5 = true ↔ served k)) ∧
    (∀ x, authOk s (some x) = true → ∃ e ∈ s.sec.keys, ∃ k, e.2 = some k ∧ k.kid = x.kid ∧ k.alg = x.alg ∧ served k) ∧
    (secServes s = true →
      (∃ t, exec .keyErase s = .next t ∧ (∀ i, entry t i = if i = sel then none else entry s i) ∧
        t = { s with sec := { s.sec with keys := t.sec.keys } }) ∧
      ∃ t, exec .keyEraseAll s = .next t ∧ (∀ i, entry t i = none) ∧ t = { s with sec := { s.sec with keys := t.sec.keys } }) ∧
    (secServes s = false → exec .keyErase s = .next (wr s pgKEY 0x090 3) ∧ exec .keyEraseAll s = .next (wr s pgKEY 0x090 3))

/-! ### Commands that complete: power, clocks, the environment -/

/-- R617, R19, R426, R603, R608, R609, R611 to R615, R624, R626, R628, R630 to R632, R304, R648: the events and commands of
power, clocks and the environment. Power-up of the always-on domain enters KEEP with the STC unset and FAULT_N asserted, its
loss leaves OFF and what the fuses and MRAM keep; a domain or bank on its way becomes power-good, or is late; an idle bobbin
with nothing due loses its power and a needed one regains it; the voltage loop's microsecond; a supply or regulator that
fails; a clock measured; a PLL that loses lock; the spindle's frequency; the handshake with the directory; the counts; a step
that is late, with what it waits for; a tamper input. -/
def Obligations.PowerAndClockCommandsComplete : Prop :=
  ∀ s : State,
    (∀ ref : BitVec 2, curMode s = .off → ∃ t, exec (.alwaysOnPowerUp ref) s = .next t ∧ curMode t = .keep ∧ t.stc = Stc.reset ∧
      t.selv.fnOn = true ∧ t.clk.refSel = ref.toNat ∧ t.nvr.powered = true ∧ t.cores = [] ∧
      (s.fuses.torn = true → rdB t pgLCY 0x010 0 = true ∧ rd t pgLCY 0x088 = 15)) ∧
    (∃ t, exec .alwaysOnPowerLoss s = .next t ∧ curMode t = .off ∧ t.nvr.queue = [] ∧ t.nvr.ring = s.nvr.ring ∧ t.stc = Stc.reset ∧
      t.cores = [] ∧ t.regs = [] ∧ t.selv.fnOn = false ∧ t.fuses = s.fuses ∧ t.pending = s.pending) ∧
    (∀ d, (d < 256 ∨ 384 ≤ d) → d ≤ 416 → domSt s d = .changing →
      ∃ t, exec (.domainPowerUp d) s = .next t ∧ domSt t d = .on ∧ d ∉ t.pwr.late ∧
        SMap.get t.pwr.ups 0 d = min 65535 (SMap.get s.pwr.ups 0 d + 1)) ∧
    (∀ p k, p < 16 → k < 8 → bankPwr s p k = .waking → ∃ t, exec (.domainPowerUp (256 + p * 8 + k)) s = .next t ∧
      bankPwr t p k = .on ∧ 256 + p * 8 + k ∉ t.pwr.late) ∧
    (∀ d, (d < 256 ∨ 384 ≤ d) → domSt s d = .changing → d ∉ s.pwr.late → exec (.domainTimeout d) s =
      .next (raiseErr { s with pwr := { s.pwr with late := d :: s.pwr.late } } pgPWR 5 0 [domUnit d])) ∧
    (∀ bob, bob < 256 → domSt s bob = .on → (core s bob).pstate = .idle → (core s bob).haltReq = .none → rdB s pgPWR 0x080 0 = true →
      rdB s (pgBOB bob) 0x008 1 = false → (∀ t, nextRelease s bob = some t → s.stc.cnt + pgLead s + 4000 * nsU < t) →
      readyOn s bob = [] → unitTested s (bobUnit bob) = false → ∃ t, exec (.bobPowerGate bob) s = .next t ∧ domSt t bob = .off) ∧
    (∀ bob, bob < 256 → domSt s bob = .off → domSt s (384 + pilOf bob) = .on → (curMode s).runs = true →
      (unitRec s (bobUnit bob)).retired = false →
      ((∃ t, nextRelease s bob = some t ∧ t ≤ s.stc.cnt + s.stc.incr + pgLead s) ∨ readyOn s bob ≠ []) →
      ∃ t, exec (.bobPgWake bob) s = .next t ∧ domSt t bob = .on ∧ core t bob = Core.bobStart) ∧
    (∀ o : VfObs, o.pillow < 16 → domSt s (384 + o.pillow) = .on →
      let p := o.pillow
      let cfg := rd s pgPWR (0x100 + 8 * p)
      let target := if bit cfg 0 then max (pilFloor s p) (bits cfg 16 11) else pilFloor s p
      let f := pilFreq s p
      let v := SMap.get s.pwr.vdd 0 p
      let goal := vddStep ((if f < target then max o.need o.needFloor else o.need) + 20 + 5 * o.ageOff)
      ∃ t, exec (.pillowVfUpdate o) s = .next t ∧
        (target < f → pilFreq t p = max target (f - 25) ∧ SMap.get t.pwr.vdd 0 p = v) ∧
        (f ≤ target → SMap.get t.pwr.vdd 0 p = (if v < goal then min goal (v + 5) else max goal (v - 5)) ∧
          pilFreq t p = (if f < target ∧ goal ≤ v then min target (f + 25) else f)) ∧
        SMap.get t.pwr.vmax false p = decide (o.fmaxAch < pilFloor s p) ∧
        (∀ q, q ≠ p → pilFreq t q = pilFreq s q ∧ SMap.get t.pwr.vdd 0 q = SMap.get s.pwr.vdd 0 q)) ∧
    (curMode s ≠ .off →
      exec (.envExcursion .supplyOut) s = .next (condErr { s with pwr := { s.pwr with supplyOk := false } } pgPWR 0) ∧
      exec (.envExcursion .supplyBack) s = .next (condEnd { s with pwr := { s.pwr with supplyOk := true } } pgPWR 0) ∧
      (∀ p, p < 16 → domSt s (384 + p) = .on → p ∉ s.pwr.regBad → exec (.envExcursion (.regFault p)) s =
        .next (raiseErr { s with pwr := { s.pwr with regBad := p :: s.pwr.regBad } } pgPWR 4 8 [fabricUnit p])) ∧
      (∀ pll ratio osc, s.clk.onIntOsc = false → 0 < osc → 9800 ≤ ratio → ratio ≤ 10200 → s.clk.monBad = [] →
        6400 * osc ≤ 1000000 * 2 ^ 32 → 1000000 * 2 ^ 32 ≤ 9600 * osc → exec (.clkMonitor pll ratio osc) s = .next (
          condEnd (condEnd { s with clk := { s.clk with intOscKhz := 1000000 * 2 ^ 32 / osc, intOsc := osc } } pgCLK 2) pgCLK 3)) ∧
      (∀ v : W32, lockOpen s .bootSvc = true → 500 ≤ bits v 0 11 → bits v 0 11 ≤ 2000 → bits v 0 11 % 25 = 0 →
        exec (.clkSpnCfgWrite v) s = .next (
          let t := wr s pgCLK 0x088 (w32 (bits v 0 11))
          { t with clk := { t.clk with spnPause := s.now + 40 * usN, spnLock := decide (domSt s 400 = .on) } })) ∧
      exec .pwrCntClr s = .next { s with pwr := { s.pwr with ups := [], powerPeak := s.pwr.powerNow } } ∧
      (domSt s 401 = .on → ∃ t, exec .pwrDisconnect s = .next t ∧ t.spn.connected = false ∧ t.spn.rsv = none ∧
        t.spn.reqs = [] ∧ t.spn.pend = none) ∧
      (∀ n stays ok, n < 2 → rdB s pgSEC 0x080 n = true → dbgLevel s = 0 → ∃ t, exec (.tamperAssert n stays ok) s = .next t ∧
        t.mem.scratch = [] ∧ t.sec.keys = [] ∧ t.sec.grant = none ∧ rdB t pgSEC 0x014 n = stays ∧ rdB t pgSEC 0x010 n = true ∧
        (n ∈ t.sec.tamper ↔ stays = true)) ∧
      (∀ n stays ok, n < 2 → rdB s pgSEC 0x080 n = false → exec (.tamperAssert n stays ok) s = .next
        { s with sec := { s.sec with tamper := let rest := s.sec.tamper.filter (· ≠ n); if stays then n :: rest else rest } })) ∧
    (∀ pll, domSt s (pllDom pll) = .on → ∃ t, exec (.pllUnlock pll) s = .next t ∧
      (pll = .spindle → t.clk = { s.clk with spnLock := false } ∧ rdB t pgCLK 0x010 0 = true) ∧
      (∀ p, pll = .pillow p → t.clk = { s.clk with pilLock := SMap.set s.clk.pilLock false p false } ∧ rdB t pgCLK 0x010 1 = true) ∧
      (∀ g, pll = .portGroup g → g ∈ t.clk.pgUnlock)) ∧
    (s.mode.busy = true → ∀ o : StepObs,
      let u : UnitId := ⟨o.cls, o.inst, o.sub⟩
      let awaited := (List.range 417).filter fun d => decide (domUnit d = u) &&
        decide (domSt s d = .changing ∨ 256 ≤ d ∧ d < 384 ∧ bankPwr s ((d - 256) / 8) ((d - 256) % 8) = .waking)
      exec (.stepTimeout o) s = .next (raiseErr { s with mode := { s.mode with late := awaited :: s.mode.late } } pgMODE 1 o.sub [u]))

/-! ### Commands that complete: modes and the Selvedge -/

/-- R602 to R608, R618 to R624, R428: a mode command given in a mode that its row of the transition table names is accepted: it
clears REJECT and enters its mode, at once or, where domains have to come up, with BUSY until MODE_TRANSITION_DONE. BOOT and
KEEP power the domains down, which takes a disconnected spindle or FORCE; SERVICE is admitted by the life-cycle state; the end of PROOF
leads to CONFIGURE. -/
def Obligations.ModeCommandsEnterTheirModes : Prop :=
  ∀ s : State,
    (∀ c, Commanded s c →
      (∀ o, curMode s = .keep → s.fuses.state ≠ .scrapped → s.fuses.fused ≠ .scrapped →
        exec (.modeCmdBoot c o) s = .next (enterBoot (accept s) o false)) ∧
      (∀ o, curMode s = .service → s.fuses.state ≠ .scrapped → s.fuses.fused ≠ .scrapped →
        (s.spn.connected = false → exec (.modeCmdBoot c o) s = .next (enterBoot (powerDownAll (leaveService (accept s))) o false)) ∧
        (s.spn.connected = true → c.force = true →
          exec (.modeCmdBoot c o) s = .next (enterBoot (powerDownAll (leaveService (declareDead (accept s)))) o false))) ∧
      (curMode s = .boot → exec (.modeCmdProof c) s = .next (enterProof (accept s) false)) ∧
      (curMode s = .armed ∨ curMode s = .service → exec (.modeCmdConfigure c) s = .next (enterConfigure (accept s) false)) ∧
      (∀ d, curMode s = .run ∨ curMode s = .degraded ∨ curMode s = .blocked →
        exec (.modeCmdArmed c d) s = .next (retainAll (modeEnter (accept s) .armed false))) ∧
      (∀ d v, curMode s = .configure → s.hif.hostClock = true → arm s d = .inr v →
        let u := { v with whrl := { v.whrl with decls := d } }
        let up := (List.range 12).foldl (fun v g =>
          if (List.range 8).any (fun i => decide (laneMode v (8 * g + i) ≠ 0)) && decide (domSt v (402 + g) = .off) then
            setDom v (402 + g) .changing else v) (accept u)
        exec (.modeCmdArmed c d) s =
          .next (beginTo (bobsOn (takeNumber { up with mode := { up.mode with
            phConf := min 65535 ((s.now - up.mode.phStart) / msN), phStart := s.now } }) true) .armed)) ∧
      (curMode s = .armed → exec (.modeCmdRun c) s = .next (beginTo (bobsOn ((List.range 16).foldl wakePil
        { accept s with mode := { (accept s).mode with woken := [] } }) false) .run)) ∧
      (curMode s = .test ∨ curMode s = .blocked → exec (.modeCmdRun c) s =
        .next (modeEnter (accept s) (if degradedCond s then .degraded else .run) false)) ∧
      (curMode s = .run ∨ curMode s = .degraded ∨ curMode s = .blocked →
        exec (.modeCmdTest c) s = .next (modeEnter (accept s) .test false)) ∧
      (curMode s = .run ∨ curMode s = .degraded ∨ curMode s = .test →
        exec (.modeCmdBlocked c) s = .next (modeEnter (accept s) .blocked false)) ∧
      (curMode s = .configure ∨ curMode s = .armed ∨ curMode s = .blocked ∨ curMode s = .safe → serviceOk s = true →
        exec (.modeCmdService c) s = .next (fnSettle (modeEnter (accept s) .service false))) ∧
      (curMode s = .boot ∨ curMode s = .configure ∨ curMode s = .armed ∨ curMode s = .service →
        (s.spn.connected = false → exec (.modeCmdKeep c) s = .next (enterKeep (accept s))) ∧
        (s.spn.connected = true → c.force = true → exec (.modeCmdKeep c) s = .next (enterKeep (declareDead (accept s)))))) ∧
    (curMode s = .proof → let t := proofUnits.foldl (proofUnit []) ((List.range 256).foldl (proofTarget []) s)
      curMode t = .proof → exec (.proofEnd []) s =
        .next (enterConfigure { t with mem := { t.mem with bank := [], bankBad := [], code := [], codeBad := [] } } true)) ∧
    (s.mode.busy = true → stillChanging s = false →
      (s.mode.target = .armed → exec .modeTransitionDone s =
        .next (retainAll (fnSettle (fnArmed (modeEnter (banksOn { s with mode := { s.mode with phArm := phaseMs s } }) .armed false))))) ∧
      (s.mode.target = .run → exec .modeTransitionDone s = .next (
        let t := banksOn (s.mode.woken.foldl wakeFill s)
        degradedCheck (modeEnter { t with mode := { t.mode with woken := [] } } .run false))))

/-- R572 to R592, R598, R605, R681: the Selvedge's own commands. The oldest error carried to it is recorded and, by its route,
counted, latched or tested; DEGRADED ends with its last condition; a test starts on a vacated unit and ends with its result, or
by its timeout as failed; SAFE is left after its quiet period for the mode it was entered from; FAULT_N is released at the end of
its width; the queried unit is tested and returned to service; a comparator that stays silent is an error. -/
def Obligations.SelvedgeCommandsComplete : Prop :=
  ∀ s : State,
    (s.selv.occ = [] → exec .errorLatch s = .next s) ∧
    (∀ o rest u i, s.selv.occ = o :: rest → pageUnit o.page = some (u, i) → u.cls ≠ RUnit.eic.cls → curMode s ≠ .off →
      let t := { s with selv := { s.selv with occ := rest } }
      let code := codeOf u o.bit (if o.warn then 1 else routeOf s o.page o.bit) o.sub o.injected
      (o.warn = true ∨ routeOf s o.page o.bit = 1 → exec .errorLatch s =
        .next (faultSoe (lastCode (raiseIrq (bump t pgSELV 0x0F4 1) pgSELV 6) code i) i code)) ∧
      (o.warn = false → routeOf s o.page o.bit = 2 → rdB s pgSELV 0x080 0 = false →
        exec .errorLatch s = .next (degradedCheck (faultSoe (faultLatch t u.cls i i code false) i (outcome code 4)))) ∧
      (∀ x, o.warn = false → routeOf s o.page o.bit = 2 → rdB s pgSELV 0x080 0 = true →
        testUnits o u i 2 = [x] →
        exec .errorLatch s = .next (degradedCheck (testFor (faultLatch t u.cls i i code false) false i code x)))) ∧
    (curMode s = .degraded → s.mode.busy = false → degradedCond s = false → exec .degradedExit s = .next (modeEnter s .run true)) ∧
    (∀ t, curMode s ≠ .off → (testsRunning s).length < 8 → s.selv.tests.find? (fun t => mayStart s t) = some t →
      let run := { t with phase := .running, since := s.now, len := (testLen s t.unit).getD 0 }
      exec .selvTestStart s = .next (proofMark (takeOut { s with selv := { s.selv with
        tests := s.selv.tests.map fun x => if x.unit = t.unit then run else x } } t.unit) t.unit 3)) ∧
    (∀ u t, curMode s ≠ .off → runningTest s u = some t →
      (∀ o, exec (.selvTestDone u o) s = .next (endTest s t (judged s t o))) ∧
      (t.since + 4 * t.len ≤ s.now → exec (.selvTestTimeout u) s = .next (endTest (raiseErr s pgSELV 8) t ⟨false, 0, true⟩))) ∧
    (∀ o, curMode s = .safe → rdB s pgSELV 0x080 1 = true → s.selv.tests = [] → s.selv.safeFailed = false →
      s.selv.safeLatched = false → s.selv.quietFrom + rdF s pgSELV 0x0CC 0 10 * msN ≤ s.now →
      let t := raiseIrq (bump s pgSELV 0x0E8 1) pgSELV 4
      (s.mode.safeFrom = .boot → exec (.safeExit o) s = .next (fnSettle (enterBoot t o true))) ∧
      (s.mode.safeFrom = .proof → exec (.safeExit o) s = .next (fnSettle (enterProof t true))) ∧
      (s.mode.safeFrom = .configure → exec (.safeExit o) s = .next (fnSettle (enterConfigure t true))) ∧
      (s.mode.safeFrom = .armed → exec (.safeExit o) s = .next (fnSettle (retainAll (modeEnter t .armed true)))) ∧
      (s.mode.safeFrom = .run ∨ s.mode.safeFrom = .degraded →
        exec (.safeExit o) s = .next (fnSettle (degradedCheck (modeEnter t .run true)))) ∧
      (s.mode.safeFrom = .test ∨ s.mode.safeFrom = .blocked ∨ s.mode.safeFrom = .service →
        exec (.safeExit o) s = .next (fnSettle (modeEnter t s.mode.safeFrom true)))) ∧
    (s.selv.fnUntil ≤ s.now → s.selv.armedOnce = true → curMode s ≠ .safe →
      (s.selv.fnRelHeld = true ∨ rdB s pgSELV 0x0D0 0 = false →
        exec .faultNWidthEnd s = .next { s with selv := { s.selv with fnOn := false, fnRelHeld := false } }) ∧
      (curMode s ≠ .off → s.selv.fnOn = true →
        exec .fnRelease s = .next { s with selv := { s.selv with fnOn := false, fnRelHeld := false } })) ∧
    (s.now < s.selv.fnUntil → curMode s ≠ .off → curMode s ≠ .safe → s.selv.fnOn = true →
      exec .fnRelease s = .next { s with selv := { s.selv with fnRelHeld := true } }) ∧
    (curMode s ≠ .off → exec .selvCntClr s = .next (wr s pgSELV 0x0F4 0)) ∧
    (curMode s = .service → (testLen s (queried s)).isSome = true → unitTested s (queried s) = false →
      exec .selvTestReq s = .next (vacate { s with selv := { s.selv with
        tests := s.selv.tests ++ [⟨queried s, .request, [], .waiting, s.now, 0⟩] } } (queried s) 8)) ∧
    (curMode s = .service → (unitRec s (queried s)).retired = true → (unitRec s (queried s)).passed = true →
      let t := setUnitRec s (queried s) { unitRec s (queried s) with retired := false, passed := false, recov := [] }
      ((queried s).cls ≠ RUnit.bob.cls → queried s ≠ bioUnit → exec .unretire s = .next (roomReturns t)) ∧
      (queried s = bioUnit → exec .unretire s = .next (roomReturns ((List.range 64).foldl binAreas t))) ∧
      ((queried s).cls = RUnit.bob.cls → exec .unretire s = .next (roomReturns (setCore t (queried s).inst
        (if domSt s (queried s).inst = .on then Core.bobStart else Core.reset))))) ∧
    (curMode s ≠ .off → rdB s pgSELV 0x080 2 = true →
      exec (.chkSelfTest ⟨true⟩) s = .next s ∧ exec (.chkSelfTest ⟨false⟩) s = .next (raiseErr s pgSELV 5))

/-! ### Commands that complete: security and debug -/

/-- R583, R635 to R649, R653, R658, R659, R662 to R674, R678, R683: the commands of SEC, LCY, KEY and DBG that are admitted and
whose checks pass: each does its work and answers RESULT 2 (SEC, LCY, KEY, the debug bus master) or 1 (run control). A
challenge lapses after 60 s, a grant and a lockout at their second; the watchdog of a core gives its two marks; the trace is
cleared; a snag stop is told. -/
def Obligations.SecurityAndDebugCommandsComplete : Prop :=
  ∀ s : State,
    (SecReady s →
      (∀ b t, curMode s = .configure → s.hif.hostClock = true → copyCheck s 2 true = (2, b, t) → exec .verifyTables s =
        .next (secDone { t with sec := { t.sec with tbl := some ⟨imgVersion t b, imgSvn t b, true⟩ } })) ∧
      (∀ b t, (curMode s).cfgSvc = true → s.hif.hostClock = true → copyCheck s 3 true = (2, b, t) →
        let ws := (Config.codeWords (imgPayload t b)).filter fun w => decide (w.1 < 2 ^ 16)
        let u := ws.foldl (fun u w => codeBroadcast u w.1 w.2) t
        let img : Img := ⟨imgVersion t b, imgSvn t b, true⟩
        exec .loadCode s = .next (secDone { u with sec := { u.sec with
          code := some img, codeImgs := codeImgsWith t.sec.codeImgs img (ws.map (·.1)) } })) ∧
      (∃ bytes, bytes.length = 32 ∧ exec (.challenge true) s = .next (secDone { s with
        freeCtr := s.freeCtr + 1, sec := { s.sec with challenge := some bytes, chalAt := s.now } })) ∧
      (s.sec.lockUntil = none → imgCheck s (imgAddr s) 4 (decide (curMode s ≠ .keep)) = 2 →
        let p := imgPayload s (imgAddr s)
        let g : Grant := ⟨(p.getD 32 0).toNat, decide ((p.getD 33 0).toNat = 1), secOf s.stc.cnt + leNat ((p.drop 36).take 4)⟩
        exec .dbgResp s = .next (secDone (levelFall { s with sec := { s.sec with
          challenge := none, grant := some g, fails := 0, lockDur := 0 } } (dbgLevel s)))) ∧
      exec .dbgRevoke s = .next (secDone (endGrant s)) ∧
      (∀ k, imgCheck s (imgAddr s) 6 (decide (curMode s = .service)) = 2 →
        Config.unwrapKtk (((imgPayload s (imgAddr s)).drop 48).take 137) = some k → exec .provision s =
          .next (secDone { s with fuses := { s.fuses with ownerRoot := some ((imgPayload s (imgAddr s)).take 48), ktk := some k } })) ∧
      (physBad s (imgAddr s) 512 = false → ∃ record, record.length = 512 ∧
        exec .getId s = .next (secDone (physSetList s (imgAddr s) record)))) ∧
    (s.sec.challenge.isSome = true → s.sec.chalAt + 60000 * msN ≤ s.now →
      exec .challengeLapse s = .next { s with sec := { s.sec with challenge := none } }) ∧
    (∀ g, s.sec.grant = some g → g.untilSec ≤ secOf s.stc.cnt → exec .dbgGrantExpire s = .next (endGrant s)) ∧
    (∀ n, s.sec.lockUntil = some n → n ≤ secOf s.stc.cnt →
      exec .dbgLockoutEnd s = .next { s with sec := { s.sec with lockUntil := none } }) ∧
    (∀ t, pagePowered s pgLCY = true → rdF s pgLCY 0x088 0 4 ≠ 1 → secServes s = true →
      imgCheck s (imgAddr s) 5 (decide (curMode s = .service)) = 2 →
      LcyState.ofCode? ((imgPayload s (imgAddr s)).getD 32 0).toNat = some t →
      let u := endGrant (wipe { s with sec := { s.sec with challenge := none } } true)
      exec (.apply true true false) s = .next (raiseIrq (wr { u with fuses := { u.fuses with
        fused := t
        devTrips := if u.fuses.fused = .develop ∧ t = .manufacture then u.fuses.devTrips + 1 else u.fuses.devTrips
        killed := u.fuses.killed || decide (t = .returned ∨ t = .scrapped) } } pgLCY 0x088 2) pgLCY 0)) ∧
    (∀ k b, pagePowered s pgKEY = true → rdF s pgKEY 0x090 0 4 ≠ 1 → secServes s = true → tampered s = false →
      s.fuses.killed = false → s.fuses.ktk = some k →
      let a := (rd s pgKEY 0x084).toNat / 64 * 64 + rdF s pgKEY 0x088 0 16 * 2 ^ 32
      let n := leNat (physBytes s (a + 6) 2)
      physBad s a 24 = false → physBad s a (40 + 64 * n) = false → leNat (physBytes s a 4) = 0x4B424C4B →
      leNat (physBytes s (a + 4) 2) = 1 → 0 < n → n ≤ 1024 →
      Config.gcmOpen k (physBytes s (a + 8) 12) (physBytes s a 24) (physBytes s (a + 24) (64 * n))
        (physBytes s (a + 24 + 64 * n) 16) = some b →
      (∀ i < n, keyRefused s (keyEntries n b) i = false) →
      exec .keyLoad s = .next (
        let t := { s with sec := { s.sec with
          keys := (keyEntries n b).foldl (fun m e => SMap.set m none e.1 (some e.2)) s.sec.keys } }
        raiseIrq (wr t pgKEY 0x090 2) pgKEY 0)) ∧
    (pagePowered s pgDBG = true → 2 ≤ dbgLevel s →
      let halted := (rcCores s).filter fun c => decide ((core s c).pstate = .halted)
      let locked := (rcCores s).filter fun c => decide ((core s c).pstate = .lockedUp)
      let draining := (rcCores s).filter fun c => decide ((core s c).haltReq = .draining)
      (∀ r t, (rcCores s).foldl (fun u c => (max u.1 (haltAsk u.2 c).1, (haltAsk u.2 c).2)) (1, s) = (r, t) →
        exec .halt s = .next (rcResult t r)) ∧
      (halted ≠ [] → exec .resume s = .next (rcResult (roomReturns (halted.foldl resumeCore s)) 1) ∧
        ∀ irq, exec (.step irq) s = .next (rcResult (wdogSync (halted.foldl (fun u c => modCore u c fun k => { k with
          pstate := runsAs k c, haltReq := .stepping irq, haltCause := 1, bpPass := true }) s)) 1)) ∧
      (locked ≠ [] → exec .resetLockup s = .next (rcResult (locked.foldl resetLockup s) 1)) ∧
      (draining ≠ [] → exec .cancel s = .next (
        let t := draining.foldl (fun u c => modCore u c fun k => { k with haltReq := .none }) s
        rcResult (roomReturns (dropDrains t draining)) 1)) ∧
      (∀ hi v, selCore s ≤ 256 → (core s (selCore s)).pstate = .halted →
        exec (.dbgCoreWrite hi v) s = .next (itemWrite s (selCore s) hi v)) ∧
      (rdF s pgDBG 0x0D0 0 4 ≠ 1 →
        exec .dbgMemRead s = .next (wr { s with dbg := { s.dbg with mem := some false } } pgDBG 0x0D0 1) ∧
        exec .dbgMemWrite s = .next (wr { s with dbg := { s.dbg with mem := some true } } pgDBG 0x0D0 1)) ∧
      exec .traceClr s = .next (wrF { s with dbg := { s.dbg with trace := [], head := 0 } } pgDBG 0x0DC 31 1 0)) ∧
    (∀ a, a = rdF s pgDBG 0x0C0 0 24 → a < 0x400000 → bankPwr s (a / 2 ^ 18) (a / 2 ^ 15 % 8) = .on → a % 2 ^ 18 < 0x2F000 →
      (s.dbg.mem = some true → (∀ m ∈ s.prck.migs, m.copying = false) → exec (.dbgMemDone ⟨.clean⟩) s =
        .next (memEnd (bankSet s a (TWord.ofTag (rdF s pgDBG 0x0C8 0 8) (rd s pgDBG 0x0C4))) 2)) ∧
      (s.dbg.mem = some false → a ∉ s.mem.bankBad → exec (.dbgMemDone ⟨.clean⟩) s =
        .next (memEnd (wr (wr s pgDBG 0x0C4 (bankGet s a).pay) pgDBG 0x0C8 (w32 (bankGet s a).tag)) 2))) ∧
    (∀ c forced, (core s c).haltReq = .pending → (c ≠ spindle ∨ s.spn.rsv = none) →
      exec (.haltTaken c forced) s = .next (haltCore s c (core s c).haltCause)) ∧
    (∀ v : W32, pagePowered s pgDBG = true → bits v 0 8 = 0x5A → exec (.dbgWdogKick .spindle v) s =
      .next (modCore s spindle fun k => { k with wdogPre := false, wdogDue := s.now })) ∧
    (∀ c, coreWdogRuns s c = true →
      ((core s c).wdogPre = false → (core s c).wdogDue + wdogLen s c / 2 ≤ s.now → exec (.coreWdogPre c) s =
        .next (privEdge (modCore s c fun k => { k with wdogPre := true }) (dbgTarget c) 1)) ∧
      ((core s c).wdogDue + wdogLen s c ≤ s.now → rdB s pgDBG 0x0DC 31 = false → exec (.coreWdogExpire c) s =
        .next (raiseErr (wr (modCore s c fun k => { k with wdogPre := false, wdogDue := s.now }) pgDBG 0x0DC
          (w32 (dbgTarget c + 2 ^ 31))) pgDBG 0 0 [coreUnit c]))) ∧
    (s.dbg.snagWas = true → snagAllowed s = false →
      exec .snagStop s = .next (raiseIrq { s with dbg := { s.dbg with snagWas := false } } pgDBG 3))

/-! ### Commands that complete: strands and tick lines -/

/-- R13, R343, R344, R346 to R359, R366 to R372, R522, R615: the events of the Whorl's lines and bobbins and its strand commands.
A window that has ended closes its tick; a tracking line ticks; an idle bobbin loads its first READY strand, and one that must
run at once takes a bobbin from an M- or B-class strand; a used budget is BUDGET; a faulted strand is reported; a timer, a
timeout; a strand is created, suspended, resumed, reset, freed or cleared from the states its command is legal in, with
RESULT 2; the counts clear; an interrupt wakes a sleeping core. -/
def Obligations.WhorlCommandsComplete : Prop :=
  ∀ s : State,
    (∀ o : CloseObs, o.line < 8 → (tline s o.line).running = true → tlMode s o.line = 1 →
      (tline s o.line).nominal + tlWindow s o.line ≤ cntAt s o.sub → exec (.windowClose o) s = .next (
        guardAll (nextTick (closeTick s o.line (cntAt s o.sub) true o.agree o.inBound) o.line (cntAt s o.sub)))) ∧
    (∀ n sub ok, n < 8 → (tline s n).running = true → tlMode s n = 2 → (tline s n).nominal ≤ cntAt s sub →
      exec (.trackingTick n ⟨sub, ok⟩) s = .next (
        let t := closeTick s n (cntAt s sub) false true ok
        let l := tline t n
        guardAll (trkEstimate (setLine t n { l with
          tick := (l.tick + 1) % 2 ^ 17, nominal := l.nominal + l.period, lastClose := cntAt s sub }) n))) ∧
    (∀ b i j x p k e, b < 256 → (core s b).pstate = .idle → domSt s b = .on → (core s b).haltReq ≠ .pending →
      (core s b).switch = none → firstReady s b = some (i, j) → strand s i = some x → ply? s i j = some p → p.slot = some k →
      partnerSwitching s b i = false → Enters e →
      ∀ t, loadOn s b ⟨i, j, k⟩ [] p.side e = (none, t) → exec (.strandStart b true e) s = .next t) ∧
    (∀ b o x e, b < 256 → (core s b).pstate = .strand → (core s b).strand = some o → strand s o.idx = some x → 2 ≤ dCls x.decl →
      (∃ f ∈ readyOn s b, ∃ y, strand s f.1 = some y ∧ dCls y.decl < 2) → (core s b).pset = false → (core s b).delay = none →
      partnerSwitching s b o.idx = false → Enters e →
      exec (.strandPreempt ⟨b, e⟩) s = .next (leaveWith s b o ⟨false, true, .ready, none, true⟩ e)) ∧
    (∀ b o e, b < 256 → (core s b).strand = some o → (core s b).pstate = .strand →
      (budgetHandler (core s b) = true → exec (.budgetExhausted ⟨b, e⟩) s = .next (overrun s b o)) ∧
      (budgetHandler (core s b) = false → (core s b).budgetPend = true → canRecognise (core s b) = true →
        exec (.budgetExhausted ⟨b, e⟩) s = .next
          (enter (modCore s b fun x => { x with budgetPend := false, budgetOver := true }) b e 13 0 0 false))) ∧
    (∀ b o x fi st link cells, b < 256 → (core s b).strand = some o → strand (saveU s b (drain (core s b)) o) o.idx = some x →
      openFrame (drain (core s b)) = some (fi, st, link, cells) → 1 ≤ bits fi 0 10 → bits fi 0 10 ≤ 11 →
      let v := bits fi 0 10
      let t := soe (modStrand (saveU s b (drain (core s b)) o) o.idx fun x => { x with vector := v }) 9 RUnit.whrl.cls v
        (TWord.nat 0).tag (w32 (bits fi 12 4 + bits link 0 16 * 2 ^ 16)) x.id
      exec (.strandFaultReport b) s = .next (afterLeave (plyLeaves (setCore t b (wdogReload t
        (leaveCore (closeFrame (drain (core s b)))))) o.idx o.ply .faulted) b o.idx)) ∧
    (∀ i x, strand s i = some x → dTrig x.decl = 2 →
      let per := max 1 (dPeriod x.decl) * 1000 * nsU
      let m := (s.stc.cnt + s.stc.incr) / per * per
      s.stc.cnt ≤ m → m ≠ x.timerAt → exec (.timerTrigger i) s =
        .next (trigger (modStrand s i fun y => { y with timerAt := m }) i)) ∧
    (∀ i x n, strand s i = some x → (∀ p ∈ x.plies, p.st = .waiting ∧ p.waitFor = some (.msAt n) ∧ p.slot.isSome = true) →
      n ≤ s.stc.cnt + s.stc.incr → exec (.waitTimeout i) s =
        .next (modStrand s i fun x => { x with plies := x.plies.map fun p => { p with st := .ready } })) ∧
    (WhrlReady s →
      let i := scmdIdx s
      let d := dramWords s ((rd s pgDRA 0x0A4).toNat * 2 ^ 20 + 32 * i) 8
      (∀ segs t, s.hif.hostClock = true → classRefused s (dCls d) true = false → createStrand s i segs none = (2, t) →
        exec (.whrlCreate segs none) s = .next (scmdEnd t i 2)) ∧
      let after (act : Ply → Ply) : State :=
        sendOrphans (freeIfGone (modStrand (abortMigs s i) i fun y => { y with plies := y.plies.map act }) i) i
      (∀ x, strand s i = some x →
        ((∀ p ∈ x.plies, p.st = .suspended) → exec .whrlResume s = .next (
          let t := modStrand s i fun y => { y with plies := y.plies.map fun p =>
            { p with st := if p.slot.isSome then .staged else .parked } }
          scmdEnd (msgTrigger { t with prck := { t.prck with capSusp := t.prck.capSusp.filter (· ≠ i) } } i false) i 2)) ∧
        ((∀ p ∈ x.plies, p.st = .suspended ∨ p.st = .faulted) → classRefused s (dCls x.decl) false = false →
          exec .whrlReset s = .next (
            let n := match strand (abortMigs s i) i with | some y => y.plies.length | none => 0
            let t := (List.range n).foldl (fun v j => ctxReset v i j) (abortMigs s i)
            scmdEnd (modStrand t i fun y => { y with
              vector := 0, plies := y.plies.map fun p => { p with st := .suspended } }) i 2)) ∧
        ((classRefused s (dCls x.decl) false = false →
            (∀ t, (∃ p ∈ x.plies, p.st ≠ .free ∧ p.st ≠ .faulted) →
              t = after (fun p => if p.st = .free ∨ p.st = .faulted then p
                else if p.st = .running then { p with atDrain := some 2 } else { p with st := .suspended }) →
              (∀ y, strand t i = some y → ∀ p ∈ y.plies, p.atDrain = none) → exec .whrlSuspend s = .next (scmdEnd t i 2)) ∧
            (∀ t, (∃ p ∈ x.plies, p.st = .faulted) →
              t = after (fun p => if p.st = .faulted then { p with st := .suspended } else p) →
              (∀ y, strand t i = some y → ∀ p ∈ y.plies, p.atDrain = none) → exec .whrlClear s =
                .next (modStrand (scmdEnd t i 2) i fun y =>
                  if (y.plies.any fun p => decide (p.st = .faulted)) then y else { y with vector := 0 }))) ∧
          (classRefused s (dCls x.decl) true = false → ∀ t, (∃ p ∈ x.plies, p.st ≠ .free) →
            t = after (fun p => if p.st = .free then p
              else if p.st = .running then { p with atDrain := some 5 } else { p with st := .free }) →
            (∀ y, strand t i = some y → ∀ p ∈ y.plies, p.atDrain = none) → exec .whrlFree s = .next (scmdEnd t i 2))))) ∧
    (pagePowered s pgWHRL = true → exec .whrlCntClr s = .next (
      let t := (List.range 8).foldl (fun u n => [0x20, 0x24, 0x28, 0x2C, 0x30, 0x34].foldl (fun v o => wr v pgWHRL (tlOff n o) 0)
        (wrF u pgWHRL (tlOff n 0x1C) 16 16 0)) s
      { wrF (wr t pgWHRL 0x09C 0) pgWHRL 0x0A0 16 13 0 with
        whrl := { (wrF (wr t pgWHRL 0x09C 0) pgWHRL 0x0A0 16 13 0).whrl with resync := false } })) ∧
    (∀ c e, c ≤ 256 → (core s c).pstate = .idle → presented s (eicTarget c) = some e → rdB s (pgEICT (eicTarget c)) 0x088 1 = true →
      exec (.coreWake c) s = .next (modCore s c fun k => { k with pstate := if c = spindle then .strand else .system })) ∧
    (∀ c e, c < 256 → (core s c).pstate = .off → domSt s c = .off → (curMode s).runs = true → presented s (c + 1) = some e →
      rdB s (pgEICT (c + 1)) 0x088 1 = true → ∃ t, exec (.coreWake c) s = .next t ∧ core t c = Core.bobStart ∧ domSt t c = .on)

/-! ### Commands that complete: Pricking and plying -/

/-- R375 to R408, R460, R559, R611: the Pricking unit's events and commands. A sample of the loop is noted; a copy that is done commits
its move; a parked strand's image is fetched and takes its slot; a step of each rota that is due marks its unit for proof or
skips it, and moves on, and what a round has skipped comes first in the next; EXCLUDE takes a set that leaves pillows enough, and asks
for no move away from one it lets in; a heartbeat marks its tick as heard and an entry of it that names an own strand hands back one that
has yielded; a shadow is handed back or dropped; the counts clear. -/
def Obligations.PrickingCommandsComplete : Prop :=
  ∀ s : State,
    (∀ obs, pagePowered s pgPRCK = true →
      let ps := (List.range 16).filterMap fun p => (obs[p]?).map fun o => (p, o)
      let t := ps.foldl (fun u e => { u with prck := { u.prck with
        util := SMap.set u.prck.util 0 e.1 e.2.util, temp := SMap.set u.prck.temp 0 e.1 e.2.temp
        head := SMap.set u.prck.head 0 e.1 e.2.head } }) s
      let u := ps.foldl (fun u e => (List.range 3).foldl (fun v i => loopInput v e.1 i e.2) u) t
      let seen (v : State) : State := { v with prck := { v.prck with judged := true } }
      rdB u pgPRCK 0x080 0 = false → rdB u pgPRCK 0x080 4 = false →
        exec (.prckLoopSample ⟨obs, []⟩) s = .next ((List.range 16).foldl setFloor (seen (serveWants u))) ∧
        ∀ i j, migOf u i j = none →
          exec (.prckLoopSample ⟨obs, [(i, j)]⟩) s = .next ((List.range 16).foldl setFloor (seen (serveWants (want u i j 8))))) ∧
    (∀ i j m q, migOf s i j = some m → m.copying = true → pilFloor s (pilOf m.dst) ≤ pilFreq s (pilOf m.dst) →
      s.hif.hostClock = true → ply? s i (m.rebuildFrom.getD j) = some q → moveStill s m = true →
      (∀ a ∈ moveReads s m, a ∉ s.mem.bankBad) →
      exec (.migrationCopyDone i j .clean) s = .next (decideNow (commitMig s m false) i)) ∧
    (∀ i x p t, strand s i = some x → ply? s i 0 = some p → p.st = .parked → s.dra.st = .ready → s.hif.hostClock = true →
      (stageDue s x p = true ∨ p.staging = true) → parkBandwidth s (stageAhead s i x p) = (true, t) → exec (.stageStart i) s =
        .next (modPly { t with dra := { t.dra with sr := false, idleFrom := t.now } } i 0 fun q => { q with staging := true })) ∧
    (∀ i x p k, strand s i = some x → ply? s i 0 = some p → p.st = .parked → p.staging = true → p.slot = none → p.merged = false →
      s.hif.hostClock = true → s.dra.poison = [] → freeSlot s (pilOf p.bob) = some k →
      let ws := (List.range 64).map fun j => ctxGet s i p j
      imageRefused ws x.id = false →
      let t := modPly s i 0 fun q => { q with slot := some k, staging := false, merged := false, st := if q.st = .parked then .staged else q.st }
      let u := { t with prck := { t.prck with staged := t.now :: t.prck.staged.filter fun n => decide (t.now < n + 1000 * msN) } }
      ∀ q, ply? u i 0 = some q → exec (.stageComplete i) s =
        .next (msgTrigger (prckLogNow (drainOverflow (ctxSetList u i q 0 ws) i) 5 10 i 0 q.bob q.bob 64) i false)) ∧
    (let ended (mine : RotaUnit → Bool) (v : State) : State := { v with prck := { v.prck with
        retry := v.prck.retry ++ v.prck.skipped.filter mine, skipped := v.prck.skipped.filter fun r => !mine r } }
      let taken (v : State) (r : RotaUnit) : State := { v with prck := { v.prck with proving := v.prck.proving ++ [r] } }
      s.prck.proving = [] → s.prck.retry = [] →
      (rotaDue s s.prck.rotaBAt 256 = true →
        let b := 16 * (s.prck.rotaB % 16) + s.prck.rotaB / 16
        let r := RotaUnit.bobbin b
        let u := proofLate s (pgBOB b) (bobUnit b)
        let step (v : State) : State :=
          let w := { v with prck := { v.prck with rotaB := (s.prck.rotaB + 1) % 256, rotaBAt := s.now } }
          if s.prck.rotaB + 1 = 256 then ended RotaUnit.isBob w else w
        (rotaIn s (pgBOB b) (bobUnit b) = false → exec .rotaBobbinStep s = .next (step s)) ∧
        (rotaIn s (pgBOB b) (bobUnit b) = true → rotaFree u r = false → exec .rotaBobbinStep s = .next (step (rotaSkip u r))) ∧
        (rotaIn s (pgBOB b) (bobUnit b) = true → rotaFree u r = true → exec .rotaBobbinStep s =
          .next (step (askTest (vacate (prckLogUnit (taken u r) 7 4 b) (bobUnit b) 4) (bobUnit b) .rota [])))) ∧
      (rotaDue s s.prck.rotaKAt 128 = true →
        let p := s.prck.rotaK % 16
        let k := s.prck.rotaK / 16
        let r := RotaUnit.bank p k
        let on := decide (bankPwr s p k = .on) && rotaIn s (pgPIL p) (bankUnit p k)
        let u := proofLate s (pgPIL p) (bankUnit p k)
        let step (v : State) : State :=
          let w := { v with prck := { v.prck with rotaK := (s.prck.rotaK + 1) % 128, rotaKAt := s.now } }
          if s.prck.rotaK + 1 = 128 then ended RotaUnit.isBank w else w
        (on = false → exec .rotaBankStep s = .next (step s)) ∧
        (on = true → rotaFree u r = false → exec .rotaBankStep s = .next (step (rotaSkip u r))) ∧
        (on = true → rotaFree u r = true → exec .rotaBankStep s =
          .next (step (askTest (vacate (prckLogUnit (taken u r) 7 4 0) (bankUnit p k) 4) (bankUnit p k) .rota [])))) ∧
      (rotaDue s s.prck.rotaLAt 96 = true →
        let k := s.prck.rotaL
        let r := RotaUnit.lane k
        let on := laneOn s k && rotaIn s (pgLANE k) (laneUnit k)
        let u := proofLate s (pgLANE k) (laneUnit k)
        let step (v : State) : State :=
          let w := { v with prck := { v.prck with rotaL := (k + 1) % 96, rotaLAt := s.now } }
          if k + 1 = 96 then ended RotaUnit.isLane w else w
        (on = false → exec .rotaLaneStep s = .next (step s)) ∧
        (on = true → rotaFree u r = false → exec .rotaLaneStep s = .next (step (rotaSkip u r))) ∧
        (on = true → rotaFree u r = true → exec .rotaLaneStep s = .next (step (askTest (taken u r) (laneUnit k) .rota []))))) ∧
    (∀ v : W32, pagePowered s pgPRCK = true →
      pillowsNeeded s ≤ eligible s (w32 (bits v 0 16)) →
      let t0 := wr s pgPRCK 0x094 (w32 (bits v 0 16))
      let t := { t0 with prck := { t0.prck with wants := t0.prck.wants.filter fun w =>
        !(decide (w.reason = 7) && (match ply? t0 w.idx w.ply with | some q => !excluded t0 (pilOf q.bob) | none => true)) } }
      (rdB t pgPRCK 0x080 0 = false → exec (.prckExcludeWrite v) s = .next (roomReturns t)) ∧
      (rdB t pgPRCK 0x080 0 = true → exec (.prckExcludeWrite v) s = .next (serveWants (roomReturns
        ((List.range 16).foldl (fun u p => if excluded u p then moveAway u p 7 else u) t))))) ∧
    (∀ (f : TickHb) (t : State), interRx s f.h = (true, t) → rdB t pgPRCK 0x080 3 = true → 5 ≤ f.mode → f.mode < 10 →
      let key := f.h.src * 8 + f.line % 8
      let u := { t with prck := { t.prck with
        heard := SMap.set t.prck.heard ⟨none, 0⟩ key ⟨some f.tick, (SMap.get t.prck.heard ⟨none, 0⟩ key).missed⟩ } }
      (f.entries = [] → exec (.tickHeartbeatRx f) s = .next u) ∧
      (∀ id v x, f.entries = [(id, v)] → idEngine id = t.glb.engineNum → strand t (idIndex id) = some x → x.id = id → bit v 1 = true →
        exec (.tickHeartbeatRx f) s = .next (modStrand u (idIndex id) fun y => { y with handback := y.yielded }))) ∧
    (∀ x, pagePowered s pgPRCK = true → strand s (rdF s pgPRCK 0x0A8 0 21) = some x → x.shadowOf.isSome = true →
      (x.taken = true → exec .handBack s = .next (modStrand s (rdF s pgPRCK 0x0A8 0 21) fun y => { y with handback := true })) ∧
      exec .shadowDrop s = .next (
        let t := freeStrand s (rdF s pgPRCK 0x0A8 0 21)
        { t with prck := { t.prck with
          dir := t.prck.dir.filter fun d => decide (d.shadow ≠ x.id), dirGen := (t.prck.dirGen + 1) % 2 ^ 32 } })) ∧
    (pagePowered s pgPRCK = true →
      exec .prckCntClr s = .next (wrF (wr (wr s pgPRCK 0x0C4 0) pgPRCK 0x0C8 0) pgPRCK 0x0B8 16 16 0))

/-! ### Commands that complete: lanes and frames -/

/-- R440 to R470, R474 to R481, R363 to R366: the events of a lane that is on, and the frames that pass the receive checks. A
loss or return of the signal, once its swing has lasted, of LINK, a symbol error, the millisecond's eye; a pair's supervision frames
every 2 s; a sampled-value or GOOSE frame reaches every subscription that it matches, a message its strand, a PTP frame and one of
another EtherType the firmware's ring; what is queued first is sent when the lane is free and its guard shut; the ring's entries are fetched; entries, values and counts lapse or clear. -/
def Obligations.LaneCommandsComplete : Prop :=
  ∀ s : State,
    (∀ k, laneOn s k = true →
      (∀ (o : SwingObs) (b : Bool), o.lane = k →
        let least := rdF s (pgLANE k) 0x094 0 8 * 10
        ((laneMode s k = 3 ∨ (o.swing < least ∧ 10000 ≤ o.held)) →
          exec (.laneSignalLoss o b) s = .next (condErr (linkFalls (modLane s k fun l => { l with signal := false }) k
            (b && (lane s k).link)) (pgLANE k) 0)) ∧
        (laneMode s k ≠ 3 → (least ≤ o.swing ∨ o.held < 10000) → exec (.laneSignalLoss o b) s = .next s) ∧
        ((laneMode s k = 3 ∨ (least + 20 < o.swing ∧ 100000 ≤ o.held)) → exec (.laneSignalRestore o) s =
          .next (condEnd (lineSends (modLane s k fun l => { l with signal := true }) k) (pgLANE k) 0)) ∧
        (laneMode s k ≠ 3 → (o.swing ≤ least + 20 ∨ o.held < 100000) → exec (.laneSignalRestore o) s = .next s)) ∧
      (∀ (o : LinkFall) (b : Bool), o.lane = k → exec (.laneLinkDown o b) s = .next (linkFalls
        (modLane s k fun l => { l with fefRx := o.farFault && decide (laneMode s k = 1) }) k (b && (lane s k).link))) ∧
      (laneMode s k ≠ 3 → (lane s k).signal = true → (laneMode s k ≠ 2 ∨ portB s (pgLANE k) 0x080 7 = false) →
        ∀ b, exec (.laneLinkUp k b) s = .next (setLink (modLane s k fun l => { l with anDone := false, fefRx := false }) k true)) ∧
      (laneMode s k = 2 → (lane s k).signal = true → portB s (pgLANE k) 0x080 7 = true →
        exec (.laneLinkUp k false) s = .next (setLink (modLane s k fun l => { l with anDone := true, fefRx := false }) k true)) ∧
      (let t := modLane (laneCount s k 0x0C4) k fun x => { x with symAt := some s.now }
        let recent := (lane t k).symTimes.filter fun n => decide (t.now < n + msN)
        (recent.length < 16 →
          exec (.laneSymbolError k) s = .next (setLane t k { lane t k with symTimes := t.now :: recent })) ∧
        (16 ≤ recent.length →
          exec (.laneSymbolError k) s = .next (raiseErr (setLane t k { lane t k with symTimes := [] }) (pgLANE k) 4))) ∧
      (∀ e : EyeMeas, e.lane = k → laneMode s k ≠ 3 →
        let seen (n : Nat) (locked : Bool) : State := modLane s k fun l => { l with
          ctle := e.ctle, dfe := e.dfe.take 5, thresh := e.swing / 2, eyeV := e.eyeV, eyeH := e.eyeH, eqEnd := n, eqLocked := locked
          eyeLowAt := if e.eyeV ≤ rdF s (pgLANE k) 0x094 8 8 then some s.now else l.eyeLowAt }
        (e.atEnd = false → exec (.laneEyeMeasure e) s = .next (condEnd (seen 0 true) (pgLANE k) 1)) ∧
        (e.atEnd = true → (lane s k).eqEnd < 9 → exec (.laneEyeMeasure e) s = .next (seen ((lane s k).eqEnd + 1) false)) ∧
        (e.atEnd = true → 9 ≤ (lane s k).eqEnd →
          exec (.laneEyeMeasure e) s = .next (condErr (seen ((lane s k).eqEnd + 1) false) (pgLANE k) 1))) ∧
      (laneMode s k = 3 → laneAway s k = false → ∀ f : C37Frame, f.lane = k →
        (f.valid = false → exec (.c3794FrameRx f) s = .next (lineSends (modLane s k fun l => { l with c37Good := 0 }) k)) ∧
        (f.valid = true → f.rdi = false → (lane s k).c37Good = 0 → f.n = portF s (pgLANE k) 0x080 3 4 →
          exec (.c3794FrameRx f) s = .next (condEnd (lineSends (modLane s k fun l => { l with
            c37Good := 1, rdi := false, nRx := f.n }) k) (pgLANE k) 6))) ∧
      (laneRed s k ≠ 0 → k % 2 = 0 → k < 96 →
        (supDue s (k / 2) = true →
          let v := (free32 { s with fport := { s.fport with supAt := SMap.set s.fport.supAt none (k / 2) (some s.now) } }).2
          ∃ len, 64 ≤ len ∧ len ≤ 1536 ∧ exec (.supervisionFrameTx (k / 2)) s =
            .next (laneSend v k ⟨3, len, .supervision, some (supHead v k), none, .none, s.now, false⟩)) ∧
        (supDue s (k / 2) = false → exec (.supervisionFrameTx (k / 2)) s = .next s)) ∧
      (∀ sub f bytes, laneMode s k ≠ 3 → (lane s k).link = true → laneAway s k = false → (lane s k).busyUntil ≤ s.now + sub →
        let t := guardUpdate s k
        firstFrame (lane t k) = some f → (lane t k).guardOpen = false → nextGuard t k = none → f.body = .forwarded bytes →
        exec (.frameTxStart k sub) s = .next (modLane (laneCount (setLane t k { lane t k with
          tx := dropFrame f (lane t k).tx, lastTx := some f
          busyUntil := s.now + sub + frameTime t k (f.len + 12) }) k 0x0C8) k fun x =>
            { x with lastTx := some { f with body := .forwarded (resided bytes (s.now + sub - f.at')) } })) ∧
      (∀ n, n < 8 → rdB s (pgLANE k) 0x090 n = true → (tline s n).running = true → (tline s n).nominal ≤ s.stc.cnt + s.stc.incr →
        exec (.laneGuardOpen k n) s = .next (modLane s k fun x => { x with
          guardOpen := true
          guardTl := (x.guardTl.filter fun e => decide (e % 8 ≠ n)) ++ [n + 8 * (tline s n).tick] }))) ∧
    (∀ (f : SvFrame) t, rxChecks (snagFire s (pgLANE f.f.lane) [1]).2 f.f = (true, t) → frameClass t f.f = .sv → f.agree = true →
      f.asdus.length ≤ 8 → (∀ e ∈ svHits t f, simOk (rxGood t f.f.lane) f.sim e.2.sim = true) →
      authNeeded t f.f.lane ((svHits t f).map (·.2.entry)) = false →
      (svHits t f = [] → exec (.svFrameRx f) s = .next (rxGood t f.f.lane)) ∧
      (∀ i x, svHits t f = [(i, x)] → exec (.svFrameRx f) s =
        .next (f.asdus.foldl (fun v a => svAsdu v i f.sim a) (rxGood t f.f.lane)))) ∧
    (∀ (f : GooseFrame) t, rxChecks (snagFire s (pgLANE f.f.lane) [1]).2 f.f = (true, t) → frameClass t f.f = .goose →
      f.agree = true → authNeeded t f.f.lane ((goHits t f).map (·.2.entry)) = false → exec (.gooseFrameRx f) s =
        .next ((goHits t f).foldl (fun u p => goFrame u p.1 f) (rxGood t f.f.lane))) ∧
    (∀ (f : Frame) t, rxChecks s f = (true, t) → frameClass t f = .ptp →
      let u := rxGood t f.lane
      let c := cntAt u f.sub - rdF u (pgLANE f.lane) 0x0A4 0 16 * nsU
      (ptpEvent f.bytes = true → ptpOn u f.lane = true → exec (.ptpFrameRx f) s = .next (fwqPut u f.lane f.len
        (some (secOf c % 2 ^ 32, nsOf c)) (ptpRxBytes u f.lane f.bytes) f.busErr)) ∧
      (ptpEvent f.bytes = false → exec (.ptpFrameRx f) s = .next (fwqPut u f.lane f.len none f.bytes f.busErr))) ∧
    (∀ (m : InterMsg) t x, interRx s m.h = (true, t) → strand t (idIndex m.dest) = some x → x.id = m.dest →
      (destRoom t x = true → exec (.interEngineMessageRx m) s =
        .next (deliver t (idIndex m.dest) ⟨m.sender, m.containers.map TWord.ofContainer⟩)) ∧
      (destRoom t x = false → exec (.interEngineMessageRx m) s = .next (msgDropped t))) ∧
    (∀ (f : Frame) t, rxChecks s f = (true, t) → frameClass t f = .supervision → laneRed t f.lane ≠ 0 →
      exec (.supervisionFrameRx f) s = .next (rxGood t f.lane)) ∧
    (∀ (f : Frame) t, rxChecks s f = (true, t) → frameClass t f = .other →
      let u := laneCount t f.lane 0x0C0
      (isPause f = false → portB u (pgPG (f.lane / 8)) 0x080 0 = true →
        exec (.otherFrameRx f) s = .next (fwqPut u f.lane f.len none f.bytes f.busErr)) ∧
      (isPause f = true ∨ portB u (pgPG (f.lane / 8)) 0x080 0 = false → exec (.otherFrameRx f) s = .next u)) ∧
    (∀ p n,
      let rest := (SMap.get s.fport.dup [] p).filter fun e => !(decide (e.src = n) && dueBy s (e.at' + 400 * msN))
      exec (.dupEntryExpire p n) s = .next { s with fport := { s.fport with dup := SMap.set s.fport.dup [] p rest } }) ∧
    (∀ g v busErr, g < 12 → pagePowered s (pgPG g) = true → s.hif.hostClock = true → exec (.pgFwqTxHeadWrite g v busErr) s =
      .next (fwqFetch (wr s (pgPG g) 0x0A8 (w32 (bits v 0 5))) g (rdF s (pgPG g) 0x0A8 0 5)
        ((bits v 0 5 + 32 - rdF s (pgPG g) 0x0A8 0 5) % 32) busErr)) ∧
    (∀ k, k < 96 → pagePowered s (pgLANE k) = true →
      exec (.laneCntClr k) s = .next ((List.range 11).foldl (fun u i => wr u (pgLANE k) (0x0A8 + 4 * i) 0) s) ∧
      (curMode s = .service → exec (.eqRestart k) s =
        .next (condEnd (modLane s k fun l => { l with eqLocked := false, eqEnd := 0 }) (pgLANE k) 1))) ∧
    (∀ i x n, SMap.get s.pio.goose none i = some x → x.tal = some n → dueBy s n = true → exec (.gooseTalExpiry i) s =
      .next (areaWrite s i { x with tal := none, force := true, stat := statUp x.stat 5 1 }
        (x.vals.map fun w => { w with q := { w.q with val := .invalid } })))

/-! ### Commands that complete: publications, trip outputs, binary inputs -/

/-- R58, R60, R483, R487 to R500, R503, R507, R305, R583: the events of the publication builder, of TRIP and of BIO. A comparison or a
vote whose window has passed closes; a GOOSE frame is sent again at twice its interval, within T_MAX; every loaded entry's
status record is written; a deferred reset is driven at the end of MIN_ON; a readback that disagrees is a fault until it
agrees; an edge, a matured change and the end of chatter of a binary input; the counts clear. While BIO is retired every word that
it gives carries VAL invalid, and (the model's choice, log entry 186) it samples no edge. -/
def Obligations.OutputCommandsComplete : Prop :=
  ∀ s : State,
    (∀ n t a b agree, (pub? s n).bind (·.open') = some (t, a, b) → dueBy s (t + pubWin s) = true →
      exec (.pubCompareClose n agree) s = .next (guardAll (pubClose s n agree))) ∧
    (∀ n x t, pub? s n = some x → x.due = some t → dueBy s t = true →
      let iv := min (2 * x.interval) (bits (dword x.entry 10) 16 16 * 10)
      let y := { x with interval := iv, due := some (t + iv * 1600000) }
      (pubOpenFor s (pubOwner x.entry) = false → exec (.gooseRetransmit n) s = .next (setPub s n y)) ∧
      (pubOpenFor s (pubOwner x.entry) = true → x.sqNum < 4294967295 →
        let z := { pubStat y 0 1 with sqNum := x.sqNum + 1, stat := (pubStat y 0 1).stat.set 7 (w32 (x.sqNum + 1)) }
        exec (.gooseRetransmit n) s = .next (pubSend (setPub s n z) z
          (.goose n x.stNum (x.sqNum + 1) (2 * iv) x.tSec x.tNs x.tq (decide (curMode s = .test)) x.last)))) ∧
    (s.dra.st = .ready → exec .statusRecordWrite s = .next (
      let t := statusPut (tblBase s + 0x418000) (s.pio.sv.filterMap fun p => p.2.map fun x => (p.1, x.stat)) s
      let u := statusPut (tblBase s + 0x438000) (s.pio.goose.filterMap fun p => p.2.map fun x => (p.1, x.stat)) t
      statusPut (tblBase s + 0x4B8000) (s.pio.pubs.filterMap fun p => p.2.map fun x => (p.1, x.stat)) u)) ∧
    (∀ n k g agree, (outp s n).groups.find? (fun g => decide (g.k = k)) = some g → dueBy s (g.since + voteWin s) = true →
      exec (.tripVoteClose n k agree) s = .next (groupClose s n k (g.since + voteWin s - s.now) agree)) ∧
    (∀ n t c, (outp s n).deferred = some (t, c) → dueBy s t = true → outHeld s n = false →
      let u := setOut s n { outp s n with deferred := none }
      (c.q.tst = false ∨ curMode s = .test →
        exec (.tripDeferredReset n) s = .next (drivePin u n (t - s.now) false (some c))) ∧
      (c.q.tst = true → curMode s ≠ .test →
        exec (.tripDeferredReset n) s = .next (raiseIrq (bumpWrap (tripSoe u n (t - s.now) 2 c) pgTRIP 0x09C 2) pgTRIP 1))) ∧
    (∀ n level, n < 32 → pagePowered s pgTRIP = true →
      let want := (outp s n).operated != bit (outCfg s n) 6
      (level = want → exec (.tripReadbackFault n level) s = .next (setOut s n { outp s n with rb := level })) ∧
      (level ≠ want → bit (outCfg s n) 24 = true → (outp s n).rbFault = false →
        dueBy s ((outp s n).onSince + bits (outCfg s n) 16 8 * 100 * usN) = true → exec (.tripReadbackFault n level) s = .next (
        let t := raiseIrq (raiseErr (setOut s n { outp s n with rb := level, rbFault := true }) pgTRIP 2) pgTRIP 0
        triggerEvent (soe t 5 RUnit.trip.cls n (TWord.nat 0).tag (w32 (if level then 1 else 0)) (ownerId t n)) 2 n))) ∧
    (pagePowered s pgTRIP = true →
      exec .tripCntClr s = .next (wr (wr (wr s pgTRIP 0x098 0) pgTRIP 0x09C 0) pgTRIP 0x0A0 0) ∧
      ∀ levels : W32, exec (.rbClr levels) s = .next ((List.range 32).foldl (fun u n =>
        if (outp u n).rbFault && decide (bit levels n = ((outp u n).operated != bit (outCfg u n) 6)) then
          raiseIrq (setOut u n { outp u n with rb := bit levels n, rbFault := false }) pgTRIP 0
        else if (outp u n).rb = bit levels n then u else setOut u n { outp u n with rb := bit levels n }) s)) ∧
    (∀ n level sub, binOn s n = true →
      let lv := level != bit (binCfg s n) 8
      let c := cntAt s sub
      let t := setBin s n { bin s n with raw := lv, lastEdge := s.now + sub }
      (lv = (bin s n).stable → exec (.biEdge n level sub) s = .next t) ∧
      (bits (binCfg s n) 0 8 = 0 → lv ≠ (bin s n).stable →
        exec (.biEdge n level sub) s = .next (binChange t n lv (secOf c) (nsOf c) (stcQual s).val.code)) ∧
      (bits (binCfg s n) 0 8 ≠ 0 → lv ≠ (bin s n).stable → (bin s n).first = none → exec (.biEdge n level sub) s =
        .next (setBin t n { bin t n with
          first := some (secOf c, nsOf c, (stcQual s).val.code), firstNow := s.now + sub }))) ∧
    (∀ n sec ns tv, (bin s n).first = some (sec, ns, tv) → binOn s n = true → (bin s n).raw ≠ (bin s n).stable →
      dueBy s ((bin s n).firstNow + bits (binCfg s n) 0 8 * 100 * usN) = true →
      exec (.biChange n) s = .next (binChange s n (bin s n).raw sec ns tv)) ∧
    (∀ n sub, binOn s n = true → (bin s n).supp = true → dueBy s ((bin s n).lastEdge + bits (binCfg s n) 24 8 * 100 * msN) = true →
      let b := bin s n
      let t := setBin s n { b with supp := false, recent := [], first := none, stable := b.raw }
      let u := raiseIrq (soeAt (if b.raw = b.stable then t else binCount t) (cntAt s sub) 7 RUnit.bio.cls n 0x20 0 0) pgBIO 1
      (b.raw = b.reported → exec (.biChatterRelease n sub) s = .next (binAreas u n)) ∧
      (b.raw ≠ b.reported → exec (.biChatterRelease n sub) s = .next (binReport u n b.raw (secOf (cntAt u sub)) (nsOf (cntAt u sub))
        (stcQual u).val.code true))) ∧
    (pagePowered s pgBIO = true → exec .bioCntClr s = .next (wr s pgBIO 0x09C 0)) ∧
    ((unitRec s bioUnit).retired = true →
      (∀ maps, ∀ w ∈ binWords s maps, w.q.val = .invalid) ∧ ∀ n level sub, exec (.biEdge n level sub) s = .next s)

/-! ### Commands that complete: the spindle's coherence, events of cores, control stores -/

/-- R192, R209, R210, R221, R227 to R236, R241, R259, R263, R285 to R287, R292, R355: the events of the coherence agent, of the barrier
and of the cores. A snoop is answered, or held while its line is in FP or reserved; a fill is installed and what waited for it
goes on; a writeback leaves its entry; a retry and its grant, a request without an answer, a dead agent; a store that
fails as it drains; cores that disagree are fenced; an idle bobbin acknowledges the barrier; BUDGET and the late bus error are
entered at a recognition point; the pages' counts clear; a patch is read and installed. -/
def Obligations.CoreEventsComplete : Prop :=
  ∀ s : State,
    (∀ x t e, s.spn.sb = x :: t → exec (.lateBusError e) s =
      .next (lateError { s with spn := { s.spn with sb := t } } x (decide (e = .poison)))) ∧
    ((core s spindle).pstate ≠ .off → (core s spindle).pstate ≠ .fenced → (core s spindle).pstate ≠ .lockedUp →
      exec .spindleLockstepMismatch s = .next (declareDead (raiseErr
        (modCore s spindle fun k => { k with pstate := .fenced, haltReq := .none }) pgSPN 0))) ∧
    (∀ l kind, s.spn.connected = true →
      (((l2Get s l).st = .fp ∨ s.spn.rsvHold = true ∧ s.spn.rsv = some l) →
        exec (.snoopRx l kind) s = .next { s with spn := { s.spn with snoops := s.spn.snoops ++ [(l, kind)] } }) ∧
      ((l2Get s l).st ≠ .fp → (s.spn.rsvHold = false ∨ s.spn.rsv ≠ some l) →
        exec (.snoopRx l kind) s = .next (answerSnoop s l kind)) ∧
      ((l2Get s l).st.held = false → (l2Get s l).st ≠ .fp → (s.spn.rsvHold = false ∨ s.spn.rsv ≠ some l) →
        exec (.snoopRx l kind) s = .next { s with spn := { s.spn with answered := (l, false) :: s.spn.answered } })) ∧
    (∀ l r u, s.spn.reqs.find? (fun r => decide (r.line = l) && !r.retried) = some r →
      (∀ p, s.spn.pend = some p → p.line ≠ l ∨ p.kind ≠ .zero) →
      let t := cohAnswered { s with spn := { s.spn with reqs := s.spn.reqs.filter fun x => decide (x.line ≠ l) } }
      lineBad t l = false → install t l ⟨if r.own then .e else .s, memLine t l⟩ = some u →
        (u.spn.pend = none → exec (.cohFillArrive l) s = .next (serveSnoops (drainSb (resume u l true)))) ∧
        (∀ p, u.spn.pend = some p → p.line = l → exec (.cohFillArrive l) s =
          .next (serveSnoops (drainSb (resume (l1Put u l ⟨false, memLine t l⟩) l true))))) ∧
    (∀ l e, s.spn.wb.find? (fun e => decide (e.1 = l)) = some e → exec (.cohWritebackAck l) s = .next (
      let t := physSetList (curePoison s l) (l * 64) e.2
      rsvGone s (drainSb (l2Set { t with spn := { t.spn with wb := t.spn.wb.filter fun x => decide (x.1 ≠ l) } } l L2Line.none)))) ∧
    (∀ l, exec (.cohRetryGrant l) s =
      .next (modReq s l fun r => if r.retried then { r with retried := false, since := s.now } else r)) ∧
    (∀ l r, r ∈ s.spn.reqs → r.line = l → r.retried = false →
      exec (.directoryRetry l) s =
        .next (cohAnswered (modReq (bumpWrap s pgSPN 0x0BC 0) l fun r => { r with retried := true, late := false })) ∧
      (r.since + 100 * usN ≤ s.now →
        exec (.cohTimeout l) s = .next (condErr (modReq s l fun r => { r with late := true }) pgSPN 8))) ∧
    exec .rsvSnoopHoldExpire s = .next (serveSnoops { s with spn := { s.spn with rsvHold := false } }) ∧
    (s.spn.connected = true →
      let p := (core s spindle).pstate
      (p = .off ∨ p = .fenced ∨ p = .lockedUp → exec .deadAgent s = .next (declareDead s)) ∧
      (p ≠ .off → p ≠ .fenced → p ≠ .lockedUp → exec .deadAgent s = .next (reconnect (declareDead s)))) ∧
    (pagePowered s pgSPN = true →
      exec .spnCntClr s = .next ([0x0A8, 0x0AC, 0x0B0, 0x0B4, 0x0B8, 0x0BC].foldl (fun u o => wr u pgSPN o 0) s) ∧
      exec .spnLbeClr s = .next (clearLbe s)) ∧
    (∀ b, b < 256 → (core s b).strand = none → (core s b).pstate = .idle → exec (.clbAck b) s = .next (clbAck s b)) ∧
    (∀ b e, b < 256 → (core s b).budgetPend = true → canRecognise (core s b) = true → (core s b).strand.isSome = true →
      budgetHandler (core s b) = false → exec (.exceptionEntry b e) s =
        .next (enter (modCore s b fun x => { x with budgetPend := false, budgetOver := true }) b e 13 0 0 false)) ∧
    (∀ e, (core s spindle).lbePend = true → canRecognise (core s spindle) = true → (core s spindle).modes.mask < 6 →
      exec (.exceptionEntry spindle e) s = .next
        (enter (modCore (discardWait s spindle) spindle fun x => { x with lbePend := false }) spindle e 12 0 0 false)) ∧
    (∀ b, b < 256 → pagePowered s (pgBOB b) = true →
      exec (.bobCntClr b) s = .next
        ([0x090, 0x094, 0x098, 0x09C, 0x0A0, 0x0A4, 0x0A8, 0x0AC, 0x0B0].foldl (fun u o => wr u (pgBOB b) o 0) s) ∧
      ((core s b).pstate = .halted ∨ (core s b).pstate = .vacated →
        exec (.bobIcInv b) s = .next (modCore s b fun k => { k with icache := [], lbActive := false, lbCap := false }))) ∧
    (pagePowered s pgUCS = true → exec .ucsEccClr s = .next (wr s pgUCS 0x0A4 0) ∧
      (rdF s pgUCS 0x0A0 0 4 ≠ 1 → curMode s = .configure → s.hif.hostClock = true → exec .ucsLoad s = .next (ucsRead s))) ∧
    (∀ n p l, s.ucs.loading = some (p, l) → n ∈ l → (n = 16 ∨ domSt s (384 + n) = .on) → seqBusy s n = false →
      let live := l.filter fun x => decide (x = 16 ∨ domSt s (384 + x) = .on)
      let rest := live.filter fun x => decide (x ≠ n)
      let t := { s with ucs := { s.ucs with
        loading := some (p, rest), ram := SMap.set s.ucs.ram none n (some p)
        bad := s.ucs.bad.filter fun a => decide (a / 2 ^ 14 ≠ n ∨ a % 2 ^ 14 < 0x2000) } }
      (rest ≠ [] → exec (.ucsPatchInstall n) s = .next t) ∧
      (rest = [] → exec (.ucsPatchInstall n) s = .next (patchDone t (decide (n = 16)) p)))

/-! ### Commands that complete: words with an effect beyond their bobbin -/

/-- R139 to R143, R359, R360, R352, R491: TRIP.SET, the output's first four times in a release, and PUB.WR pop their word and act on an output or a slot that the strand's entry
assigns to it; a commit marker commits the slot, whatever its word. SEND pops its words, sends them and pushes its status with the
quality of all of them. WAIT delivers a queued message at once, times out in a strand of class P, and in any other leaves the
bobbin in WAITING; YIELD leaves it in STAGED. Code that runs for no strand becomes idle. -/
def Obligations.StrandWordsComplete : Prop :=
  ∀ (s : State) (w : LWord), Quiet s w.core → PlainL w → w.env.seq.fetches = [] →
    let c := w.core
    let e := w.env
    let k := at_ s c
    let d := k.ds.peek 0
    let here := setCore s c k
    (∀ o, k.strand = some o →
      (∀ n, Fits k 1 1 0 → Takes k 1 (.plain intIn) → n.toNat ∈ outsOf s o.idx →
        (∀ p, ply? s o.idx o.ply = some p → SMap.get p.trips 0 n.toNat < 4) →
        exec (.tripSet w n) s = .next (wordThen s c (onward (k.setDs (k.ds.drop 1))) 1 0 fun x =>
          tripSet x o.idx o.ply n.toNat e.sub d e.agree)) ∧
      (∀ slot m, Fits k 1 1 0 → slot.toNat ∈ pubsOf s o.idx →
        (∀ p, pub? s slot.toNat = some p → m.toNat < pubMembers p.entry → m.toNat ≠ commitMarker →
          Takes k 1 (.plain [.int, .nat, .fix, .flt, .tim, .adr, .ret]) →
          exec (.pubWr w slot m) s = .next (wordThen s c (onward (k.setDs (k.ds.drop 1))) 1 0 fun x =>
            pubWrite x o.idx o.ply slot.toNat m.toNat d)) ∧
        (m.toNat = commitMarker → exec (.pubWr w slot m) s = .next (wordThen s c (onward (k.setDs (k.ds.drop 1))) 1 0 fun x =>
          pubCommit x o.idx o.ply slot.toNat e.sub e.agree)))) ∧
    (∀ n, let m := n.toNat + 1
      let words := (k.top (m + 1)).take m
      let u := (sendStall here c d.pay e).2
      Fits k (m + 1) (m + 1) 1 → tagCauses k [(.plain [.nat], d)] = none →
        tagCauses k (words.map fun x => (.plain sendable, x)) = none →
        exec (.send w n) s = .next (wordThen u c (onward (k.setDs (k.ds.drop (m + 1)))) (2 + m) (sendStall here c d.pay e).1 fun x =>
          pushStatus (sendFrom x k d.pay words).2 c (sendFrom x k d.pay words).1 (mergeOf (words ++ [d])))) ∧
    (∀ (n : BitVec 22) o x p, k.ds.depth ≤ 6 → atUser k = true → k.strand = some o → strand s o.idx = some x → ply? s o.idx o.ply = some p →
      (∀ b t m v, p.queue = b :: t → takeMsg (poolStall here c (pilOf c) e).2 c k b e = (.ok m, v) →
        exec (.wait w n) s = .next (wordThen v c (onward (waitPush (drain k) (some m))) (4 + m.words.length) (poolStall here c (pilOf c) e).1
          fun y => drainDone (modPly y o.idx o.ply fun q => { q with queue := t }) c)) ∧
      (p.queue = [] → dCls x.decl = 0 →
        exec (.wait w n) s = .next (wordThen s c (onward (waitPush (drain k) none)) 4 0 fun y => drainDone y c)) ∧
      (p.queue = [] → dCls x.decl ≠ 0 → partnerSwitching s c o.idx = false →
        exec (.wait w n) s = .next (wordThen s c (onward k) 1 0 fun y =>
          leaveWith y c o ⟨false, false, .waiting, some (waitSpan y x.decl n.toNat), e.agree⟩ e))) ∧
    (∀ o, atUser k = true → k.strand = some o → partnerSwitching s c o.idx = false →
      exec (.yield w) s = .next (wordThen s c (onward k) 1 0 fun y => leaveWith y c o ⟨true, false, .staged, none, e.agree⟩ e)) ∧
    (∀ n : BitVec 22, atUser k = false →
      exec (.yield w) s = .next (wordThen s c (onward k) 1 0 fun y => yieldRuntime y c k.pc) ∧
      (k.ds.depth ≤ 6 → exec (.wait w n) s = .next (wordThen s c (onward k) 1 0 fun y => yieldRuntime y c k.pc)))

/-- R134 to R136, R133: a block operation whose operands have their types and ranges. With n = 0 it pops its operands and moves
nothing; CRC.BLK leaves its CRC, NAT, with the bits above the register's width 0. A run that ends at its first element has moved
that element and no other word of the banks: where it was the last one the operands are popped, else the word stays, its operands
showing the next element. -/
def Obligations.BlockOperationsGoElementByElement : Prop :=
  ∀ (s : State) (w : LWord), Quiet s w.core → PlainL w → w.env.seq.fetches = [] →
    let c := w.core
    let k := at_ s c
    let d := k.ds
    let n := (d.peek 0).pay
    let ready (op : BlkOp) : Prop :=
      op.args ≤ d.depth ∧ tagCauses k (op.uses.zip (k.top op.args)) = none ∧ blkRange op k (k.top op.args) = false
    (n = 0 →
      (ready .move → exec (.moveBlk w) s = .next (wordEnd s c (onward (k.setDs (d.drop 3))) 4)) ∧
      (ready .fill → exec (.fillBlk w) s = .next (wordEnd s c (onward (k.setDs (d.drop 2))) 4)) ∧
      (ready .brev → exec (.brevBlk w) s = .next (wordEnd s c (onward (k.setDs (d.drop 4))) 4)) ∧
      (ready .crc → exec (.crcBlk w) s =
        .next (wordEnd s c (onward (k.setDs ((d.drop 3).push (crcOut k (k.top 3) (d.peek 2))))) 4))) ∧
    (n ≠ 0 → w.env.elems = some 1 →
      let moved (t : State) (m : Nat) (more out : List TWord) : Prop :=
        Beside s t c ∧ (n = 1 → (core t c).ds = (d.drop m).pushAll out ∧ (core t c).pc = k.pc + 1) ∧
          (n ≠ 1 → (core t c).ds = (d.drop m).pushAll (more ++ [wordDown (d.peek 0)]) ∧ (core t c).pc = k.pc)
      let stores (t : State) (a : Nat) (x : TWord) : Prop := ∀ b, bankGet t b = if b = a then x else bankGet s b
      let open' (b : Nat) : Prop := eicWord b = none ∧ ∀ m ∈ s.prck.migs, m.copying = false
      (∀ a b, ready .move → Serves s c w.env k .read (d.peek 2).pay.toNat a → a ∉ s.mem.bankBad → (bankGet s a).rsv = false →
        Serves s c w.env k .write (d.peek 1).pay.toNat b → open' b →
        ∃ t, exec (.moveBlk w) s = .next t ∧ stores t b (bankGet s a) ∧
          moved t 3 [wordUp (d.peek 2), wordUp (d.peek 1)] []) ∧
      (∀ b, ready .fill → Serves s c w.env k .write (d.peek 1).pay.toNat b → open' b →
        ∃ t, exec (.fillBlk w) s = .next t ∧ stores t b k.fillw ∧ moved t 2 [wordUp (d.peek 1)] []) ∧
      (∀ a b, ready .brev → Serves s c w.env k .read (d.peek 3).pay.toNat a → a ∉ s.mem.bankBad → (bankGet s a).rsv = false →
        Serves s c w.env k .write ((d.peek 2).pay.toNat + revBits (bits (d.peek 1).pay 0 5) (bits (d.peek 1).pay 5 16)) b → open' b →
        ∃ t, exec (.brevBlk w) s = .next t ∧ stores t b (bankGet s a) ∧
          moved t 4 [wordUp (d.peek 3), d.peek 2, { d.peek 1 with pay := (d.peek 1).pay + 32 }] []) ∧
      (∀ a p, ready .crc → crcParams k.crcCfg k.crcPoly = some p → Serves s c w.env k .read (d.peek 1).pay.toNat a → a ∉ s.mem.bankBad →
        tagCauses k [(.arith [.int, .nat], bankGet s a)] = none →
        let crc := TWord.mk' .nat ((d.peek 2).q.merge (bankGet s a).q) (crcStepW p (d.peek 2).pay (bankGet s a).pay)
        ∃ t, exec (.crcBlk w) s = .next t ∧ t.mem = s.mem ∧ moved t 3 [crc, wordUp (d.peek 1)] [crcOut k (k.top 3) crc]))

/-- R281, R282, R177: RETG of a bobbin that stands on a whole frame whose status names a level its own reaches, with nothing
admitted, returns in place: the modes, flags, set and ESC of the frame's status, its loops, its link, or its open delay slot; an
SW = 1 frame moves the results to the caller's stack and empties the handler's to its depth before the entry. Other cores stay. -/
def Obligations.ReturnsFromFramesRestoreTheirCore : Prop :=
  ∀ (s : State) (w : LWord), Quiet s w.core → PlainL w → w.env.seq.fetches = [] → Stays s w.core →
    let c := w.core
    let k := at_ s c
    let cell (i : Nat) : TWord := k.rs.peek (6 - i)
    let status := (cell 5).pay
    let finfo := (cell 4).pay
    let link := (cell 6).pay.toNat
    7 ≤ k.rs.depth → (∀ i < 6, (cell i).ty = .nat ∧ (cell i).rsv = false) → ((cell 6).ty = .ret ∧ (cell 6).rsv = false ∧ link < 2 ^ 16) →
      (∀ i < 3, (cell i).pay = 0) → bits status 0 2 ≠ 3 → bits status 0 2 ≤ k.modes.level.code → presented s (c + 1) = none →
      k.switch = none → k.budgetOver = false →
      let open' := bit finfo 10
      let back (t : State) : Prop :=
        let m := core t c
        m.modes = (pModes (runsP s k) k.modes (modesOf status)).1 ∧ m.flags = flagsOf status ∧ m.loops = [] ∧
          m.pset = decide (bits status 0 2 ≠ 0) ∧ m.esc = bit status 30 ∧ m.strand = k.strand ∧ m.pstate = k.pstate ∧
          m.pc = (if open' then bits finfo 16 16 else link) ∧ m.delay = (if open' then some (.branch link 0 false) else none) ∧
          ∀ e, e ≠ c → core t e = core s e
      (bit finfo 11 = false → ∃ t, exec (.retg w) s = .next t ∧ back t ∧
        (core t c).dsU = k.dsU ∧ (core t c).dsP = k.dsP ∧ (core t c).gateReg = k.gateReg ∧
        (core t c).rsU = (k.setRs (k.rs.drop 7)).rsU ∧ (core t c).rsP = (k.setRs (k.rs.drop 7)).rsP) ∧
      (bit finfo 11 = true → ∀ g u p, k.gateReg = some g →
        moveResults (decide (bits status 0 2 = 0)) k.dsU k.dsP g.argc g.resc g.d0 16 = .ok (u, p) →
        ∃ t, exec (.retg w) s = .next t ∧ back t ∧ (core t c).dsU = u ∧ (core t c).dsP = p ∧ (core t c).gateReg = none ∧
          (core t c).rsU = k.rsU ∧ (core t c).rsP = k.rsP.drop 7)

/-! ### Commands that complete: words of the spindle -/

/-- R145 to R148, R168 to R170, R192, R212 to R228, R238, R433, R522: the words that only the spindle has, at an address that is
allowed and with operands that take no tag fault. A load pops its address and pushes what the memory system answers; a store leaves
its entries in the buffer; RSV.LD reserves its line, and RSV.ST stores and pushes 1 while the reservation stands, else pushes 0. A
CACHE word acts on its line in WB memory and on no other; one that writes dirty data back meets no error in the line's arrays. The FP64 operations deliver their pair, their quality and their sticky
flags. -/
def Obligations.SpindleWordsComplete : Prop :=
  ∀ (s : State) (w : LWord) (z : HSize), QuietSpn s w →
    let k := core s spindle
    let e := w.env
    let here := spnHere s
    let put (n : Nat) (ws : List TWord) : Core := k.setDs ((k.ds.drop n).pushAll ws)
    let ends (u : State) (x : Core) (n : Nat) (f : State → State) : State := rsvGone s (f (spnEnd u x n))
    let n := hBytes z
    let m := storeArgs z
    (∀ a l u sx, Reaches s false a n → FitsSpn s 2 2 (if z = .dword then 2 else 1) →
      readParts here e false (.load z sx) (hostParts a n) = (some (.ok l), u) →
      exec (.ldH w z sx) s = .next (ends u (put 2 (loadedWords z sx l)) (4 + splitCycles a n) id)) ∧
    (∀ a l u, Reaches s false a 8 → a % 8 = 0 → FitsSpn s 2 2 1 →
      readParts here e false .loadT (hostParts a 8) = (some (.ok l), u) →
      let x := TWord.ofContainer (BitVec.ofNat 64 (leNat l))
      tagCauses k [(.move, x)] = none → exec (.ldT w) s = .next (ends u (put 2 [x]) 4 id)) ∧
    (∀ a u, Reaches s true a n → FitsSpn s m m 0 → tagCauses k (storeUses k z) = none →
      storeMeets e (hostParts a n) here = (none, u) →
      exec (.stH w z) s = .next (ends u (put m []) (1 + splitCycles a n) fun x =>
        (storeEnts u a (hCode z) (storeBytes k z)).foldl pushStore x)) ∧
    (∀ a u, Reaches s true a 8 → a % 8 = 0 → FitsSpn s 3 3 0 → tagCauses k [(.move, k.ds.peek 2)] = none →
      storeMeets e (hostParts a 8) here = (none, u) →
      exec (.stT w) s = .next (ends u (put 3 []) 1 fun x =>
        (storeEnts u a 3 (leBytes 8 (k.ds.peek 2).container.toNat)).foldl pushStore x)) ∧
    (∀ a l u, Reaches s false a n → a % n = 0 → FitsSpn s 2 2 (if z = .dword then 2 else 1) →
      let wb := decide (regionType s a = 1)
      readParts here e wb (.rsvLoad z) (hostParts a n) = (some (.ok l), u) →
      exec (.rsvLd w z) s = .next (ends u (put 2 (loadedWords z false l)) 4 fun x =>
        if wb then { clearRsv x with spn := { (clearRsv x).spn with rsv := some (a / 64), rsvHold := true } } else clearRsv x)) ∧
    (∀ a u, Reaches s true a n → a % n = 0 → FitsSpn s m m 1 → tagCauses k (storeUses k z) = none →
      storeMeets e (hostParts a n) here = (none, u) →
      let won := u.spn.rsv = some (a / 64) ∧ (l2Get u (a / 64)).st.owned = true
      (won → exec (.rsvSt w z) s = .next (ends u (put m [TWord.nat 1]) 4 fun x =>
        clearRsv (writeLine x (a / 64) (placed a (storeBytes k z))))) ∧
      (¬won → exec (.rsvSt w z) s = .next (ends u (put m [TWord.nat 0]) 4 clearRsv))) ∧
    (∀ a, a = argAddr k → hostCause k (k.ds.peek 1) = none → hostCause k (k.ds.peek 0) = none →
      hostHigh (k.ds.peek 1) (k.ds.peek 0) = none → FitsSpn s 2 2 0 → inSpnWindow s a = false → hostAllowed s k false a = true →
      let l := a / 64
      let done (u : State) : State := ends (if regionType s a = 1 then u else here) (put 2 []) 2 id
      (k.modes.level ≠ .u → exec (.dcInv w) s = .next (done (l1Set here l none))) ∧
      (hostAllowed s k true a = true → (l2Get s l).st.owned = true → exec (.dcZero w) s =
        .next (done (l1Put (l2Set (curePoison here l) l ⟨.m, zeroLine⟩) l ⟨true, zeroLine⟩))) ∧
      exec (.icInv w) s = .next (done { here with spn := { here.spn with l1i := here.spn.l1i.filter fun x => decide (x ≠ l) } }) ∧
      exec (.dcPf w) s = .next (done (if (l2Get s l).st = .i then request (countL2 here l) l false else here)) ∧
      (∀ v, (if lineDirty here l = true then lineEcc here e a else (none, here)) = (none, v) →
        exec (.dcClean w) s = .next (done (cleanL1 v l)) ∧
        exec (.dcCinv w) s = .next (done (l1Set (cleanL1 v l) l none)) ∧
        ((l2Get s l).st.held = false ∨ lineDirty s l = false → exec (.l2Clean w) s = .next (done v)) ∧
        ((l2Get s l).st.held = true → lineDirty s l = true →
          let u := cleanL1 v l
          exec (.l2Clean w) s =
            .next (done (l2Set (physSetList (curePoison u l) (l * 64) (lineData u l)) l ⟨.e, lineData u l⟩))) ∧
        (k.modes.level ≠ .u → ((l2Get s l).st.held = false → exec (.l2Cinv w) s = .next (done v)) ∧
          (∀ u, (l2Get s l).st.held = true → evict v l = some u → exec (.l2Cinv w) s = .next (done u))))) ∧
    exec (.flushI w) s = .next (ends here k 30 fun x => { x with spn := { x.spn with l1i := [] } }) ∧
    (k.modes.level ≠ .u →
      exec (.fenceEng w) s = .next (ends here k 1 marSync) ∧
      exec (.wfi w) s = .next (ends here k 1 fun x => spnSleep (marSync x)) ∧
      (∀ u, u = (if s.clb.waits || s.clb.active then here else clbStart here) → u.clb.active = false →
        exec (.clb w) s = .next (ends { u with clb := { u.clb with waits := false } } k 1 marSync))) ∧
    (k.modes.level = .m → exec (.wipe w) s = .next (ends here k 1 fun x => wipe (marSync x) (decide (e.ecc ≠ .double)))) ∧
    (let takes (n : Nat) (ty : Ty) (push : Nat) : Prop :=
      FitsSpn s n n push ∧ tagCauses k ((k.top n).map fun x => (Use.arith [ty], x)) = none
     let out (n cy : Nat) (ws : List TWord) (fl : FFlags) (fs : Option Flags) : Host.Outcome State Fault Refusal :=
      .next (ends here (applyA spindle k { pop := n, push := ws, flags := fs, sticky := fl.code, cycles := cy }) cy id)
     let a := pairAt k 4
     let b := pairAt k 2
     let c := pairAt k 0
     let rm := k.modes.rm
     let nan2 (r : Nat) : Bool := f64.isNaN r || (f64.isNaN c || f64.isNaN b)
     (takes 4 .flt 2 →
      (fxCheck k (f64.add rm b c).2 = none → exec (.dAdd w) s =
        out 4 4 (pairOf (f64Q k 4 (nan2 (f64.add rm b c).1)) (f64.add rm b c).1) (f64.add rm b c).2 none) ∧
      (fxCheck k (f64.sub rm b c).2 = none → exec (.dSub w) s =
        out 4 4 (pairOf (f64Q k 4 (nan2 (f64.sub rm b c).1)) (f64.sub rm b c).1) (f64.sub rm b c).2 none) ∧
      (fxCheck k (f64.mul rm b c).2 = none → exec (.dMul w) s =
        out 4 6 (pairOf (f64Q k 4 (nan2 (f64.mul rm b c).1)) (f64.mul rm b c).1) (f64.mul rm b c).2 none) ∧
      (fxCheck k (f64.div rm b c).2 = none → exec (.dDiv w) s =
        out 4 28 (pairOf (f64Q k 4 (nan2 (f64.div rm b c).1)) (f64.div rm b c).1) (f64.div rm b c).2 none)) ∧
     (takes 4 .flt 0 → fxCheck k { iv := (f64.cmp b c).2.2.2 } = none → exec (.dCmp w) s =
        out 4 2 [] { iv := (f64.cmp b c).2.2.2 } (some (fcmpFlags f64 b c (f64Q k 4 (f64.isNaN b || f64.isNaN c))))) ∧
     (takes 6 .flt 2 → fxCheck k (f64.fma rm a b c).2 = none → exec (.dFma w) s =
        out 6 6 (pairOf (f64Q k 6 (f64.isNaN (f64.fma rm a b c).1 || (f64.isNaN c || (f64.isNaN b || f64.isNaN a))))
          (f64.fma rm a b c).1) (f64.fma rm a b c).2 none) ∧
     (takes 2 .flt 2 → fxCheck k (f64.sqrt rm c).2 = none → exec (.dSqrt w) s =
        out 2 30 (pairOf (f64Q k 2 (f64.isNaN (f64.sqrt rm c).1 || f64.isNaN c)) (f64.sqrt rm c).1) (f64.sqrt rm c).2 none) ∧
     (takes 1 .flt 2 → let x := (k.ds.peek 0).pay.toNat
       fxCheck k (cvtFD x).2 = none → exec (.cvtFd w) s =
        out 1 4 (pairOf (f64Q k 1 (f32.isNaN x)) (cvtFD x).1) (cvtFD x).2 none) ∧
     (takes 2 .flt 1 →
      (fxCheck k (cvtDF rm c).2 = none → exec (.cvtDf w) s =
        out 2 4 [TWord.mk' .flt (f64Q k 2 (f64.isNaN c)) (w32 (cvtDF rm c).1)] (cvtDF rm c).2 none) ∧
      (let r := f64.toInt rm 0 (-2147483648) 2147483647 c
       fxCheck k r.2 = none → exec (.cvtDi w) s = out 2 4 [TWord.mk' .int (f64Q k 2 (f64.isNaN c)) (ofI r.1)] r.2 none)) ∧
     (takes 1 .int 2 → exec (.cvtId w) s =
        out 1 4 (pairOf (f64Q k 1 false) (f64.ofInt .rne (k.ds.peek 0).pay.toInt 0).1) .nil none))

/-! ### Commands that complete: time, leases, rings, records and the channel -/

/-- R20, R303 to R334, R424 to R431, R534 to R571: what each of these commands has done when it has run, for every state in which the
spec lets it run: the counter's edges, inputs and writes; the scrub of a pillow, its counts, its leases and the aperture; the
rings and the host's sleep; the record store; the DRAM channel. -/
def Obligations.TimeRingRecordAndChannelCommandsComplete : Prop :=
  ∀ s : State,
    (curMode s ≠ .off →
      (∀ o : EdgeObs, s.stc.setNow = none → s.stc.stepBy = none → ∃ t, exec (.refInEdge o) s = .next t ∧
        t.now = s.now + clkPeriod s / 2 ^ 28 ∧ t.stc.cnt = s.stc.cnt + s.stc.incr ∧ (o.agree = false → rdB t pgSELV 0x010 4 = true)) ∧
      (∀ sub, ∃ t, exec (.stcSnap sub) s = .next t ∧ rd t pgSTC 0x0D4 = w32 (nsOf (cntAt s sub)) ∧ t.stc = s.stc) ∧
      exec .stcCntClr s = .next (wrF (wrF s pgSTC 0x0E8 0 16 0) pgSTC 0x0EC 0 16 0) ∧
      exec .slewDone s = .next s ∧
      (∀ v : W32, stcMode s = 0 ∨ stcMode s = 3 → ∃ t, exec (.stcAdjWrite v) s = .next t ∧
        (v.toInt.natAbs * 16 ≤ slewLimit s → t.stc.adjLeft = s.stc.adjLeft + v.toInt * nsU ∧ t.stc.stepBy = s.stc.stepBy) ∧
        (slewLimit s < v.toInt.natAbs * 16 → t.stc.stepBy = some (s.stc.stepBy.getD 0 + v.toInt * nsU) ∧
          t.stc.adjLeft = s.stc.adjLeft)) ∧
      (rdF s pgSTC 0x0C8 0 30 ≤ 999999999 →
        (∃ t, exec .stcSetNow s = .next t ∧ t.stc.setNow = some (setSec s, rdF s pgSTC 0x0C8 0 30)) ∧
        (∃ t, exec .stcSetAtEdge s = .next t ∧ t.stc.setEdge = some (setSec s))) ∧
      (s.clk.onIntOsc = false → exec .refInLost s = .next (takeIncr (raiseIrq (condErr
        { s with clk := { s.clk with onIntOsc := true }, stc := { s.stc with traceable := false } } pgSTC 0) pgCLK 0))) ∧
      (s.clk.onIntOsc = true → exec .refInReturn s =
        .next (takeIncr (raiseIrq (stcResume (condEnd { s with clk := { s.clk with onIntOsc := false } } pgSTC 0)) pgCLK 0))) ∧
      (∀ e : PpsEdge, e.input < 2 → e.rising ≠ rdB s pgSTC 0x098 e.input →
        let v := setTsrc s (e.input + 1) { tsrc s (e.input + 1) with swing := e.swing }
        exec (.ppsEdge e) s =
          .next (pulseEdge v (e.input + 1) e.sub (cntAt v e.sub) (decide (rdF v pgSTC 0x098 8 8 ≤ e.width)))) ∧
      (∀ v, let u := stcSelect { wr s pgSTC 0x0B0 v with stc := { s.stc with
          ptpAt := s.now, ptpQual := true, ptpQualAt := if s.stc.ptpQual then s.stc.ptpQualAt else s.now } }
        u.stc.src ≠ 4 → exec (.stcPtpOffsetWrite v) s = .next u) ∧
      (ppsOutOn s = true → (phaseErr (s.stc.cnt + (BitVec.ofNat 16 (rdF s pgSTC 0x100 16 16)).toInt * nsU)).natAbs ≤ s.stc.incr →
        ∃ t, exec .ppsOutPulse s = .next t ∧ t.stc.ppsOut = true ∧ t.regs = s.regs) ∧
      (∀ f : IrigFrame, rdB s pgSTC 0x0F0 0 = true → f.markersOk = true → f.digitsOk = true → f.second < 60 →
        s.stc.irigPrev = none → ∃ t, exec (.irigFrame f) s = .next t ∧ t.stc.irigPrev = some (irigSeconds s f).toNat) ∧
      (∀ (f : IrigFrame) (p : Nat), rdB s pgSTC 0x0F0 0 = true → f.markersOk = true → f.digitsOk = true →
        (f.second < 60 ∨ (f.second = 60 ∧ rdB s pgSTC 0x0DC 16 = true)) → s.stc.irigPrev = some p → irigSeconds s f = (p : Int) + 1 →
        ∃ t, exec (.irigFrame f) s = .next t ∧ t.stc.irigPrev = some (p + 1) ∧ t.stc.irigAt = s.now + f.sub) ∧
      (s.stc.irigAt + 2000 * msN ≤ s.now → s.stc.irig.qual = true → exec .irigTimeout s =
        .next (disqualify (if rdB s pgSTC 0x0F0 0 then condErr s pgSTC 6 else s) 3)) ∧
      (s.stc.ptpAt + 2000 * msN ≤ s.now → 4 ∉ prioList s → exec .ptpLate s =
        .next (stcSelect { s with stc := { s.stc with ptpQual := false, ptpAt := s.now } })) ∧
      (secOf s.stc.cnt = rdF s pgSTC 0x0E4 0 16 * 2 ^ 32 + (rd s pgSTC 0x0E0).toNat →
        rdB s pgSTC 0x0DC 16 = true ∨ rdB s pgSTC 0x0DC 17 = true →
        ∃ t, exec .leapApply s = .next t ∧ rdB t pgSTC 0x024 4 = true ∧ rdB t pgSTC 0x0DC 16 = false ∧ t.stc = s.stc) ∧
      (s.stc.st = .holdover → s.clk.onIntOsc = false →
        rdF s pgSTC 0x09C 16 16 * 10 * 1600000000000 < rdF s pgSTC 0x09C 0 16 * (s.now - s.stc.holdAt) →
        let u := stcEnter (wr s pgSTC 0x0A0 (w32 (holdEst s))) .freeRun
        rdB u pgSTC 0x080 3 = true →
        exec .holdoverExpired s = .next (raiseErr { u with stc := { u.stc with expired := true } } pgSTC 5)) ∧
      (∀ i l, i < 2 → (tsrc s (i + 1)).lastEdge = some l →
        l + ((tsrc s (i + 1)).bad + 1) * secU + ppsWindow s ≤ s.stc.cnt + s.stc.incr →
        exec (.ppsEdgeMissed i) s = .next (badEdge s (i + 1)))) ∧
    (∀ p < 16, pagePowered s (pgPIL p) = true →
      (∃ t, exec (.pilCntClr p) s = .next t ∧ rd t (pgPIL p) 0x090 = 0 ∧ rd t (pgPIL p) 0x09C = 0 ∧ t.mem = s.mem) ∧
      (∃ t, exec (.scrubNow p) s = .next t ∧ scrubPos t p % 2 ^ 16 = 0 ∧ t.regs = s.regs) ∧
      (∀ v, ∃ t, exec (.pilOwnQuery p v) s = .next t ∧ rd t (pgPIL p) 0x0A8 = w32 (bits v 0 14) ∧ t.mem = s.mem) ∧
      (rdB s (pgPIL p) 0x080 0 = true →
        (s.mem.bankBad = [] → s.mem.codeBad = [] → scrubPos s p % 2 ^ 15 + 1 < 2 ^ 15 →
          ∃ t, exec (.scrubRead p [] .clean .clean) s = .next t ∧ scrubPos t p = scrubPos s p + 1) ∧
        (SMap.get s.mem.scrub 0 (16 + p) + scrubPeriod s p ≤ s.now →
          ∃ t, exec (.scrubLate p) s = .next t ∧ rdB t (pgPIL p) 0x010 3 = true))) ∧
    (∀ p < 16, ∀ k < 8, bankPwr s p k = .waking →
      (∃ t, exec (.bankFillDone p k) s = .next t ∧ bankPwr t p k = .on) ∧
      (p * 9 + k ∉ s.pwr.wakeLate → ∃ t, exec (.wakeFail p (some k)) s = .next t ∧ rdB t (pgPIL p) 0x010 5 = true ∧
        bankPwr t p k = .waking)) ∧
    (∀ p < 16, ∀ k < 5,
      (∀ v, pagePowered s (pgSE1 p) = true → lockOpen s .lease = true → leaseOf s p k = .leased → bits v 0 2 = 0 →
        ∃ t, exec (.se1LeaseWrite p k v) s = .next t ∧ leaseOf t p k = .releasing) ∧
      (leaseOf s p k = .pending → (∀ i < 2048, ownOf s p (k * 2048 + i) = 0) →
        ∃ t, exec (.leaseGranted p k) s = .next t ∧ leaseOf t p k = .leased) ∧
      (leaseOf s p k = .releasing → exec (.leaseReleased p k) s =
        .next (raiseIrq (roomReturns (setLease (ownSet s p (k * 2048) 2048 0) p k .free)) (pgPIL p) 1)) ∧
      (∀ off v e, off % 4 = 0 → off < 0x20000 → bits (rd s pgSE1C 0x080) 0 4 = p → bits (rd s pgSE1C 0x080) 4 3 = k →
        leaseOf s p k = .leased → rdF s (pgSE1 p) (0x080 + 4 * k) 0 2 = 1 → pagePowered s pgSE1C = true →
        ∃ t, exec (.se1ApertureAccess ⟨off, 4⟩ (some v) e) s = .next t ∧ bankGet t (bankAddr p k (off / 4)) = TWord.nat v)) ∧
    (curMode s ≠ .off →
      (∀ n v, n < 64 → ∃ t, exec (.hifCmdDoorbell n v) s = .next t ∧ (cmdRing t n).head = bits v 0 12) ∧
      (∀ v b, bit v 31 = true → s.hif.stalled = none → exec (.hifPost v b) s =
        .next (fwPost s ⟨bits v 0 6, (List.range 8).map fun i => rd s pgHIF (0x0C0 + 4 * i), bit v 6, true⟩ b)) ∧
      (∀ n d, n < 64 → (cplRing s n).timer = some d → d ≤ s.now →
        ∃ t, exec (.hifModTimer n) s = .next t ∧ (cplRing t n).timer = none ∧ (cplRing t n).count = 0) ∧
      (∀ b, ∃ t, exec (.hostSleepAssert b) s = .next t ∧ t.hif.hostSleep = true ∧ t.hif.hostClock = (s.hif.hostClock && !b)) ∧
      (∃ t, exec .hostSleepFall s = .next t ∧ t.hif.hostSleep = false ∧ t.hif.hostWake = false ∧
        (s.hif.hostClock = true → t.hif.msiHeld = [])) ∧
      (s.hif.held = [] → s.hif.stalled = none → s.hif.dma = [] →
        ∃ t, exec .hostClockReturn s = .next t ∧ t.hif.hostClock = true ∧ (s.hif.hostSleep = false → t.hif.msiHeld = [])) ∧
      (∃ t, exec .hifCntClr s = .next t ∧ rd t pgHIF 0x0BC = 0 ∧ t.hif = s.hif) ∧
      (∀ v : W32, 4 ≤ bits v 0 4 → bits v 0 4 ≤ 12 → (selRing s).en = false → bit v 4 = false →
        exec (.hifRingCfgWrite v) s = .next (setSelRing s { selRing s with cfg := w32 (v.toNat % 2 ^ 26) })) ∧
      (s.nvr.ready = false → ∃ t, exec .nvrScanDone s = .next t ∧ t.nvr.ready = true ∧ t.nvr.carry = 0 ∧ t.nvr.ring = s.nvr.ring) ∧
      (∀ r rest b, s.nvr.queue = r :: rest → s.nvr.ready = true → rdB s pgHIF 0x080 0 = false → rdB s pgNVR 0x080 0 = false →
        unitOff s ⟨RUnit.nvr.cls, 0, 0⟩ = false →
        ∃ t, exec (.nvrRecordCommit b) s = .next t ∧ t.nvr.queue = rest ∧ t.nvr.head = (s.nvr.head + 1) % 524288 ∧
          t.nvr.seq = s.nvr.seq + 1 ∧ (b = false → rdB t pgNVR 0x010 0 = true)) ∧
      (∀ who, s.nvr.queue.length < 1024 →
        ∃ t, exec (.nvrPost who) s = .next t ∧ t.nvr.queue.length = s.nvr.queue.length + 1 ∧ t.nvr.postFull = false) ∧
      (∃ t, exec .nvrDiWrite s = .next t ∧
        SMap.get t.nvr.di (List.replicate 8 0) (rdF s pgNVR 0x0E0 0 12) = (List.range 8).map fun i => rd s pgNVR (0x0E4 + 4 * i)) ∧
      (∃ t, exec .nvrCntClr s = .next t ∧ t.nvr.lost = 0 ∧ t.nvr.queue = s.nvr.queue) ∧
      (∀ v, ∃ t, exec (.nvrRdIdxWrite v) s = .next t ∧ t.nvr.rdBusy = true ∧ rd t pgNVR 0x090 = w32 (bits v 0 19)) ∧
      (s.nvr.rdBusy = true → ∃ t, exec .nvrReadCopyDone s = .next t ∧ t.nvr.rdBusy = false ∧
        t.nvr.rdData = nvrSlot s (rdF s pgNVR 0x090 0 19)) ∧
      (∀ v, ∃ t, exec (.nvrDiSelWrite v) s = .next t ∧ rd t pgNVR 0x0E0 = w32 (bits v 0 12) ∧ t.nvr = s.nvr)) ∧
    (pagePowered s pgDRA = true →
      (∀ v : W32, lockOpen s .bootSvc = true → ∃ t, exec (.draTrnGo v) s = .next t ∧ rd t pgDRA 0x0C0 = v &&& 0x1033F ∧
        (bit v 16 = true → s.dra.st = .training → t.dra.training = true)) ∧
      (s.dra.st = .training → masksOk s = true → ∃ t, exec .trainDone s = .next t ∧ t.dra.st = .ready ∧ t.regs = s.regs) ∧
      (s.dra.st = .training → exec .trainFail s = .next (channelFailed s)) ∧
      (curMode s = .service → s.dra.st ≠ .off → ∃ t, exec .retrain s = .next t ∧ t.dra.st = .training ∧ t.dra.mem = s.dra.mem) ∧
      (∃ t, exec .draCntClr s = .next t ∧ rd t pgDRA 0x0CC = 0 ∧ rd t pgDRA 0x0D0 = 0 ∧ rd t pgDRA 0x0D8 = 0 ∧ t.dra = s.dra) ∧
      (rdB s pgDRA 0x080 0 = true →
        (∀ pass n, s.dra.training = true → ∃ t, exec (.draTrnPatternDone pass n) s = .next t ∧ t.dra.training = false ∧
          rdB t pgDRA 0x024 0 = true) ∧
        (∀ a, s.dra.st = .ready → ∃ t, exec (.dramError a .corrected) s = .next t ∧ rdB t pgDRA 0x010 0 = true ∧ t.dra = s.dra) ∧
        (s.dra.migrating = true → ∃ t, exec .draSpareCopyDone s = .next t ∧ t.dra.migrating = false ∧ rdB t pgDRA 0x024 1 = true) ∧
        (rdB s pgDRA 0x080 1 = true → s.dra.st = .ready → s.dra.migrating = false →
          s.dra.idleFrom + rdF s pgDRA 0x080 8 8 * usN ≤ s.now → ∃ t, exec .draSelfRefreshEnter s = .next t ∧ t.dra.sr = true ∧ t.regs = s.regs) ∧
        (∃ t, exec .draSelfRefreshExit s = .next t ∧ t.dra.sr = false ∧ t.regs = s.regs)))

/-! ### The block as a whole -/

/-- The queue: one step takes the command at the front and gives the outcome of its effect on the state with the queue's rest;
with no command waiting the block idles (the model's choice, log entry 2). -/
def Obligations.StepTakesTheFrontCommand : Prop :=
  (∀ (c : Instr) (q : List Instr) (s : State), s.pending = c :: q → step s = exec c { s with pending := q }) ∧
    ∀ s : State, s.pending = [] → step s = .next s

/-- R617, R4, R5: right after reset nothing waits, the mode is KEEP, every store holds its canonical form with nothing listed,
every core is off, no error and no interrupt stands, and every register holds its reset value. -/
def Obligations.ResetHoldsTheSpecifiedState : Prop :=
  State.reset.pending = [] ∧ curMode State.reset = .keep ∧ Memory.wf State.reset = true ∧
    (∀ c, core State.reset c = Core.reset ∧ (core State.reset c).pstate = .off) ∧
    (∀ p o, rd State.reset p o = regReset (rkey p o)) ∧ (∀ a, bankGet State.reset a = voidWord) ∧
    State.reset.selv.occ = [] ∧ State.reset.stc.st = .unset

/-- Whole machine, over every command: a step takes exactly the front command from the queue, and so keeps a queue of
well-formed commands well formed. -/
def Obligations.QueueStaysWellFormed : Prop :=
  ∀ s t : State, (∀ c ∈ s.pending, c.wf = true) → step s = .next t →
    t.pending = s.pending.tail ∧ ∀ c ∈ t.pending, c.wf = true

/-- R635, R636, R641, R642, whole machine, over every command: the fused life-cycle state moves along R635 alone, no SVN counter
falls, kill bits stay blown, a fused owner root and KTK stay, and DEV_TRIPS neither falls nor passes 16. -/
def Obligations.FusesOnlyMoveForward : Prop :=
  ∀ s t : State, step s = .next t →
    (t.fuses.fused = s.fuses.fused ∨ LcyState.next s.fuses.fused t.fuses.fused = true) ∧
    s.fuses.svnFw ≤ t.fuses.svnFw ∧ s.fuses.svnTbl ≤ t.fuses.svnTbl ∧ s.fuses.svnCode ≤ t.fuses.svnCode ∧
    s.fuses.svnUcs ≤ t.fuses.svnUcs ∧ (s.fuses.killed = true → t.fuses.killed = true) ∧
    (∀ r, s.fuses.ownerRoot = some r → t.fuses.ownerRoot = some r) ∧ (∀ k, s.fuses.ktk = some k → t.fuses.ktk = some k) ∧
    s.fuses.devTrips ≤ t.fuses.devTrips ∧ (s.fuses.devTrips ≤ 16 → t.fuses.devTrips ≤ 16)

/-- R9, R572: an error that arises sets its ERR_STATUS bit and no other, changes no other register, and occurs at the Selvedge
exactly where its enable is 1 and its route is not NONE. -/
def Obligations.ErrorsAreKeptAndRouted : Prop :=
  ∀ (s : State) (p n sub : Nat) (named : List UnitId) (inj w : Bool), n < 32 →
    let t := raiseErr s p n sub named inj w
    (∀ m < 32, rdB t p 0x010 m = (rdB s p 0x010 m || decide (m = n))) ∧
    (∀ q o, o < 0x1000 → (q ≠ p ∨ o ≠ 0x010) → rd t q o = rd s q o) ∧
    t.selv.occ = s.selv.occ ++ (if rdB s p 0x018 n = true ∧ rdF s p 0x01C (2 * n) 2 ≠ 0 then
      [⟨p, n, sub, named, inj, w⟩] else []) ∧
    t = { s with regs := t.regs, selv := { s.selv with occ := t.selv.occ } }
end

