-- ==== Sys2Proof/Laws/Map.lean ====
section
/-!
SUPPORT. The laws of the sparse ordered map: what a write leaves readable, and that it keeps the canonical form.
-/

namespace Sys2Proof.SMap
variable {α : Type}

theorem get_insert (m : SMap α) (d v : α) (k j : Nat) : get (insert m k v) d j = if j = k then v else get m d j := by
  induction m with
  | nil => simp only [insert, get, eq_comm]
  | cons p t ih =>
    obtain ⟨i, u⟩ := p
    simp only [insert]
    split
    · by_cases h : j = k
      · simp [get, h]
      · simp [get, h, Ne.symm h]
    · split
      · rename_i h
        subst h
        by_cases h : j = i
        · simp [get, h]
        · simp [get, h, Ne.symm h]
      · by_cases h : i = j
        · subst h
          simp_all [get]
        · simp [get, h, ih]

theorem erase_cons (i : Nat) (u : α) (t : SMap α) (k : Nat) :
    erase ((i, u) :: t) k = if i = k then erase t k else (i, u) :: erase t k := by
  by_cases h : i = k <;> simp [erase, h]

theorem get_erase (m : SMap α) (d : α) (k j : Nat) : get (erase m k) d j = if j = k then d else get m d j := by
  induction m with
  | nil => simp [erase, get]
  | cons p t ih =>
    obtain ⟨i, u⟩ := p
    rw [erase_cons]
    by_cases h : i = k
    · subst h
      by_cases g : j = i
      · subst g; simp [ih]
      · simp [get, ih, g, Ne.symm g]
    · by_cases g : i = j
      · subst g
        simp [get, h]
      · simp [get, h, g, ih]

/-- A read after a write: the value written at its key, what stood there at every other key. -/
@[simp] theorem get_set [DecidableEq α] (m : SMap α) (d v : α) (k j : Nat) :
    get (set m d k v) d j = if j = k then v else get m d j := by
  unfold set
  split
  · rename_i h
    rw [get_erase, h]
  · exact get_insert m d v k j

theorem erase_insert (m : SMap α) (k : Nat) (v : α) : erase (insert m k v) k = erase m k := by
  induction m with
  | nil => simp [insert, erase]
  | cons p t ih =>
    obtain ⟨i, u⟩ := p
    simp only [insert]
    split
    · simp [erase_cons]
    · split
      · rename_i h
        simp [erase_cons, h]
      · rename_i h
        simp [erase_cons, h, ih]

theorem insert_insert (m : SMap α) (k : Nat) (v w : α) : insert (insert m k v) k w = insert m k w := by
  induction m with
  | nil => simp [insert]
  | cons p t ih =>
    obtain ⟨i, u⟩ := p
    by_cases h : k < i
    · simp [insert, h]
    · by_cases g : i = k
      · subst g
        simp [insert]
      · simp [insert, h, g, ih]

/-- The later of two writes at one key stands. -/
theorem set_set [DecidableEq α] (m : SMap α) (d v w : α) (k : Nat) (h : v ≠ d) : set (set m d k v) d k w = set m d k w := by
  unfold set
  simp only [h, if_false]
  split
  · exact erase_insert m k v
  · exact insert_insert m k v w

theorem above_filter (m : SMap α) (k : Nat) (p : Nat × α → Bool) (h : above k m = true) : above k (m.filter p) = true := by
  simp only [above, List.all_eq_true] at *
  intro x hx
  exact h x (List.mem_filter.1 hx).1

/-- Dropping entries keeps the canonical form. -/
theorem wf_filter [DecidableEq α] (d : Nat → α) (m : SMap α) (p : Nat × α → Bool) (h : wf d m = true) :
    wf d (m.filter p) = true := by
  induction m with
  | nil => rfl
  | cons q t ih =>
    obtain ⟨i, u⟩ := q
    simp only [wf, Bool.and_eq_true] at h
    by_cases g : p (i, u) = true
    · simp only [List.filter, g, wf, Bool.and_eq_true]
      exact ⟨⟨above_filter t i p h.1.1, h.1.2⟩, ih h.2⟩
    · simp only [List.filter, g]
      exact ih h.2

theorem above_insert (m : SMap α) (i k : Nat) (v : α) (h : above i m = true) (g : i < k) : above i (insert m k v) = true := by
  induction m with
  | nil => simp [insert, above, g]
  | cons q t ih =>
    obtain ⟨j, u⟩ := q
    simp only [above, List.all_cons, Bool.and_eq_true] at h
    simp only [insert]
    split
    · simp only [above, List.all_cons, Bool.and_eq_true]
      exact ⟨by simpa using g, h.1, h.2⟩
    · split
      · simp only [above, List.all_cons, Bool.and_eq_true]
        exact ⟨by simpa using g, h.2⟩
      · have := ih h.2
        simp only [above, List.all_cons, Bool.and_eq_true] at this ⊢
        exact ⟨h.1, this⟩

theorem above_trans (m : SMap α) (i k : Nat) (h : above k m = true) (g : i < k) : above i m = true := by
  simp only [above, List.all_eq_true, decide_eq_true_eq] at *
  intro x hx
  have := h x hx
  omega

theorem wf_insert [DecidableEq α] (d : Nat → α) (m : SMap α) (k : Nat) (v : α) (hv : v ≠ d k) (h : wf d m = true) :
    wf d (insert m k v) = true := by
  induction m with
  | nil => simp [insert, wf, above, hv]
  | cons q t ih =>
    obtain ⟨j, u⟩ := q
    have h' := h
    simp only [wf, Bool.and_eq_true] at h
    simp only [insert]
    split
    · rename_i g
      simp only [wf, Bool.and_eq_true, above, List.all_cons]
      refine ⟨⟨⟨by simpa using g, ?_⟩, by simpa using hv⟩, ⟨⟨h.1.1, h.1.2⟩, h.2⟩⟩
      exact above_trans t k j h.1.1 g
    · split
      · rename_i g
        subst g
        simp only [wf, Bool.and_eq_true]
        exact ⟨⟨h.1.1, by simpa using hv⟩, h.2⟩
      · rename_i a b
        simp only [wf, Bool.and_eq_true]
        exact ⟨⟨above_insert t j k v h.1.1 (by omega), h.1.2⟩, ih h.2⟩

/-- A write keeps the canonical form: keys strictly rising, no entry equal to the default at its key. -/
theorem wf_set [DecidableEq α] (d : Nat → α) (m : SMap α) (k : Nat) (v : α) (h : wf d m = true) :
    wf d (set m (d k) k v) = true := by
  unfold set
  split
  · exact wf_filter d m _ h
  · rename_i g
    exact wf_insert d m k v g h

end Sys2Proof.SMap
end

