-- ==== Sys2Proof/Laws/State.lean ====
section
/-!
SUPPORT. What each named update of the state leaves alone, field by field.
-/

namespace Sys2Proof.Machine
variable (s : State)

/-! wr -/
@[simp] theorem wr_pending (p o : Nat) (v : W32) : (wr s p o v).pending = s.pending := rfl
@[simp] theorem wr_freeCtr (p o : Nat) (v : W32) : (wr s p o v).freeCtr = s.freeCtr := rfl
@[simp] theorem wr_lastAccess (p o : Nat) (v : W32) : (wr s p o v).lastAccess = s.lastAccess := rfl
@[simp] theorem wr_now (p o : Nat) (v : W32) : (wr s p o v).now = s.now := rfl
@[simp] theorem wr_glb (p o : Nat) (v : W32) : (wr s p o v).glb = s.glb := rfl
@[simp] theorem wr_mode (p o : Nat) (v : W32) : (wr s p o v).mode = s.mode := rfl
@[simp] theorem wr_pwr (p o : Nat) (v : W32) : (wr s p o v).pwr = s.pwr := rfl
@[simp] theorem wr_clk (p o : Nat) (v : W32) : (wr s p o v).clk = s.clk := rfl
@[simp] theorem wr_selv (p o : Nat) (v : W32) : (wr s p o v).selv = s.selv := rfl
@[simp] theorem wr_eic (p o : Nat) (v : W32) : (wr s p o v).eic = s.eic := rfl
@[simp] theorem wr_whrl (p o : Nat) (v : W32) : (wr s p o v).whrl = s.whrl := rfl
@[simp] theorem wr_prck (p o : Nat) (v : W32) : (wr s p o v).prck = s.prck := rfl
@[simp] theorem wr_stc (p o : Nat) (v : W32) : (wr s p o v).stc = s.stc := rfl
@[simp] theorem wr_pio (p o : Nat) (v : W32) : (wr s p o v).pio = s.pio := rfl
@[simp] theorem wr_hif (p o : Nat) (v : W32) : (wr s p o v).hif = s.hif := rfl
@[simp] theorem wr_dra (p o : Nat) (v : W32) : (wr s p o v).dra = s.dra := rfl
@[simp] theorem wr_nvr (p o : Nat) (v : W32) : (wr s p o v).nvr = s.nvr := rfl
@[simp] theorem wr_fuses (p o : Nat) (v : W32) : (wr s p o v).fuses = s.fuses := rfl
@[simp] theorem wr_sec (p o : Nat) (v : W32) : (wr s p o v).sec = s.sec := rfl
@[simp] theorem wr_dbg (p o : Nat) (v : W32) : (wr s p o v).dbg = s.dbg := rfl
@[simp] theorem wr_ucs (p o : Nat) (v : W32) : (wr s p o v).ucs = s.ucs := rfl
@[simp] theorem wr_spn (p o : Nat) (v : W32) : (wr s p o v).spn = s.spn := rfl
@[simp] theorem wr_fport (p o : Nat) (v : W32) : (wr s p o v).fport = s.fport := rfl
@[simp] theorem wr_mem (p o : Nat) (v : W32) : (wr s p o v).mem = s.mem := rfl
@[simp] theorem wr_clb (p o : Nat) (v : W32) : (wr s p o v).clb = s.clb := rfl
@[simp] theorem wr_cores (p o : Nat) (v : W32) : (wr s p o v).cores = s.cores := rfl
@[simp] theorem wr_loopCells (p o : Nat) (v : W32) : (wr s p o v).loopCells = s.loopCells := rfl

/-! wrF -/
@[simp] theorem wrF_pending (p o lo w v : Nat) : (wrF s p o lo w v).pending = s.pending := rfl
@[simp] theorem wrF_freeCtr (p o lo w v : Nat) : (wrF s p o lo w v).freeCtr = s.freeCtr := rfl
@[simp] theorem wrF_lastAccess (p o lo w v : Nat) : (wrF s p o lo w v).lastAccess = s.lastAccess := rfl
@[simp] theorem wrF_now (p o lo w v : Nat) : (wrF s p o lo w v).now = s.now := rfl
@[simp] theorem wrF_glb (p o lo w v : Nat) : (wrF s p o lo w v).glb = s.glb := rfl
@[simp] theorem wrF_mode (p o lo w v : Nat) : (wrF s p o lo w v).mode = s.mode := rfl
@[simp] theorem wrF_pwr (p o lo w v : Nat) : (wrF s p o lo w v).pwr = s.pwr := rfl
@[simp] theorem wrF_clk (p o lo w v : Nat) : (wrF s p o lo w v).clk = s.clk := rfl
@[simp] theorem wrF_selv (p o lo w v : Nat) : (wrF s p o lo w v).selv = s.selv := rfl
@[simp] theorem wrF_eic (p o lo w v : Nat) : (wrF s p o lo w v).eic = s.eic := rfl
@[simp] theorem wrF_whrl (p o lo w v : Nat) : (wrF s p o lo w v).whrl = s.whrl := rfl
@[simp] theorem wrF_prck (p o lo w v : Nat) : (wrF s p o lo w v).prck = s.prck := rfl
@[simp] theorem wrF_stc (p o lo w v : Nat) : (wrF s p o lo w v).stc = s.stc := rfl
@[simp] theorem wrF_pio (p o lo w v : Nat) : (wrF s p o lo w v).pio = s.pio := rfl
@[simp] theorem wrF_hif (p o lo w v : Nat) : (wrF s p o lo w v).hif = s.hif := rfl
@[simp] theorem wrF_dra (p o lo w v : Nat) : (wrF s p o lo w v).dra = s.dra := rfl
@[simp] theorem wrF_nvr (p o lo w v : Nat) : (wrF s p o lo w v).nvr = s.nvr := rfl
@[simp] theorem wrF_fuses (p o lo w v : Nat) : (wrF s p o lo w v).fuses = s.fuses := rfl
@[simp] theorem wrF_sec (p o lo w v : Nat) : (wrF s p o lo w v).sec = s.sec := rfl
@[simp] theorem wrF_dbg (p o lo w v : Nat) : (wrF s p o lo w v).dbg = s.dbg := rfl
@[simp] theorem wrF_ucs (p o lo w v : Nat) : (wrF s p o lo w v).ucs = s.ucs := rfl
@[simp] theorem wrF_spn (p o lo w v : Nat) : (wrF s p o lo w v).spn = s.spn := rfl
@[simp] theorem wrF_fport (p o lo w v : Nat) : (wrF s p o lo w v).fport = s.fport := rfl
@[simp] theorem wrF_mem (p o lo w v : Nat) : (wrF s p o lo w v).mem = s.mem := rfl
@[simp] theorem wrF_clb (p o lo w v : Nat) : (wrF s p o lo w v).clb = s.clb := rfl
@[simp] theorem wrF_cores (p o lo w v : Nat) : (wrF s p o lo w v).cores = s.cores := rfl
@[simp] theorem wrF_loopCells (p o lo w v : Nat) : (wrF s p o lo w v).loopCells = s.loopCells := rfl

/-! bump -/
@[simp] theorem bump_pending (p o n : Nat) : (bump s p o n).pending = s.pending := rfl
@[simp] theorem bump_freeCtr (p o n : Nat) : (bump s p o n).freeCtr = s.freeCtr := rfl
@[simp] theorem bump_lastAccess (p o n : Nat) : (bump s p o n).lastAccess = s.lastAccess := rfl
@[simp] theorem bump_now (p o n : Nat) : (bump s p o n).now = s.now := rfl
@[simp] theorem bump_glb (p o n : Nat) : (bump s p o n).glb = s.glb := rfl
@[simp] theorem bump_mode (p o n : Nat) : (bump s p o n).mode = s.mode := rfl
@[simp] theorem bump_pwr (p o n : Nat) : (bump s p o n).pwr = s.pwr := rfl
@[simp] theorem bump_clk (p o n : Nat) : (bump s p o n).clk = s.clk := rfl
@[simp] theorem bump_selv (p o n : Nat) : (bump s p o n).selv = s.selv := rfl
@[simp] theorem bump_eic (p o n : Nat) : (bump s p o n).eic = s.eic := rfl
@[simp] theorem bump_whrl (p o n : Nat) : (bump s p o n).whrl = s.whrl := rfl
@[simp] theorem bump_prck (p o n : Nat) : (bump s p o n).prck = s.prck := rfl
@[simp] theorem bump_stc (p o n : Nat) : (bump s p o n).stc = s.stc := rfl
@[simp] theorem bump_pio (p o n : Nat) : (bump s p o n).pio = s.pio := rfl
@[simp] theorem bump_hif (p o n : Nat) : (bump s p o n).hif = s.hif := rfl
@[simp] theorem bump_dra (p o n : Nat) : (bump s p o n).dra = s.dra := rfl
@[simp] theorem bump_nvr (p o n : Nat) : (bump s p o n).nvr = s.nvr := rfl
@[simp] theorem bump_fuses (p o n : Nat) : (bump s p o n).fuses = s.fuses := rfl
@[simp] theorem bump_sec (p o n : Nat) : (bump s p o n).sec = s.sec := rfl
@[simp] theorem bump_dbg (p o n : Nat) : (bump s p o n).dbg = s.dbg := rfl
@[simp] theorem bump_ucs (p o n : Nat) : (bump s p o n).ucs = s.ucs := rfl
@[simp] theorem bump_spn (p o n : Nat) : (bump s p o n).spn = s.spn := rfl
@[simp] theorem bump_fport (p o n : Nat) : (bump s p o n).fport = s.fport := rfl
@[simp] theorem bump_mem (p o n : Nat) : (bump s p o n).mem = s.mem := rfl
@[simp] theorem bump_clb (p o n : Nat) : (bump s p o n).clb = s.clb := rfl
@[simp] theorem bump_cores (p o n : Nat) : (bump s p o n).cores = s.cores := rfl
@[simp] theorem bump_loopCells (p o n : Nat) : (bump s p o n).loopCells = s.loopCells := rfl

/-! bumpSat -/
@[simp] theorem bumpSat_pending (p o lo w n : Nat) : (bumpSat s p o lo w n).pending = s.pending := rfl
@[simp] theorem bumpSat_freeCtr (p o lo w n : Nat) : (bumpSat s p o lo w n).freeCtr = s.freeCtr := rfl
@[simp] theorem bumpSat_lastAccess (p o lo w n : Nat) : (bumpSat s p o lo w n).lastAccess = s.lastAccess := rfl
@[simp] theorem bumpSat_now (p o lo w n : Nat) : (bumpSat s p o lo w n).now = s.now := rfl
@[simp] theorem bumpSat_glb (p o lo w n : Nat) : (bumpSat s p o lo w n).glb = s.glb := rfl
@[simp] theorem bumpSat_mode (p o lo w n : Nat) : (bumpSat s p o lo w n).mode = s.mode := rfl
@[simp] theorem bumpSat_pwr (p o lo w n : Nat) : (bumpSat s p o lo w n).pwr = s.pwr := rfl
@[simp] theorem bumpSat_clk (p o lo w n : Nat) : (bumpSat s p o lo w n).clk = s.clk := rfl
@[simp] theorem bumpSat_selv (p o lo w n : Nat) : (bumpSat s p o lo w n).selv = s.selv := rfl
@[simp] theorem bumpSat_eic (p o lo w n : Nat) : (bumpSat s p o lo w n).eic = s.eic := rfl
@[simp] theorem bumpSat_whrl (p o lo w n : Nat) : (bumpSat s p o lo w n).whrl = s.whrl := rfl
@[simp] theorem bumpSat_prck (p o lo w n : Nat) : (bumpSat s p o lo w n).prck = s.prck := rfl
@[simp] theorem bumpSat_stc (p o lo w n : Nat) : (bumpSat s p o lo w n).stc = s.stc := rfl
@[simp] theorem bumpSat_pio (p o lo w n : Nat) : (bumpSat s p o lo w n).pio = s.pio := rfl
@[simp] theorem bumpSat_hif (p o lo w n : Nat) : (bumpSat s p o lo w n).hif = s.hif := rfl
@[simp] theorem bumpSat_dra (p o lo w n : Nat) : (bumpSat s p o lo w n).dra = s.dra := rfl
@[simp] theorem bumpSat_nvr (p o lo w n : Nat) : (bumpSat s p o lo w n).nvr = s.nvr := rfl
@[simp] theorem bumpSat_fuses (p o lo w n : Nat) : (bumpSat s p o lo w n).fuses = s.fuses := rfl
@[simp] theorem bumpSat_sec (p o lo w n : Nat) : (bumpSat s p o lo w n).sec = s.sec := rfl
@[simp] theorem bumpSat_dbg (p o lo w n : Nat) : (bumpSat s p o lo w n).dbg = s.dbg := rfl
@[simp] theorem bumpSat_ucs (p o lo w n : Nat) : (bumpSat s p o lo w n).ucs = s.ucs := rfl
@[simp] theorem bumpSat_spn (p o lo w n : Nat) : (bumpSat s p o lo w n).spn = s.spn := rfl
@[simp] theorem bumpSat_fport (p o lo w n : Nat) : (bumpSat s p o lo w n).fport = s.fport := rfl
@[simp] theorem bumpSat_mem (p o lo w n : Nat) : (bumpSat s p o lo w n).mem = s.mem := rfl
@[simp] theorem bumpSat_clb (p o lo w n : Nat) : (bumpSat s p o lo w n).clb = s.clb := rfl
@[simp] theorem bumpSat_cores (p o lo w n : Nat) : (bumpSat s p o lo w n).cores = s.cores := rfl
@[simp] theorem bumpSat_loopCells (p o lo w n : Nat) : (bumpSat s p o lo w n).loopCells = s.loopCells := rfl

/-! raiseIrq -/
@[simp] theorem raiseIrq_pending (p n : Nat) : (raiseIrq s p n).pending = s.pending := rfl
@[simp] theorem raiseIrq_freeCtr (p n : Nat) : (raiseIrq s p n).freeCtr = s.freeCtr := rfl
@[simp] theorem raiseIrq_lastAccess (p n : Nat) : (raiseIrq s p n).lastAccess = s.lastAccess := rfl
@[simp] theorem raiseIrq_now (p n : Nat) : (raiseIrq s p n).now = s.now := rfl
@[simp] theorem raiseIrq_glb (p n : Nat) : (raiseIrq s p n).glb = s.glb := rfl
@[simp] theorem raiseIrq_mode (p n : Nat) : (raiseIrq s p n).mode = s.mode := rfl
@[simp] theorem raiseIrq_pwr (p n : Nat) : (raiseIrq s p n).pwr = s.pwr := rfl
@[simp] theorem raiseIrq_clk (p n : Nat) : (raiseIrq s p n).clk = s.clk := rfl
@[simp] theorem raiseIrq_selv (p n : Nat) : (raiseIrq s p n).selv = s.selv := rfl
@[simp] theorem raiseIrq_eic (p n : Nat) : (raiseIrq s p n).eic = s.eic := rfl
@[simp] theorem raiseIrq_whrl (p n : Nat) : (raiseIrq s p n).whrl = s.whrl := rfl
@[simp] theorem raiseIrq_prck (p n : Nat) : (raiseIrq s p n).prck = s.prck := rfl
@[simp] theorem raiseIrq_stc (p n : Nat) : (raiseIrq s p n).stc = s.stc := rfl
@[simp] theorem raiseIrq_pio (p n : Nat) : (raiseIrq s p n).pio = s.pio := rfl
@[simp] theorem raiseIrq_hif (p n : Nat) : (raiseIrq s p n).hif = s.hif := rfl
@[simp] theorem raiseIrq_dra (p n : Nat) : (raiseIrq s p n).dra = s.dra := rfl
@[simp] theorem raiseIrq_nvr (p n : Nat) : (raiseIrq s p n).nvr = s.nvr := rfl
@[simp] theorem raiseIrq_fuses (p n : Nat) : (raiseIrq s p n).fuses = s.fuses := rfl
@[simp] theorem raiseIrq_sec (p n : Nat) : (raiseIrq s p n).sec = s.sec := rfl
@[simp] theorem raiseIrq_dbg (p n : Nat) : (raiseIrq s p n).dbg = s.dbg := rfl
@[simp] theorem raiseIrq_ucs (p n : Nat) : (raiseIrq s p n).ucs = s.ucs := rfl
@[simp] theorem raiseIrq_spn (p n : Nat) : (raiseIrq s p n).spn = s.spn := rfl
@[simp] theorem raiseIrq_fport (p n : Nat) : (raiseIrq s p n).fport = s.fport := rfl
@[simp] theorem raiseIrq_mem (p n : Nat) : (raiseIrq s p n).mem = s.mem := rfl
@[simp] theorem raiseIrq_clb (p n : Nat) : (raiseIrq s p n).clb = s.clb := rfl
@[simp] theorem raiseIrq_cores (p n : Nat) : (raiseIrq s p n).cores = s.cores := rfl
@[simp] theorem raiseIrq_loopCells (p n : Nat) : (raiseIrq s p n).loopCells = s.loopCells := rfl

/-! condEnd -/
@[simp] theorem condEnd_pending (p n : Nat) : (condEnd s p n).pending = s.pending := rfl
@[simp] theorem condEnd_freeCtr (p n : Nat) : (condEnd s p n).freeCtr = s.freeCtr := rfl
@[simp] theorem condEnd_lastAccess (p n : Nat) : (condEnd s p n).lastAccess = s.lastAccess := rfl
@[simp] theorem condEnd_now (p n : Nat) : (condEnd s p n).now = s.now := rfl
@[simp] theorem condEnd_glb (p n : Nat) : (condEnd s p n).glb = s.glb := rfl
@[simp] theorem condEnd_mode (p n : Nat) : (condEnd s p n).mode = s.mode := rfl
@[simp] theorem condEnd_pwr (p n : Nat) : (condEnd s p n).pwr = s.pwr := rfl
@[simp] theorem condEnd_clk (p n : Nat) : (condEnd s p n).clk = s.clk := rfl
@[simp] theorem condEnd_selv (p n : Nat) : (condEnd s p n).selv = s.selv := rfl
@[simp] theorem condEnd_eic (p n : Nat) : (condEnd s p n).eic = s.eic := rfl
@[simp] theorem condEnd_whrl (p n : Nat) : (condEnd s p n).whrl = s.whrl := rfl
@[simp] theorem condEnd_prck (p n : Nat) : (condEnd s p n).prck = s.prck := rfl
@[simp] theorem condEnd_stc (p n : Nat) : (condEnd s p n).stc = s.stc := rfl
@[simp] theorem condEnd_pio (p n : Nat) : (condEnd s p n).pio = s.pio := rfl
@[simp] theorem condEnd_hif (p n : Nat) : (condEnd s p n).hif = s.hif := rfl
@[simp] theorem condEnd_dra (p n : Nat) : (condEnd s p n).dra = s.dra := rfl
@[simp] theorem condEnd_nvr (p n : Nat) : (condEnd s p n).nvr = s.nvr := rfl
@[simp] theorem condEnd_fuses (p n : Nat) : (condEnd s p n).fuses = s.fuses := rfl
@[simp] theorem condEnd_sec (p n : Nat) : (condEnd s p n).sec = s.sec := rfl
@[simp] theorem condEnd_dbg (p n : Nat) : (condEnd s p n).dbg = s.dbg := rfl
@[simp] theorem condEnd_ucs (p n : Nat) : (condEnd s p n).ucs = s.ucs := rfl
@[simp] theorem condEnd_spn (p n : Nat) : (condEnd s p n).spn = s.spn := rfl
@[simp] theorem condEnd_fport (p n : Nat) : (condEnd s p n).fport = s.fport := rfl
@[simp] theorem condEnd_mem (p n : Nat) : (condEnd s p n).mem = s.mem := rfl
@[simp] theorem condEnd_clb (p n : Nat) : (condEnd s p n).clb = s.clb := rfl
@[simp] theorem condEnd_cores (p n : Nat) : (condEnd s p n).cores = s.cores := rfl
@[simp] theorem condEnd_loopCells (p n : Nat) : (condEnd s p n).loopCells = s.loopCells := rfl

/-! setCore -/
@[simp] theorem setCore_pending (c : Nat) (k : Core) : (setCore s c k).pending = s.pending := rfl
@[simp] theorem setCore_freeCtr (c : Nat) (k : Core) : (setCore s c k).freeCtr = s.freeCtr := rfl
@[simp] theorem setCore_lastAccess (c : Nat) (k : Core) : (setCore s c k).lastAccess = s.lastAccess := rfl
@[simp] theorem setCore_regs (c : Nat) (k : Core) : (setCore s c k).regs = s.regs := rfl
@[simp] theorem setCore_now (c : Nat) (k : Core) : (setCore s c k).now = s.now := rfl
@[simp] theorem setCore_glb (c : Nat) (k : Core) : (setCore s c k).glb = s.glb := rfl
@[simp] theorem setCore_mode (c : Nat) (k : Core) : (setCore s c k).mode = s.mode := rfl
@[simp] theorem setCore_pwr (c : Nat) (k : Core) : (setCore s c k).pwr = s.pwr := rfl
@[simp] theorem setCore_clk (c : Nat) (k : Core) : (setCore s c k).clk = s.clk := rfl
@[simp] theorem setCore_selv (c : Nat) (k : Core) : (setCore s c k).selv = s.selv := rfl
@[simp] theorem setCore_eic (c : Nat) (k : Core) : (setCore s c k).eic = s.eic := rfl
@[simp] theorem setCore_whrl (c : Nat) (k : Core) : (setCore s c k).whrl = s.whrl := rfl
@[simp] theorem setCore_prck (c : Nat) (k : Core) : (setCore s c k).prck = s.prck := rfl
@[simp] theorem setCore_stc (c : Nat) (k : Core) : (setCore s c k).stc = s.stc := rfl
@[simp] theorem setCore_pio (c : Nat) (k : Core) : (setCore s c k).pio = s.pio := rfl
@[simp] theorem setCore_hif (c : Nat) (k : Core) : (setCore s c k).hif = s.hif := rfl
@[simp] theorem setCore_dra (c : Nat) (k : Core) : (setCore s c k).dra = s.dra := rfl
@[simp] theorem setCore_nvr (c : Nat) (k : Core) : (setCore s c k).nvr = s.nvr := rfl
@[simp] theorem setCore_fuses (c : Nat) (k : Core) : (setCore s c k).fuses = s.fuses := rfl
@[simp] theorem setCore_sec (c : Nat) (k : Core) : (setCore s c k).sec = s.sec := rfl
@[simp] theorem setCore_dbg (c : Nat) (k : Core) : (setCore s c k).dbg = s.dbg := rfl
@[simp] theorem setCore_ucs (c : Nat) (k : Core) : (setCore s c k).ucs = s.ucs := rfl
@[simp] theorem setCore_spn (c : Nat) (k : Core) : (setCore s c k).spn = s.spn := rfl
@[simp] theorem setCore_fport (c : Nat) (k : Core) : (setCore s c k).fport = s.fport := rfl
@[simp] theorem setCore_mem (c : Nat) (k : Core) : (setCore s c k).mem = s.mem := rfl
@[simp] theorem setCore_clb (c : Nat) (k : Core) : (setCore s c k).clb = s.clb := rfl
@[simp] theorem setCore_loopCells (c : Nat) (k : Core) : (setCore s c k).loopCells = s.loopCells := rfl

/-! modCore -/
@[simp] theorem modCore_pending (c : Nat) (f : Core → Core) : (modCore s c f).pending = s.pending := rfl
@[simp] theorem modCore_freeCtr (c : Nat) (f : Core → Core) : (modCore s c f).freeCtr = s.freeCtr := rfl
@[simp] theorem modCore_lastAccess (c : Nat) (f : Core → Core) : (modCore s c f).lastAccess = s.lastAccess := rfl
@[simp] theorem modCore_regs (c : Nat) (f : Core → Core) : (modCore s c f).regs = s.regs := rfl
@[simp] theorem modCore_now (c : Nat) (f : Core → Core) : (modCore s c f).now = s.now := rfl
@[simp] theorem modCore_glb (c : Nat) (f : Core → Core) : (modCore s c f).glb = s.glb := rfl
@[simp] theorem modCore_mode (c : Nat) (f : Core → Core) : (modCore s c f).mode = s.mode := rfl
@[simp] theorem modCore_pwr (c : Nat) (f : Core → Core) : (modCore s c f).pwr = s.pwr := rfl
@[simp] theorem modCore_clk (c : Nat) (f : Core → Core) : (modCore s c f).clk = s.clk := rfl
@[simp] theorem modCore_selv (c : Nat) (f : Core → Core) : (modCore s c f).selv = s.selv := rfl
@[simp] theorem modCore_eic (c : Nat) (f : Core → Core) : (modCore s c f).eic = s.eic := rfl
@[simp] theorem modCore_whrl (c : Nat) (f : Core → Core) : (modCore s c f).whrl = s.whrl := rfl
@[simp] theorem modCore_prck (c : Nat) (f : Core → Core) : (modCore s c f).prck = s.prck := rfl
@[simp] theorem modCore_stc (c : Nat) (f : Core → Core) : (modCore s c f).stc = s.stc := rfl
@[simp] theorem modCore_pio (c : Nat) (f : Core → Core) : (modCore s c f).pio = s.pio := rfl
@[simp] theorem modCore_hif (c : Nat) (f : Core → Core) : (modCore s c f).hif = s.hif := rfl
@[simp] theorem modCore_dra (c : Nat) (f : Core → Core) : (modCore s c f).dra = s.dra := rfl
@[simp] theorem modCore_nvr (c : Nat) (f : Core → Core) : (modCore s c f).nvr = s.nvr := rfl
@[simp] theorem modCore_fuses (c : Nat) (f : Core → Core) : (modCore s c f).fuses = s.fuses := rfl
@[simp] theorem modCore_sec (c : Nat) (f : Core → Core) : (modCore s c f).sec = s.sec := rfl
@[simp] theorem modCore_dbg (c : Nat) (f : Core → Core) : (modCore s c f).dbg = s.dbg := rfl
@[simp] theorem modCore_ucs (c : Nat) (f : Core → Core) : (modCore s c f).ucs = s.ucs := rfl
@[simp] theorem modCore_spn (c : Nat) (f : Core → Core) : (modCore s c f).spn = s.spn := rfl
@[simp] theorem modCore_fport (c : Nat) (f : Core → Core) : (modCore s c f).fport = s.fport := rfl
@[simp] theorem modCore_mem (c : Nat) (f : Core → Core) : (modCore s c f).mem = s.mem := rfl
@[simp] theorem modCore_clb (c : Nat) (f : Core → Core) : (modCore s c f).clb = s.clb := rfl
@[simp] theorem modCore_loopCells (c : Nat) (f : Core → Core) : (modCore s c f).loopCells = s.loopCells := rfl

/-! setDom -/
@[simp] theorem setDom_pending (d : Nat) (v : Dom) : (setDom s d v).pending = s.pending := rfl
@[simp] theorem setDom_freeCtr (d : Nat) (v : Dom) : (setDom s d v).freeCtr = s.freeCtr := rfl
@[simp] theorem setDom_lastAccess (d : Nat) (v : Dom) : (setDom s d v).lastAccess = s.lastAccess := rfl
@[simp] theorem setDom_regs (d : Nat) (v : Dom) : (setDom s d v).regs = s.regs := rfl
@[simp] theorem setDom_now (d : Nat) (v : Dom) : (setDom s d v).now = s.now := rfl
@[simp] theorem setDom_glb (d : Nat) (v : Dom) : (setDom s d v).glb = s.glb := rfl
@[simp] theorem setDom_mode (d : Nat) (v : Dom) : (setDom s d v).mode = s.mode := rfl
@[simp] theorem setDom_clk (d : Nat) (v : Dom) : (setDom s d v).clk = s.clk := rfl
@[simp] theorem setDom_selv (d : Nat) (v : Dom) : (setDom s d v).selv = s.selv := rfl
@[simp] theorem setDom_eic (d : Nat) (v : Dom) : (setDom s d v).eic = s.eic := rfl
@[simp] theorem setDom_whrl (d : Nat) (v : Dom) : (setDom s d v).whrl = s.whrl := rfl
@[simp] theorem setDom_prck (d : Nat) (v : Dom) : (setDom s d v).prck = s.prck := rfl
@[simp] theorem setDom_stc (d : Nat) (v : Dom) : (setDom s d v).stc = s.stc := rfl
@[simp] theorem setDom_pio (d : Nat) (v : Dom) : (setDom s d v).pio = s.pio := rfl
@[simp] theorem setDom_hif (d : Nat) (v : Dom) : (setDom s d v).hif = s.hif := rfl
@[simp] theorem setDom_dra (d : Nat) (v : Dom) : (setDom s d v).dra = s.dra := rfl
@[simp] theorem setDom_nvr (d : Nat) (v : Dom) : (setDom s d v).nvr = s.nvr := rfl
@[simp] theorem setDom_fuses (d : Nat) (v : Dom) : (setDom s d v).fuses = s.fuses := rfl
@[simp] theorem setDom_sec (d : Nat) (v : Dom) : (setDom s d v).sec = s.sec := rfl
@[simp] theorem setDom_dbg (d : Nat) (v : Dom) : (setDom s d v).dbg = s.dbg := rfl
@[simp] theorem setDom_ucs (d : Nat) (v : Dom) : (setDom s d v).ucs = s.ucs := rfl
@[simp] theorem setDom_spn (d : Nat) (v : Dom) : (setDom s d v).spn = s.spn := rfl
@[simp] theorem setDom_fport (d : Nat) (v : Dom) : (setDom s d v).fport = s.fport := rfl
@[simp] theorem setDom_mem (d : Nat) (v : Dom) : (setDom s d v).mem = s.mem := rfl
@[simp] theorem setDom_clb (d : Nat) (v : Dom) : (setDom s d v).clb = s.clb := rfl
@[simp] theorem setDom_cores (d : Nat) (v : Dom) : (setDom s d v).cores = s.cores := rfl
@[simp] theorem setDom_loopCells (d : Nat) (v : Dom) : (setDom s d v).loopCells = s.loopCells := rfl

/-! bankSet -/
@[simp] theorem bankSet_pending (a : Nat) (w : TWord) : (bankSet s a w).pending = s.pending := rfl
@[simp] theorem bankSet_freeCtr (a : Nat) (w : TWord) : (bankSet s a w).freeCtr = s.freeCtr := rfl
@[simp] theorem bankSet_lastAccess (a : Nat) (w : TWord) : (bankSet s a w).lastAccess = s.lastAccess := rfl
@[simp] theorem bankSet_regs (a : Nat) (w : TWord) : (bankSet s a w).regs = s.regs := rfl
@[simp] theorem bankSet_now (a : Nat) (w : TWord) : (bankSet s a w).now = s.now := rfl
@[simp] theorem bankSet_glb (a : Nat) (w : TWord) : (bankSet s a w).glb = s.glb := rfl
@[simp] theorem bankSet_mode (a : Nat) (w : TWord) : (bankSet s a w).mode = s.mode := rfl
@[simp] theorem bankSet_pwr (a : Nat) (w : TWord) : (bankSet s a w).pwr = s.pwr := rfl
@[simp] theorem bankSet_clk (a : Nat) (w : TWord) : (bankSet s a w).clk = s.clk := rfl
@[simp] theorem bankSet_selv (a : Nat) (w : TWord) : (bankSet s a w).selv = s.selv := rfl
@[simp] theorem bankSet_eic (a : Nat) (w : TWord) : (bankSet s a w).eic = s.eic := rfl
@[simp] theorem bankSet_whrl (a : Nat) (w : TWord) : (bankSet s a w).whrl = s.whrl := rfl
@[simp] theorem bankSet_prck (a : Nat) (w : TWord) : (bankSet s a w).prck = s.prck := rfl
@[simp] theorem bankSet_stc (a : Nat) (w : TWord) : (bankSet s a w).stc = s.stc := rfl
@[simp] theorem bankSet_pio (a : Nat) (w : TWord) : (bankSet s a w).pio = s.pio := rfl
@[simp] theorem bankSet_hif (a : Nat) (w : TWord) : (bankSet s a w).hif = s.hif := rfl
@[simp] theorem bankSet_dra (a : Nat) (w : TWord) : (bankSet s a w).dra = s.dra := rfl
@[simp] theorem bankSet_nvr (a : Nat) (w : TWord) : (bankSet s a w).nvr = s.nvr := rfl
@[simp] theorem bankSet_fuses (a : Nat) (w : TWord) : (bankSet s a w).fuses = s.fuses := rfl
@[simp] theorem bankSet_sec (a : Nat) (w : TWord) : (bankSet s a w).sec = s.sec := rfl
@[simp] theorem bankSet_dbg (a : Nat) (w : TWord) : (bankSet s a w).dbg = s.dbg := rfl
@[simp] theorem bankSet_ucs (a : Nat) (w : TWord) : (bankSet s a w).ucs = s.ucs := rfl
@[simp] theorem bankSet_spn (a : Nat) (w : TWord) : (bankSet s a w).spn = s.spn := rfl
@[simp] theorem bankSet_fport (a : Nat) (w : TWord) : (bankSet s a w).fport = s.fport := rfl
@[simp] theorem bankSet_clb (a : Nat) (w : TWord) : (bankSet s a w).clb = s.clb := rfl
@[simp] theorem bankSet_cores (a : Nat) (w : TWord) : (bankSet s a w).cores = s.cores := rfl
@[simp] theorem bankSet_loopCells (a : Nat) (w : TWord) : (bankSet s a w).loopCells = s.loopCells := rfl

/-! bankFill -/
@[simp] theorem bankFill_pending (a n : Nat) : (bankFill s a n).pending = s.pending := rfl
@[simp] theorem bankFill_freeCtr (a n : Nat) : (bankFill s a n).freeCtr = s.freeCtr := rfl
@[simp] theorem bankFill_lastAccess (a n : Nat) : (bankFill s a n).lastAccess = s.lastAccess := rfl
@[simp] theorem bankFill_regs (a n : Nat) : (bankFill s a n).regs = s.regs := rfl
@[simp] theorem bankFill_now (a n : Nat) : (bankFill s a n).now = s.now := rfl
@[simp] theorem bankFill_glb (a n : Nat) : (bankFill s a n).glb = s.glb := rfl
@[simp] theorem bankFill_mode (a n : Nat) : (bankFill s a n).mode = s.mode := rfl
@[simp] theorem bankFill_pwr (a n : Nat) : (bankFill s a n).pwr = s.pwr := rfl
@[simp] theorem bankFill_clk (a n : Nat) : (bankFill s a n).clk = s.clk := rfl
@[simp] theorem bankFill_selv (a n : Nat) : (bankFill s a n).selv = s.selv := rfl
@[simp] theorem bankFill_eic (a n : Nat) : (bankFill s a n).eic = s.eic := rfl
@[simp] theorem bankFill_whrl (a n : Nat) : (bankFill s a n).whrl = s.whrl := rfl
@[simp] theorem bankFill_prck (a n : Nat) : (bankFill s a n).prck = s.prck := rfl
@[simp] theorem bankFill_stc (a n : Nat) : (bankFill s a n).stc = s.stc := rfl
@[simp] theorem bankFill_pio (a n : Nat) : (bankFill s a n).pio = s.pio := rfl
@[simp] theorem bankFill_hif (a n : Nat) : (bankFill s a n).hif = s.hif := rfl
@[simp] theorem bankFill_dra (a n : Nat) : (bankFill s a n).dra = s.dra := rfl
@[simp] theorem bankFill_nvr (a n : Nat) : (bankFill s a n).nvr = s.nvr := rfl
@[simp] theorem bankFill_fuses (a n : Nat) : (bankFill s a n).fuses = s.fuses := rfl
@[simp] theorem bankFill_sec (a n : Nat) : (bankFill s a n).sec = s.sec := rfl
@[simp] theorem bankFill_dbg (a n : Nat) : (bankFill s a n).dbg = s.dbg := rfl
@[simp] theorem bankFill_ucs (a n : Nat) : (bankFill s a n).ucs = s.ucs := rfl
@[simp] theorem bankFill_spn (a n : Nat) : (bankFill s a n).spn = s.spn := rfl
@[simp] theorem bankFill_fport (a n : Nat) : (bankFill s a n).fport = s.fport := rfl
@[simp] theorem bankFill_clb (a n : Nat) : (bankFill s a n).clb = s.clb := rfl
@[simp] theorem bankFill_cores (a n : Nat) : (bankFill s a n).cores = s.cores := rfl
@[simp] theorem bankFill_loopCells (a n : Nat) : (bankFill s a n).loopCells = s.loopCells := rfl

/-! hostSet -/
@[simp] theorem hostSet_pending (a : Nat) (b : Byte) : (hostSet s a b).pending = s.pending := rfl
@[simp] theorem hostSet_freeCtr (a : Nat) (b : Byte) : (hostSet s a b).freeCtr = s.freeCtr := rfl
@[simp] theorem hostSet_lastAccess (a : Nat) (b : Byte) : (hostSet s a b).lastAccess = s.lastAccess := rfl
@[simp] theorem hostSet_regs (a : Nat) (b : Byte) : (hostSet s a b).regs = s.regs := rfl
@[simp] theorem hostSet_now (a : Nat) (b : Byte) : (hostSet s a b).now = s.now := rfl
@[simp] theorem hostSet_glb (a : Nat) (b : Byte) : (hostSet s a b).glb = s.glb := rfl
@[simp] theorem hostSet_mode (a : Nat) (b : Byte) : (hostSet s a b).mode = s.mode := rfl
@[simp] theorem hostSet_pwr (a : Nat) (b : Byte) : (hostSet s a b).pwr = s.pwr := rfl
@[simp] theorem hostSet_clk (a : Nat) (b : Byte) : (hostSet s a b).clk = s.clk := rfl
@[simp] theorem hostSet_selv (a : Nat) (b : Byte) : (hostSet s a b).selv = s.selv := rfl
@[simp] theorem hostSet_eic (a : Nat) (b : Byte) : (hostSet s a b).eic = s.eic := rfl
@[simp] theorem hostSet_whrl (a : Nat) (b : Byte) : (hostSet s a b).whrl = s.whrl := rfl
@[simp] theorem hostSet_prck (a : Nat) (b : Byte) : (hostSet s a b).prck = s.prck := rfl
@[simp] theorem hostSet_stc (a : Nat) (b : Byte) : (hostSet s a b).stc = s.stc := rfl
@[simp] theorem hostSet_pio (a : Nat) (b : Byte) : (hostSet s a b).pio = s.pio := rfl
@[simp] theorem hostSet_hif (a : Nat) (b : Byte) : (hostSet s a b).hif = s.hif := rfl
@[simp] theorem hostSet_dra (a : Nat) (b : Byte) : (hostSet s a b).dra = s.dra := rfl
@[simp] theorem hostSet_nvr (a : Nat) (b : Byte) : (hostSet s a b).nvr = s.nvr := rfl
@[simp] theorem hostSet_fuses (a : Nat) (b : Byte) : (hostSet s a b).fuses = s.fuses := rfl
@[simp] theorem hostSet_sec (a : Nat) (b : Byte) : (hostSet s a b).sec = s.sec := rfl
@[simp] theorem hostSet_dbg (a : Nat) (b : Byte) : (hostSet s a b).dbg = s.dbg := rfl
@[simp] theorem hostSet_ucs (a : Nat) (b : Byte) : (hostSet s a b).ucs = s.ucs := rfl
@[simp] theorem hostSet_spn (a : Nat) (b : Byte) : (hostSet s a b).spn = s.spn := rfl
@[simp] theorem hostSet_fport (a : Nat) (b : Byte) : (hostSet s a b).fport = s.fport := rfl
@[simp] theorem hostSet_clb (a : Nat) (b : Byte) : (hostSet s a b).clb = s.clb := rfl
@[simp] theorem hostSet_cores (a : Nat) (b : Byte) : (hostSet s a b).cores = s.cores := rfl
@[simp] theorem hostSet_loopCells (a : Nat) (b : Byte) : (hostSet s a b).loopCells = s.loopCells := rfl

/-! codeSet -/
@[simp] theorem codeSet_pending (p a : Nat) (w : W32) : (codeSet s p a w).pending = s.pending := rfl
@[simp] theorem codeSet_freeCtr (p a : Nat) (w : W32) : (codeSet s p a w).freeCtr = s.freeCtr := rfl
@[simp] theorem codeSet_lastAccess (p a : Nat) (w : W32) : (codeSet s p a w).lastAccess = s.lastAccess := rfl
@[simp] theorem codeSet_regs (p a : Nat) (w : W32) : (codeSet s p a w).regs = s.regs := rfl
@[simp] theorem codeSet_now (p a : Nat) (w : W32) : (codeSet s p a w).now = s.now := rfl
@[simp] theorem codeSet_glb (p a : Nat) (w : W32) : (codeSet s p a w).glb = s.glb := rfl
@[simp] theorem codeSet_mode (p a : Nat) (w : W32) : (codeSet s p a w).mode = s.mode := rfl
@[simp] theorem codeSet_pwr (p a : Nat) (w : W32) : (codeSet s p a w).pwr = s.pwr := rfl
@[simp] theorem codeSet_clk (p a : Nat) (w : W32) : (codeSet s p a w).clk = s.clk := rfl
@[simp] theorem codeSet_selv (p a : Nat) (w : W32) : (codeSet s p a w).selv = s.selv := rfl
@[simp] theorem codeSet_eic (p a : Nat) (w : W32) : (codeSet s p a w).eic = s.eic := rfl
@[simp] theorem codeSet_whrl (p a : Nat) (w : W32) : (codeSet s p a w).whrl = s.whrl := rfl
@[simp] theorem codeSet_prck (p a : Nat) (w : W32) : (codeSet s p a w).prck = s.prck := rfl
@[simp] theorem codeSet_stc (p a : Nat) (w : W32) : (codeSet s p a w).stc = s.stc := rfl
@[simp] theorem codeSet_pio (p a : Nat) (w : W32) : (codeSet s p a w).pio = s.pio := rfl
@[simp] theorem codeSet_hif (p a : Nat) (w : W32) : (codeSet s p a w).hif = s.hif := rfl
@[simp] theorem codeSet_dra (p a : Nat) (w : W32) : (codeSet s p a w).dra = s.dra := rfl
@[simp] theorem codeSet_nvr (p a : Nat) (w : W32) : (codeSet s p a w).nvr = s.nvr := rfl
@[simp] theorem codeSet_fuses (p a : Nat) (w : W32) : (codeSet s p a w).fuses = s.fuses := rfl
@[simp] theorem codeSet_sec (p a : Nat) (w : W32) : (codeSet s p a w).sec = s.sec := rfl
@[simp] theorem codeSet_dbg (p a : Nat) (w : W32) : (codeSet s p a w).dbg = s.dbg := rfl
@[simp] theorem codeSet_ucs (p a : Nat) (w : W32) : (codeSet s p a w).ucs = s.ucs := rfl
@[simp] theorem codeSet_spn (p a : Nat) (w : W32) : (codeSet s p a w).spn = s.spn := rfl
@[simp] theorem codeSet_fport (p a : Nat) (w : W32) : (codeSet s p a w).fport = s.fport := rfl
@[simp] theorem codeSet_clb (p a : Nat) (w : W32) : (codeSet s p a w).clb = s.clb := rfl
@[simp] theorem codeSet_cores (p a : Nat) (w : W32) : (codeSet s p a w).cores = s.cores := rfl
@[simp] theorem codeSet_loopCells (p a : Nat) (w : W32) : (codeSet s p a w).loopCells = s.loopCells := rfl

/-! dramSet -/
@[simp] theorem dramSet_pending (a : Nat) (b : Byte) : (dramSet s a b).pending = s.pending := rfl
@[simp] theorem dramSet_freeCtr (a : Nat) (b : Byte) : (dramSet s a b).freeCtr = s.freeCtr := rfl
@[simp] theorem dramSet_lastAccess (a : Nat) (b : Byte) : (dramSet s a b).lastAccess = s.lastAccess := rfl
@[simp] theorem dramSet_regs (a : Nat) (b : Byte) : (dramSet s a b).regs = s.regs := rfl
@[simp] theorem dramSet_now (a : Nat) (b : Byte) : (dramSet s a b).now = s.now := rfl
@[simp] theorem dramSet_glb (a : Nat) (b : Byte) : (dramSet s a b).glb = s.glb := rfl
@[simp] theorem dramSet_mode (a : Nat) (b : Byte) : (dramSet s a b).mode = s.mode := rfl
@[simp] theorem dramSet_pwr (a : Nat) (b : Byte) : (dramSet s a b).pwr = s.pwr := rfl
@[simp] theorem dramSet_clk (a : Nat) (b : Byte) : (dramSet s a b).clk = s.clk := rfl
@[simp] theorem dramSet_selv (a : Nat) (b : Byte) : (dramSet s a b).selv = s.selv := rfl
@[simp] theorem dramSet_eic (a : Nat) (b : Byte) : (dramSet s a b).eic = s.eic := rfl
@[simp] theorem dramSet_whrl (a : Nat) (b : Byte) : (dramSet s a b).whrl = s.whrl := rfl
@[simp] theorem dramSet_prck (a : Nat) (b : Byte) : (dramSet s a b).prck = s.prck := rfl
@[simp] theorem dramSet_stc (a : Nat) (b : Byte) : (dramSet s a b).stc = s.stc := rfl
@[simp] theorem dramSet_pio (a : Nat) (b : Byte) : (dramSet s a b).pio = s.pio := rfl
@[simp] theorem dramSet_hif (a : Nat) (b : Byte) : (dramSet s a b).hif = s.hif := rfl
@[simp] theorem dramSet_nvr (a : Nat) (b : Byte) : (dramSet s a b).nvr = s.nvr := rfl
@[simp] theorem dramSet_fuses (a : Nat) (b : Byte) : (dramSet s a b).fuses = s.fuses := rfl
@[simp] theorem dramSet_sec (a : Nat) (b : Byte) : (dramSet s a b).sec = s.sec := rfl
@[simp] theorem dramSet_dbg (a : Nat) (b : Byte) : (dramSet s a b).dbg = s.dbg := rfl
@[simp] theorem dramSet_ucs (a : Nat) (b : Byte) : (dramSet s a b).ucs = s.ucs := rfl
@[simp] theorem dramSet_spn (a : Nat) (b : Byte) : (dramSet s a b).spn = s.spn := rfl
@[simp] theorem dramSet_fport (a : Nat) (b : Byte) : (dramSet s a b).fport = s.fport := rfl
@[simp] theorem dramSet_mem (a : Nat) (b : Byte) : (dramSet s a b).mem = s.mem := rfl
@[simp] theorem dramSet_clb (a : Nat) (b : Byte) : (dramSet s a b).clb = s.clb := rfl
@[simp] theorem dramSet_cores (a : Nat) (b : Byte) : (dramSet s a b).cores = s.cores := rfl
@[simp] theorem dramSet_loopCells (a : Nat) (b : Byte) : (dramSet s a b).loopCells = s.loopCells := rfl

end Sys2Proof.Machine
end

