-- ==== Sys2Proof/Laws/Ops.lean ====
section
/-!
SUPPORT. What the named operations over registers, cores and memories leave readable, and that they keep the canonical
form of the store they write.
-/

namespace Sys2Proof.Machine
variable (s : State)

/-! ### Registers -/

/-- A page and an offset below 4,096 name one register. -/
theorem rkey_inj {p q o r : Nat} (h : o < 0x1000) (g : r < 0x1000) : rkey p o = rkey q r ↔ p = q ∧ o = r := by
  unfold rkey
  omega

@[simp] theorem rd_wr_same (p o : Nat) (v : W32) : rd (wr s p o v) p o = v := by simp [rd, wr]

theorem rd_wr (p o q r : Nat) (v : W32) : rd (wr s p o v) q r = if rkey q r = rkey p o then v else rd s q r := by
  unfold rd wr
  by_cases h : rkey q r = rkey p o
  · simp [h]
  · simp only [h, if_false, SMap.set]
    split
    · rw [SMap.get_erase]
      simp [h]
    · rw [SMap.get_insert]
      simp [h]

/-- A register of another place is untouched. -/
@[simp] theorem rd_wr_other (p o q r : Nat) (v : W32) (h : rkey q r ≠ rkey p o) : rd (wr s p o v) q r = rd s q r := by
  simp [rd_wr, h]

theorem rd_congr {s t : State} (h : s.regs = t.regs) (p o : Nat) : rd s p o = rd t p o := by simp [rd, h]

@[simp] theorem rd_raiseIrq (p n : Nat) : rd (raiseIrq s p n) p 0x024 = setBit (rd s p 0x024) n := by simp [raiseIrq]
@[simp] theorem rd_bump (p o n : Nat) : rd (bump s p o n) p o = w32 ((rd s p o).toNat + n) := by simp [bump]
@[simp] theorem rd_wrF (p o lo w v : Nat) : rd (wrF s p o lo w v) p o = setField (rd s p o) lo w v := by simp [wrF]

@[simp] theorem rd_setCore (c : Nat) (k : Core) (p o : Nat) : rd (setCore s c k) p o = rd s p o := rfl
@[simp] theorem rd_modCore (c : Nat) (f : Core → Core) (p o : Nat) : rd (modCore s c f) p o = rd s p o := rfl
@[simp] theorem rd_bankSet (a : Nat) (w : TWord) (p o : Nat) : rd (bankSet s a w) p o = rd s p o := rfl

/-! ### Cores -/

@[simp] theorem core_setCore (c d : Nat) (k : Core) : core (setCore s c k) d = if d = c then k else core s d := by
  simp [core, setCore]

theorem core_setCore_same (c : Nat) (k : Core) : core (setCore s c k) c = k := by simp

@[simp] theorem core_modCore (c d : Nat) (f : Core → Core) :
    core (modCore s c f) d = if d = c then f (core s c) else core s d := by simp [modCore]

@[simp] theorem core_wr (p o : Nat) (v : W32) (c : Nat) : core (wr s p o v) c = core s c := rfl
@[simp] theorem core_bankSet (a : Nat) (w : TWord) (c : Nat) : core (bankSet s a w) c = core s c := rfl

/-- The later of two contexts written stands, where the earlier one has power. -/
theorem setCore_setCore (c : Nat) (k l : Core) (h : k.pstate ≠ .off) : setCore (setCore s c k) c l = setCore s c l := by
  have : k ≠ Core.reset := by
    intro g
    exact h (by rw [g]; rfl)
  simp [setCore, SMap.set_set _ _ _ _ _ this]

/-! ### Memories -/

@[simp] theorem bankGet_bankSet (a b : Nat) (w : TWord) : bankGet (bankSet s a w) b = if b = a then w else bankGet s b := by
  simp [bankGet, bankSet]
@[simp] theorem bankGet_wr (p o : Nat) (v : W32) (a : Nat) : bankGet (wr s p o v) a = bankGet s a := rfl
@[simp] theorem bankGet_setCore (c : Nat) (k : Core) (a : Nat) : bankGet (setCore s c k) a = bankGet s a := rfl
@[simp] theorem hostGet_hostSet (a b : Nat) (v : Byte) : hostGet (hostSet s a v) b = if b = a then v else hostGet s b := by
  simp [hostGet, hostSet]
@[simp] theorem dramGet_dramSet (a b : Nat) (v : Byte) : dramGet (dramSet s a v) b = if b = a then v else dramGet s b := by
  simp [dramGet, dramSet]
theorem codeGet_codeSet (p a q b : Nat) (w : W32) (h : a < 2 ^ 16) (g : b < 2 ^ 16) :
    codeGet (codeSet s p a w) q b = if q = p ∧ b = a then w else codeGet s q b := by
  have : q * 65536 + b = p * 65536 + a ↔ q = p ∧ b = a := by omega
  simp [codeGet, codeSet, this]

/-- A fill leaves VOID words in its range and every other word alone (R33, R422). -/
theorem bankGet_bankFill (a n b : Nat) : bankGet (bankFill s a n) b = if a ≤ b ∧ b < a + n then voidWord else bankGet s b := by
  unfold bankGet bankFill
  simp only
  induction s.mem.bank with
  | nil => simp [SMap.get]
  | cons p t ih =>
    obtain ⟨i, u⟩ := p
    by_cases h : i < a ∨ a + n ≤ i
    · simp only [List.filter, h, decide_true, SMap.get, ih]
      by_cases g : i = b
      · have : ¬ (a ≤ b ∧ b < a + n) := by omega
        simp [g, this]
      · simp [g]
    · simp only [List.filter, h, decide_false, SMap.get, ih]
      by_cases g : i = b
      · have : a ≤ b ∧ b < a + n := by omega
        simp [this]
      · simp [g]

end Sys2Proof.Machine
end

