-- ==== Sys2Proof/Laws/Report.lean ====
section
/-!
SUPPORT. Bits of words, and what the operations that report do: error bits, interrupt bits, warning events and records.
-/

namespace Sys2Proof.Machine

variable {s : State}

/-! ### Bits -/

theorem bit_eq (x : W32) (n : Nat) : bit x n = x.getLsbD n := by
  simp only [bit, BitVec.getLsbD, Nat.testBit_eq_decide_div_mod_eq]
  rfl

theorem bit_setBit (x : W32) (n m : Nat) (h : m < 32) : bit (setBit x n) m = (bit x m || decide (m = n)) := by
  simp only [bit_eq, setBit, BitVec.getLsbD_or, BitVec.getLsbD_ofNat, Nat.testBit_two_pow]
  simp [h, eq_comm]

theorem bit_clrBit (x : W32) (n m : Nat) (h : m < 32) : bit (clrBit x n) m = (bit x m && decide (m ≠ n)) := by
  simp only [bit_eq, clrBit, BitVec.getLsbD_and, BitVec.getLsbD_not, BitVec.getLsbD_ofNat, Nat.testBit_two_pow]
  simp [h, eq_comm]

@[simp] theorem rdB_wr_same (p o n : Nat) (v : W32) : rdB (wr s p o v) p o n = bit v n := by simp [rdB]

theorem rdB_congr {s t : State} (h : s.regs = t.regs) (p o n : Nat) : rdB s p o n = rdB t p o n := by
  simp [rdB, rd_congr h]

/-! ### Interrupt bits -/

theorem rd_raiseIrq_other (p n q o : Nat) (ho : o < 0x1000) (h : q ≠ p ∨ o ≠ 0x024) : rd (raiseIrq s p n) q o = rd s q o := by
  unfold raiseIrq
  rw [rd_wr_other]
  rw [Ne, rkey_inj ho (by omega)]
  omega

theorem rdB_raiseIrq (p n m : Nat) (h : m < 32) : rdB (raiseIrq s p n) p 0x024 m = (rdB s p 0x024 m || decide (m = n)) := by
  simp [rdB, bit_setBit _ _ _ h]

@[simp] theorem rdB_raiseIrq_same (p n : Nat) (h : n < 32) : rdB (raiseIrq s p n) p 0x024 n = true := by
  simp [rdB_raiseIrq _ _ _ h]

theorem rdB_raiseIrq_other (p n q o m : Nat) (ho : o < 0x1000) (h : q ≠ p ∨ o ≠ 0x024) :
    rdB (raiseIrq s p n) q o m = rdB s q o m := by simp [rdB, rd_raiseIrq_other p n q o ho h]

/-- An interrupt bit changes one register. -/
theorem raiseIrq_frame (p n : Nat) : raiseIrq s p n = { s with regs := (raiseIrq s p n).regs } := rfl

/-! ### Errors -/

theorem occur_frame (o : Occ) : occur s o = { s with selv := { s.selv with occ := (occur s o).selv.occ } } := by
  unfold occur; split <;> rfl

@[simp] theorem rd_occur (o : Occ) (p q : Nat) : rd (occur s o) p q = rd s p q := by
  rw [occur_frame]; rfl

@[simp] theorem rdB_occur (o : Occ) (p q n : Nat) : rdB (occur s o) p q n = rdB s p q n := by simp [rdB]

/-- An error changes ERR_STATUS of its page and may add an occurrence. -/
theorem raiseErr_frame (p n sub : Nat) (named : List UnitId) (inj w : Bool) :
    raiseErr s p n sub named inj w =
      { s with regs := (wr s p 0x010 (setBit (rd s p 0x010) n)).regs
               selv := { s.selv with occ := (raiseErr s p n sub named inj w).selv.occ } } := by
  unfold raiseErr; rw [occur_frame]; rfl

/-- The occurrence is added exactly where the error is enabled and routed (R572). -/
theorem raiseErr_occ (p n sub : Nat) (named : List UnitId) (inj w : Bool) :
    (raiseErr s p n sub named inj w).selv.occ = if carried (wr s p 0x010 (setBit (rd s p 0x010) n)) p n then
      s.selv.occ ++ [⟨p, n, sub, named, inj, w⟩] else s.selv.occ := by
  unfold raiseErr occur; split <;> rfl

@[simp] theorem rd_raiseErr (p n sub : Nat) (named : List UnitId) (inj w : Bool) :
    rd (raiseErr s p n sub named inj w) p 0x010 = setBit (rd s p 0x010) n := by simp [raiseErr]

theorem rd_raiseErr_other (p n sub : Nat) (named : List UnitId) (inj w : Bool) (q o : Nat) (ho : o < 0x1000)
    (h : q ≠ p ∨ o ≠ 0x010) : rd (raiseErr s p n sub named inj w) q o = rd s q o := by
  rw [raiseErr, rd_occur, rd_wr_other]
  rw [Ne, rkey_inj ho (by omega)]
  omega

theorem rdB_raiseErr (p n sub : Nat) (named : List UnitId) (inj w : Bool) (m : Nat) (h : m < 32) :
    rdB (raiseErr s p n sub named inj w) p 0x010 m = (rdB s p 0x010 m || decide (m = n)) := by
  simp [rdB, bit_setBit _ _ _ h]

theorem rdB_raiseErr_other (p n sub : Nat) (named : List UnitId) (inj w : Bool) (q o m : Nat) (ho : o < 0x1000)
    (h : q ≠ p ∨ o ≠ 0x010) : rdB (raiseErr s p n sub named inj w) q o m = rdB s q o m := by
  simp [rdB, rd_raiseErr_other p n sub named inj w q o ho h]

@[simp] theorem core_raiseErr (p n sub : Nat) (named : List UnitId) (inj w : Bool) (c : Nat) :
    core (raiseErr s p n sub named inj w) c = core s c := by rw [raiseErr_frame]; rfl

/-! ### Standing conditions -/

theorem condErr_frame (p n sub : Nat) (named : List UnitId) :
    condErr s p n sub named =
      { s with regs := (condErr s p n sub named).regs
               selv := { s.selv with occ := (condErr s p n sub named).selv.occ } } := by
  unfold condErr
  split
  · rfl
  · rw [raiseErr_frame]; rfl

theorem rdB_condErr_live (p n sub : Nat) (named : List UnitId) (h : n < 32) :
    rdB (condErr s p n sub named) p 0x014 n = true := by
  unfold condErr
  split
  · assumption
  · rw [rdB_raiseErr_other _ _ _ _ _ _ _ _ _ (by omega) (by omega)]
    simp [rdB, bit_setBit _ _ _ h]

theorem rdB_condErr_status (p n sub : Nat) (named : List UnitId) (h : n < 32) (g : rdB s p 0x014 n = false) :
    rdB (condErr s p n sub named) p 0x010 n = true := by
  simp [condErr, g, rdB_raiseErr _ _ _ _ _ _ _ h]

theorem rd_condErr_other (p n sub : Nat) (named : List UnitId) (q o : Nat) (ho : o < 0x1000)
    (h : q ≠ p ∨ (o ≠ 0x010 ∧ o ≠ 0x014)) : rd (condErr s p n sub named) q o = rd s q o := by
  unfold condErr
  split
  · rfl
  · rw [rd_raiseErr_other _ _ _ _ _ _ _ _ ho (by omega), rd_wr_other]
    rw [Ne, rkey_inj ho (by omega)]
    omega

theorem rd_condEnd_other (p n q o : Nat) (ho : o < 0x1000) (h : q ≠ p ∨ o ≠ 0x014) : rd (condEnd s p n) q o = rd s q o := by
  unfold condEnd
  rw [rd_wr_other]
  rw [Ne, rkey_inj ho (by omega)]
  omega

@[simp] theorem rdB_condEnd_live (p n : Nat) (h : n < 32) : rdB (condEnd s p n) p 0x014 n = false := by
  simp [condEnd, rdB, bit_clrBit _ _ _ h]

/-! ### Records and warning events -/

theorem submit_frame (r : Soe) : submit s r = { s with regs := (submit s r).regs, nvr := (submit s r).nvr } := by
  unfold submit; split <;> rfl

theorem soe_frame (k x n g : Nat) (v w : W32) :
    soe s k x n g v w = { s with regs := (soe s k x n g v w).regs, nvr := (soe s k x n g v w).nvr } := by
  unfold soe soeAt; rw [submit_frame]

theorem regs_trans {t u : State} (h : t = { s with regs := t.regs }) (g : u = { t with regs := u.regs }) :
    u = { s with regs := u.regs } := by
  rw [g, h]

theorem wr_frame (p o : Nat) (v : W32) : wr s p o v = { s with regs := (wr s p o v).regs } := rfl

theorem bump_frame (p o n : Nat) : bump s p o n = { s with regs := (bump s p o n).regs } := rfl

/-- A record added after a change of registers. -/
theorem soe_after {u : State} (r : SMap W32) (h : u = { s with regs := r }) (k x n g : Nat) (v w : W32) :
    soe u k x n g v w = { s with regs := (soe u k x n g v w).regs, nvr := (soe u k x n g v w).nvr } := by
  subst h
  rw [soe_frame]

/-- A warning event changes registers and the queue of records alone. -/
theorem warnEvent_frame (p : Nat) :
    warnEvent s p = { s with regs := (warnEvent s p).regs, nvr := (warnEvent s p).nvr } := by
  unfold warnEvent
  by_cases h : s.mode.cur = .off
  · rw [if_pos h]
  · rw [if_neg h]
    dsimp only
    refine soe_after _ (regs_trans (regs_trans (regs_trans (raiseIrq_frame _ _) (bump_frame _ _ _)) (wr_frame _ _ _))
      (wr_frame _ _ _)) _ _ _ _ _ _

end Sys2Proof.Machine
end

