-- ==== Sys2Proof/Laws/Fields.lean ====
section
/-!
SUPPORT. What the operations that report leave alone, field by field.
-/

namespace Sys2Proof.Machine
variable (s : State)

/-! occur -/
@[simp] theorem occur_pending (o : Occ) : (occur s o).pending = s.pending := by unfold occur; split <;> rfl
@[simp] theorem occur_freeCtr (o : Occ) : (occur s o).freeCtr = s.freeCtr := by unfold occur; split <;> rfl
@[simp] theorem occur_lastAccess (o : Occ) : (occur s o).lastAccess = s.lastAccess := by unfold occur; split <;> rfl
@[simp] theorem occur_regs (o : Occ) : (occur s o).regs = s.regs := by unfold occur; split <;> rfl
@[simp] theorem occur_now (o : Occ) : (occur s o).now = s.now := by unfold occur; split <;> rfl
@[simp] theorem occur_glb (o : Occ) : (occur s o).glb = s.glb := by unfold occur; split <;> rfl
@[simp] theorem occur_mode (o : Occ) : (occur s o).mode = s.mode := by unfold occur; split <;> rfl
@[simp] theorem occur_pwr (o : Occ) : (occur s o).pwr = s.pwr := by unfold occur; split <;> rfl
@[simp] theorem occur_clk (o : Occ) : (occur s o).clk = s.clk := by unfold occur; split <;> rfl
@[simp] theorem occur_eic (o : Occ) : (occur s o).eic = s.eic := by unfold occur; split <;> rfl
@[simp] theorem occur_whrl (o : Occ) : (occur s o).whrl = s.whrl := by unfold occur; split <;> rfl
@[simp] theorem occur_prck (o : Occ) : (occur s o).prck = s.prck := by unfold occur; split <;> rfl
@[simp] theorem occur_stc (o : Occ) : (occur s o).stc = s.stc := by unfold occur; split <;> rfl
@[simp] theorem occur_pio (o : Occ) : (occur s o).pio = s.pio := by unfold occur; split <;> rfl
@[simp] theorem occur_hif (o : Occ) : (occur s o).hif = s.hif := by unfold occur; split <;> rfl
@[simp] theorem occur_dra (o : Occ) : (occur s o).dra = s.dra := by unfold occur; split <;> rfl
@[simp] theorem occur_nvr (o : Occ) : (occur s o).nvr = s.nvr := by unfold occur; split <;> rfl
@[simp] theorem occur_fuses (o : Occ) : (occur s o).fuses = s.fuses := by unfold occur; split <;> rfl
@[simp] theorem occur_sec (o : Occ) : (occur s o).sec = s.sec := by unfold occur; split <;> rfl
@[simp] theorem occur_dbg (o : Occ) : (occur s o).dbg = s.dbg := by unfold occur; split <;> rfl
@[simp] theorem occur_ucs (o : Occ) : (occur s o).ucs = s.ucs := by unfold occur; split <;> rfl
@[simp] theorem occur_spn (o : Occ) : (occur s o).spn = s.spn := by unfold occur; split <;> rfl
@[simp] theorem occur_fport (o : Occ) : (occur s o).fport = s.fport := by unfold occur; split <;> rfl
@[simp] theorem occur_mem (o : Occ) : (occur s o).mem = s.mem := by unfold occur; split <;> rfl
@[simp] theorem occur_clb (o : Occ) : (occur s o).clb = s.clb := by unfold occur; split <;> rfl
@[simp] theorem occur_cores (o : Occ) : (occur s o).cores = s.cores := by unfold occur; split <;> rfl
@[simp] theorem occur_loopCells (o : Occ) : (occur s o).loopCells = s.loopCells := by unfold occur; split <;> rfl

/-! raiseErr -/
@[simp] theorem raiseErr_pending (p n sub : Nat) (named : List UnitId) (inj w : Bool) : (raiseErr s p n sub named inj w).pending = s.pending := by rw [raiseErr_frame]
@[simp] theorem raiseErr_freeCtr (p n sub : Nat) (named : List UnitId) (inj w : Bool) : (raiseErr s p n sub named inj w).freeCtr = s.freeCtr := by rw [raiseErr_frame]
@[simp] theorem raiseErr_lastAccess (p n sub : Nat) (named : List UnitId) (inj w : Bool) : (raiseErr s p n sub named inj w).lastAccess = s.lastAccess := by rw [raiseErr_frame]
@[simp] theorem raiseErr_now (p n sub : Nat) (named : List UnitId) (inj w : Bool) : (raiseErr s p n sub named inj w).now = s.now := by rw [raiseErr_frame]
@[simp] theorem raiseErr_glb (p n sub : Nat) (named : List UnitId) (inj w : Bool) : (raiseErr s p n sub named inj w).glb = s.glb := by rw [raiseErr_frame]
@[simp] theorem raiseErr_mode (p n sub : Nat) (named : List UnitId) (inj w : Bool) : (raiseErr s p n sub named inj w).mode = s.mode := by rw [raiseErr_frame]
@[simp] theorem raiseErr_pwr (p n sub : Nat) (named : List UnitId) (inj w : Bool) : (raiseErr s p n sub named inj w).pwr = s.pwr := by rw [raiseErr_frame]
@[simp] theorem raiseErr_clk (p n sub : Nat) (named : List UnitId) (inj w : Bool) : (raiseErr s p n sub named inj w).clk = s.clk := by rw [raiseErr_frame]
@[simp] theorem raiseErr_eic (p n sub : Nat) (named : List UnitId) (inj w : Bool) : (raiseErr s p n sub named inj w).eic = s.eic := by rw [raiseErr_frame]
@[simp] theorem raiseErr_whrl (p n sub : Nat) (named : List UnitId) (inj w : Bool) : (raiseErr s p n sub named inj w).whrl = s.whrl := by rw [raiseErr_frame]
@[simp] theorem raiseErr_prck (p n sub : Nat) (named : List UnitId) (inj w : Bool) : (raiseErr s p n sub named inj w).prck = s.prck := by rw [raiseErr_frame]
@[simp] theorem raiseErr_stc (p n sub : Nat) (named : List UnitId) (inj w : Bool) : (raiseErr s p n sub named inj w).stc = s.stc := by rw [raiseErr_frame]
@[simp] theorem raiseErr_pio (p n sub : Nat) (named : List UnitId) (inj w : Bool) : (raiseErr s p n sub named inj w).pio = s.pio := by rw [raiseErr_frame]
@[simp] theorem raiseErr_hif (p n sub : Nat) (named : List UnitId) (inj w : Bool) : (raiseErr s p n sub named inj w).hif = s.hif := by rw [raiseErr_frame]
@[simp] theorem raiseErr_dra (p n sub : Nat) (named : List UnitId) (inj w : Bool) : (raiseErr s p n sub named inj w).dra = s.dra := by rw [raiseErr_frame]
@[simp] theorem raiseErr_nvr (p n sub : Nat) (named : List UnitId) (inj w : Bool) : (raiseErr s p n sub named inj w).nvr = s.nvr := by rw [raiseErr_frame]
@[simp] theorem raiseErr_fuses (p n sub : Nat) (named : List UnitId) (inj w : Bool) : (raiseErr s p n sub named inj w).fuses = s.fuses := by rw [raiseErr_frame]
@[simp] theorem raiseErr_sec (p n sub : Nat) (named : List UnitId) (inj w : Bool) : (raiseErr s p n sub named inj w).sec = s.sec := by rw [raiseErr_frame]
@[simp] theorem raiseErr_dbg (p n sub : Nat) (named : List UnitId) (inj w : Bool) : (raiseErr s p n sub named inj w).dbg = s.dbg := by rw [raiseErr_frame]
@[simp] theorem raiseErr_ucs (p n sub : Nat) (named : List UnitId) (inj w : Bool) : (raiseErr s p n sub named inj w).ucs = s.ucs := by rw [raiseErr_frame]
@[simp] theorem raiseErr_spn (p n sub : Nat) (named : List UnitId) (inj w : Bool) : (raiseErr s p n sub named inj w).spn = s.spn := by rw [raiseErr_frame]
@[simp] theorem raiseErr_fport (p n sub : Nat) (named : List UnitId) (inj w : Bool) : (raiseErr s p n sub named inj w).fport = s.fport := by rw [raiseErr_frame]
@[simp] theorem raiseErr_mem (p n sub : Nat) (named : List UnitId) (inj w : Bool) : (raiseErr s p n sub named inj w).mem = s.mem := by rw [raiseErr_frame]
@[simp] theorem raiseErr_clb (p n sub : Nat) (named : List UnitId) (inj w : Bool) : (raiseErr s p n sub named inj w).clb = s.clb := by rw [raiseErr_frame]
@[simp] theorem raiseErr_cores (p n sub : Nat) (named : List UnitId) (inj w : Bool) : (raiseErr s p n sub named inj w).cores = s.cores := by rw [raiseErr_frame]
@[simp] theorem raiseErr_loopCells (p n sub : Nat) (named : List UnitId) (inj w : Bool) : (raiseErr s p n sub named inj w).loopCells = s.loopCells := by rw [raiseErr_frame]

/-! condErr -/
@[simp] theorem condErr_pending (p n sub : Nat) (named : List UnitId) : (condErr s p n sub named).pending = s.pending := by rw [condErr_frame]
@[simp] theorem condErr_freeCtr (p n sub : Nat) (named : List UnitId) : (condErr s p n sub named).freeCtr = s.freeCtr := by rw [condErr_frame]
@[simp] theorem condErr_lastAccess (p n sub : Nat) (named : List UnitId) : (condErr s p n sub named).lastAccess = s.lastAccess := by rw [condErr_frame]
@[simp] theorem condErr_now (p n sub : Nat) (named : List UnitId) : (condErr s p n sub named).now = s.now := by rw [condErr_frame]
@[simp] theorem condErr_glb (p n sub : Nat) (named : List UnitId) : (condErr s p n sub named).glb = s.glb := by rw [condErr_frame]
@[simp] theorem condErr_mode (p n sub : Nat) (named : List UnitId) : (condErr s p n sub named).mode = s.mode := by rw [condErr_frame]
@[simp] theorem condErr_pwr (p n sub : Nat) (named : List UnitId) : (condErr s p n sub named).pwr = s.pwr := by rw [condErr_frame]
@[simp] theorem condErr_clk (p n sub : Nat) (named : List UnitId) : (condErr s p n sub named).clk = s.clk := by rw [condErr_frame]
@[simp] theorem condErr_eic (p n sub : Nat) (named : List UnitId) : (condErr s p n sub named).eic = s.eic := by rw [condErr_frame]
@[simp] theorem condErr_whrl (p n sub : Nat) (named : List UnitId) : (condErr s p n sub named).whrl = s.whrl := by rw [condErr_frame]
@[simp] theorem condErr_prck (p n sub : Nat) (named : List UnitId) : (condErr s p n sub named).prck = s.prck := by rw [condErr_frame]
@[simp] theorem condErr_stc (p n sub : Nat) (named : List UnitId) : (condErr s p n sub named).stc = s.stc := by rw [condErr_frame]
@[simp] theorem condErr_pio (p n sub : Nat) (named : List UnitId) : (condErr s p n sub named).pio = s.pio := by rw [condErr_frame]
@[simp] theorem condErr_hif (p n sub : Nat) (named : List UnitId) : (condErr s p n sub named).hif = s.hif := by rw [condErr_frame]
@[simp] theorem condErr_dra (p n sub : Nat) (named : List UnitId) : (condErr s p n sub named).dra = s.dra := by rw [condErr_frame]
@[simp] theorem condErr_nvr (p n sub : Nat) (named : List UnitId) : (condErr s p n sub named).nvr = s.nvr := by rw [condErr_frame]
@[simp] theorem condErr_fuses (p n sub : Nat) (named : List UnitId) : (condErr s p n sub named).fuses = s.fuses := by rw [condErr_frame]
@[simp] theorem condErr_sec (p n sub : Nat) (named : List UnitId) : (condErr s p n sub named).sec = s.sec := by rw [condErr_frame]
@[simp] theorem condErr_dbg (p n sub : Nat) (named : List UnitId) : (condErr s p n sub named).dbg = s.dbg := by rw [condErr_frame]
@[simp] theorem condErr_ucs (p n sub : Nat) (named : List UnitId) : (condErr s p n sub named).ucs = s.ucs := by rw [condErr_frame]
@[simp] theorem condErr_spn (p n sub : Nat) (named : List UnitId) : (condErr s p n sub named).spn = s.spn := by rw [condErr_frame]
@[simp] theorem condErr_fport (p n sub : Nat) (named : List UnitId) : (condErr s p n sub named).fport = s.fport := by rw [condErr_frame]
@[simp] theorem condErr_mem (p n sub : Nat) (named : List UnitId) : (condErr s p n sub named).mem = s.mem := by rw [condErr_frame]
@[simp] theorem condErr_clb (p n sub : Nat) (named : List UnitId) : (condErr s p n sub named).clb = s.clb := by rw [condErr_frame]
@[simp] theorem condErr_cores (p n sub : Nat) (named : List UnitId) : (condErr s p n sub named).cores = s.cores := by rw [condErr_frame]
@[simp] theorem condErr_loopCells (p n sub : Nat) (named : List UnitId) : (condErr s p n sub named).loopCells = s.loopCells := by rw [condErr_frame]

/-! bumpWrap -/
@[simp] theorem bumpWrap_pending (p o n : Nat) : (bumpWrap s p o n).pending = s.pending := by unfold bumpWrap; dsimp only; split <;> rfl
@[simp] theorem bumpWrap_freeCtr (p o n : Nat) : (bumpWrap s p o n).freeCtr = s.freeCtr := by unfold bumpWrap; dsimp only; split <;> rfl
@[simp] theorem bumpWrap_lastAccess (p o n : Nat) : (bumpWrap s p o n).lastAccess = s.lastAccess := by unfold bumpWrap; dsimp only; split <;> rfl
@[simp] theorem bumpWrap_now (p o n : Nat) : (bumpWrap s p o n).now = s.now := by unfold bumpWrap; dsimp only; split <;> rfl
@[simp] theorem bumpWrap_glb (p o n : Nat) : (bumpWrap s p o n).glb = s.glb := by unfold bumpWrap; dsimp only; split <;> rfl
@[simp] theorem bumpWrap_mode (p o n : Nat) : (bumpWrap s p o n).mode = s.mode := by unfold bumpWrap; dsimp only; split <;> rfl
@[simp] theorem bumpWrap_pwr (p o n : Nat) : (bumpWrap s p o n).pwr = s.pwr := by unfold bumpWrap; dsimp only; split <;> rfl
@[simp] theorem bumpWrap_clk (p o n : Nat) : (bumpWrap s p o n).clk = s.clk := by unfold bumpWrap; dsimp only; split <;> rfl
@[simp] theorem bumpWrap_selv (p o n : Nat) : (bumpWrap s p o n).selv = s.selv := by unfold bumpWrap; dsimp only; split <;> rfl
@[simp] theorem bumpWrap_eic (p o n : Nat) : (bumpWrap s p o n).eic = s.eic := by unfold bumpWrap; dsimp only; split <;> rfl
@[simp] theorem bumpWrap_whrl (p o n : Nat) : (bumpWrap s p o n).whrl = s.whrl := by unfold bumpWrap; dsimp only; split <;> rfl
@[simp] theorem bumpWrap_prck (p o n : Nat) : (bumpWrap s p o n).prck = s.prck := by unfold bumpWrap; dsimp only; split <;> rfl
@[simp] theorem bumpWrap_stc (p o n : Nat) : (bumpWrap s p o n).stc = s.stc := by unfold bumpWrap; dsimp only; split <;> rfl
@[simp] theorem bumpWrap_pio (p o n : Nat) : (bumpWrap s p o n).pio = s.pio := by unfold bumpWrap; dsimp only; split <;> rfl
@[simp] theorem bumpWrap_hif (p o n : Nat) : (bumpWrap s p o n).hif = s.hif := by unfold bumpWrap; dsimp only; split <;> rfl
@[simp] theorem bumpWrap_dra (p o n : Nat) : (bumpWrap s p o n).dra = s.dra := by unfold bumpWrap; dsimp only; split <;> rfl
@[simp] theorem bumpWrap_nvr (p o n : Nat) : (bumpWrap s p o n).nvr = s.nvr := by unfold bumpWrap; dsimp only; split <;> rfl
@[simp] theorem bumpWrap_fuses (p o n : Nat) : (bumpWrap s p o n).fuses = s.fuses := by unfold bumpWrap; dsimp only; split <;> rfl
@[simp] theorem bumpWrap_sec (p o n : Nat) : (bumpWrap s p o n).sec = s.sec := by unfold bumpWrap; dsimp only; split <;> rfl
@[simp] theorem bumpWrap_dbg (p o n : Nat) : (bumpWrap s p o n).dbg = s.dbg := by unfold bumpWrap; dsimp only; split <;> rfl
@[simp] theorem bumpWrap_ucs (p o n : Nat) : (bumpWrap s p o n).ucs = s.ucs := by unfold bumpWrap; dsimp only; split <;> rfl
@[simp] theorem bumpWrap_spn (p o n : Nat) : (bumpWrap s p o n).spn = s.spn := by unfold bumpWrap; dsimp only; split <;> rfl
@[simp] theorem bumpWrap_fport (p o n : Nat) : (bumpWrap s p o n).fport = s.fport := by unfold bumpWrap; dsimp only; split <;> rfl
@[simp] theorem bumpWrap_mem (p o n : Nat) : (bumpWrap s p o n).mem = s.mem := by unfold bumpWrap; dsimp only; split <;> rfl
@[simp] theorem bumpWrap_clb (p o n : Nat) : (bumpWrap s p o n).clb = s.clb := by unfold bumpWrap; dsimp only; split <;> rfl
@[simp] theorem bumpWrap_cores (p o n : Nat) : (bumpWrap s p o n).cores = s.cores := by unfold bumpWrap; dsimp only; split <;> rfl
@[simp] theorem bumpWrap_loopCells (p o n : Nat) : (bumpWrap s p o n).loopCells = s.loopCells := by unfold bumpWrap; dsimp only; split <;> rfl

/-! submit -/
@[simp] theorem submit_pending (r : Soe) : (submit s r).pending = s.pending := by unfold submit; split <;> rfl
@[simp] theorem submit_freeCtr (r : Soe) : (submit s r).freeCtr = s.freeCtr := by unfold submit; split <;> rfl
@[simp] theorem submit_lastAccess (r : Soe) : (submit s r).lastAccess = s.lastAccess := by unfold submit; split <;> rfl
@[simp] theorem submit_now (r : Soe) : (submit s r).now = s.now := by unfold submit; split <;> rfl
@[simp] theorem submit_glb (r : Soe) : (submit s r).glb = s.glb := by unfold submit; split <;> rfl
@[simp] theorem submit_mode (r : Soe) : (submit s r).mode = s.mode := by unfold submit; split <;> rfl
@[simp] theorem submit_pwr (r : Soe) : (submit s r).pwr = s.pwr := by unfold submit; split <;> rfl
@[simp] theorem submit_clk (r : Soe) : (submit s r).clk = s.clk := by unfold submit; split <;> rfl
@[simp] theorem submit_selv (r : Soe) : (submit s r).selv = s.selv := by unfold submit; split <;> rfl
@[simp] theorem submit_eic (r : Soe) : (submit s r).eic = s.eic := by unfold submit; split <;> rfl
@[simp] theorem submit_whrl (r : Soe) : (submit s r).whrl = s.whrl := by unfold submit; split <;> rfl
@[simp] theorem submit_prck (r : Soe) : (submit s r).prck = s.prck := by unfold submit; split <;> rfl
@[simp] theorem submit_stc (r : Soe) : (submit s r).stc = s.stc := by unfold submit; split <;> rfl
@[simp] theorem submit_pio (r : Soe) : (submit s r).pio = s.pio := by unfold submit; split <;> rfl
@[simp] theorem submit_hif (r : Soe) : (submit s r).hif = s.hif := by unfold submit; split <;> rfl
@[simp] theorem submit_dra (r : Soe) : (submit s r).dra = s.dra := by unfold submit; split <;> rfl
@[simp] theorem submit_fuses (r : Soe) : (submit s r).fuses = s.fuses := by unfold submit; split <;> rfl
@[simp] theorem submit_sec (r : Soe) : (submit s r).sec = s.sec := by unfold submit; split <;> rfl
@[simp] theorem submit_dbg (r : Soe) : (submit s r).dbg = s.dbg := by unfold submit; split <;> rfl
@[simp] theorem submit_ucs (r : Soe) : (submit s r).ucs = s.ucs := by unfold submit; split <;> rfl
@[simp] theorem submit_spn (r : Soe) : (submit s r).spn = s.spn := by unfold submit; split <;> rfl
@[simp] theorem submit_fport (r : Soe) : (submit s r).fport = s.fport := by unfold submit; split <;> rfl
@[simp] theorem submit_mem (r : Soe) : (submit s r).mem = s.mem := by unfold submit; split <;> rfl
@[simp] theorem submit_clb (r : Soe) : (submit s r).clb = s.clb := by unfold submit; split <;> rfl
@[simp] theorem submit_cores (r : Soe) : (submit s r).cores = s.cores := by unfold submit; split <;> rfl
@[simp] theorem submit_loopCells (r : Soe) : (submit s r).loopCells = s.loopCells := by unfold submit; split <;> rfl

/-! soeAt -/
@[simp] theorem soeAt_pending (c k x n g : Nat) (v w : W32) : (soeAt s c k x n g v w).pending = s.pending := by simp [soeAt]
@[simp] theorem soeAt_freeCtr (c k x n g : Nat) (v w : W32) : (soeAt s c k x n g v w).freeCtr = s.freeCtr := by simp [soeAt]
@[simp] theorem soeAt_lastAccess (c k x n g : Nat) (v w : W32) : (soeAt s c k x n g v w).lastAccess = s.lastAccess := by simp [soeAt]
@[simp] theorem soeAt_now (c k x n g : Nat) (v w : W32) : (soeAt s c k x n g v w).now = s.now := by simp [soeAt]
@[simp] theorem soeAt_glb (c k x n g : Nat) (v w : W32) : (soeAt s c k x n g v w).glb = s.glb := by simp [soeAt]
@[simp] theorem soeAt_mode (c k x n g : Nat) (v w : W32) : (soeAt s c k x n g v w).mode = s.mode := by simp [soeAt]
@[simp] theorem soeAt_pwr (c k x n g : Nat) (v w : W32) : (soeAt s c k x n g v w).pwr = s.pwr := by simp [soeAt]
@[simp] theorem soeAt_clk (c k x n g : Nat) (v w : W32) : (soeAt s c k x n g v w).clk = s.clk := by simp [soeAt]
@[simp] theorem soeAt_selv (c k x n g : Nat) (v w : W32) : (soeAt s c k x n g v w).selv = s.selv := by simp [soeAt]
@[simp] theorem soeAt_eic (c k x n g : Nat) (v w : W32) : (soeAt s c k x n g v w).eic = s.eic := by simp [soeAt]
@[simp] theorem soeAt_whrl (c k x n g : Nat) (v w : W32) : (soeAt s c k x n g v w).whrl = s.whrl := by simp [soeAt]
@[simp] theorem soeAt_prck (c k x n g : Nat) (v w : W32) : (soeAt s c k x n g v w).prck = s.prck := by simp [soeAt]
@[simp] theorem soeAt_stc (c k x n g : Nat) (v w : W32) : (soeAt s c k x n g v w).stc = s.stc := by simp [soeAt]
@[simp] theorem soeAt_pio (c k x n g : Nat) (v w : W32) : (soeAt s c k x n g v w).pio = s.pio := by simp [soeAt]
@[simp] theorem soeAt_hif (c k x n g : Nat) (v w : W32) : (soeAt s c k x n g v w).hif = s.hif := by simp [soeAt]
@[simp] theorem soeAt_dra (c k x n g : Nat) (v w : W32) : (soeAt s c k x n g v w).dra = s.dra := by simp [soeAt]
@[simp] theorem soeAt_fuses (c k x n g : Nat) (v w : W32) : (soeAt s c k x n g v w).fuses = s.fuses := by simp [soeAt]
@[simp] theorem soeAt_sec (c k x n g : Nat) (v w : W32) : (soeAt s c k x n g v w).sec = s.sec := by simp [soeAt]
@[simp] theorem soeAt_dbg (c k x n g : Nat) (v w : W32) : (soeAt s c k x n g v w).dbg = s.dbg := by simp [soeAt]
@[simp] theorem soeAt_ucs (c k x n g : Nat) (v w : W32) : (soeAt s c k x n g v w).ucs = s.ucs := by simp [soeAt]
@[simp] theorem soeAt_spn (c k x n g : Nat) (v w : W32) : (soeAt s c k x n g v w).spn = s.spn := by simp [soeAt]
@[simp] theorem soeAt_fport (c k x n g : Nat) (v w : W32) : (soeAt s c k x n g v w).fport = s.fport := by simp [soeAt]
@[simp] theorem soeAt_mem (c k x n g : Nat) (v w : W32) : (soeAt s c k x n g v w).mem = s.mem := by simp [soeAt]
@[simp] theorem soeAt_clb (c k x n g : Nat) (v w : W32) : (soeAt s c k x n g v w).clb = s.clb := by simp [soeAt]
@[simp] theorem soeAt_cores (c k x n g : Nat) (v w : W32) : (soeAt s c k x n g v w).cores = s.cores := by simp [soeAt]
@[simp] theorem soeAt_loopCells (c k x n g : Nat) (v w : W32) : (soeAt s c k x n g v w).loopCells = s.loopCells := by simp [soeAt]

/-! soe -/
@[simp] theorem soe_pending (k x n g : Nat) (v w : W32) : (soe s k x n g v w).pending = s.pending := by simp [soe]
@[simp] theorem soe_freeCtr (k x n g : Nat) (v w : W32) : (soe s k x n g v w).freeCtr = s.freeCtr := by simp [soe]
@[simp] theorem soe_lastAccess (k x n g : Nat) (v w : W32) : (soe s k x n g v w).lastAccess = s.lastAccess := by simp [soe]
@[simp] theorem soe_now (k x n g : Nat) (v w : W32) : (soe s k x n g v w).now = s.now := by simp [soe]
@[simp] theorem soe_glb (k x n g : Nat) (v w : W32) : (soe s k x n g v w).glb = s.glb := by simp [soe]
@[simp] theorem soe_mode (k x n g : Nat) (v w : W32) : (soe s k x n g v w).mode = s.mode := by simp [soe]
@[simp] theorem soe_pwr (k x n g : Nat) (v w : W32) : (soe s k x n g v w).pwr = s.pwr := by simp [soe]
@[simp] theorem soe_clk (k x n g : Nat) (v w : W32) : (soe s k x n g v w).clk = s.clk := by simp [soe]
@[simp] theorem soe_selv (k x n g : Nat) (v w : W32) : (soe s k x n g v w).selv = s.selv := by simp [soe]
@[simp] theorem soe_eic (k x n g : Nat) (v w : W32) : (soe s k x n g v w).eic = s.eic := by simp [soe]
@[simp] theorem soe_whrl (k x n g : Nat) (v w : W32) : (soe s k x n g v w).whrl = s.whrl := by simp [soe]
@[simp] theorem soe_prck (k x n g : Nat) (v w : W32) : (soe s k x n g v w).prck = s.prck := by simp [soe]
@[simp] theorem soe_stc (k x n g : Nat) (v w : W32) : (soe s k x n g v w).stc = s.stc := by simp [soe]
@[simp] theorem soe_pio (k x n g : Nat) (v w : W32) : (soe s k x n g v w).pio = s.pio := by simp [soe]
@[simp] theorem soe_hif (k x n g : Nat) (v w : W32) : (soe s k x n g v w).hif = s.hif := by simp [soe]
@[simp] theorem soe_dra (k x n g : Nat) (v w : W32) : (soe s k x n g v w).dra = s.dra := by simp [soe]
@[simp] theorem soe_fuses (k x n g : Nat) (v w : W32) : (soe s k x n g v w).fuses = s.fuses := by simp [soe]
@[simp] theorem soe_sec (k x n g : Nat) (v w : W32) : (soe s k x n g v w).sec = s.sec := by simp [soe]
@[simp] theorem soe_dbg (k x n g : Nat) (v w : W32) : (soe s k x n g v w).dbg = s.dbg := by simp [soe]
@[simp] theorem soe_ucs (k x n g : Nat) (v w : W32) : (soe s k x n g v w).ucs = s.ucs := by simp [soe]
@[simp] theorem soe_spn (k x n g : Nat) (v w : W32) : (soe s k x n g v w).spn = s.spn := by simp [soe]
@[simp] theorem soe_fport (k x n g : Nat) (v w : W32) : (soe s k x n g v w).fport = s.fport := by simp [soe]
@[simp] theorem soe_mem (k x n g : Nat) (v w : W32) : (soe s k x n g v w).mem = s.mem := by simp [soe]
@[simp] theorem soe_clb (k x n g : Nat) (v w : W32) : (soe s k x n g v w).clb = s.clb := by simp [soe]
@[simp] theorem soe_cores (k x n g : Nat) (v w : W32) : (soe s k x n g v w).cores = s.cores := by simp [soe]
@[simp] theorem soe_loopCells (k x n g : Nat) (v w : W32) : (soe s k x n g v w).loopCells = s.loopCells := by simp [soe]

/-! warnEvent -/
@[simp] theorem warnEvent_pending (p : Nat) : (warnEvent s p).pending = s.pending := by rw [warnEvent_frame]
@[simp] theorem warnEvent_freeCtr (p : Nat) : (warnEvent s p).freeCtr = s.freeCtr := by rw [warnEvent_frame]
@[simp] theorem warnEvent_lastAccess (p : Nat) : (warnEvent s p).lastAccess = s.lastAccess := by rw [warnEvent_frame]
@[simp] theorem warnEvent_now (p : Nat) : (warnEvent s p).now = s.now := by rw [warnEvent_frame]
@[simp] theorem warnEvent_glb (p : Nat) : (warnEvent s p).glb = s.glb := by rw [warnEvent_frame]
@[simp] theorem warnEvent_mode (p : Nat) : (warnEvent s p).mode = s.mode := by rw [warnEvent_frame]
@[simp] theorem warnEvent_pwr (p : Nat) : (warnEvent s p).pwr = s.pwr := by rw [warnEvent_frame]
@[simp] theorem warnEvent_clk (p : Nat) : (warnEvent s p).clk = s.clk := by rw [warnEvent_frame]
@[simp] theorem warnEvent_selv (p : Nat) : (warnEvent s p).selv = s.selv := by rw [warnEvent_frame]
@[simp] theorem warnEvent_eic (p : Nat) : (warnEvent s p).eic = s.eic := by rw [warnEvent_frame]
@[simp] theorem warnEvent_whrl (p : Nat) : (warnEvent s p).whrl = s.whrl := by rw [warnEvent_frame]
@[simp] theorem warnEvent_prck (p : Nat) : (warnEvent s p).prck = s.prck := by rw [warnEvent_frame]
@[simp] theorem warnEvent_stc (p : Nat) : (warnEvent s p).stc = s.stc := by rw [warnEvent_frame]
@[simp] theorem warnEvent_pio (p : Nat) : (warnEvent s p).pio = s.pio := by rw [warnEvent_frame]
@[simp] theorem warnEvent_hif (p : Nat) : (warnEvent s p).hif = s.hif := by rw [warnEvent_frame]
@[simp] theorem warnEvent_dra (p : Nat) : (warnEvent s p).dra = s.dra := by rw [warnEvent_frame]
@[simp] theorem warnEvent_fuses (p : Nat) : (warnEvent s p).fuses = s.fuses := by rw [warnEvent_frame]
@[simp] theorem warnEvent_sec (p : Nat) : (warnEvent s p).sec = s.sec := by rw [warnEvent_frame]
@[simp] theorem warnEvent_dbg (p : Nat) : (warnEvent s p).dbg = s.dbg := by rw [warnEvent_frame]
@[simp] theorem warnEvent_ucs (p : Nat) : (warnEvent s p).ucs = s.ucs := by rw [warnEvent_frame]
@[simp] theorem warnEvent_spn (p : Nat) : (warnEvent s p).spn = s.spn := by rw [warnEvent_frame]
@[simp] theorem warnEvent_fport (p : Nat) : (warnEvent s p).fport = s.fport := by rw [warnEvent_frame]
@[simp] theorem warnEvent_mem (p : Nat) : (warnEvent s p).mem = s.mem := by rw [warnEvent_frame]
@[simp] theorem warnEvent_clb (p : Nat) : (warnEvent s p).clb = s.clb := by rw [warnEvent_frame]
@[simp] theorem warnEvent_cores (p : Nat) : (warnEvent s p).cores = s.cores := by rw [warnEvent_frame]
@[simp] theorem warnEvent_loopCells (p : Nat) : (warnEvent s p).loopCells = s.loopCells := by rw [warnEvent_frame]

end Sys2Proof.Machine
end

