-- ==== Sys2Proof/Laws/Memory.lean ====
section
/-!
SUPPORT. Every memory operation keeps the canonical form of its store, and the memory of reset has it.
-/

namespace Sys2Proof.Machine
variable {s : State}

theorem memory_wf_iff : Memory.wf s = true ↔
    SMap.wf (fun _ => voidWord) s.mem.bank = true ∧ SMap.wf (fun _ => (0 : W32)) s.mem.code = true ∧
    SMap.wf (fun _ => (0 : Byte)) s.mem.host = true ∧ SMap.wf (fun _ => voidWord) s.mem.gate = true ∧
    SMap.wf (fun _ => voidWord) s.mem.scratch = true ∧ SMap.wf (fun _ => (0 : Byte)) s.dra.mem = true ∧
    SMap.wf regReset s.regs = true := by
  simp [Memory.wf, and_assoc]

/-- Reset lists nothing. -/
theorem memory_reset : Memory.wf State.reset = true := rfl

theorem memory_wr (p o : Nat) (v : W32) (h : Memory.wf s = true) : Memory.wf (wr s p o v) = true := by
  rw [memory_wf_iff] at *
  exact ⟨h.1, h.2.1, h.2.2.1, h.2.2.2.1, h.2.2.2.2.1, h.2.2.2.2.2.1, SMap.wf_set regReset _ _ _ h.2.2.2.2.2.2⟩

theorem memory_bankSet (a : Nat) (w : TWord) (h : Memory.wf s = true) : Memory.wf (bankSet s a w) = true := by
  rw [memory_wf_iff] at *
  exact ⟨SMap.wf_set (fun _ => voidWord) _ _ _ h.1, h.2⟩

theorem memory_bankSetList (a : Nat) (l : List TWord) (h : Memory.wf s = true) : Memory.wf (bankSetList s a l) = true := by
  induction l generalizing s a with
  | nil => exact h
  | cons w t ih => exact ih (a + 1) (memory_bankSet a w h)

theorem memory_bankFill (a n : Nat) (h : Memory.wf s = true) : Memory.wf (bankFill s a n) = true := by
  rw [memory_wf_iff] at *
  exact ⟨SMap.wf_filter (fun _ => voidWord) _ _ h.1, h.2⟩

theorem memory_hostSet (a : Nat) (b : Byte) (h : Memory.wf s = true) : Memory.wf (hostSet s a b) = true := by
  rw [memory_wf_iff] at *
  exact ⟨h.1, h.2.1, SMap.wf_set (fun _ => (0 : Byte)) _ _ _ h.2.2.1, h.2.2.2⟩

theorem memory_dramSet (a : Nat) (b : Byte) (h : Memory.wf s = true) : Memory.wf (dramSet s a b) = true := by
  rw [memory_wf_iff] at *
  exact ⟨h.1, h.2.1, h.2.2.1, h.2.2.2.1, h.2.2.2.2.1, SMap.wf_set (fun _ => (0 : Byte)) _ _ _ h.2.2.2.2.2.1, h.2.2.2.2.2.2⟩

theorem memory_physSet (a : Nat) (b : Byte) (h : Memory.wf s = true) : Memory.wf (physSet s a b) = true := by
  unfold physSet
  split
  · exact memory_dramSet _ _ h
  · exact memory_hostSet _ _ h

theorem memory_hostSetList (a : Nat) (l : List Byte) (h : Memory.wf s = true) : Memory.wf (hostSetList s a l) = true := by
  induction l generalizing s a with
  | nil => exact h
  | cons w t ih => exact ih (a + 1) (memory_hostSet a w h)

theorem memory_dramSetList (a : Nat) (l : List Byte) (h : Memory.wf s = true) : Memory.wf (dramSetList s a l) = true := by
  induction l generalizing s a with
  | nil => exact h
  | cons w t ih => exact ih (a + 1) (memory_dramSet a w h)

theorem memory_draPut (a : Nat) (l : List Byte) (h : Memory.wf s = true) : Memory.wf (draPut s a l) = true := by
  have g := memory_dramSetList a l h
  unfold draPut
  generalize dramSetList s a l = u at *
  rw [memory_wf_iff] at *
  exact g

theorem memory_draWrite (a : Nat) (l : List Byte) (h : Memory.wf s = true) : Memory.wf (draWrite s a l) = true := by
  unfold draWrite
  split
  · exact memory_draPut a l h
  · rw [memory_wf_iff] at *
    exact h

theorem memory_physSetList (a : Nat) (l : List Byte) (h : Memory.wf s = true) : Memory.wf (physSetList s a l) = true := by
  induction l generalizing s a with
  | nil => exact h
  | cons w t ih => exact ih (a + 1) (memory_physSet a w h)

theorem memory_codeSet (p a : Nat) (w : W32) (h : Memory.wf s = true) : Memory.wf (codeSet s p a w) = true := by
  rw [memory_wf_iff] at *
  exact ⟨h.1, SMap.wf_set (fun _ => (0 : W32)) _ _ _ h.2.1, h.2.2⟩

theorem memory_codeBroadcast (a : Nat) (w : W32) (h : Memory.wf s = true) : Memory.wf (codeBroadcast s a w) = true := by
  have : ∀ (l : List Nat) (u : State), Memory.wf u = true → Memory.wf (l.foldl (fun t p => codeSet t p a w) u) = true := by
    intro l
    induction l with
    | nil => intro u g; exact g
    | cons p t ih => intro u g; exact ih _ (memory_codeSet p a w g)
  have g := this ((List.range 16).filter fun p => decide (domSt s (384 + p) ≠ .off)) s h
  unfold codeBroadcast
  generalize ((List.range 16).filter fun p => decide (domSt s (384 + p) ≠ .off)).foldl (fun t p => codeSet t p a w) s = u at *
  rw [memory_wf_iff] at *
  exact g

theorem memory_dropPages (d : Nat) (h : Memory.wf s = true) : Memory.wf (dropPages s d) = true := by
  rw [memory_wf_iff] at *
  exact ⟨h.1, h.2.1, h.2.2.1, h.2.2.2.1, h.2.2.2.2.1, h.2.2.2.2.2.1, SMap.wf_filter regReset _ _ h.2.2.2.2.2.2⟩

end Sys2Proof.Machine
end

