-- ==== Sys2Proof/Laws/Quiet.lean ====
section
/-!
SUPPORT. A word of a quiet bobbin: nothing but the word's own effect happens. Statements about single commands cite these
lemmas and never unfold `runWord`.
-/

namespace Sys2Proof.Machine

theorem bpTake_quiet (s : State) (c kind a : Nat) (h : dbgLevel s < 2) : bpTake s c kind a = (false, s) := by
  unfold bpTake bpHits
  rw [if_pos h]

theorem pmcCount_quiet (s : State) (c e n : Nat) (h : dbgLevel s = 0) : pmcCount s c e n = s := by
  unfold pmcCount
  rw [if_pos h]

theorem stepDone_quiet (s : State) (c : Nat) (h : (core s c).haltReq = .none) : stepDone s c = s := by
  unfold stepDone
  rw [h]

theorem passSlot_quiet (k : Core) (h : k.flight = []) : passSlot k = { k with flight := [], stale := k.staleNew, staleNew := [] } := by
  simp [passSlot, h]

/-- A core at its next word, before the word's fetch. -/
def slotPassed (k : Core) : Core :=
  { k with flight := [], bubbles := 0, stale := k.staleNew, staleNew := [], condNow := snapOf k }

theorem enterSlot_quiet (c : Nat) (k : Core) (hc : c ≠ 256) (h : k.flight = []) (g : k.bubbles = 0) :
    enterSlot c k = (slotPassed k, k.condNow) := by
  unfold enterSlot
  rw [if_neg hc]
  simp only [g, passBubbles]
  rw [passSlot_quiet _ (by exact h)]
  rfl

@[simp] theorem dbgLevel_setCore (s : State) (c : Nat) (k : Core) : dbgLevel (setCore s c k) = dbgLevel s := rfl
@[simp] theorem dbgLevel_wr (s : State) (p o : Nat) (v : W32) : dbgLevel (wr s p o v) = dbgLevel s := rfl

theorem inner_mem (k : Core) (l : Loop) (h : k.inner = some l) : l ∈ k.loops := List.mem_of_find?_eq_some h

theorem fetchBob_quiet (s : State) (c : Nat) (k : Core) (e : Env) (h : e.fetch = .clean)
    (hl : Inside k.pc k.loops ∧ k.lbActive = false) (hi : icHolds k (k.pc / 8) = true) (hb : rdB s (pgBOB c) 0x080 0 = true)
    (hp : k.pc / 1024 ∉ s.mem.loading) : fetchBob s c k e = (none, 0, modCore s c fun x => icTouch x (k.pc / 8)) := by
  cases hk : k.inner with
  | none => simp [fetchBob, fetchCache, fromBuffer, hl.2, h, hi, hb, hp, hk]
  | some l =>
    have hn : l.start ≠ k.pc := (hl.1 l (inner_mem k l hk)).2.1
    simp [fetchBob, fetchCache, fromBuffer, hl.2, h, hi, hb, hp, hk, hn]

theorem here_pstate (k : Core) : (here k).pstate = k.pstate := rfl

theorem runs_ne_off (s : State) (c : Nat) (hc : c < 256) (h : runs s c = true) : (core s c).pstate ≠ .off := by
  intro g
  have : c ≠ 256 := by omega
  simp [runs, g, this] at h

/-- A word of a quiet bobbin reads its core one slot on and is settled, with nothing before it. -/
theorem runWord_quiet (s : State) (c : Nat) (e : Env) (body : State → Core → CondSnap → Res) {dl : Option Delay} (q : Still s c dl) (h : Calm e) :
    runWord s c e body =
      settle (setCore s c (at_ s c)) c e (at_ s c) 0 (body (setCore s c (at_ s c)) (at_ s c) (core s c).condNow) := by
  obtain ⟨hc, hr, hd, hh, hdl, hlo, hbu, hfl, hic, hen, hpg, hpc⟩ := q
  obtain ⟨hf, hs⟩ := h
  have hc' : c ≠ 256 := by omega
  have hsp : (c = spindle) = False := by simp [hc']
  have ht : modCore (setCore s c (slotPassed (core s c))) c (fun x => icTouch x ((core s c).pc / 8)) = setCore s c (at_ s c) := by
    unfold modCore
    rw [core_setCore_same, setCore_setCore s c (slotPassed (core s c)) _ (show (core s c).pstate ≠ .off from runs_ne_off s c hc hr)]
    rfl
  unfold runWord
  simp only [hr, Bool.not_true, Bool.false_eq_true, if_false, bpTake_quiet s c 1 _ (by omega : dbgLevel s < 2), ite_self, hsp,
    enterSlot_quiet c _ hc' hfl hbu.1, hbu.1]
  rw [fetchBob_quiet (setCore s c (slotPassed (core s c))) c (slotPassed (core s c)) e hf hlo hic hen hpg]
  simp only [show (slotPassed (core s c)).pc = (core s c).pc from rfl, ht]
  simp [hs]

theorem follow_inside (pc : Nat) (ls : List Loop) (h : Inside pc ls) : follow 1 pc ls = (pc + 1, ls, .none) := by
  cases ls with
  | nil => rfl
  | cons l t =>
    obtain ⟨h1, _, h3⟩ := h l (by simp)
    simp [follow, h1, Ne.symm h3]

theorem arrive_inside (n pc : Nat) (ls : List Loop) (h : ∀ l ∈ ls, l.entered = true) : arrive n pc ls = (pc, ls) := by
  have hf : (ls.find? fun l => (!l.entered && decide (pc = l.start)) && decide (l.left = 0)) = none := by
    rw [List.find?_eq_none]
    intro l hl
    simp [h l hl]
  have h1 : (ls.filter fun l => !l.entered && decide (pc = l.start)) = [] := by
    rw [List.filter_eq_nil_iff]
    intro l hl
    simp [h l hl]
  have h2 : (ls.filter fun l => !(!l.entered && decide (pc = l.start))) = ls := by
    rw [List.filter_eq_self]
    intro l hl
    simp [h l hl]
  unfold arrive
  simp only [hf, h1, h2]
  cases n <;> rfl

/-- Without bubbles due later a word's flow is its own. -/
theorem flowOn_late (c : Nat) (k : Core) (f : Flow) (hc : c ≠ 256) (h : k.late = []) (h1 : f ≠ .stay) (h2 : f ≠ .placed) (h3 : f ≠ .locks)
    (h4 : ∀ n b, f ≠ .later n b) : flowOn c k f = ({ (flowTo c k f).1 with late := [] }, (flowTo c k f).2) := by
  cases f <;> simp_all [flowOn, dueBubbles]

theorem flowOn_seq (c : Nat) (k : Core) (hc : c < 256) (hd : k.delay = none ∧ k.late = []) (hl : Inside k.pc k.loops) (hp : k.pc < 65535) :
    flowOn c k (.seq 0) = ({ k with pc := k.pc + 1, delay := none, bubbles := 0, late := [] }, none) := by
  have : c ≠ 256 := by omega
  have hw : (k.pc + 1) % 65536 = k.pc + 1 := by omega
  rw [flowOn_late c k _ this hd.2 (by simp) (by simp) (by simp) (by simp)]
  simp [flowTo, hd.1, stepSeq, pcStep, this, follow_inside _ _ hl, goto, arrive_inside _ _ _ fun l h => (hl l h).1, pcWrap, hw]

@[simp] theorem core_raiseIrq (s : State) (p n c : Nat) : core (raiseIrq s p n) c = core s c := rfl
@[simp] theorem dbgLevel_raiseIrq (s : State) (p n : Nat) : dbgLevel (raiseIrq s p n) = dbgLevel s := rfl

@[simp] theorem core_addWrap (s : State) (p o i n c : Nat) : core (addWrap s p o i n) c = core s c := by
  unfold addWrap
  extract_lets v s1
  split <;> simp [s1]
@[simp] theorem dbgLevel_addWrap (s : State) (p o i n : Nat) : dbgLevel (addWrap s p o i n) = dbgLevel s := by
  unfold addWrap
  extract_lets v s1
  split <;> simp [s1]
@[simp] theorem core_add64 (s : State) (p o q i n c : Nat) : core (add64 s p o q i n) c = core s c := by
  unfold add64
  extract_lets v s1
  split <;> simp [s1]
@[simp] theorem dbgLevel_add64 (s : State) (p o q i n : Nat) : dbgLevel (add64 s p o q i n) = dbgLevel s := by
  unfold add64
  extract_lets v s1
  split <;> simp [s1]

/-- Cycles of a bobbin without a debugger: its counter, and its strand's budget. -/
theorem spend_quiet (s : State) (c n : Nat) (hc : c ≠ 256) (h : dbgLevel s = 0) :
    spend s c n = (if (core s c).strand.isSome then
      modCore (add64 s (pgBOB c) 0x090 0x094 0 n) c fun k =>
        { k with budgetLeft := k.budgetLeft - n, budgetPend := k.budgetPend || decide (0 < k.budgetLeft ∧ k.budgetLeft ≤ n) }
      else add64 s (pgBOB c) 0x090 0x094 0 n) := by
  unfold spend
  simp only [pmcCount_quiet s c 1 n h]
  rw [if_neg hc, pmcCount_quiet]
  · simp
  · simpa using h

/-- Spending changes a core's budget only. -/
theorem spend_haltReq (s : State) (c n : Nat) (hc : c ≠ 256) (h : dbgLevel s = 0) :
    (core (spend s c n) c).haltReq = (core s c).haltReq := by
  rw [spend_quiet s c n hc h]
  split <;> simp

/-- What a word of a quiet bobbin leaves when it commits with a sequential flow, no access and nothing after it. -/
theorem commit_quiet (s : State) (c : Nat) (e : Env) (k : Core) (d : Done) (hc : c < 256) (hd : dbgLevel s = 0)
    (hh : d.k.haltReq = .none) (hk : d.k.delay = none ∧ d.k.late = []) (hl : Inside d.k.pc d.k.loops) (hpc : d.k.pc = k.pc) (hp : k.pc < 65535)
    (h1 : d.flow = .seq 0) (h2 : d.acc = []) (h3 : d.store = none) (h4 : d.host = []) (h5 : d.wait = 0)
    (h6 : d.annulled = false) (h7 : d.after = fun s => s) (hs : k.pstate ≠ .off) :
    commit (setCore s c k) c e k d 0 = wordEnd s c (onward d.k) d.cycles := by
  have hc' : c ≠ 256 := by omega
  unfold commit
  simp only [h1, flowOn_seq c d.k hc hk hl (by omega), h2, h3, h4, h5, h7, commitStore, stalls, List.foldl, dataBreaks, bpAddrs,
    hc', if_false, setCore_setCore s c k _ hs]
  simp only [reduceCtorEq, decide_false, Bool.false_eq_true, if_false, List.append_nil, List.foldl_nil, Nat.add_zero]
  have : dbgLevel (setCore s c (onward d.k)) = 0 := hd
  have hon : ({ d.k with pc := d.k.pc + 1, delay := none, bubbles := 0, late := [], lastPc := k.pc, atHandler := false, bpPass := false } : Core)
      = onward d.k := by simp [onward, hpc]
  simp only [countWord, h1, reduceCtorEq, if_false, hc', h6, hon, pmcCount_quiet _ c _ _ this]
  rw [stepDone_quiet]
  · rfl
  · rw [spend_haltReq _ _ _ hc']
    · split <;> simp [onward, hh]
    · split <;> simpa using hd

/-- The same with any flow that moves the core to `k'` and completes no GATE. -/
theorem commit_flow (s : State) (c : Nat) (e : Env) (k k' : Core) (d : Done) (hc : c < 256) (hd : dbgLevel s = 0)
    (hh : d.k.haltReq = .none) (hf : flowOn c d.k d.flow = (k', none)) (hst : d.flow ≠ .stay) (hk : k'.haltReq = d.k.haltReq)
    (h2 : d.acc = []) (h3 : d.store = none) (h4 : d.host = []) (h5 : d.wait = 0)
    (h6 : d.annulled = false) (h7 : d.after = fun s => s) (hs : k.pstate ≠ .off) :
    commit (setCore s c k) c e k d 0 = wordEnd s c { k' with lastPc := k.pc, atHandler := false, bpPass := false } d.cycles := by
  have hc' : c ≠ 256 := by omega
  have ht : ∀ (u : State) (i j : Nat) (x : W32), dbgLevel u = 0 → traceRec u (some c) i j x = u := by
    intro u i j x hu
    simp [traceRec, hu]
  unfold commit
  simp only [hf, h2, h3, h4, h5, h7, commitStore, stalls, List.foldl, dataBreaks, bpAddrs, hst, decide_false,
    hc', if_false, setCore_setCore s c k _ hs]
  simp only [Bool.false_eq_true, if_false, List.append_nil, List.foldl_nil, Nat.add_zero]
  generalize hk2 : ({ k' with lastPc := k.pc, atHandler := false, bpPass := false } : Core) = k2
  have : dbgLevel (setCore s c k2) = 0 := hd
  have hk2' : k2.haltReq = .none := by rw [← hk2]; exact hk.trans hh
  simp only [countWord, hst, if_false, hc', h6, pmcCount_quiet _ c _ _ this]
  have hw : wordEnd s c k2 d.cycles = spend (if 1 < d.cycles then addWrap (setCore s c k2) (pgBOB c) 0x0A4 0 (d.cycles - 1) else setCore s c k2) c d.cycles := rfl
  rw [← hw]
  have hdl : dbgLevel (wordEnd s c k2 d.cycles) = 0 := by
    rw [hw, spend_quiet _ _ _ hc']
    · split <;> split <;> simpa [modCore] using hd
    · split <;> simpa using hd
  have hq : ∀ y, stepDone (traceRec (wordEnd s c k2 d.cycles) (some c) 1 k.pc y) c = wordEnd s c k2 d.cycles := by
    intro y
    rw [ht _ _ _ _ hdl, stepDone_quiet]
    rw [hw, spend_haltReq _ _ _ hc']
    · split <;> simp [hk2']
    · split <;> simpa using hd
  have hq' : stepDone (wordEnd s c k2 d.cycles) c = wordEnd s c k2 d.cycles := by
    have := hq 0
    rwa [ht _ _ _ _ hdl] at this
  split
  · exact hq _
  · exact hq'

theorem depthSpill_bob (s : State) (c : Nat) (k k' : Core) (e : Env) (h : c ≠ 256) : depthSpill s c k k' e = (.ok k', s) := by
  unfold depthSpill
  rw [if_pos h]

/-- A word of a bobbin that has passed its checks commits. -/
theorem settle_bob (s u : State) (c : Nat) (e : Env) (k : Core) (n : Nat) (d : Done) (h : c ≠ 256) (hf : d.flow ≠ .locks) :
    settle s c e k n (.ok d, u) = commit u c e k d n := by
  unfold settle
  simp only [if_neg hf, depthSpill_bob _ _ _ _ _ h]
  rw [if_neg (show ¬ c = spindle from h)]

/-- The word of a bobbin that settles without a fault or an access, whatever its flow. -/
theorem runWord_flow (s : State) (c : Nat) (e : Env) (body : State → Core → CondSnap → Res) {dl : Option Delay}
    (q : Still s c dl) (h : Calm e) (d : Done) (k' : Core)
    (hb : body (setCore s c (at_ s c)) (at_ s c) (core s c).condNow = (.ok d, setCore s c (at_ s c)))
    (hh : d.k.haltReq = .none) (hf : flowOn c d.k d.flow = (k', none)) (hst : d.flow ≠ .stay ∧ d.flow ≠ .locks)
    (hk : k'.haltReq = d.k.haltReq)
    (h2 : d.acc = []) (h3 : d.store = none) (h4 : d.host = []) (h5 : d.wait = 0)
    (h6 : d.annulled = false) (h7 : d.after = fun s => s) :
    runWord s c e body = wordEnd s c { k' with lastPc := (core s c).pc, atHandler := false, bpPass := false } d.cycles := by
  have hc := q.1
  rw [runWord_quiet s c e body q h, hb]
  rw [settle_bob _ _ _ _ _ _ _ (show c ≠ 256 by omega) hst.2]
  exact commit_flow s c e (at_ s c) k' d hc q.2.2.1 hh hf hst.1 hk h2 h3 h4 h5 h6 h7 (runs_ne_off s c hc q.2.1)

/-! ### Data-unit words -/

@[simp] theorem core_at (s : State) (c : Nat) : core (setCore s c (at_ s c)) c = at_ s c := by simp

theorem dsCap_bob (s : State) (c : Nat) (h : c < 256) : dsCap s c = 16 := by
  unfold dsCap
  rw [if_neg (show ¬ c = 256 by omega)]
theorem rsCap_bob (s : State) (c : Nat) (h : c < 256) : rsCap s c = 16 := by
  unfold rsCap
  rw [if_neg (show ¬ c = 256 by omega)]

theorem setDs_fields (k : Core) (x : Stk) : (k.setDs x).haltReq = k.haltReq ∧ (k.setDs x).delay = k.delay ∧
    (k.setDs x).loops = k.loops ∧ (k.setDs x).pc = k.pc ∧ (k.setDs x).rs = k.rs ∧ (k.setDs x).areg = k.areg := by
  unfold Core.setDs
  split <;> simp_all [Core.rs]

theorem applyA_fields (c : Nat) (k : Core) (o : AOut) : (applyA c k o).haltReq = k.haltReq ∧ (applyA c k o).delay = k.delay ∧
    (applyA c k o).loops = k.loops ∧ (applyA c k o).pc = k.pc ∧ (applyA c k o).rs = k.rs ∧ (applyA c k o).areg = k.areg := by
  have hd (x : Stk) := setDs_fields k x
  cases hf : o.flags <;> by_cases hl : c ≠ spindle ∧ 1 < o.lat <;> simp [applyA, hf, hl, hd] <;>
    exact (hd _).2.2.2.2.1

theorem applyA_late (c : Nat) (k : Core) (o : AOut) : (applyA c k o).late = k.late := by
  have hd (x : Stk) : (k.setDs x).late = k.late := by unfold Core.setDs; split <;> rfl
  cases hf : o.flags <;> by_cases hl : c ≠ spindle ∧ 1 < o.lat <;> simp [applyA, hf, hl, hd]

theorem applyB_same (k : Core) (x : BOut) (h1 : x.rs = k.rs) (h2 : x.areg = k.areg) (h3 : x.loops = k.loops) :
    applyB k x = k := by
  cases k
  simp only [Core.rs] at h1
  simp only at h2 h3
  simp only [applyB, Core.setRs, h1, h2, h3]
  split <;> rfl

/-- The word of a quiet bobbin that settles without a fault, an access or a change of flow. -/
theorem runWord_done (s : State) (c : Nat) (e : Env) (body : State → Core → CondSnap → Res) (q : Quiet s c) (h : Calm e) (d : Done)
    (hb : body (setCore s c (at_ s c)) (at_ s c) (core s c).condNow = (.ok d, setCore s c (at_ s c)))
    (hh : d.k.haltReq = .none) (hk : d.k.delay = none ∧ d.k.late = []) (hl : Inside d.k.pc d.k.loops) (hpc : d.k.pc = (core s c).pc)
    (h1 : d.flow = .seq 0) (h2 : d.acc = []) (h3 : d.store = none) (h4 : d.host = []) (h5 : d.wait = 0)
    (h6 : d.annulled = false) (h7 : d.after = fun s => s) : runWord s c e body = wordEnd s c (onward d.k) d.cycles := by
  have hc := q.1
  rw [runWord_quiet s c e body q h, hb]
  rw [settle_bob _ _ _ _ _ _ _ (show c ≠ 256 by omega) (by simp [h1])]
  exact commit_quiet s c e (at_ s c) d hc q.2.2.1 hh hk hl hpc q.2.2.2.2.2.2.2.2.2.2.2 h1 h2 h3 h4 h5 h6 h7
    (runs_ne_off s c hc q.2.1)

/-- A routine whose microcycles are not told apart runs to its END. -/
theorem sequencer_plain (s : State) (c : Nat) (atomic cond : Bool) (r : MicroRun) (h : r.fetches = []) :
    sequencer s c atomic cond r = (.ended, s) := by
  unfold sequencer
  rw [if_pos h]

theorem microcoded_plain (s : State) (c : Nat) (cond : Bool) (a : AOp) (r : MicroRun) (h : microcoded a = true → r.fetches = []) :
    (if microcoded a then sequencer s c true cond r else (.ended, s)) = (.ended, s) := by
  split
  · rename_i g; exact sequencer_plain s c true cond r (h g)
  · rfl

/-- A plain data-unit word of a quiet bobbin that reaches no memory has its operation's effect and no other. -/
theorem runA_quiet (s : State) (w : AWord) (a : AOp) (o : AOut) (q : Quiet s w.core) (p : Plain w)
    (hm : microcoded a = true → w.env.seq.fetches = [])
    (h : opA (setCore s w.core (at_ s w.core)) w.core (at_ s w.core) w.env a =
      (.ok { out := o }, setCore s w.core (at_ s w.core))) : runA a w s = afterOp s w.core o := by
  obtain ⟨p1, p2, p3, p4⟩ := p
  have hf := applyA_fields w.core (at_ s w.core) o
  have key : runWord s w.core w.env (fun u k _ => paired w.core w.cond w.ca w.cb a w.b w.env u k) = afterOp s w.core o := by
    rw [runWord_done s w.core w.env _ q p4
      { k := applyB (applyA w.core (at_ s w.core) o) ⟨(at_ s w.core).rs, (at_ s w.core).areg, (at_ s w.core).loops, 0, 0⟩
        cycles := o.cycles, ops := 2 }]
    · rw [applyB_same]
      · rfl
      · exact hf.2.2.2.2.1.symm
      · exact hf.2.2.2.2.2.symm
      · exact hf.2.2.1.symm
    · simp [paired, p1, p2, p3, microcoded_plain _ _ _ a _ hm, h, addrOp]
    · rw [show (applyB (applyA w.core (at_ s w.core) o) _).haltReq = (applyA w.core (at_ s w.core) o).haltReq from ?_, hf.1]
      · exact q.2.2.2.1
      · unfold applyB Core.setRs; split <;> rfl
    · rw [applyB_same _ _ hf.2.2.2.2.1.symm hf.2.2.2.2.2.symm hf.2.2.1.symm]
      exact ⟨hf.2.1.trans q.2.2.2.2.1, (applyA_late _ _ _).trans q.2.2.2.2.2.2.1.2⟩
    · rw [applyB_same _ _ hf.2.2.2.2.1.symm hf.2.2.2.2.2.symm hf.2.2.1.symm, hf.2.2.1, hf.2.2.2.1]
      exact q.2.2.2.2.2.1.1
    · rw [show (applyB (applyA w.core (at_ s w.core) o) _).pc = (applyA w.core (at_ s w.core) o).pc from ?_, hf.2.2.2.1]
      · rfl
      · unfold applyB Core.setRs; split <;> rfl
    all_goals rfl
  exact key

/-- An operation whose stack and operands allow it has its effect. -/
theorem operate_ok (k : Core) (n : Nat) (u : Use) (more : List Check) (o : AOut) (hf : Fits k n n o.push.length)
    (ht : Takes k n u) (hm : firstExc more = none) : operate 16 k n u more o = .ok { o with pop := n } := by
  unfold operate checked
  unfold Takes at ht
  have hd : depthCheck 0 k.ds.depth 16 n n o.push.length = none := by
    unfold depthCheck
    rw [if_neg (by have := hf.1; omega)]
    by_cases g : n < o.push.length
    · rw [if_neg (by have := hf.2 g; omega)]
    · rw [if_neg (by omega)]
  simp [ht, hd, firstExc, tagCheck, hm]

/-! ### Words with accesses -/

theorem OnPage.refl (s : State) (p : Nat) : OnPage s s p := ⟨rfl, fun _ _ _ _ => rfl⟩

theorem OnPage.trans {s t u : State} {p : Nat} (h : OnPage s t p) (g : OnPage t u p) : OnPage s u p := by
  refine ⟨?_, fun q o hq ho => (g.2 q o hq ho).trans (h.2 q o hq ho)⟩
  rw [g.1, h.1]

theorem onPage_wr (s : State) (p o : Nat) (v : W32) (ho : o < 0x1000) : OnPage s (wr s p o v) p := by
  refine ⟨rfl, fun q r hq hr => ?_⟩
  apply rd_wr_other
  intro h
  exact hq ((rkey_inj hr ho).1 h).1

theorem onPage_ite {s t u : State} {p : Nat} (c : Prop) [Decidable c] (h : OnPage s t p) (g : OnPage s u p) :
    OnPage s (if c then t else u) p := by
  split <;> assumption

theorem onPage_raiseIrq (s : State) (p n : Nat) : OnPage s (raiseIrq s p n) p := onPage_wr s p 0x024 _ (by omega)

theorem onPage_addWrap (s : State) (p o i n : Nat) (ho : o < 0x1000) : OnPage s (addWrap s p o i n) p :=
  onPage_ite _ ((onPage_wr s p o _ ho).trans (onPage_raiseIrq _ p i)) (onPage_wr s p o _ ho)

theorem onPage_add64 (s : State) (p o q i n : Nat) (ho : o < 0x1000) (hq : q < 0x1000) : OnPage s (add64 s p o q i n) p :=
  onPage_ite _ (((onPage_wr s p o _ ho).trans (onPage_wr _ p q _ hq)).trans (onPage_raiseIrq _ p i))
    ((onPage_wr s p o _ ho).trans (onPage_wr _ p q _ hq))

theorem onPage_maxField (s : State) (p o lo w v : Nat) (ho : o < 0x1000) : OnPage s (maxField s p o lo w v) p :=
  onPage_wr s p o _ ho

/-- Two states that differ in one page's registers still do when the same core is written into both. -/
theorem onPage_setCore {s t : State} {p : Nat} (h : OnPage s t p) (c : Nat) (k : Core) :
    OnPage (setCore s c k) (setCore t c k) p := by
  refine ⟨?_, fun q o hq ho => h.2 q o hq ho⟩
  conv_lhs => rw [h.1]
  rfl

theorem onPage_dbgLevel {s t : State} {p : Nat} (h : OnPage s t p) : dbgLevel t = dbgLevel s := by rw [h.1]; rfl
theorem onPage_core {s t : State} {p : Nat} (h : OnPage s t p) (c : Nat) : core t c = core s c := by rw [h.1]; rfl

/-- Without a debugger no snag acts. -/
theorem snagWait_quiet (s : State) (p : Nat) (kinds : List Nat) (wait limit : Nat) (h : dbgLevel s = 0) :
    snagWait s p kinds wait limit = (wait, false, s) := by
  simp [snagWait, snagFire, snagAllowed, h]

theorem bankStall_quiet (s : State) (c b : Nat) (e : Env) (hd : dbgLevel s = 0) (h1 : e.bankWait ≤ 17) (h2 : e.remoteWait ≤ 200) :
    ∃ t, bankStall s c b e = (waitOf c e b, t) ∧ OnPage s t (pgBOB c) := by
  unfold bankStall waitOf
  simp only [snagWait_quiet s _ _ _ _ hd]
  by_cases hp : b / 2 ^ 18 = pilOf c
  · have hl : ¬ (if decide (b / 2 ^ 15 % 8 = 5) = true then 204 else 17) < e.bankWait := by split <;> omega
    simp only [hp, if_true, hl, if_false, ne_eq, not_true_eq_false, and_false]
    refine ⟨_, rfl, ?_⟩
    have hq := onPage_addWrap s (pgBOB c) 0x098 0 e.bankWait (by omega)
    rw [pmcCount_quiet _ _ _ _ ((onPage_dbgLevel hq).trans hd)]
    exact hq.trans (onPage_maxField _ _ _ _ _ _ (by omega))
  · have hl : ¬ (if decide (b / 2 ^ 15 % 8 = 5) = true then 387 else 200) < e.remoteWait := by split <;> omega
    simp only [hp, if_false, hl, ne_eq, not_true_eq_false, and_false]
    refine ⟨_, rfl, ?_⟩
    exact (onPage_addWrap s (pgBOB c) 0x09C 0 e.remoteWait (by omega)).trans (onPage_maxField _ _ _ _ _ _ (by omega))

/-- Spending a bobbin's cycles charges its core and counts on its page. -/
theorem spend_leaves (s : State) (c n : Nat) (k : Core) (hc : c ≠ 256) (h : dbgLevel s = 0) (hk : k.pstate ≠ .off) :
    OnPage (setCore s c (charge k n)) (spend (setCore s c k) c n) (pgBOB c) := by
  rw [spend_quiet _ _ _ hc (by exact h)]
  simp only [core_setCore, if_true]
  have ha := onPage_add64 s (pgBOB c) 0x090 0x094 0 n (by omega) (by omega)
  by_cases hs : k.strand.isSome = true
  · simp only [hs, if_true, modCore, charge]
    have hcore : core (add64 (setCore s c k) (pgBOB c) 0x090 0x094 0 n) c = k := by simp
    rw [hcore]
    have hb := onPage_add64 (setCore s c k) (pgBOB c) 0x090 0x094 0 n (by omega) (by omega)
    have := onPage_setCore hb c { k with budgetLeft := k.budgetLeft - n, budgetPend := k.budgetPend || decide (0 < k.budgetLeft ∧ k.budgetLeft ≤ n) }
    rwa [setCore_setCore s c k _ hk] at this
  · simp only [hs, charge]
    exact onPage_add64 (setCore s c k) (pgBOB c) 0x090 0x094 0 n (by omega) (by omega)

/-- The state a sequential word leaves, in closed form up to its page's counters. -/
theorem wordEnd_leaves (s : State) (c n : Nat) (k : Core) (hc : c ≠ 256) (h : dbgLevel s = 0) (hk : k.pstate ≠ .off) :
    OnPage (setCore s c (charge k n)) (wordEnd s c k n) (pgBOB c) := by
  unfold wordEnd
  extract_lets u
  split
  · have ha := onPage_addWrap s (pgBOB c) 0x0A4 0 (n - 1) (by omega)
    have he : addWrap u (pgBOB c) 0x0A4 0 (n - 1) = setCore (addWrap s (pgBOB c) 0x0A4 0 (n - 1)) c k := by
      simp only [u, addWrap, rd_setCore]
      by_cases g : 2 ^ 32 ≤ (rd s (pgBOB c) 0x0A4).toNat + (n - 1) <;> simp only [g, if_true, if_false] <;> rfl
    rw [he]
    exact (onPage_setCore ha c _).trans (spend_leaves _ c n k hc (by simpa using h) hk)
  · exact spend_leaves s c n k hc h hk

/-- Two states that differ in one page's registers still do when the same bank word is written in both. -/
theorem onPage_bankSet {s t : State} {p : Nat} (h : OnPage s t p) (a : Nat) (w : TWord) :
    OnPage (bankSet s a w) (bankSet t a w) p := by
  refine ⟨?_, fun q o hq ho => h.2 q o hq ho⟩
  conv_lhs => rw [h.1]
  rfl

/-- What a load sees in a bank word rests on no core. -/
theorem bankSeen_setCore (s : State) (c : Nat) (k : Core) (a : Nat) : bankSeen (setCore s c k) a = bankSeen s a := by
  have h : (setCore s c k).mem = s.mem := rfl
  simp only [bankSeen, bankGet_setCore, h]

/-- What a word stores in a bank, and how its core notes it for the next word's loads. -/
def stored (s : State) (st : Option (Nat × TWord)) : State :=
  match st with
  | some (b, w) => bankSet s b w
  | none => s
def noted (s : State) (k : Core) (st : Option (Nat × TWord)) : Core :=
  match st with
  | some (b, _) => { k with staleNew := (b, bankSeen s b) :: k.staleNew }
  | none => k

/-- A store to plain bank memory that no copy is reading. -/
theorem writePlace_bank (s : State) (c : Nat) (k : Core) (b : Nat) (w : TWord) (he : eicWord b = none)
    (hm : ∀ m ∈ s.prck.migs, m.copying = false) : writePlace s c k (.bank b) w = bankSet s b w := by
  have : storeAborts (bankSet s b w) b = bankSet s b w := by
    unfold storeAborts
    extract_lets p hit
    have : hit = [] := by
      rw [show hit = List.filter _ _ from rfl, List.filter_eq_nil_iff]
      intro m h
      simp [hm m h]
    rw [this]
    rfl
  simp only [writePlace, he, this, ite_self]

/-- What a word of a quiet bobbin leaves when it commits in sequence with at most one bank access and one bank store. -/
theorem commit_leaves (s u : State) (c : Nat) (e : Env) (k : Core) (d : Done) (st : Option (Nat × TWord)) (wt : Nat)
    (hu : OnPage (setCore s c k) u (pgBOB c)) (hc : c < 256) (hd : dbgLevel s = 0)
    (hh : d.k.haltReq = .none) (hk : d.k.delay = none ∧ d.k.late = []) (hl : Inside d.k.pc d.k.loops) (hpc : d.k.pc = k.pc) (hp : k.pc < 65535)
    (h1 : d.flow = .seq 0) (h4 : d.host = []) (h6 : d.annulled = false) (h7 : d.after = fun s => s) (hs : k.pstate ≠ .off)
    (hs' : d.k.pstate ≠ .off)
    (h3 : d.store = st.map fun p => (.bank p.1, p.2))
    (hst : ∀ p, st = some p → eicWord p.1 = none ∧ ∀ m ∈ s.prck.migs, m.copying = false)
    (h2 : d.acc = [] ∧ wt = 0 ∨ ∃ x a b, d.acc = [(x, a)] ∧ placeOf c a = some (.bank b) ∧ e.bankWait ≤ 17 ∧ e.remoteWait ≤ 200 ∧
      wt = waitOf c e b) :
    Leaves (stored s st) (commit u c e k d 0) c (noted s d.k st) (d.cycles + d.wait + wt) := by
  have hc' : c ≠ 256 := by omega
  have hon : ({ d.k with pc := d.k.pc + 1, delay := none, bubbles := 0, late := [], lastPc := k.pc, atHandler := false, bpPass := false } : Core)
      = onward d.k := by simp [onward, hpc]
  have hdu : dbgLevel u = 0 := (onPage_dbgLevel hu).trans hd
  have hno : (onward (noted s d.k st)).pstate ≠ .off := by
    cases st <;> exact hs'
  -- the core and the store
  have base : ∃ v, commitStore (setCore u c (onward d.k)) c k d.store = v ∧
      OnPage (setCore (stored s st) c (onward (noted s d.k st))) v (pgBOB c) := by
    refine ⟨_, rfl, ?_⟩
    cases st with
    | none =>
      simp only [Option.map_none] at h3
      rw [h3]
      have := onPage_setCore hu c (onward d.k)
      rw [setCore_setCore s c k _ hs] at this
      exact this
    | some p =>
      obtain ⟨b, w⟩ := p
      simp only [Option.map_some] at h3
      obtain ⟨he, hm⟩ := hst _ rfl
      rw [h3]
      simp only [commitStore]
      rw [if_neg (show ¬ c = spindle from hc')]
      have hmu : ∀ m ∈ (modCore (setCore u c (onward d.k)) c fun x =>
          { x with staleNew := (b, bankSeen (setCore u c (onward d.k)) b) :: x.staleNew }).prck.migs, m.copying = false := by
        intro m h
        apply hm m
        rw [modCore_prck, setCore_prck, hu.1] at h
        exact h
      rw [writePlace_bank _ _ _ _ _ he hmu]
      have hbg : bankSeen (setCore u c (onward d.k)) b = bankSeen s b := by
        rw [bankSeen_setCore, hu.1]
        rfl
      simp only [hbg, modCore, core_setCore, if_true]
      rw [setCore_setCore u c (onward d.k) _ (show (onward d.k).pstate ≠ .off from hs')]
      have := onPage_setCore hu c (onward (noted s d.k (some (b, w))))
      rw [setCore_setCore s c k _ hs] at this
      exact onPage_bankSet this b w
  obtain ⟨v, hv, hvp⟩ := base
  have hdv : dbgLevel v = 0 := by
    rw [onPage_dbgLevel hvp]
    cases st <;> exact hd
  -- the waits
  have wait : ∃ v2, stalls v c e d.acc = (wt, v2) ∧ OnPage v v2 (pgBOB c) := by
    rcases h2 with ⟨ha, hw⟩ | ⟨x, a, b, ha, hpl, hb1, hb2, hw⟩
    · exact ⟨v, by simp [stalls, ha, hw], OnPage.refl _ _⟩
    · obtain ⟨v2, e1, e2⟩ := bankStall_quiet v c b e hdv hb1 hb2
      refine ⟨v2, ?_, e2⟩
      have : accessStall v c e a = bankStall v c b e := by
        unfold accessStall
        rw [if_neg (show ¬ c = spindle from hc'), hpl]
      simp [stalls, ha, this, e1, hw]
  obtain ⟨v2, hw2, hv2p⟩ := wait
  have hdv2 : dbgLevel v2 = 0 := (onPage_dbgLevel hv2p).trans hdv
  -- the count and the cycles
  have hcore : core v2 c = onward (noted s d.k st) := by
    rw [onPage_core hv2p, onPage_core hvp]
    simp
  generalize hlink : pcWrap c ((stepSeq c k).pc + pcStep c) = link
  have hcw : countWord v2 c d link e = if 1 < d.cycles then addWrap v2 (pgBOB c) 0x0A4 0 (d.cycles - 1) else v2 := by
    unfold countWord
    simp only [h1, reduceCtorEq, if_false, h6, Bool.false_eq_true, pmcCount_quiet _ _ _ _ hdv2]
    rw [if_neg (show ¬ c = spindle from hc')]
  have hcp : OnPage v2 (countWord v2 c d link e) (pgBOB c) := by
    rw [hcw]
    exact onPage_ite _ (onPage_addWrap _ _ _ _ _ (by omega)) (OnPage.refl _ _)
  have hcd : dbgLevel (countWord v2 c d link e) = 0 := (onPage_dbgLevel hcp).trans hdv2
  have hall : OnPage (setCore (stored s st) c (onward (noted s d.k st))) (countWord v2 c d link e) (pgBOB c) :=
    (hvp.trans hv2p).trans hcp
  have hself : setCore (countWord v2 c d link e) c (onward (noted s d.k st)) = countWord v2 c d link e := by
    have hx : countWord v2 c d link e =
        setCore { stored s st with regs := (countWord v2 c d link e).regs } c (onward (noted s d.k st)) := hall.1
    rw [hx, setCore_setCore _ c _ _ hno]
  have final : Leaves (stored s st) (spend (countWord v2 c d link e) c (d.cycles + d.wait + wt)) c (noted s d.k st) (d.cycles + d.wait + wt) := by
    unfold Leaves
    have h1' := onPage_setCore hall c (charge (onward (noted s d.k st)) (d.cycles + d.wait + wt))
    rw [setCore_setCore _ c _ _ hno] at h1'
    have h2' := spend_leaves (countWord v2 c d link e) c (d.cycles + d.wait + wt) (onward (noted s d.k st)) hc' hcd hno
    rw [hself] at h2'
    exact h1'.trans h2'
  unfold commit
  simp only [h1, flowOn_seq c d.k hc hk hl (by omega), hon, reduceCtorEq, decide_false, Bool.false_eq_true, if_false, h7, h4,
    List.append_nil, Nat.add_zero]
  rw [hv, hw2]
  simp only [hlink]
  have hbp (x : State) (hx : dbgLevel x = 0) : dataBreaks x c (bpAddrs x c d.acc) = x := by
    unfold dataBreaks bpAddrs
    rw [if_neg (show ¬ c = spindle from hc')]
    generalize d.acc = l
    induction l with
    | nil => rfl
    | cons a t ih =>
      rw [List.foldl_cons, bpTake_quiet x c _ _ (by omega)]
      exact ih
  rw [hbp _ ((onPage_dbgLevel final).trans (by cases st <;> exact hd)), stepDone_quiet]
  · exact final
  · rw [onPage_core final]
    simp only [core_setCore, if_true]
    unfold charge
    cases st <;> split <;> exact hh

/-- A word of a quiet bobbin that does not fault: its operations' effect, its access and its store, and no other. -/
theorem runWord_leaves (s u : State) (c : Nat) (e : Env) (body : State → Core → CondSnap → Res) (d : Done)
    (st : Option (Nat × TWord)) (wt : Nat) (q : Quiet s c) (h : Calm e)
    (hb : body (setCore s c (at_ s c)) (at_ s c) (core s c).condNow = (.ok d, u))
    (hu : OnPage (setCore s c (at_ s c)) u (pgBOB c))
    (hh : d.k.haltReq = .none) (hk : d.k.delay = none ∧ d.k.late = []) (hl : Inside d.k.pc d.k.loops) (hpc : d.k.pc = (core s c).pc)
    (h1 : d.flow = .seq 0) (h4 : d.host = []) (h6 : d.annulled = false) (h7 : d.after = fun s => s)
    (hs' : d.k.pstate ≠ .off)
    (h3 : d.store = st.map fun p => (.bank p.1, p.2))
    (hst : ∀ p, st = some p → eicWord p.1 = none ∧ ∀ m ∈ s.prck.migs, m.copying = false)
    (h2 : d.acc = [] ∧ wt = 0 ∨ ∃ x a b, d.acc = [(x, a)] ∧ placeOf c a = some (.bank b) ∧ e.bankWait ≤ 17 ∧ e.remoteWait ≤ 200 ∧
      wt = waitOf c e b) :
    Leaves (stored s st) (runWord s c e body) c (noted s d.k st) (d.cycles + d.wait + wt) := by
  have hc := q.1
  rw [runWord_quiet s c e body q h, hb]
  rw [settle_bob _ _ _ _ _ _ _ (show c ≠ 256 by omega) (by simp [h1])]
  exact commit_leaves s u c e (at_ s c) d st wt hu hc q.2.2.1 hh hk hl hpc q.2.2.2.2.2.2.2.2.2.2.2 h1 h4 h6 h7
    (runs_ne_off s c hc q.2.1) hs' h3 hst h2

/-- The same for a long-format word without a condition. -/
theorem runLong_leaves (s u : State) (w : LWord) (body : State → Core → Res) (d : Done)
    (st : Option (Nat × TWord)) (wt : Nat) (q : Quiet s w.core) (h : PlainL w)
    (hb : body (setCore s w.core (at_ s w.core)) (at_ s w.core) = (.ok d, u))
    (hu : OnPage (setCore s w.core (at_ s w.core)) u (pgBOB w.core))
    (hh : d.k.haltReq = .none) (hk : d.k.delay = none ∧ d.k.late = []) (hl : Inside d.k.pc d.k.loops) (hpc : d.k.pc = (core s w.core).pc)
    (h1 : d.flow = .seq 0) (h4 : d.host = []) (h6 : d.annulled = false) (h7 : d.after = fun s => s)
    (hs' : d.k.pstate ≠ .off)
    (h3 : d.store = st.map fun p => (.bank p.1, p.2))
    (hst : ∀ p, st = some p → eicWord p.1 = none ∧ ∀ m ∈ s.prck.migs, m.copying = false)
    (h2 : d.acc = [] ∧ wt = 0 ∨ ∃ x a b, d.acc = [(x, a)] ∧ placeOf w.core a = some (.bank b) ∧ w.env.bankWait ≤ 17 ∧
      w.env.remoteWait ≤ 200 ∧ wt = waitOf w.core w.env b) :
    Leaves (stored s st) (runLong w body s) w.core (noted s d.k st) (d.cycles + d.wait + wt) := by
  unfold runLong
  refine runWord_leaves s u w.core w.env _ d st wt q h.2 ?_ hu hh hk hl hpc h1 h4 h6 h7 hs' h3 hst h2
  simp only [h.1, conditioned, condCheck, condHolds]
  simp [failIf, hb]

/-- A long-format word without a condition that settles without a fault, an access or a change of flow. -/
theorem runLong_done (s : State) (w : LWord) (body : State → Core → Res) (q : Quiet s w.core) (h : PlainL w) (d : Done)
    (hb : body (setCore s w.core (at_ s w.core)) (at_ s w.core) = (.ok d, setCore s w.core (at_ s w.core)))
    (hh : d.k.haltReq = .none) (hk : d.k.delay = none ∧ d.k.late = []) (hl : Inside d.k.pc d.k.loops) (hpc : d.k.pc = (core s w.core).pc)
    (h1 : d.flow = .seq 0) (h2 : d.acc = []) (h3 : d.store = none) (h4 : d.host = []) (h5 : d.wait = 0)
    (h6 : d.annulled = false) (h7 : d.after = fun s => s) : runLong w body s = wordEnd s w.core (onward d.k) d.cycles := by
  unfold runLong
  refine runWord_done s w.core w.env _ q h.2 d ?_ hh hk hl hpc h1 h2 h3 h4 h5 h6 h7
  simp only [h.1, conditioned, condCheck, condHolds]
  simp [failIf, hb]

theorem applyA_pstate (c : Nat) (k : Core) (o : AOut) : (applyA c k o).pstate = k.pstate := by
  have hd (x : Stk) : (k.setDs x).pstate = k.pstate := by unfold Core.setDs; split <;> rfl
  cases hf : o.flags <;> by_cases hl : c ≠ spindle ∧ 1 < o.lat <;> simp [applyA, hf, hl, hd]

/-- A plain data-unit word with an access. -/
theorem runA_leaves (s : State) (w : AWord) (a : AOp) (x : AEff) (st : Option (Nat × TWord)) (wt : Nat) (q : Quiet s w.core)
    (p : Plain w) (hm : microcoded a = false)
    (h : opA (setCore s w.core (at_ s w.core)) w.core (at_ s w.core) w.env a = (.ok x, setCore s w.core (at_ s w.core)))
    (h3 : x.store = st.map fun p => (.bank p.1, p.2))
    (hst : ∀ p, st = some p → eicWord p.1 = none ∧ ∀ m ∈ s.prck.migs, m.copying = false)
    (h2 : x.acc = [] ∧ wt = 0 ∨ ∃ y a b, x.acc = [(y, a)] ∧ placeOf w.core a = some (.bank b) ∧ w.env.bankWait ≤ 17 ∧
      w.env.remoteWait ≤ 200 ∧ wt = waitOf w.core w.env b) :
    Leaves (stored s st) (runA a w s) w.core (noted s (applyA w.core (at_ s w.core) x.out) st) (x.out.cycles + wt) := by
  obtain ⟨p1, p2, p3, p4⟩ := p
  have hf := applyA_fields w.core (at_ s w.core) x.out
  have he : applyB (applyA w.core (at_ s w.core) x.out) ⟨(at_ s w.core).rs, (at_ s w.core).areg, (at_ s w.core).loops, 0, 0⟩ =
      applyA w.core (at_ s w.core) x.out :=
    applyB_same _ _ hf.2.2.2.2.1.symm hf.2.2.2.2.2.symm hf.2.2.1.symm
  have := runWord_leaves s (setCore s w.core (at_ s w.core)) w.core w.env
    (fun u k _ => paired w.core w.cond w.ca w.cb a w.b w.env u k)
    { k := applyA w.core (at_ s w.core) x.out, cycles := x.out.cycles, acc := x.acc, store := x.store, ops := 2 } st wt q p4
    (by simp [paired, p1, p2, p3, hm, h, addrOp, he]) (OnPage.refl _ _) (hf.1.trans q.2.2.2.1)
    ⟨hf.2.1.trans q.2.2.2.2.1, (applyA_late _ _ _).trans q.2.2.2.2.2.2.1.2⟩
    (by rw [hf.2.2.1, hf.2.2.2.1]; exact q.2.2.2.2.2.1.1) (hf.2.2.2.1.trans rfl) rfl rfl rfl rfl
    (by rw [applyA_pstate]; exact runs_ne_off s w.core q.1 q.2.1) h3 hst h2
  exact this

/-! ### Words with an effect on the rest of the block -/

/-- What a word of a bobbin leaves when it commits with a sequential flow and no access: its own core, the cycles, and then its
effect on the block. -/
theorem commit_then (u : State) (c : Nat) (e : Env) (k : Core) (d : Done) (hc : c < 256) (hd : dbgLevel u = 0)
    (hk : d.k.delay = none ∧ d.k.late = []) (hl : Inside d.k.pc d.k.loops) (hpc : d.k.pc = k.pc) (hp : k.pc < 65535)
    (h1 : d.flow = .seq 0) (h2 : d.acc = []) (h3 : d.store = none) (h4 : d.host = []) (h6 : d.annulled = false) :
    commit u c e k d 0 = wordThen u c (onward d.k) d.cycles d.wait d.after := by
  have hc' : c ≠ 256 := by omega
  unfold commit
  simp only [h1, flowOn_seq c d.k hc hk hl (by omega), h2, h3, h4, commitStore, stalls, List.foldl, dataBreaks, bpAddrs,
    hc', if_false]
  simp only [reduceCtorEq, decide_false, Bool.false_eq_true, if_false, List.append_nil, List.foldl_nil, Nat.add_zero]
  have : dbgLevel (setCore u c (onward d.k)) = 0 := hd
  have hon : ({ d.k with pc := d.k.pc + 1, delay := none, bubbles := 0, late := [], lastPc := k.pc, atHandler := false, bpPass := false } : Core)
      = onward d.k := by simp [onward, hpc]
  simp only [countWord, h1, reduceCtorEq, if_false, hc', h6, hon, pmcCount_quiet _ c _ _ this]
  rfl

/-- A long-format word of a quiet bobbin that settles without a fault or an access, with its effect on the block. -/
theorem runLong_then (s u : State) (w : LWord) (body : State → Core → Res) (q : Quiet s w.core) (h : PlainL w) (d : Done)
    (hb : body (setCore s w.core (at_ s w.core)) (at_ s w.core) = (.ok d, u)) (hd : dbgLevel u = 0)
    (hk : d.k.delay = none ∧ d.k.late = []) (hl : Inside d.k.pc d.k.loops) (hpc : d.k.pc = (core s w.core).pc)
    (h1 : d.flow = .seq 0) (h2 : d.acc = []) (h3 : d.store = none) (h4 : d.host = []) (h6 : d.annulled = false) :
    runLong w body s = wordThen u w.core (onward d.k) d.cycles d.wait d.after := by
  have hc := q.1
  have hx : conditioned w.cond false false (core s w.core).condNow (at_ s w.core) (setCore s w.core (at_ s w.core))
      (body (setCore s w.core (at_ s w.core)) (at_ s w.core)) = (.ok d, u) := by
    simp only [h.1, conditioned, condCheck, condHolds]
    simp [failIf, hb]
  unfold runLong
  rw [runWord_quiet s w.core w.env _ q h.2, hx]
  rw [settle_bob _ _ _ _ _ _ _ (show w.core ≠ 256 by omega) (by simp [h1])]
  exact commit_then u w.core w.env (at_ s w.core) d hc hd hk hl hpc q.2.2.2.2.2.2.2.2.2.2.2 h1 h2 h3 h4 h6

end Sys2Proof.Machine
end

