-- ==== Sys2Proof/Laws/Spindle.lean ====
section
/-!
SUPPORT. A word of the spindle in quiet surroundings: nothing but the word's own effect happens, and what the memory system
does on the way leaves the cores and the debug level alone.
-/

namespace Sys2Proof.Machine

/-- Cores and the debug level are as before. -/
def Keeps (s t : State) : Prop := t.fuses = s.fuses ∧ t.sec.grant = s.sec.grant ∧ t.cores = s.cores

theorem Keeps.refl (s : State) : Keeps s s := ⟨rfl, rfl, rfl⟩
theorem Keeps.trans {s t u : State} (h : Keeps s t) (g : Keeps t u) : Keeps s u :=
  ⟨g.1.trans h.1, g.2.1.trans h.2.1, g.2.2.trans h.2.2⟩
theorem Keeps.level {s t : State} (h : Keeps s t) : dbgLevel t = dbgLevel s := by unfold dbgLevel; rw [h.1, h.2.1]
theorem Keeps.core {s t : State} (h : Keeps s t) (c : Nat) : core t c = core s c := by
  unfold Sys2Proof.Machine.core; rw [h.2.2]
theorem keeps_foldl {α : Type} (f : State → α → State) (h : ∀ s a, Keeps s (f s a)) (l : List α) (s : State) :
    Keeps s (l.foldl f s) := by
  induction l generalizing s with
  | nil => exact .refl s
  | cons a t ih => exact (h s a).trans (ih _)

theorem keeps_raiseErr (s : State) (p n sub : Nat) (named : List UnitId) (i w : Bool) : Keeps s (raiseErr s p n sub named i w) := by
  rw [raiseErr_frame]; exact ⟨rfl, rfl, rfl⟩
theorem keeps_bumpWrap (s : State) (p o i : Nat) : Keeps s (bumpWrap s p o i) := by
  unfold bumpWrap; dsimp only; split <;> exact ⟨rfl, rfl, rfl⟩
theorem keeps_add64 (s : State) (p o q i n : Nat) : Keeps s (add64 s p o q i n) := by
  unfold add64; dsimp only; split <;> exact ⟨rfl, rfl, rfl⟩
theorem keeps_physSet (s : State) (a : Nat) (b : Byte) : Keeps s (physSet s a b) := by
  unfold physSet; split <;> exact ⟨rfl, rfl, rfl⟩
theorem keeps_physSetList (s : State) (a : Nat) (l : List Byte) : Keeps s (physSetList s a l) := by
  induction l generalizing s a with
  | nil => exact .refl s
  | cons b t ih => exact (keeps_physSet s a b).trans (ih _ _)
theorem keeps_cleanL1 (s : State) (l : Nat) : Keeps s (cleanL1 s l) := by
  unfold cleanL1; split
  · split <;> exact ⟨rfl, rfl, rfl⟩
  · exact .refl s
theorem keeps_l1Set (s : State) (l : Nat) (x : Option L1Line) : Keeps s (l1Set s l x) := ⟨rfl, rfl, rfl⟩
theorem keeps_l2Set (s : State) (l : Nat) (x : L2Line) : Keeps s (l2Set s l x) := ⟨rfl, rfl, rfl⟩
theorem keeps_dropL1 (s : State) (l : Nat) : Keeps s (dropL1 s l) := ⟨rfl, rfl, rfl⟩
theorem keeps_pickOne (s : State) (l : List Nat) : Keeps s (pickOne s l).2 := by
  unfold pickOne; split <;> exact ⟨rfl, rfl, rfl⟩
theorem keeps_l1Put (s : State) (l : Nat) (x : L1Line) : Keeps s (l1Put s l x) := by
  unfold l1Put
  dsimp only
  split
  · exact ⟨rfl, rfl, rfl⟩
  · have h := keeps_pickOne s ((s.spn.l1d.map (·.1)).filter fun m => decide (m % 64 = l % 64 ∧ m ≠ l))
    split
    · next v s1 e =>
      rw [e] at h
      exact h.trans ((keeps_cleanL1 s1 v).trans ⟨rfl, rfl, rfl⟩)
    · next s1 e => rw [e] at h; exact h
theorem keeps_curePoison (s : State) (l : Nat) : Keeps s (curePoison s l) := by
  unfold curePoison; repeat' split
  all_goals exact ⟨rfl, rfl, rfl⟩
theorem keeps_ite {s t u : State} (c : Prop) [Decidable c] (h : Keeps s t) (g : Keeps s u) : Keeps s (if c then t else u) := by
  split <;> assumption
theorem keeps_writeLine (s : State) (a : Nat) (b : List (Nat × Byte)) : Keeps s (writeLine s a b) := by
  unfold writeLine
  exact (keeps_ite _ (keeps_bumpWrap _ _ _ _) (.refl s)).trans ((keeps_l2Set _ _ _).trans (keeps_l1Put _ _ _))
theorem keeps_lineEcc (s : State) (e : Env) (a : Nat) : Keeps s (lineEcc s e a).2 := by
  unfold lineEcc
  split
  · split
    · exact .refl s
    · exact keeps_raiseErr _ _ _ _ _ _ _
  · exact keeps_raiseErr _ _ _ _ _ _ _
  · exact .refl s
  · exact keeps_raiseErr _ _ _ _ _ _ _
  · exact keeps_raiseErr _ _ _ _ _ _ _
  · exact .refl s
theorem keeps_request (s : State) (l : Nat) (o : Bool) : Keeps s (request s l o) := by
  unfold request; split <;> exact ⟨rfl, rfl, rfl⟩
theorem keeps_pushStore (s : State) (e : SbEnt) : Keeps s (pushStore s e) := by
  unfold pushStore; dsimp only
  split
  · split <;> exact ⟨rfl, rfl, rfl⟩
  · exact ⟨rfl, rfl, rfl⟩
theorem keeps_answerSnoop (s : State) (l : Nat) (k : Snoop) : Keeps s (answerSnoop s l k) := by
  unfold answerSnoop
  dsimp only
  split
  · exact ⟨rfl, rfl, rfl⟩
  · have h : Keeps s (if lineDirty s l = true then physSetList s (l * 64) (lineData s l) else s) := by
      split
      · exact keeps_physSetList _ _ _
      · exact .refl s
    refine h.trans ?_
    generalize (if lineDirty s l = true then physSetList s (l * 64) (lineData s l) else s) = u
    cases k
    · dsimp only
      split <;> split <;> exact ⟨rfl, rfl, rfl⟩
    · exact ⟨rfl, rfl, rfl⟩
theorem keeps_clearRsv (s : State) : Keeps s (clearRsv s) := by
  unfold clearRsv serveSnoops
  refine Keeps.trans (t := { s with spn := { s.spn with rsv := none, rsvHold := false } }) ⟨rfl, rfl, rfl⟩ ?_
  refine keeps_foldl _ (fun u e => ?_) _ _
  split
  · exact .refl u
  · exact Keeps.trans (t := { u with spn := { u.spn with snoops := u.spn.snoops.erase e } }) ⟨rfl, rfl, rfl⟩
      (keeps_answerSnoop _ _ _)
theorem keeps_wipe (s : State) (ok : Bool) : Keeps s (wipe s ok) := by
  unfold wipe; dsimp only
  split
  · exact ⟨rfl, rfl, rfl⟩
  · exact Keeps.trans (t := { s with mem := { s.mem with scratch := [], scratchBad := true }, sec := { s.sec with keys := [] } })
      ⟨rfl, rfl, rfl⟩ (keeps_raiseErr _ _ _ _ _ _ _)

theorem keeps_evict (s u : State) (l : Nat) (h : evict s l = some u) : Keeps s u := by
  unfold evict at h
  dsimp only at h
  split at h
  · split at h
    · exact absurd h (by simp)
    · cases h; exact ⟨rfl, rfl, rfl⟩
  · cases h; exact ⟨rfl, rfl, rfl⟩
theorem keeps_countL2 (s : State) (l : Nat) : Keeps s (countL2 s l) := keeps_ite _ (keeps_bumpWrap _ _ _ _) (.refl s)
theorem keeps_requestMiss (s : State) (l : Nat) (o : Bool) : Keeps s (requestMiss s l o) :=
   (keeps_request s l o).trans ⟨rfl, rfl, rfl⟩
theorem keeps_missL2 (s : State) (l : Nat) (o : Bool) : Keeps s (missL2 s l o) := by
  unfold missL2
  extract_lets fresh s2 seq s3
  have h2 : Keeps s s2 := (keeps_countL2 s l).trans (keeps_requestMiss _ _ _)
  have h3 : Keeps s s3 := keeps_ite _ (h2.trans (keeps_request _ _ _)) h2
  exact keeps_ite _ (h3.trans ⟨rfl, rfl, rfl⟩) h3
theorem keeps_awaitLine (s : State) (l : Nat) (p : PendKind) : Keeps s (awaitLine s l p) := by
  unfold awaitLine; split <;> exact ⟨rfl, rfl, rfl⟩
theorem keeps_freeBytes (s : State) (n : Nat) : Keeps s (freeBytes s n).2 := ⟨rfl, rfl, rfl⟩
theorem keeps_snd {α : Type} {s : State} {a b : α × State} (c : Prop) [Decidable c] (h : Keeps s a.2) (g : Keeps s b.2) :
    Keeps s (if c then a else b).2 := by split <;> assumption
theorem keeps_readWb (s : State) (e : Env) (l : Nat) (o : Bool) (p : PendKind) : Keeps s (readWb s e l o p).2 := by
  unfold readWb
  extract_lets x s0
  have h0 : Keeps s s0 := keeps_ite _ (keeps_bumpWrap _ _ _ _) (.refl s)
  generalize (if o = true then x.st.owned else x.st.held) = c
  cases c
  · rw [if_neg (by decide)]
    split
    · exact .refl s
    · exact keeps_awaitLine _ _ _
    · exact (h0.trans (keeps_missL2 _ _ _)).trans (keeps_awaitLine _ _ _)
  · rw [if_pos rfl]
    have h1 := h0.trans (keeps_lineEcc s0 e (l * 64))
    split
    · next u g => rw [g] at h1; exact h1
    · next u g =>
      rw [g] at h1
      split
      · exact keeps_snd _ (h1.trans (keeps_l1Set _ _ _)) h1
      · exact h1.trans (keeps_l1Put _ _ _)
theorem keeps_readPart (s : State) (e : Env) (a : Nat × Nat) (o : Bool) (p : PendKind) : Keeps s (readPart s e a o p).2 := by
  unfold readPart
  dsimp only
  split
  · have h := keeps_readWb s e (a.1 / 64) o p
    split
    · next l u g => rw [g] at h; exact h
    · exact h
  · split
    · exact keeps_ite _ (keeps_raiseErr _ _ _ _ _ _ _) (.refl s)
    · exact .refl s
  · split
    · exact .refl s
    · split
      · exact .refl s
      · exact keeps_freeBytes s a.2
theorem keeps_readParts (e : Env) (o : Bool) (p : PendKind) (l : List (Nat × Nat)) (s : State) :
    Keeps s (readParts s e o p l).2 := by
  induction l generalizing s with
  | nil => exact .refl s
  | cons a t ih =>
    unfold readParts
    have h := keeps_readPart s e a o p
    split
    · next u g => rw [g] at h; exact h
    · next x u g => rw [g] at h; exact h
    · next l u g =>
      rw [g] at h
      have h2 := ih u
      split
      · next m v g2 => rw [g2] at h2; exact h.trans h2
      · exact h.trans h2
theorem keeps_spn (s : State) (x : Spn) : Keeps s { s with spn := x } := ⟨rfl, rfl, rfl⟩
theorem keeps_marSync (s : State) : Keeps s (marSync s) := keeps_spn s _

/-! ### A word -/

/-- The fields of a core that place its flow, and its user stacks. -/
def SameFlow (k k' : Core) : Prop :=
  k'.haltReq = k.haltReq ∧ k'.delay = k.delay ∧ k'.loops = k.loops ∧ k'.pc = k.pc ∧ k'.rsU = k.rsU

theorem sameFlow_refl (k : Core) : SameFlow k k := ⟨rfl, rfl, rfl, rfl, rfl⟩
theorem sameFlow_applyA (k : Core) (o : AOut) : SameFlow k (applyA spindle k o) := by
  have h := applyA_fields spindle k o
  refine ⟨h.1, h.2.1, h.2.2.1, h.2.2.2.1, ?_⟩
  have hs (x : Stk) : (k.setDs x).rsU = k.rsU := by unfold Core.setDs; split <;> rfl
  unfold applyA
  simp only [show ¬ (spindle ≠ spindle ∧ 1 < o.lat) from fun h => h.1 rfl, decide_false, Bool.false_eq_true, if_false]
  split <;> exact hs _

theorem spillMeets_none (s : State) (e : Env) (b : W32) (d d' : Nat) (h : d ≤ 8) (h' : d' ≤ 8) : spillMeets s e b d d' = (none, s) := by
  have a1 : d - 8 = 0 := by omega
  have a2 : d' - 8 = 0 := by omega
  simp [spillMeets, spillAt, spillCheck, spillLines, a1, a2, firstExc]
theorem spillMove_none (s : State) (b : W32) (y x : Stk) (h : y.depth ≤ 8) (h' : x.depth ≤ 8) : spillMove s b y x = (x, s) := by
  have a1 : y.depth - 8 = 0 := by omega
  have a2 : x.depth - 8 = 0 := by omega
  simp [spillMove, spillChanged, a1, a2]

/-- Stacks that lie in the registers before and after a word move nothing. -/
theorem depthSpill_none (s : State) (k k' : Core) (e : Env) (h1 : k.dsU.depth ≤ 8) (h2 : k.rsU.depth ≤ 8) (h3 : k'.dsU.depth ≤ 8)
    (h4 : k'.rsU.depth ≤ 8) : depthSpill s spindle k k' e = (.ok k', s) := by
  simp [depthSpill, moveStacks, spillMeets_none, spillMove_none, h1, h2, h3, h4]

/-- A snoop is answered at a word's end only where the word has cleared the reservation. -/
theorem rsvGone_same (s t : State) (h : t.spn.rsv = s.spn.rsv) : rsvGone s t = t := by
  unfold rsvGone; rw [h]; cases s.spn.rsv <;> rfl

/-- A word of the spindle that passes its checks and leaves `u` with the core of `d`. -/
theorem runSpn_quiet (s u : State) (w : LWord) (body : State → Core → Res) (d : Done) (q : QuietSpn s w)
    (hb : body (spnHere s) (core s spindle) = (.ok d, u)) (hu : dbgLevel u = dbgLevel s) (hk : SameFlow (core s spindle) d.k)
    (hds : d.k.dsU.depth ≤ 8) (h1 : d.flow = .seq 0) (h2 : d.acc = []) (h3 : d.store = none) (h5 : d.ops = 1)
    (h6 : d.annulled = false) (h7 : d.pred = .none)
    (ha : ∀ x, dbgLevel (d.after x) = dbgLevel x ∧ (core (d.after x) spindle).haltReq = (core x spindle).haltReq) :
    runSpn w body s = rsvGone s (d.after (spnEnd u d.k (d.cycles + d.wait))) := by
  obtain ⟨q1, q2, q3, q4, q5, q6, q7, q8, q9, q10, q11, q12, q13, q14⟩ := q
  obtain ⟨g1, g2, g3, g4, g5⟩ := hk
  have hdr : drainSb s = s := by unfold drainSb; rw [q10]; rfl
  have hf : fetchSpn (spnHere s) (core s spindle) w.env = (.word, spnHere s) := by
    have e1 : fetchAllowed (spnHere s) (core s spindle) (core s spindle).pc = true := q11
    have e2 : (core s spindle).pc / 64 ∈ (spnHere s).spn.l1i := q12
    unfold fetchSpn
    simp only [e1, q3, e2, Bool.not_true, Bool.false_eq_true, if_false, reduceCtorEq, if_true]
  have hcore : core (spnHere s) spindle = core s spindle := by simp
  unfold runSpn runWord
  rw [q1]
  rw [if_neg (by rw [q4]; decide)]
  dsimp only
  rw [bpTake_quiet s spindle 1 _ (by omega)]
  have hite : (if (core s spindle).bpPass = true then (false, s) else (false, s)) = (false, s) := by split <;> rfl
  rw [hite]
  simp only [Bool.false_eq_true, if_false, if_true, hdr, enterSlot]
  rw [hf]
  simp only [ne_eq, not_true, decide_false, Bool.and_false, Bool.false_eq_true, if_false, hcore]
  have hc : conditioned w.cond false false (snapOf (core s spindle)) (core s spindle) (spnHere s)
      (body (spnHere s) (core s spindle)) = (.ok d, u) := by
    rw [q2, hb]
    simp [conditioned, condCheck, condHolds, failIf]
  rw [hc]
  unfold settle
  simp only [h1, reduceCtorEq, if_false, if_true]
  rw [depthSpill_none _ _ _ _ (by omega) (by omega) hds (by rw [g5]; omega)]
  dsimp only
  have hdl : d.k.delay = none := g2.trans q7
  have hlo : d.k.loops = [] := g3.trans q8
  have hflow : flowOn spindle d.k (.seq 0) =
      ({ d.k with pc := (core s spindle).pc + 4, delay := none, bubbles := 0, late := [] }, none) := by
    have hw : ((core s spindle).pc + 4) % 281474976710656 = (core s spindle).pc + 4 := Nat.mod_eq_of_lt (by omega)
    have hloops : ({ d.k with delay := none, pc := (core s spindle).pc + 4, loops := [] } : Core)
      = { d.k with delay := none, pc := (core s spindle).pc + 4 } := by rw [← hlo]
    simp [flowOn, flowTo, hdl, stepSeq, pcStep, follow, hlo, goto, arrive, pcWrap, g4, hw]
  unfold commit
  simp only [hflow, h2, h3, commitStore, stalls, List.foldl]
  simp only [reduceCtorEq, decide_false, Bool.false_eq_true, if_false]
  have hlev (k : Core) : dbgLevel (setCore u spindle k) = 0 := by
    rw [dbgLevel_setCore, hu]; exact q5
  have hcount (k : Core) (n : Nat) (e : Done) (e1 : e.flow = .seq 0) (e5 : e.ops = 1) (e6 : e.annulled = false) (e7 : e.pred = .none) :
      countWord (setCore u spindle k) spindle e n w.env = add64 (setCore u spindle k) pgSPN 0x0A8 0x0AC 0 1 := by
    unfold countWord predict
    simp only [e1, e7, reduceCtorEq, if_false, e6, Bool.false_eq_true, pmcCount_quiet _ _ _ _ (hlev k), if_true, e5]
  have hlev2 (k : Core) : dbgLevel (add64 (setCore u spindle k) pgSPN 0x0A8 0x0AC 0 1) = 0 := by rw [dbgLevel_add64]; exact hlev k
  have hspend (k : Core) (n : Nat) : spend (add64 (setCore u spindle k) pgSPN 0x0A8 0x0AC 0 1) spindle n
      = { add64 (setCore u spindle k) pgSPN 0x0A8 0x0AC 0 1 with
          spn := { (add64 (setCore u spindle k) pgSPN 0x0A8 0x0AC 0 1).spn with
            cyc := (add64 (setCore u spindle k) pgSPN 0x0A8 0x0AC 0 1).spn.cyc + n } } := by
    unfold spend
    rw [pmcCount_quiet _ _ _ _ (hlev2 k)]
    simp
  have hk2 : ({ d.k with
      pc := (core s spindle).pc + 4, lastPc := (core s spindle).pc, delay := none, bubbles := 0, late := [], atHandler := false,
      bpPass := false } : Core) = { d.k with
      pc := d.k.pc + 4, lastPc := d.k.pc, delay := none, bubbles := 0, late := [], atHandler := false, bpPass := false } := by
    rw [g4]
  rw [hcount _ _ { d with k := d.k, flow := .seq 0, acc := [], store := none } rfl h5 h6 h7, hspend, hk2]
  have hend : dbgLevel (d.after (spnEnd u d.k (d.cycles + d.wait))) = 0 := by rw [(ha _).1]; exact hlev2 _
  have hbr : ∀ l, dataBreaks (d.after (spnEnd u d.k (d.cycles + d.wait))) spindle l = d.after (spnEnd u d.k (d.cycles + d.wait)) := by
    intro l
    unfold dataBreaks
    induction l with
    | nil => rfl
    | cons a t ih => rw [List.foldl_cons, bpTake_quiet _ _ _ _ (by omega)]; exact ih
  show rsvGone (spnHere s) (stepDone (dataBreaks (d.after (spnEnd u d.k (d.cycles + d.wait))) spindle _) spindle) = _
  rw [hbr, stepDone_quiet]
  · rfl
  · rw [(ha _).2]
    show (core (add64 _ _ _ _ _ _) spindle).haltReq = _
    rw [core_add64, core_setCore_same]
    exact g1.trans q6

end Sys2Proof.Machine
end

