-- ==== Sys2Proof/Tests/Slice0.lean ====
section
/-!
SUPPORT. Tests: well-formedness refuses an ill-formed command for each check; words written out from the encoding tables decode to
their commands; for each statement a state and operands meet its hypotheses; small one-step checks against the spec's own words.
-/

open Sys2Proof Sys2Proof.Machine

set_option Elab.async false

namespace Sys2Proof.Tests

/-! ### Well-formedness -/

/-- A core is 0 to 256. -/
theorem test_wf_core : (Instr.nop ⟨257, .al, false, false, .nop, {}⟩).wf = false ∧
    (Instr.nop ⟨256, .al, false, false, .nop, {}⟩).wf = true := by decide
/-- An instant lies before the next edge of REF_IN. -/
theorem test_wf_instant : (Instr.nop ⟨0, .al, false, false, .nop, { sub := 1600 }⟩).wf = false := by decide
/-- A page, an offset and a transfer size of a register access. -/
theorem test_wf_register : (Instr.unitCtrlWrite 4096 0).wf = false ∧ (Instr.unitCtrlWrite 4095 0).wf = true := by decide
theorem test_wf_bobbin : (Instr.clbAck 256).wf = false := by decide
theorem test_wf_line : (Instr.snoopRx (2 ^ 42) .share).wf = false := by decide
theorem test_wf_pillow : (Instr.scrubLate 16).wf = false := by decide
theorem test_wf_bank : (Instr.bankFillDone 0 8).wf = false ∧ (Instr.bankFillDone 15 7).wf = true := by decide
theorem test_wf_lease : (Instr.se1LeaseWrite 0 5 0).wf = false := by decide
theorem test_wf_input : (Instr.ppsEdgeMissed 2).wf = false := by decide
theorem test_wf_lane : (Instr.laneCntClr 96).wf = false := by decide
theorem test_wf_group : (Instr.pgFwqTxHeadWrite 12 0 false).wf = false := by decide
theorem test_wf_pair : (Instr.supervisionFrameTx 48).wf = false := by decide
theorem test_wf_subscription : (Instr.gooseTalExpiry 1024).wf = false := by decide
theorem test_wf_output : (Instr.tripDeferredReset 32).wf = false := by decide
theorem test_wf_binary_input : (Instr.biChange 64).wf = false := by decide
theorem test_wf_source : (Instr.eicSourceEvent 1024 true).wf = false := by decide
theorem test_wf_target : (Instr.eicTimerExpire 257).wf = false ∧ (Instr.eicTimerExpire 256).wf = true := by decide
theorem test_wf_ring : (Instr.hifModTimer 64).wf = false := by decide
theorem test_wf_aperture : (Instr.se1ApertureAccess ⟨0x20000, 4⟩ none .clean).wf = false := by decide
theorem test_wf_tamper : (Instr.tamperAssert 2 true true).wf = false := by decide
theorem test_wf_strand : (Instr.stageStart 65536).wf = false := by decide
theorem test_wf_patch : (Instr.ucsPatchInstall 17).wf = false := by decide
theorem test_wf_dram : (Instr.dramError (2 ^ 40) .corrected).wf = false := by decide
theorem test_wf_errors : (Instr.draTrnPatternDone true 65536).wf = false := by decide

/-! ### Small states -/

/-- A stack of the given entries, deepest first. -/
def stk (ws : List TWord) : Stk := ⟨ws, ws.length⟩

/-- Clean words of the types that the tests use. -/
abbrev nat (x : Nat) : TWord := TWord.nat (w32 x)
abbrev int (x : Nat) : TWord := TWord.ofTy .int (w32 x)
abbrev flt (x : Nat) : TWord := TWord.ofTy .flt (w32 x)
abbrev fix (x : Nat) : TWord := TWord.ofTy .fix (w32 x)
abbrev adr (x : Nat) : TWord := TWord.ofTy .adr (w32 x)
abbrev ret (x : Nat) : TWord := TWord.ofTy .ret (w32 x)
abbrev tim (x : Nat) : TWord := TWord.ofTy .tim (w32 x)

/-- A core that runs runtime code at word 16 with the given data and return stack, its instruction line in the cache. -/
def calmCore (ds rs : List TWord) : Core :=
  { Core.reset with pstate := .system, pc := 16, icache := [(2, [2])], dsP := stk ds, rsP := stk rs }

/-- A state in which bobbin 0 is the given core, in a part that is DEPLOYED, with bank 0 of its pillow ON. -/
def holds (k : Core) : State :=
  { State.reset with
    fuses := { Fuses.reset with state := .deployed, fused := .deployed }
    regs := [(rkey (pgBOB 0) 0x080, 1)]
    mem := { State.reset.mem with bankPwr := [(0, .on)] }
    cores := [(0, k)] }

/-- The same with runtime code and the given stacks. -/
abbrev calm (ds rs : List TWord) : State := holds (calmCore ds rs)

/-- A word of bobbin 0. -/
abbrev aw : AWord := ⟨0, .al, false, false, .nop, {}⟩
/-- An address-unit word of bobbin 0. -/
abbrev bw : BWord := ⟨0, .al, false, false, .nop, {}⟩
/-- A long word of bobbin 0. -/
abbrev lw : LWord := ⟨0, .al, {}⟩

theorem core_holds (k : Core) : Machine.core (holds k) 0 = k := rfl

theorem ic_held {k : Core} (h : k.icache = [(2, [2])]) (hp : k.pc = 16) : icHolds k (k.pc / 8) = true := by
  unfold icHolds icSet; rw [h, hp]; decide

theorem calm_still (d : Option Delay) (ds rs : List TWord) : Still (holds { calmCore ds rs with delay := d }) 0 d := by
  refine ⟨by decide, rfl, rfl, rfl, rfl, ⟨fun l g => absurd g List.not_mem_nil, rfl⟩, ⟨rfl, rfl⟩, rfl, ?_, ?_, List.not_mem_nil, ?_⟩
  · rw [core_holds]; exact ic_held (k := { calmCore ds rs with delay := d }) rfl rfl
  · show rdB (calm [] []) (pgBOB 0) 0x080 0 = true; decide
  · show (16 : Nat) < 65535; decide

/-- A core that runs no strand leaves none. -/
theorem stays_of {s : State} {c : Nat} (h : (Machine.core s c).strand = none) : Stays s c := fun o _ g => by simp [h] at g

/-- Every bobbin word's statement: a bobbin quiet whatever lies on its stacks, and plain words. -/
theorem met_quiet (ds rs : List TWord) : Quiet (calm ds rs) 0 ∧ Plain aw ∧ PlainB bw ∧ PlainL lw :=
  ⟨calm_still none ds rs, by unfold Plain Calm; decide, by unfold PlainB Calm; decide, by unfold PlainL Calm; decide⟩

/-! ### The hypotheses of statements are met: words of a bobbin -/

/-- Data words of bobbin 0 with the given data stack. -/
abbrev dk (ds : List TWord) : Core := at_ (calm ds []) 0
/-- n words 1, 2, … -/
abbrev nats (n : Nat) : List TWord := (List.range n).map nat

/-- StackMovesRearrangeTheStack: each depth at its least and with just the room it needs; PICK and ROLL at 0 and at their ends. -/
theorem met_stack_moves : Fits (dk (nats 1)) 1 1 2 ∧ Takes (dk (nats 1)) 1 .move ∧ Fits (dk (nats 2)) 2 2 3 ∧
    Takes (dk (nats 2)) 2 .move ∧ Fits (dk (nats 3)) 3 3 3 ∧ Takes (dk (nats 3)) 3 .move ∧ Fits (dk (nats 2)) 2 2 4 ∧
    Fits (dk (nats 4)) 4 4 6 ∧ Takes (dk (nats 4)) 4 .move ∧ Fits (dk (nats 15)) (14 + 1) 0 1 ∧
    tagCauses (dk (nats 15)) [(.move, (dk (nats 15)).ds.peek 14)] = none ∧ Fits (dk (nats 1)) (0 + 1) 0 1 ∧
    Fits (dk (nats 16)) (15 + 1) 0 0 ∧ Takes (dk (nats 16)) (15 + 1) .move ∧ Fits (dk []) 0 0 1 := by
  unfold Fits Takes; decide

/-- LogicResults, ShiftResults, IntegerResults, ProductsAndQuotients: one and two integer operands, of one type and of two, a full
stack. -/
theorem met_integers : Fits (dk [nat 1, int 2]) 2 2 1 ∧ Takes (dk [nat 1, int 2]) 2 (.plain [.int, .nat]) ∧
    Takes (dk [nat 1, int 2]) 2 (.arith [.int, .nat]) ∧ Fits (dk [nat 1]) 1 1 1 ∧ Takes (dk [nat 1]) 1 (.plain [.int, .nat]) ∧
    Takes (dk [int 1]) 1 (.arith [.int, .nat]) ∧ Fits (dk (nats 16)) 2 2 2 ∧ Fits (dk (nats 16)) 2 2 0 ∧
    Takes (dk [nat 5, nat 0]) 2 (.arith [.int, .nat]) ∧ ((dk [nat 1, int 2]).ds.peek 0).ty = .int := by
  unfold Fits Takes; decide

/-- AddressArithmetic: an address below, above, and two. -/
theorem met_addresses : Takes (dk [adr 1, int 2]) 2 (.arith [.int, .nat, .adr]) ∧
    Takes (dk [nat 1, adr 2]) 2 (.arith [.int, .nat, .adr]) ∧ Takes (dk [adr 3, adr 2]) 2 (.arith [.int, .nat, .adr]) ∧
    Fits (dk [adr 3, adr 2]) 2 2 1 ∧ Takes (dk [adr 0xFFFFFF]) 1 (.arith [.int, .nat, .adr]) := by
  unfold Fits Takes; decide

/-- FixedPointResults: a positive, a negative and a zero divisor. -/
theorem met_fixed_point : Fits (dk [fix 1, fix 2]) 2 2 1 ∧ Takes (dk [fix 1, fix 2]) 2 (.arith [.fix]) ∧
    0 < ((dk [fix 1, fix 2]).ds.peek 0).pay.toInt ∧ ((dk [fix 1, fix 0xFFFFFFFF]).ds.peek 0).pay.toInt < 0 ∧
    ((dk [fix 1, fix 0]).ds.peek 0).pay.toInt = 0 ∧ Takes (dk [fix 1, fix 0]) 2 (.arith [.fix]) := by
  unfold Fits Takes; decide

/-- FloatResults: operands of each number, no trap enabled; a comparison with its four answers. -/
theorem met_floats : Takes (dk [flt 1, flt 2, flt 3]) 3 (.arith [.flt]) ∧ Fits (dk [flt 1, flt 2, flt 3]) 3 3 1 ∧
    Takes (dk [flt 1]) 1 (.arith [.flt]) ∧ (dk []).traps = 0 ∧ FFlags.trap ⟨true, true, true, true, true, true⟩ 0 = none ∧
    f32.cmp 1 2 = (true, false, false, false) ∧ f32.cmp 0x7F800001 2 = (false, false, true, true) := by
  unfold Fits Takes; decide

/-- ConversionResults: a word of each source type; VOID and TIM where the scope lets AS take them. -/
theorem met_conversions : Fits (dk [int 1]) 1 1 1 ∧ Takes (dk [int 1]) 1 (.arith [.int]) ∧ Takes (dk [nat 1]) 1 (.arith [.nat]) ∧
    Takes (dk [fix 1]) 1 (.arith [.fix]) ∧ Takes (dk [flt 1]) 1 (.arith [.flt]) ∧ (nat 1).ty ≠ .ret ∧ (nat 1).ty ≠ .void := by
  unfold Fits Takes; decide

/-- BitTagAndCopyResults: a CRC set up; TAG.SET with a legal tag; SEL of three; A, R and LC. -/
theorem met_bits_tags : crcParams 0x201 0 = some (32, 0x04C11DB7, true, 32) ∧ Fits (dk (nats 3)) 3 3 1 ∧
    tagCauses (dk [nat 3, nat 0]) [(.move, nat 3), (.plain [.int, .nat], nat 0)] = none ∧
    (let x := (dk [nat 3, nat (nat 0).tag]).ds.peek
     let t := TWord.ofTag ((x 0).pay.toNat % 256) (x 1).pay
     t.rsv = false ∧ t.ty = (x 1).ty ∧ ¬(t.ty = .ret ∧ (dk []).modes.level = .u)) ∧
    tagCauses (dk []) [(.plain [.int, .nat, .fix, .flt, .tim, .adr, .ret], nat 1), (.plain [.int, .nat], nat 2)] = none ∧
    tagCauses (dk []) [(.move, (dk []).areg.word)] = none ∧ 1 ≤ (at_ (calm [] [ret 1]) 0).rs.depth ∧
    tagCauses (at_ (calm [] [ret 1]) 0) [(.move, (at_ (calm [] [ret 1]) 0).rs.peek 0)] = none := by
  unfold Fits; decide

/-- TimeResults: pairs at the ends of the nanosecond. -/
theorem met_times : aw.env.seq.fetches = [] ∧
    (let k := dk [tim 7, tim (2 ^ 30 + 999999999), tim 8, tim (2 ^ 30)]
     Takes k 4 .move ∧ Fits k 4 4 1 ∧ (k.ds.peek 3).ty = .tim ∧ (k.ds.peek 2).pay.toNat / 2 ^ 30 = 1 ∧
       (k.ds.peek 2).pay.toNat % 2 ^ 30 ≤ 999999999 ∧ (k.ds.peek 0).pay.toNat / 2 ^ 30 = 1) ∧
    (let k := dk [tim 7, tim (2 ^ 30), int 5]
     Fits k 3 3 2 ∧ tagCauses k [(.move, k.ds.peek 2), (.move, k.ds.peek 1), (.plain [.int], k.ds.peek 0)] = none) := by
  unfold Fits Takes; decide

/-- PairedLoadsAndStores, LongLoadsStoresAndAtomics, BlockOperationsGoElementByElement: an address of bank 0 that bobbin 0 reads,
writes and takes with an atomic, at its first and last word. -/
theorem met_banks : Serves (calm [adr 0] []) 0 {} (dk [adr 0]) .read 0 0 ∧ Serves (calm [] []) 0 {} (dk []) .write 32767 32767 ∧
    Serves (calm [] []) 0 {} (dk []) .atomic 3 3 :=
  ⟨⟨rfl, by decide⟩, ⟨rfl, by decide⟩, ⟨rfl, by decide⟩⟩
/-- The same statements: an address word, on the stack and in A, and a bank word that the load may see. -/
theorem met_bank_words : tagCauses (dk [adr 0]) [(.addr, adr 0)] = none ∧ eicWord 3 = none ∧
    (∀ m ∈ (calm [] []).prck.migs, m.copying = false) ∧
    tagCauses { dk [] with areg := ⟨.adr, .good, false, 0⟩ } [(.addr, (⟨.adr, .good, false, 0⟩ : AReg).word)] = none ∧
    loadSees (bankSet (calm [] []) 3 (nat 9)) (dk []) 3 = some (nat 9) ∧ tagCauses (dk []) [(.move, nat 9)] = none ∧
    tagCauses (dk [nat 1, adr 3]) [(.arith [.int, .nat], nat 1), (.addr, adr 3)] = none := by decide

/-- BlockOperationsGoElementByElement: operands of no element, of one and of more. -/
theorem met_blocks :
    (let k := dk [adr 3, adr 4, nat 0]
     3 ≤ k.ds.depth ∧ tagCauses k (BlkOp.move.uses.zip (k.top 3)) = none ∧ blkRange .move k (k.top 3) = false) ∧
    (let k := dk [adr 4, nat 65535]
     2 ≤ k.ds.depth ∧ tagCauses k (BlkOp.fill.uses.zip (k.top 2)) = none ∧ blkRange .fill k (k.top 2) = false) ∧
    (let k := dk [adr 3, adr 64, nat (3 + 32 * 7), nat 1]
     4 ≤ k.ds.depth ∧ tagCauses k (BlkOp.brev.uses.zip (k.top 4)) = none ∧ blkRange .brev k (k.top 4) = false) ∧
    (let k := { dk [nat 5, adr 3, nat 2] with crcCfg := 0x201 }
     3 ≤ k.ds.depth ∧ tagCauses k (BlkOp.crc.uses.zip (k.top 3)) = none ∧ blkRange .crc k (k.top 3) = false) ∧
    ({ elems := some 1 } : Env).seq.fetches = [] ∧ (bankGet (bankSet (calm [] []) 3 (nat 9)) 3).rsv = false ∧
    3 ∉ (calm [] []).mem.bankBad := by decide

/-- ReturnStackMoves, AddressRegisterResults: one and two entries, a last free place, a circular buffer and none, an address on
either stack, a loop whose end is three words away. -/
theorem met_return_and_a : 2 ≤ (at_ (calm (nats 2) (nats 15)) 0).rs.depth ∧ (at_ (calm (nats 2) (nats 15)) 0).rs.depth < 16 ∧
    ((at_ (calm (nats 2) (nats 15)) 0).rs.peek 1).rsv = false ∧ tagCauses (dk (nats 2)) [(.move, (dk (nats 2)).ds.peek 1)] = none ∧
    (let k := { dk [nat 2] with areg := ⟨.adr, .good, false, 5⟩ }
     tagCauses k [(.arith [.adr, .int, .nat], k.areg.word), (.arith [.int, .nat], k.ds.peek 0)] = none) ∧
    aSource (dk [adr 5, adr 6]) (adr 6) true = none ∧ aSource (dk []) (adr 6) false = none ∧
    (⟨10, 20, 3, true, false⟩ : Loop).stop - 1 - 16 ≥ 3 := by decide

/-- LiteralsPushTheirWord, ControlRegisterAccess: a free place; operands of CTL.WR. -/
theorem met_literals_control : Fits (dk (nats 15)) 0 0 1 ∧ Fits (dk [nat 1]) 1 1 0 ∧ Takes (dk [nat 1]) 1 (.plain [.int, .nat]) ∧
    (dk []).modes.level ≠ .u ∧ (nat 1).pay.toNat % 4 ≤ (dk []).modes.level.code ∧ (nat 1).pay.toNat % 4 ≠ 0 ∧
    runsP (calm [nat 1] []) (dk [nat 1]) = false ∧ (dk []).fillw.ty ≠ .ret := by
  unfold Fits Takes; decide

/-- ControlTransfers: targets at the ends of code memory, a link, a code address. -/
theorem met_transfers : ((65535 : Nat) : Int) = (dk []).pc + (65519 : BitVec 22).toInt ∧
    ((0 : Nat) : Int) = (dk []).pc + (-16 : BitVec 22).toInt ∧
    (let k := at_ (calm [adr 65535] [ret 65535]) 0
     1 ≤ k.rs.depth ∧ (k.rs.peek 0).ty = .ret ∧ (k.rs.peek 0).rsv = false ∧ (k.rs.peek 0).pay.toNat < 2 ^ 16 ∧ 1 ≤ k.ds.depth ∧
       tagCauses k [(.addr, k.ds.peek 0)] = none ∧ (k.ds.peek 0).pay.toNat < 2 ^ 16 ∧ k.rs.depth < 16) := by decide

/-- DelaySlotsRunBeforeTheTarget: a taken branch and one not taken; GatesStartTheirHandler's slot. -/
theorem met_slots : Still (holds { calmCore [] [] with delay := some (.branch 65535 2 true) }) 0 (some (.branch 65535 2 true)) ∧
    Still (holds { calmCore [] [] with delay := some .fallThrough }) 0 (some .fallThrough) :=
  ⟨calm_still _ [] [], calm_still _ [] []⟩

/-- LoopsAreSetUp: counts 0 and 65,535, the shortest distance, a body to the end of code memory. -/
theorem met_loops : 2 ≤ (2 : BitVec 6).toNat ∧ (dk []).loops.length < 2 ∧ (65518 : BitVec 16) ≠ 0 ∧
    (dk []).pc + (2 : BitVec 6).toNat + (65518 : BitVec 16).toNat ≤ 65536 ∧
    tagCauses (dk [nat 0]) [(.plain [.int, .nat], (dk [nat 0]).ds.peek 0)] = none ∧ ((dk [int 0]).ds.peek 0).pay.msb = false ∧
    (63 : BitVec 6) ≠ 0 := by decide

/-- A core at word 16 with one loop. -/
abbrev looping (l : Loop) : State := holds { calmCore [] [] with loops := [l] }

/-- LoopsTakeTheirBackEdges: the last body word with iterations left and without, and the word before a loop's start. -/
theorem met_edges : AtEdge (looping ⟨15, 17, 2, true, false⟩) 0 ⟨15, 17, 2, true, false⟩ ∧
    AtEdge (looping ⟨10, 17, 1, true, false⟩) 0 ⟨10, 17, 1, true, false⟩ ∧
    (let l : Loop := ⟨17, 20, 0, false, false⟩
     (Machine.core (looping l) 0).loops = [l] ∧ l.start = (Machine.core (looping l) 0).pc + 1 ∧ l.stop < 65536) := by
  unfold AtEdge Quiet Still Inside
  decide

/-- The words of a gate table's entry. -/
def descWords (handler level mask : Nat) (argc resc sig : Nat) : List TWord :=
  [nat handler, nat (level + mask * 4 + 32 + 64 + 128), nat 0, nat (argc + resc * 16 + sig * 256)]

/-- A state with an entry of bobbin 0's gate table. -/
def withEntry (s : State) (e : Nat) (ws : List TWord) : State := bankSetList s (bankAddr 0 5 (0x7000 + 4 * e)) ws

/-- IllegalWordsEnterTheirHandler: entry 1, and entry 0 where MASK is 7. -/
theorem met_illegal :
    (let s := withEntry (calm [] []) 1 (descWords 500 2 3 0 0 0)
     Describes s 0 1 (at_ s 0).modes.level ⟨500, .m, 3, true, true, 0, 0, 0, 0, 0, 0, 0⟩ ∧ Stays s 0 ∧ (at_ s 0).esc = false ∧
       (at_ s 0).rsP.depth ≤ 9) ∧
    (let s := withEntry (calm [] []) 0 (descWords 65535 2 7 0 0 0)
     Describes s 0 0 (at_ s 0).modes.level ⟨65535, .m, 7, true, true, 0, 0, 0, 0, 0, 0, 0⟩) ∧
    Enters lw.env ∧ Calm lw.env := by
  refine ⟨⟨by unfold Describes; decide, ?_, by decide, by decide⟩, by unfold Describes; decide, by unfold Enters; decide, by unfold Calm; decide⟩
  exact stays_of rfl

/-- GatesStartTheirHandler: a call from U of a handler at S that takes one NAT word. -/
theorem met_gates :
    (let k : Core := { calmCore [] [] with
       modes := { Core.reset.modes with level := .u }, pset := false, dsU := stk [nat 4], delay := some (.gate 64 15) }
     let s := withEntry (holds k) 64 (descWords 500 1 3 1 1 1)
     Describes s 0 64 .u ⟨500, .s, 3, true, true, 0, 0, 0, 0, 1, 1, 1⟩ ∧
       sigFail true 1 0 ((List.range 1).map (at_ s 0).ds.peek) none = none ∧ 1 ≤ (at_ s 0).ds.depth) := by
  unfold Describes; decide

/-- InterruptsAreEnteredAndClaimed: an idle bobbin to which the EIC presents an enabled edge source of priority 5. -/
def interrupted : State :=
  let s := withEntry (holds { calmCore [] [] with pstate := .idle, modes := { Core.reset.modes with mask := 0 } }) 37 (descWords 500 2 3 0 0 0)
  let s1 := { s with
    eic := { s.eic with srcs := [(768, { Src.reset with target := 1, prio := 5, en := true, pend := true })] }
    mode := { s.mode with cur := .run }, pwr := { s.pwr with doms := [(401, .on)] } }
  wr (wr s1 pgEIC 0x080 1) (pgEICT 1) 0x088 1

theorem met_interrupt : presented interrupted (0 + 1) = some (768, 5) ∧ (Machine.core interrupted 0).modes.mask < (5 + 1) / 2 ∧
    (Machine.core interrupted 0).pstate = .idle ∧ dbgLevel interrupted = 0 ∧ runsP interrupted (Machine.core interrupted 0) = false ∧
    Describes interrupted 0 37 (Machine.core interrupted 0).modes.level ⟨500, .m, 3, true, true, 0, 0, 0, 0, 0, 0, 0⟩ := by
  unfold Describes; decide

/-- ReturnsFromFramesRestoreTheirCore: a frame back to U with its result, with an open slot, at the level of the handler itself. -/
theorem met_frames :
    (let fr := fun (st fi : Nat) => [nat 0, nat 0, nat 0, nat 0, nat fi, nat st, ret 65535]
     let s := holds { calmCore [nat 9] (fr 0 0xC00) with gateReg := some ⟨0, 1, 0, 0⟩, pset := true }
     let k := at_ s 0
     7 ≤ k.rs.depth ∧ (∀ i < 6, (k.rs.peek (6 - i)).ty = .nat ∧ (k.rs.peek (6 - i)).rsv = false) ∧ (k.rs.peek 0).ty = .ret ∧
       (k.rs.peek 0).pay.toNat < 2 ^ 16 ∧ presented s 1 = none ∧ k.switch = none ∧ k.budgetOver = false ∧
       bit (k.rs.peek 2).pay 11 = true ∧ bit (k.rs.peek 2).pay 10 = true ∧ Stays (calm [] (fr 2 0)) 0 ∧
       (match moveResults true k.dsU k.dsP 0 1 0 16 with | .ok _ => true | .error _ => false) = true) := by
  refine ⟨by decide, by decide, by decide, by decide, by decide, by decide, by decide, by decide, by decide, ?_, by decide⟩
  exact stays_of rfl

/-! ### The hypotheses of statements are met: the block's own commands -/

/-- The engine in a mode, with pillow 0 and its bobbin 0, port group 0 and every unit of the common domains on. -/
def up (m : Mode) : State :=
  { State.reset with
    mode := { State.reset.mode with cur := m }
    pwr := { State.reset.pwr with
      doms := [(0, .on), (384, .on), (400, .on), (401, .on), (402, .on), (414, .on), (415, .on), (416, .on)] } }
/-- The engine in CONFIGURE with the crypto and secure domain on. -/
abbrev served : State := up .configure
/-- A state with a register's value. -/
abbrev put (s : State) (p o : Nat) (v : W32) : State := wr s p o v
/-- A state at a time in milliseconds. -/
def late (s : State) (ms : Nat) : State := { s with now := ms * msN }

/-- HeaderCommandsActOnPoweredPages: a page with power in CONFIGURE, snag tests allowed, a page without power. -/
theorem met_header : pageUnit pgEIC = some (.eic, 0) ∧ pagePowered served pgEIC = true ∧
    (curMode served).cfgSvc = true ∧ rdB served pgEIC 0x008 3 = false ∧
    rdB served pgEIC 0x008 0 = bit (1 : W32) 0 ∧ RUnit.shortHeader .eic = false ∧ pagePowered (up .keep) (pgPIL 1) = false ∧
    snagAllowed (put { served with fuses := { Fuses.reset with state := .develop, fused := .develop } } pgDBG 0x080 2) = true := by
  and_intros <;> decide +kernel

/-- Lane 0 with a mode, a signal and a link. -/
def port (m : Nat) : State :=
  let s := up .run
  { s with fport := { s.fport with
    eff := [(rkey (pgPG 0) 0x080, 0), (rkey (pgLANE 0) 0x080, w32 m), (rkey (pgLANE 0) 0x084, 1)]
    lanes := [(0, { Lane.reset with signal := true, link := true })] } }
/-- A frame to every station on lane 0. -/
def fr (etype : Nat) : Frame := { lane := 0, len := 64, da := 0xFFFFFFFFFFFF, sa := 5, etype := etype }
/-- A frame from engine 8, of the EtherType that PG_INTER_CFG gives inter-engine frames at reset. -/
def inter : InterFrame := { f := fr 0x88B5, src := 8, dst := 0x7FF, seq := 1 }
/-- A manager 9 at 1 ms of station time and 20 ms of its own time. -/
def boss : State :=
  let s := late (port 1) 20
  { s with glb := { s.glb with role := 2, engineNum := 9 }, stc := { s.stc with cnt := 10 ^ 6 * nsU } }

/-- RolesFollowTheHeartbeats: a manager in a new millisecond, a manager's heartbeat that passes, 20 ms without one. -/
theorem met_roles : stcMs boss ≠ boss.glb.hbSentAt ∧ curMode boss ≠ .off ∧ (interRx boss inter).1 = true ∧
    (interRx boss inter).2.glb.role = 2 ∧ inter.src < (interRx boss inter).2.glb.engineNum ∧
    boss.glb.lastAt + 20 * msN ≤ boss.now := by and_intros <;> decide +kernel

/-- A source of the EIC for the spindle with its priority. -/
def src (prio : Nat) : Src := { Src.reset with target := 0, prio := prio, en := true }
/-- The EIC with source 768 pending for the spindle, and an expired timer of the spindle's. -/
def eicUp (x : Src) : State :=
  let s := put (put (up .run) pgEIC 0x080 1) (pgEICT 0) 0x088 1
  { s with eic := { s.eic with srcs := [(768, x)], tgts := [(0, { Tgt.reset with timer := some 0, stack := [(3, 4)] })] } }
/-- InterruptControllerCommands: an edge source idle, pending and active; a claim; a completion of the topmost source and of
another; a source that software sets; an expired timer. -/
theorem met_eic : pagePowered (eicUp (src 5)) pgEIC = true ∧ isEdgeSrc 768 = true ∧ (esrc (eicUp (src 5)) 768).pend = false ∧
    (esrc (eicUp (src 5)) 768).active = false ∧ (esrc (eicUp { src 5 with pend := true }) 768).pend = true ∧
    presented (eicUp { src 5 with pend := true }) 0 = some (768, 5) ∧ (esrc (eicUp (src 5)) 768).redir = false ∧
    (tgt (eicUp (src 5)) 0).stack = (3, 4) :: [] ∧ (esrc (eicUp (src 5)) 3).held = none ∧
    (isEdgeSrc 0 || isLevelSrc 0) = true ∧ bits (4096 : W32) 4 9 ≤ 256 ∧ (tgt (eicUp (src 5)) 0).timer = some 0 ∧
    (tgt (eicUp (src 5)) 0).offline = false ∧ (∀ e ∈ (tgt (eicUp (src 5)) 0).stack, e.1 ≠ 1024) := by
  and_intros <;> decide +kernel

/-- Station time in a mode of the discipline. -/
def clocked (m : W32) (x : Stc) : State := { put (up .run) pgSTC 0x080 m with stc := x }
/-- TheCounterAdvancesSlewsAndSteps: modes 0 and 1; a nanosecond count at its limit and beyond it; on either clock. -/
theorem met_counter : stcMode (up .run) ≠ 1 ∧ stcMode (up .run) ≠ 2 ∧ stcMode (clocked 1 Stc.reset) = 1 ∧
    (up .run).stc.setNow = none ∧ (up .run).stc.stepBy = none ∧ (up .run).stc.ppsOut = false ∧ (up .run).stc.adjLeft = 0 ∧
    rdF (put (up .run) pgSTC 0x0C8 999999999) pgSTC 0x0C8 0 30 ≤ 999999999 ∧
    999999999 < rdF (put (up .run) pgSTC 0x0C8 1000000000) pgSTC 0x0C8 0 30 ∧ (up .run).clk.onIntOsc = false ∧
    (up .run).stc.st = .unset := by and_intros <;> decide +kernel
/-- TimeIsShownAndAdjusted: LEAP_AT now, forward and back; the output pulse at a whole second. -/
theorem met_shown : secOf (up .run).stc.cnt = rdF (up .run) pgSTC 0x0E4 0 16 * 2 ^ 32 + (rd (up .run) pgSTC 0x0E0).toNat ∧
    rdB (put (up .run) pgSTC 0x0DC 0x10000) pgSTC 0x0DC 16 = true ∧ rdB (put (up .run) pgSTC 0x0DC 0x20000) pgSTC 0x0DC 17 = true ∧
    rdB (clocked 8 Stc.reset) pgSTC 0x080 3 = true ∧
    (phaseErr ((clocked 8 Stc.reset).stc.cnt + (BitVec.ofNat 16 (rdF (clocked 8 Stc.reset) pgSTC 0x100 16 16)).toInt * nsU)).natAbs ≤
      (clocked 8 Stc.reset).stc.incr := by and_intros <;> decide +kernel
/-- A counter one second on, locked in mode 1 to input 0, whose last edge was at 0. -/
def locked1 : State :=
  let s := clocked 1 { Stc.reset with
    st := .locked, src := 1, pps0 := { TSrc.reset with qual := true, lastEdge := some 0 }, cnt := secU }
  put s pgSTC 0x088 1
/-- A good edge of input 0. -/
def edge0 : PpsEdge := { input := 0, sub := 0, width := 1000, rising := true }
/-- TimeInputsDisciplineTheCounter: an edge of the active direction on an unqualified input and in the window; an edge missed;
an IRIG frame, 2 s without IRIG and without PTP; holdover beyond its limit. -/
theorem met_inputs : edge0.rising ≠ rdB locked1 pgSTC 0x098 0 ∧ rdF locked1 pgSTC 0x098 8 8 ≤ edge0.width ∧
    stcMode (up .run) = 0 ∧ (up .run).stc.src = 0 ∧ (tsrc (up .run) 1).qual = false ∧ (tsrc (up .run) 1).lastEdge = none ∧
    prioList locked1 = [1, 0, 0, 0] ∧ inWindow locked1 (tsrc locked1 1) (cntAt locked1 0) = true ∧
    (phase16 (cntAt locked1 0)).natAbs ≤ unlockThr locked1 ∧ (phase16 (cntAt locked1 0)).natAbs ≤ slewLimit locked1 ∧
    locked1.clk.onIntOsc = false ∧ locked1.stc.setEdge = none ∧
    (let s := { locked1 with stc := { locked1.stc with cnt := 2 * secU } }
     (0 : Int) + ((tsrc s 1).bad + 1) * secU + ppsWindow s ≤ s.stc.cnt + s.stc.incr) ∧
    rdB (put (late (up .run) 2000) pgSTC 0x0F0 1) pgSTC 0x0F0 0 = true ∧ (late (up .run) 2000).stc.irigAt + 2000 * msN ≤ 2000 * msN ∧
    (let s := { put (late (up .run) 9000000) pgSTC 0x09C (w32 (1 + 2 ^ 16)) with stc := { Stc.reset with st := .holdover } }
     rdF s pgSTC 0x09C 16 16 * 10 * 1600000000000 < rdF s pgSTC 0x09C 0 16 * (s.now - s.stc.holdAt)) := by
  and_intros <;> decide +kernel
/-- The same: the first good IRIG frame of a decoder that is on, of format B004 and zone 0, and the next, the last of a minute; on
an input that is not qualified, in mode 0. -/
def irig1 : IrigFrame := ⟨7, true, true, 26, 1, 0, 0, 59, 0⟩
theorem met_irig :
    (let s := put (up .run) pgSTC 0x0F0 9
     rdB s pgSTC 0x0F0 0 = true ∧ irig1.markersOk = true ∧ irig1.digitsOk = true ∧ irig1.second < 60 ∧ s.stc.irigPrev = none) ∧
    (let s := put (clocked 0 { Stc.reset with irigPrev := some 1767225658 }) pgSTC 0x0F0 9
     rdB s pgSTC 0x0F0 0 = true ∧ s.stc.irigPrev = some 1767225658 ∧ irigSeconds s irig1 = ((1767225658 : Nat) : Int) + 1 ∧
       stcMode s = 0 ∧ s.stc.src = 0 ∧ rdB s pgSTC 0x080 4 = false ∧ s.stc.irig.qual = false ∧
       rdB (put s pgSTC 0x0DC 0x10000) pgSTC 0x0DC 16 = true) := by and_intros <;> decide +kernel

/-- PillowMemoryCommands: a scrub at the start and at the end of a bank, a period late; a bank that wakes, and code memory. -/
def waking : State :=
  let s := up .run
  { s with
    pwr := { s.pwr with doms := [(384, .changing)] }
    mem := { s.mem with bankPwr := [(0, .waking)], codeRetain := [0] } }
theorem met_pillow : pagePowered (up .run) (pgPIL 0) = true ∧ rdB (put (up .run) (pgPIL 0) 0x080 1) (pgPIL 0) 0x080 0 = true ∧
    scrubPos (up .run) 0 % 2 ^ 15 = 0 ∧ scrubPos (setScrub (up .run) 0 32767) 0 % 2 ^ 15 + 1 = 2 ^ 15 ∧
    (up .run).mem.bankBad = [] ∧ (up .run).mem.codeBad = [] ∧
    (let s := late (up .run) 10000; SMap.get s.mem.scrub 0 16 + rdF s (pgPIL 0) 0x084 0 10 * msN ≤ s.now) ∧
    (up .run).mem.scrubLate = [] ∧
    bankPwr waking 0 0 = .waking ∧ 0 ∉ waking.pwr.wakeLate ∧ 0 ∈ waking.mem.codeRetain ∧ domSt waking 384 = .changing := by
  and_intros <;> decide +kernel

/-- BanksAreLeasedToTheHost: a bank's lease in each of its states; the aperture's first and last word. -/
def leased (l : LeaseSt) : State := setLease (put (up .service) (pgSE1 0) 0x080 1) 0 0 l
theorem met_leases : pagePowered (leased .free) (pgSE1 0) = true ∧ lockOpen (leased .free) .lease = true ∧
    leaseOf (leased .free) 0 0 = .free ∧ leaseOf (leased .leased) 0 0 = .leased ∧ leaseOf (leased .pending) 0 0 = .pending ∧
    leaseOf (leased .releasing) 0 0 = .releasing ∧ (∀ i < 2048, ownOf (leased .pending) 0 (0 * 2048 + i) = 0) ∧
    bits (rd (leased .leased) pgSE1C 0x080) 0 4 = 0 ∧ bits (rd (leased .leased) pgSE1C 0x080) 4 3 = 0 ∧
    rdF (leased .leased) (pgSE1 0) (0x080 + 4 * 0) 0 2 = 1 ∧ pagePowered (leased .leased) pgSE1C = true ∧ 0x1FFFC < 0x20000 := by
  and_intros <;> decide +kernel

/-- HostRingsPostAndSignal: a ring disabled, enabled with room, full; a timer that has expired; a sleeping host; sizes. -/
def ring (cfg : W32) (head : Nat) : State :=
  let s := up .run
  { s with hif := { s.hif with cpl := [(0, { Ring.reset with cfg := cfg, head := head, timer := some 0 })] } }
theorem met_rings : (cplRing (ring 4 0) 0).en = false ∧ (cplRing (ring 0x400414 15) 0).en = true ∧
    (cplRing (ring 0x400414 15) 0).full = true ∧ (cplRing (ring 0x400414 0) 0).full = false ∧
    bits (cplRing (ring 0x400414 0) 0).cfg 10 10 ≠ 0 ∧ (cplRing (ring 0x400414 0) 0).count + 1 < bits (cplRing (ring 0x400414 0) 0).cfg 20 6 ∧
    physBad (ring 0x400414 0) ((cplRing (ring 0x400414 0) 0).entry 32 0) 32 = false ∧ bit (0x80000000 : W32) 31 = true ∧
    bits (0x80000000 : W32) 0 6 = 0 ∧ (ring 4 0).hif.stalled = none ∧ (ring 4 0).hif.held = [] ∧ (ring 4 0).hif.dma = [] ∧
    (ring 4 0).hif.hostClock = true ∧ (cplRing (ring 4 0) 0).timer = some 0 ∧ (selRing (ring 4 0)).en = false := by
  and_intros <;> decide +kernel

/-- RecordsAreStored: a record at the head of the queue of a store that is ready, a full queue, the newest checkpoint. -/
def storing : State :=
  let s := up .run
  { s with nvr := { s.nvr with
      queue := [⟨0, 0, 0, 0, 12, 0, 0, 0, 0⟩], ready := true, rdBusy := true, checkpoints := [(0, [0, 7])] } }
theorem met_records : storing.nvr.queue ≠ [] ∧ storing.nvr.ready = true ∧ storing.nvr.sinceCheck + 1 < 4096 ∧
    rdB storing pgNVR 0x080 0 = false ∧ rdB storing pgHIF 0x080 0 = false ∧ storing.nvr.queue.length < 1024 ∧
    storing.nvr.rdBusy = true ∧ unitOff storing ⟨RUnit.nvr.cls, 0, 0⟩ = false ∧ (up .run).nvr.ready = false := by and_intros <;> decide +kernel

/-- TheDramChannelTrainsAndReports: the channel in training and READY, its migration, its self-refresh. -/
def channel (x : DraState) : State :=
  let s := put (up .service) pgDRA 0x080 3
  { s with dra := { s.dra with st := x, training := true, migrating := true } }
theorem met_channel : pagePowered (channel .training) pgDRA = true ∧ lockOpen (channel .training) .bootSvc = true ∧
    (channel .training).dra.st = .training ∧ bit (0x10000 : W32) 16 = true ∧ curMode (channel .training) = .service ∧
    rdB (channel .ready) pgDRA 0x080 0 = true ∧ rdB (channel .ready) pgDRA 0x080 1 = true ∧ (channel .ready).dra.st ≠ .off ∧
    (channel .ready).dra.migrating = true ∧ rdB (channel .ready) pgDRA 0x0D0 31 = false ∧ masksOk (channel .training) = true ∧
    (let s := late { channel .ready with dra := { (channel .ready).dra with migrating := false } } 1
     s.dra.migrating = false ∧ s.dra.idleFrom + rdF s pgDRA 0x080 8 8 * usN ≤ s.now) := by
  and_intros <;> decide +kernel

/-! ### The hypotheses of statements are met: the Whorl -/

/-- A ply on bobbin 0 in strand-cache slot 0. -/
def ply0 (st : SState) : Ply :=
  ⟨0, some 0, st, 0, false, false, false, [], none, none, false, none, 0, 0, 0, [], [], [], false, Side.reset⟩
/-- Strand 0 with a first word of its declaration. -/
def strand0 (d : W32) (ps : List Ply) : Strand :=
  ⟨0, [d, 0, 0, 0, 0, 0, 0, 0], ps, [], 0, [], none, false, false, false, false, [], 0, []⟩
/-- The engine in a mode with strand 0 and bobbin 0 as given. -/
def whorl (m : Mode) (d : W32) (ps : List Ply) (k : Core) : State :=
  let s := up m
  { s with whrl := { s.whrl with strands := [(0, some (strand0 d ps))] }, cores := [(0, k)] }
/-- Bobbin 0 idle, and running its strand as user code. -/
def idle : Core := { Core.reset with pstate := .idle }
def user : Core :=
  { calmCore [] [] with pstate := .strand, pset := false, strand := some ⟨0, 0, 0⟩, modes := { Core.reset.modes with level := .u } }

/-- WhorlCommandsComplete: a window that has ended, a tracking tick that is due. -/
def ticking (m : W32) : State :=
  let s := up .run
  { s with
    whrl := { s.whrl with eff := [(tlOff 0 0, m)], lines := [(0, { Line.reset with running := true, nominal := 0 })] }
    stc := { s.stc with cnt := 2 ^ 60 } }
theorem met_lines : (tline (ticking 1) 0).running = true ∧ tlMode (ticking 1) 0 = 1 ∧ tlMode (ticking 2) 0 = 2 ∧
    (tline (ticking 1) 0).nominal + tlWindow (ticking 1) 0 ≤ cntAt (ticking 1) 0 ∧ (tline (ticking 2) 0).nominal ≤ cntAt (ticking 2) 0 := by
  and_intros <;> decide +kernel

/-- A record of class M released by a message and with one ply. -/
def msgM : W32 := 0x436
/-- A state in which a strand command has strand 0, whose record is in DRAM, before it. -/
def commanded (ps : List Ply) : State :=
  let s := put (whorl .configure msgM ps idle) pgPRCK 0x094 0xFFFE
  { s with
    whrl := { s.whrl with strands := if ps = [] then [] else s.whrl.strands }
    dra := { s.dra with st := .ready, mem := [(0, 0x36), (1, 4)] } }
/-- WhorlCommandsComplete: commands in CONFIGURE on a strand that does not exist, is SUSPENDED, FAULTED or STAGED. -/
theorem met_strand_commands : WhrlReady (commanded []) ∧ scmdIdx (commanded []) = 0 ∧ (createStrand (commanded []) 0 [] none).1 = 2 ∧
    classRefused (commanded []) 2 true = false ∧ (commanded []).hif.hostClock = true ∧
    (∀ p ∈ [ply0 .suspended], p.st = .suspended) ∧ WhrlReady (commanded [ply0 .faulted]) ∧
    strand (commanded [ply0 .suspended]) 0 = some (strand0 msgM [ply0 .suspended]) ∧
    classRefused (commanded [ply0 .suspended]) (dCls [msgM]) false = false ∧ (∃ p ∈ [ply0 .staged], p.st ≠ .free ∧ p.st ≠ .faulted) := by
  refine ⟨by unfold WhrlReady; decide +kernel, ?_, ?_, ?_, ?_, ?_, by unfold WhrlReady; decide +kernel, ?_, ?_, ?_⟩ <;> decide +kernel

/-- A state in which bobbin 0 runs strand 0, of class M, and strand 1, of class C, is READY behind it. -/
def contended : State :=
  let s := whorl .run msgM [ply0 .running] user
  { s with whrl := { s.whrl with strands := s.whrl.strands ++ [(1, some { strand0 0x435 [{ ply0 .ready with slot := some 1 }] with id := 1 })] } }
/-- WhorlCommandsComplete: a READY strand and an idle bobbin, a strand of class C that takes the bobbin, a used budget, a sleeping
core, a timer and a timeout. -/
theorem met_strand_events :
    (let s := whorl .run msgM [ply0 .ready] idle
     firstReady s 0 = some (0, 0) ∧ domSt s 0 = .on ∧ partnerSwitching s 0 0 = false ∧
       (loadOn s 0 ⟨0, 0, 0⟩ [] (ply0 .ready).side {}).1 = none ∧ (Machine.core s 0).switch = none) ∧
    ((Machine.core contended 0).strand = some ⟨0, 0, 0⟩ ∧ (1, 0) ∈ readyOn contended 0 ∧ dCls [msgM] = 2 ∧ dCls [(0x435 : W32)] = 1 ∧
      partnerSwitching contended 0 0 = false) ∧
    budgetHandler user = false ∧ canRecognise user = true ∧ dTrig [(0x426 : W32)] = 2 ∧
    (let s := whorl .run 0x426 [{ ply0 .waiting with waitFor := some (.msAt 0) }] idle
     0 ≤ s.stc.cnt + s.stc.incr ∧ s.stc.cnt ≤ (s.stc.cnt + 1000 * nsU) / (1000 * nsU) * (1000 * nsU)) ∧
    Enters {} := by
  refine ⟨by decide +kernel, by decide +kernel, by decide +kernel, by decide +kernel, by decide +kernel, by decide +kernel,
    by unfold Enters; decide⟩
/-- The same: a handler of BUDGET and a handler of a fault of U stand in their frames. -/
theorem met_strand_frames :
    (let fr := fun v => [nat 0, nat 0, nat 0, nat 0, nat v, nat 0, ret 64]
     let k := fun v => { user with pset := true, rsP := stk (fr v), gateReg := some ⟨0, 0, 0, 0⟩, budgetOver := decide (v = 13) }
     budgetHandler (k 13) = true ∧ openFrame (drain (k 2)) = some (2, 0, 64, [0, 0, 0]) ∧
       (strand (saveU (whorl .run msgM [ply0 .running] (k 2)) 0 (drain (k 2)) ⟨0, 0, 0⟩) 0).isSome = true) := by
  and_intros <;> decide +kernel

/-! ### The hypotheses of statements are met: the Pricking unit -/

/-- A state in which ply 0 of strand 0 moves to bobbin 16, staged, and pillow 1 is on. -/
def moving : State :=
  let s := whorl .run msgM [ply0 .staged] idle
  { s with pwr := { s.pwr with freq := [(1, 100)] }, prck := { s.prck with migs := [⟨0, 0, 0, 16, 0, 8, true, 0, 64, none, 0, 0, 0, []⟩] } }
/-- A state in which strand 0 is parked, its image in DRAM zero words, and is being fetched. -/
def parked (staging : Bool) : State :=
  let s := whorl .run msgM [{ ply0 .parked with slot := none, staging := staging }] idle
  { s with dra := { s.dra with st := .ready }, prck := { s.prck with rotaSince := 0 } }
/-- PrickingCommandsComplete: a copy whose target clock is fast enough, an image to stage and one that is there, steps of the rotas. -/
theorem met_pricking : pagePowered moving pgPRCK = true ∧ (migOf moving 0 0).isSome = true ∧
    pilFloor moving 1 ≤ pilFreq moving 1 ∧ moving.hif.hostClock = true ∧ copyable (ply0 .staged) = true ∧
    rdB (put moving pgPRCK 0x080 0) pgPRCK 0x080 0 = false ∧ rdB (put moving pgPRCK 0x080 0) pgPRCK 0x080 4 = false ∧
    (parkBandwidth (parked true) (stageAhead (parked true) 0 (strand0 msgM []) (ply0 .parked))).1 = true ∧
    freeSlot (parked true) 0 = some 0 ∧ (parked true).dra.poison = [] ∧
    (up .run).prck.proving = [] ∧ (up .run).prck.retry = [] ∧
    (let s := late (put (up .run) pgPRCK 0x080 2) 100000000
     rotaDue s s.prck.rotaBAt 256 = true ∧ rotaDue s s.prck.rotaKAt 128 = true ∧ rotaDue s s.prck.rotaLAt 96 = true) ∧
    (∀ m ∈ moving.prck.migs, moveStill moving m = true ∧ (∀ a ∈ moveReads moving m, a ∉ moving.mem.bankBad)) ∧
    laneOn (port 1) 0 = true ∧ rotaIn (port 1) (pgLANE 0) (laneUnit 0) = true ∧ rotaFree (port 1) (.lane 0) = true ∧
    rotaIn (put (up .run) (pgBOB 0) 0x038 1) (pgBOB 0) (bobUnit 0) = true ∧
    rotaFree { port 1 with selv := { (port 1).selv with tests := [⟨laneUnit 0, .request, [], .waiting, 0, 0⟩] } } (.lane 0) = false ∧
    laneOn (up .run) 0 = false ∧
    laneMode (up .run) 0 = 0 ∧ pillowsNeeded moving ≤ eligible moving (w32 (bits (1 : W32) 0 16)) := by
  and_intros <;> decide +kernel
/-- The same: a heartbeat with an entry for an own strand; a shadow that has taken over. -/
theorem met_heartbeats : (interRx (put boss pgPRCK 0x080 8) inter).1 = true ∧
    rdB (interRx (put boss pgPRCK 0x080 8) inter).2 pgPRCK 0x080 3 = true ∧ idEngine 0 = (up .run).glb.engineNum ∧
    (strand moving 0).map (·.id) = some 0 ∧ bit (2 : W32) 1 = true ∧ rdF moving pgPRCK 0x0A8 0 21 = 0 := by
  and_intros <;> decide +kernel

/-! ### The hypotheses of statements are met: lanes, publications, outputs and inputs -/

/-- LaneCommandsComplete: a lane in each mode; a frame to send; a subscription's frame; a ring entry; the checks pass. -/
theorem met_lanes : laneOn (port 1) 0 = true ∧ laneMode (port 1) 0 ≠ 3 ∧ (lane (port 1) 0).signal = true ∧
    laneMode (port 0x82) 0 = 2 ∧ portB (port 0x82) (pgLANE 0) 0x080 7 = true ∧ portB (port 2) (pgLANE 0) 0x080 7 = false ∧
    laneMode (port 3) 0 = 3 ∧ laneAway (port 3) 0 = false ∧ (lane (port 3) 0).c37Good = 0 ∧ portF (port 3) (pgLANE 0) 0x080 3 4 = 0 ∧
    (lane (port 1) 0).eqEnd < 9 ∧ (rxChecks (snagFire (port 1) (pgLANE 0) [1]).2 (fr 0x88BA)).1 = true ∧ (rxChecks (port 1) (fr 0x88F7)).1 = true ∧
    frameClass (port 1) (fr 0x88BA) = .sv ∧ frameClass (port 1) (fr 0x88B8) = .goose ∧ frameClass (port 1) (fr 0x88F7) = .ptp ∧
    frameClass (port 1) (fr 0x88FB) = .supervision ∧ frameClass (port 1) (fr 0x0800) = .other ∧ (interRx (port 1) inter).1 = true ∧
    (let least := rdF (port 1) (pgLANE 0) 0x094 0 8 * 10
     (least - 1 < least ∧ 10000 ≤ 10000) ∧ least + 20 < least + 21) ∧
    svHits (port 1) ⟨fr 0x88BA, 0x4000, none, false, [], true⟩ = [] ∧ authNeeded (port 1) 0 [] = false ∧
    isPause (fr 0x0800) = false ∧ isPause (fr 0x8808) = true ∧ supDue (port 0x101) 0 = true ∧
    supDue { port 0x101 with fport := { (port 0x101).fport with supAt := [(0, some 0)] } } 0 = false ∧
    ptpEvent (List.replicate 64 0) = false ∧
    ptpOn (port 0x801) 0 = true ∧ destRoom (port 1) (strand0 msgM [ply0 .staged]) = true := by
  and_intros <;> decide +kernel
/-- The same: what is queued first is sent; the guard's opening; a lane of a pair. -/
theorem met_sending :
    (let s := port 1
     let f : TxFrame := ⟨3, 64, .forwarded (List.replicate 60 0), none, none, .none, 0, false⟩
     let t := setLane s 0 { lane s 0 with tx := [f] }
     firstFrame (lane (guardUpdate t 0) 0) = some f ∧ (lane t 0).guardOpen = false ∧ nextGuard (guardUpdate t 0) 0 = none ∧
       (lane t 0).busyUntil ≤ t.now ∧ laneAway t 0 = false) ∧
    laneRed (port 0x101) 0 ≠ 0 ∧
    rdB (put (ticking 1) (pgLANE 0) 0x090 1) (pgLANE 0) 0x090 0 = true ∧
    (tline (ticking 1) 0).nominal ≤ (ticking 1).stc.cnt + (ticking 1).stc.incr := by
  and_intros <;> decide +kernel

/-- A publication in slot 9 that a comparison holds open, due to be sent again, and an output with an open vote. -/
def publishing : State :=
  let s := late (up .run) 1000
  { s with pio := { s.pio with
      pubs := [(9, some ⟨[], [], [], some (0, 0, []), false, false, [], 0, 0, 0, 0, 0, 0, some 0, []⟩)]
      outs := [(3, { Out.reset with deferred := some (0, nat 1) })]
      bins := [(4, { Bin.reset with first := some (0, 0, 0), raw := true, supp := true })] } }
/-- OutputCommandsComplete. -/
theorem met_outputs : (pub? publishing 9).bind (·.open') = some (0, 0, []) ∧ dueBy publishing (0 + pubWin publishing) = true ∧
    (pub? publishing 9).map (·.due) = some (some 0) ∧ dueBy publishing 0 = true ∧ (outp publishing 3).deferred = some (0, nat 1) ∧
    outHeld publishing 3 = false ∧ pagePowered publishing pgTRIP = true ∧ pagePowered publishing pgBIO = true ∧
    binOn (put publishing pgBIO (0x100 + 16) 0x200) 4 = true ∧
    (unitRec (setUnitRec publishing bioUnit { UnitRec.reset with retired := true }) bioUnit).retired = true := by
  and_intros <;> decide +kernel
/-- The same: the image of a parked strand whose place in DRAM holds zeros is accepted for the strand of ID 0. -/
theorem met_image : imageRefused ((List.range 64).map fun j => ctxGet (parked true) 0 { ply0 .parked with slot := none } j) 0 = false := by
  have h : (fun j => ctxGet (parked true) 0 { ply0 .parked with slot := none } j) = fun _ => TWord.ofContainer 0 := by
    funext j; rfl
  rw [h]; decide +kernel

/-! ### The hypotheses of statements are met: power, modes, the Selvedge, security -/

/-- PowerAndClockCommandsComplete: a domain and a bank on their way, a bobbin that may sleep, one that is needed, a pillow's loop. -/
theorem met_power : curMode State.reset ≠ .off ∧ curMode { State.reset with mode := { State.reset.mode with cur := .off } } = .off ∧
    domSt waking 384 = .changing ∧ 384 ∉ waking.pwr.late ∧ bankPwr waking 0 0 = .waking ∧
    (let s := put (whorl .run 0x436 [ply0 .suspended] idle) pgPWR 0x080 1
     domSt s 0 = .on ∧ (Machine.core s 0).pstate = .idle ∧ (Machine.core s 0).haltReq = .none ∧ rdB s pgPWR 0x080 0 = true ∧
       rdB s (pgBOB 0) 0x008 1 = false ∧ nextRelease s 0 = none ∧ readyOn s 0 = [] ∧ unitTested s (bobUnit 0) = false) ∧
    (let s := whorl .run 0x436 [{ ply0 .ready with bob := 1 }] idle
     domSt s 1 = .off ∧ domSt s (384 + pilOf 1) = .on ∧ (curMode s).runs = true ∧ (unitRec s (bobUnit 1)).retired = false ∧
       readyOn s 1 ≠ []) ∧
    (0 ∉ (up .run).pwr.regBad ∧ (up .run).clk.monBad = [] ∧ lockOpen served .bootSvc = false ∧ lockOpen (up .service) .bootSvc = true) ∧
    (rdB (put (up .run) pgSEC 0x080 3) pgSEC 0x080 0 = true ∧ rdB (put (up .run) pgSEC 0x080 0) pgSEC 0x080 0 = false ∧
      dbgLevel { up .run with fuses := { Fuses.reset with state := .deployed } } = 0) ∧
    domSt (up .run) (pllDom .spindle) = .on ∧ domSt (up .run) (pllDom (.pillow 0)) = .on ∧
    domSt (up .run) (pllDom (.portGroup 0)) = .on := by
  and_intros <;> decide +kernel

/-- A mode command of the host's. -/
def cmd (force : Bool) : ModeCmd := { who := .host, key := 0xC3, force := force }
/-- ModeCommandsEnterTheirModes: a command that is admitted in each mode; SERVICE in each life-cycle state that permits it. -/
theorem met_modes : Commanded (up .keep) (cmd false) ∧ Commanded (up .boot) (cmd true) ∧
    ((up .keep).fuses.state ≠ .scrapped ∧ (up .keep).fuses.fused ≠ .scrapped ∧ (up .service).spn.connected = false ∧
      (cmd true).force = true ∧ serviceOk served = true ∧ served.hif.hostClock = true ∧
      stillChanging { up .configure with mode := { (up .configure).mode with busy := true, target := .armed } } = false) := by
  refine ⟨by unfold Commanded; decide +kernel, by unfold Commanded; decide +kernel, by and_intros <;> decide +kernel⟩

/-- A state with an error of the Whorl's carried to the Selvedge, and a test of bobbin 0 that waits, or that runs. -/
def erring (ph : TestPhase) : State :=
  let s := late (up .service) 100
  { s with selv := { s.selv with
      occ := [⟨pgWHRL, 0, 0, [], false, true⟩], tests := [⟨⟨RUnit.bob.cls, 0, 0⟩, .request, [], ph, 0, 2 * msN⟩]
      fnOn := true, armedOnce := true } }
/-- SelvedgeCommandsComplete: an error of each route, a test that may start and one that runs, the quiet period of SAFE, FAULT_N. -/
theorem met_selvedge : (up .run).selv.occ = [] ∧ pageUnit pgWHRL = some (.whrl, 0) ∧
    RUnit.cls .whrl ≠ RUnit.cls .eic ∧ curMode (erring .waiting) ≠ .off ∧ (testsRunning (erring .waiting)).length < 8 ∧
    ((erring .waiting).selv.tests.find? fun t => mayStart (erring .waiting) t).isSome = true ∧
    (runningTest (erring .running) (unitKey ⟨RUnit.bob.cls, 0, 0⟩)).isSome = true ∧ 0 + 4 * (2 * msN) ≤ (erring .running).now ∧
    degradedCond (up .degraded) = false ∧ (up .degraded).mode.busy = false ∧
    testUnits ⟨pgBOB 0, 0, 0, [], false, false⟩ .bob 0 2 = [⟨RUnit.bob.cls, 0, 0⟩] ∧
    (let s := put (late (up .safe) 1024) pgSELV 0x080 3
     rdB s pgSELV 0x080 1 = true ∧ s.selv.tests = [] ∧ s.selv.safeFailed = false ∧ s.selv.safeLatched = false ∧
       s.selv.quietFrom + rdF s pgSELV 0x0CC 0 10 * msN ≤ s.now) ∧
    (erring .waiting).selv.fnUntil ≤ (erring .waiting).now ∧ rdB (put (up .run) pgSELV 0x0D0 0) pgSELV 0x0D0 0 = false ∧
    queried (put (up .service) pgSELV 0x0DC (w32 RUnit.bio.cls)) = bioUnit ∧
    (testLen (up .service) (queried (put (up .service) pgSELV 0x0DC (w32 RUnit.bob.cls)))).isSome = true ∧
    unitTested (up .service) (queried (put (up .service) pgSELV 0x0DC (w32 RUnit.bob.cls))) = false ∧
    rdB (put (up .run) pgSELV 0x080 4) pgSELV 0x080 2 = true := by
  and_intros <;> decide +kernel

/-- A key entry whose period is 10 to 20. -/
def key10 : KeyEnt := ⟨1, 2, 7, 10, 20, []⟩
/-- SecurityAndDebugCommandsComplete: SEC in service with no lockout; ends that have come; a grant of level 2 with a core halted, locked up and draining; the debug bus master at work. What the checks of images and key
blocks answer is opaque. -/
def dev (p : PState) (h : HaltReq) : State :=
  let s := put (up .run) pgDBG 0x088 1
  { s with fuses := { Fuses.reset with state := .deployed, fused := .deployed }
           sec := { s.sec with grant := some ⟨2, false, 10⟩ }
           cores := [(0, { Core.reset with pstate := p, haltReq := h })]
           mem := { s.mem with bankPwr := [(0, .on)] }
           dbg := { s.dbg with mem := some true, snagWas := true } }
theorem met_security : SecReady served ∧ served.hif.hostClock = true ∧ served.sec.lockUntil = none ∧ physBad served (imgAddr served) 512 = false ∧
    (pagePowered served pgLCY = true ∧ rdF served pgLCY 0x088 0 4 ≠ 1 ∧ secServes served = true ∧ pagePowered served pgKEY = true ∧
      rdF served pgKEY 0x090 0 4 ≠ 1 ∧ tampered served = false ∧ served.fuses.killed = false) ∧
    (pagePowered (dev .halted .none) pgDBG = true ∧ 2 ≤ dbgLevel (dev .halted .none) ∧
      (Machine.core (dev .halted .none) (selCore (dev .halted .none))).pstate = .halted ∧ selCore (dev .halted .none) ≤ 256 ∧
      rdF (dev .halted .none) pgDBG 0x0D0 0 4 ≠ 1 ∧
      bankPwr (dev .halted .none) (0 / 2 ^ 18) (0 / 2 ^ 15 % 8) = .on ∧ rdF (dev .halted .none) pgDBG 0x0C0 0 24 = 0 ∧
      snagAllowed (dev .halted .none) = false ∧ (dev .halted .none).mem.bankBad = []) ∧
    (Machine.core (dev .strand .pending) 0).haltReq = .pending ∧ bits (0x5A : W32) 0 8 = 0x5A := by
  refine ⟨by unfold SecReady; decide +kernel, ?_, ?_, ?_, ?_, ?_, ?_, ?_⟩ <;> (try and_intros) <;> decide +kernel
/-- The same: a core watchdog that has run out, and cores that run control finds halted, locked up and draining. -/
theorem met_debug : (let s := late (put (dev .strand .none) (pgBOB 0) 0x0B4 1) 1000000000
      coreWdogRuns s 0 = true ∧ (Machine.core s 0).wdogDue + wdogLen s 0 ≤ s.now ∧ rdB s pgDBG 0x0DC 31 = false) ∧
    ((rcCores (dev .halted .none)).filter fun c => decide ((Machine.core (dev .halted .none) c).pstate = .halted)) ≠ [] ∧
    ((rcCores (dev .lockedUp .none)).filter fun c => decide ((Machine.core (dev .lockedUp .none) c).pstate = .lockedUp)) ≠ [] ∧
    ((rcCores (dev .strand .draining)).filter fun c => decide ((Machine.core (dev .strand .draining) c).haltReq = .draining)) ≠ [] := by
  and_intros <;> decide +kernel

/-- RegisterWritesKeepTheirWidthAndPlace: a place no table lists, a read-only register, a page without power. -/
theorem met_window : curMode served ≠ .off ∧ Who.host ≠ Who.debug ∧ pageUnit pgSELV = some (.selv, 0) ∧
    RUnit.row? .selv 0x140 = none ∧ (RUnit.row? .selv 0x084).map (·.acc) = some .ro ∧ pagePowered served pgSELV = true ∧
    pageUnit (pgPIL 1) = some (.pil, 1) ∧ pagePowered (up .keep) (pgPIL 1) = false := by and_intros <;> decide +kernel
/-- LockedRegistersAreWrittenInTheirModes: both kinds of mode, SEC with power and busy, the refused values' edges. -/
theorem met_locks : (curMode served).cfgSvc = true ∧ pagePowered served pgSEC = true ∧
    rdF (wr served pgSEC 0x098 1) pgSEC 0x098 0 4 = 1 ∧ pagePowered (wr served pgSEC 0x098 1) pgSEC = true ∧
    bits (1000 : W32) 0 10 = 1000 ∧ bits (0 : W32) 0 10 < 1 ∧ 5 ≤ bits (5 : W32) 0 8 ∧
    ((curMode (up .run)).cfgSvc = false ∧ curMode (up .run) ≠ .off ∧ pagePowered (up .run) pgSEC = true) := by
  and_intros <;> decide +kernel
/-- EngineWatchdogExpiresAfterItsPeriod: enabled and disabled. -/
theorem met_watchdog : curMode served ≠ .off ∧ served.selv.wdogHeld = none ∧ (0xA5 : W32).toNat % 256 = 0xA5 ∧
    rdB served pgSELV 0x080 3 = true ∧ rdB (wr served pgSELV 0x080 7) pgSELV 0x080 3 = false ∧
    rdF served pgSELV 0x0D4 0 10 = 100 := by and_intros <;> decide +kernel
/-- SvnCommitRaisesTheCounters: in CONFIGURE and in RUN. -/
theorem met_svn : SecReady served ∧ (curMode served).cfgSvc = true ∧ SecReady (up .run) := by unfold SecReady; decide +kernel
/-- KeysServeTheirPeriodAndAreErased: an entry, a domain in service and one that is retired. -/
theorem met_keys : curMode served ≠ .off ∧ pagePowered served pgKEY = true ∧ secServes served = true ∧
    SMap.get [(0, some key10)] none (rdF served pgKEY 0x094 0 10) = some key10 ∧
    (let s := setUnitRec served ⟨RUnit.sec.cls, 0, 0⟩ ⟨true, [], 0, false⟩
     secServes s = false ∧ pagePowered s pgKEY = true ∧ curMode s ≠ .off) ∧
    authOk { served with
      sec := { served.sec with keys := [(0, some key10)] }
      stc := { served.stc with st := .locked, cnt := 15 * secU } } (some ⟨7, 1, 2, true⟩) = true := by
  and_intros <;> decide +kernel

/-! ### The hypotheses of statements are met: strands' words, the spindle's words, events of cores -/

/-- Bobbin 0 at a word of strand 0, of class M or P, which has output 3 and publication slot 9 and a message queued or none. -/
def running (d : W32) (q : List Nat) : State :=
  let k := { user with dsU := stk [nat 7, nat 6, nat 5] }
  let s := holds k
  { s with
    whrl := { s.whrl with strands := [(0, some (strand0 d [{ ply0 .running with queue := q }]))] }
    pio := { s.pio with
      outs := [(3, { Out.reset with owner := some 0 })]
      pubs := [(9, some ⟨[0, 0, 0, 0, 0, 0, 0, 0, 0], [], [], none, false, false, [], 0, 0, 0, 0, 0, 0, none, []⟩)] } }
/-- StrandWordsComplete: its bobbin is quiet, its strand owns what it writes, SEND's words and status fit; a message that waits. -/
theorem met_strand_words : Quiet (running 0x436 []) 0 ∧ Quiet (running 0x404 [3]) 0 ∧ atUser (at_ (running 0x436 []) 0) = true ∧
    outsOf (running 0x436 []) 0 = [3] ∧ pubsOf (running 0x436 []) 0 = [9] ∧ Fits (at_ (running 0x436 []) 0) 1 1 0 ∧
    Takes (at_ (running 0x436 []) 0) 1 (.plain intIn) ∧ Fits (at_ (running 0x436 []) 0) (1 + 1) (1 + 1) 1 ∧
    tagCauses (at_ (running 0x436 []) 0) [(.plain [.nat], nat 5)] = none ∧
    tagCauses (at_ (running 0x436 []) 0) [(.plain sendable, nat 6)] = none ∧ (at_ (running 0x436 []) 0).ds.depth ≤ 6 ∧
    partnerSwitching (running 0x436 []) 0 0 = false ∧ dCls [(0x436 : W32)] ≠ 0 ∧ dCls [(0x404 : W32)] = 0 ∧
    lw.env.seq.fetches = [] ∧ (4095 : BitVec 12).toNat = commitMarker ∧
    ((ply? (running 0x436 []) 0 0).map fun p => SMap.get p.trips 0 3) = some 0 := by
  unfold Fits Takes Quiet Still Inside
  and_intros <;> decide +kernel

/-- The spindle at a word in L1 with line 2, which the argument address names, in L2, and reserved. -/
def spindle' (lv : Level) (ds : List TWord) (line : List (Nat × L2Line)) : State :=
  { up .run with
    fuses := { Fuses.reset with state := .deployed, fused := .deployed }
    cores := [(256, { Core.reset with
      pstate := .strand, pset := false, pc := 4096, dsU := stk ds, modes := { Core.reset.modes with level := lv } })]
    spn := { State.reset.spn with
      connected := true, l1i := [64], l2 := line, mar := [(0, 5), (1, 7)], rsv := some 2, rsvHold := true } }
/-- A word of the spindle. -/
abbrev sw : LWord := ⟨256, .al, {}⟩
/-- Line 2 held clean and exclusive. -/
abbrev host2 : State := spindle' .m [nat 5, nat 6, nat 0, nat 128] [(2, ⟨.e, zeroLine⟩)]
/-- SpindleWordsComplete: a quiet word, an address that serves loads, stores and cache words, a reservation that stands and one
that does not, FP64 operands. -/
theorem met_spindle : QuietSpn host2 sw ∧ Reaches host2 false 128 8 ∧ Reaches host2 true 128 8 ∧ FitsSpn host2 4 4 1 ∧
    ((readParts (spnHere host2) {} false (.load .dword false) (hostParts 128 8)).1.isSome = true ∧
      (storeMeets {} (hostParts 128 8) (spnHere host2)).1 = none ∧ tagCauses (Machine.core host2 spindle) (storeUses (Machine.core host2 spindle) .dword) = none ∧
      (host2.spn.rsv = some (128 / 64) ∧ (l2Get host2 2).st.owned = true) ∧ hostAllowed host2 (Machine.core host2 spindle) true 128 = true ∧
      inSpnWindow host2 128 = false ∧ (l2Get host2 3).st.held = false ∧
      (if lineDirty (spnHere host2) 2 = true then lineEcc (spnHere host2) {} 128 else (none, spnHere host2)).1 = none) ∧
    (let s := spindle' .m [flt 0x40000000, flt 5, flt 0x40100000, flt 0] []
     FitsSpn s 4 4 2 ∧ tagCauses (Machine.core s spindle) ((((Machine.core s spindle)).top 4).map fun x => (Use.arith [.flt], x)) = none ∧
       fxCheck (Machine.core s spindle) ⟨false, false, false, false, true, false⟩ = none) := by
  unfold QuietSpn Reaches FitsSpn
  and_intros <;> decide +kernel

/-- CoreEventsComplete: a store that fails as it drains, snoops of a held and a free line, a request and its answer, an idle bobbin
without a strand, a used budget and a late bus error at a recognition point, a patch that is being installed. -/
theorem met_core_events : (Machine.core host2 spindle).pstate ≠ .off ∧ host2.spn.connected = true ∧
    (host2.spn.rsvHold = true ∧ host2.spn.rsv = some 2) ∧ (l2Get host2 3).st ≠ .fp ∧ host2.spn.rsv ≠ some 3 ∧
    (let s := { host2 with spn := { host2.spn with reqs := [⟨3, false, 0, false, false⟩] } }
     (s.spn.reqs.find? fun r => decide (r.line = 3) && !r.retried).isSome = true ∧ s.spn.pend = none ∧ lineBad s 3 = false ∧
       (install s 3 ⟨.s, memLine s 3⟩).isSome = true) ∧
    pagePowered host2 pgSPN = true ∧ (Machine.core (whorl .run 0x436 [] idle) 0).strand = none ∧
    (let k := { user with budgetPend := true }
     canRecognise k = true ∧ k.strand.isSome = true ∧ budgetHandler k = false) ∧
    canRecognise { Machine.core host2 spindle with lbePend := true, modes := { Core.reset.modes with mask := 0 } } = true ∧
    rdF served pgUCS 0x0A0 0 4 ≠ 1 ∧ pagePowered served pgUCS = true ∧ seqBusy served 16 = false := by
  and_intros <;> decide +kernel

/-! ### Words of the spec's encoding tables -/

/-- The spec's own four words, worked through after R99: LIT.F 50.0; LD@A 0 | A+= 1; FMA | A+= 1; NZ BR −6. -/
theorem test_decode_worked : decodeKendil 0 {} 0x01109200 = .litF lw 0x109200 ∧
    decodeKendil 0 {} 0x83000201 = .ldAtA { aw with b := .aStep 1 } 0 ∧
    decodeKendil 0 {} 0x81C0C201 = .fma { aw with b := .aStep 1 } ∧
    decodeKendil 0 {} 0x223FFFFA = .br { lw with cond := .nz } 0x3FFFFA := by decide +kernel
/-- R75, R76: the words of zeros and ones, the codes 0x1FFF, a reserved major, a 1 in a field marked RSV, a spindle's major. -/
theorem test_decode_illegal : decodeKendil 0 {} 0 = .illegalInstruction lw .zeroWord ∧
    decodeKendil 0 {} 0xFFFFFFFF = .illegalInstruction lw .onesWord ∧ decodeKendil 0 {} 0x87FFC000 = .illegalInstruction lw .reservedA ∧
    decodeKendil 0 {} 0x80001FFF = .illegalInstruction lw .reservedB ∧ decodeKendil 0 {} 0x01C00000 = .illegalInstruction lw .reservedMajor ∧
    decodeKendil 0 {} 0x04800001 = .illegalInstruction lw .rsvOperand ∧
    decodeKendil 0 {} 0x08000000 = .illegalInstruction lw .wrongCore := by decide +kernel
/-- R89, R91, a word of each group: 0x07 FADD with both conditions of QN, SHL by 4, ROL by TOS, CRC.STEP, BREV 32, PICK 15, X.MUL.S; RPUSH.T with
DROP, A+=C −1, A=NOS and LBRK alone. -/
theorem test_decode_paired : decodeKendil 0 {} 0xE9C02201 = .fadd ⟨0, .qn, true, true, .aStep 1, {}⟩ ∧
    decodeKendil 0 {} 0x80C10000 = .shl aw (some 4) ∧ decodeKendil 0 {} 0x80F80000 = .rol aw none ∧
    decodeKendil 0 {} 0x82400000 = .crcStep aw ∧ decodeKendil 0 {} 0x824FC000 = .brev aw 31 ∧
    decodeKendil 0 {} 0x8007C000 = .pick aw 15 ∧ decodeKendil 0 {} 0x81A08000 = .xMul aw true ∧
    decodeKendil 0 {} 0x80008005 = .drop { aw with b := .rpushT } ∧ decodeKendil 0 {} 0x800005FF = .aStepCirc bw 0x1FF ∧
    decodeKendil 0 {} 0x80000602 = .aSetNos bw ∧ decodeKendil 0 {} 0x80000800 = .lbrk bw := by decide +kernel
/-- R84, long words: LOOP S 2 L 3, LOOP.I S 2 count 5 L 7, RETG, GATE 1023, PUB.WR slot 767 member 4095, CRC.BLK, CTL.RD 0x100; of
the spindle LD.H of a signed half, RSV.ST of a double word, DC.PF, CVT.DI. -/
theorem test_decode_long : decodeKendil 0 {} 0x02C20003 = .loop lw 2 3 ∧ decodeKendil 0 {} 0x03020147 = .loopI lw 2 5 7 ∧
    decodeKendil 0 {} 0x02800003 = .retg lw ∧ decodeKendil 0 {} 0x034003FF = .gate lw 1023 ∧
    decodeKendil 0 {} 0x03FFFEFF = .pubWr lw 767 4095 ∧ decodeKendil 0 {} 0x06400003 = .crcBlk lw ∧
    decodeKendil 0 {} 0x06800100 = .ctlRd lw 0x100 ∧ decodeKendil 256 {} 0x08000005 = .ldH sw .half true ∧
    decodeKendil 256 {} 0x09C00007 = .rsvSt sw .dword ∧ decodeKendil 256 {} 0x09000005 = .dcPf sw ∧
    decodeKendil 256 {} 0x0A00000A = .cvtDi sw := by decide +kernel

/-! ### One step -/

/-- The outcome is a next state with a property. -/
def leaves (o : Host.Outcome State Fault Refusal) (p : State → Bool) : Bool :=
  match o with
  | .next t => p t
  | _ => false

/-- R4: a half-word answers a bus error. -/
theorem test_width : leaves (exec (.registerWrite ⟨.host, pgSELV, 0x0D4, 2, 5, 0⟩) served)
    (fun t => decide (t.lastAccess = .busError) && decide (rd t pgSELV 0x0D4 = 100)) = true := by decide +kernel
/-- R599: SELV_WDOG takes PERIOD in CONFIGURE. -/
theorem test_wdog_write : leaves (exec (.registerWrite ⟨.host, pgSELV, 0x0D4, 4, 5, 0⟩) served)
    (fun t => decide (rd t pgSELV 0x0D4 = 5)) = true := by decide +kernel
/-- R6: an error bit set in the cycle of the write that clears it stays. -/
theorem test_w1c_race : leaves (exec (.registerWrite ⟨.host, pgSELV, 0x010, 4, 3, 2⟩) (raiseErr (raiseErr served pgSELV 0) pgSELV 1))
    (fun t => rdB t pgSELV 0x010 1 && !rdB t pgSELV 0x010 0) = true := by decide +kernel
/-- R641: the table counter rises to the SVN of the image in use. -/
theorem test_svn_commit : leaves (exec .svnCommit { served with sec := { served.sec with tbl := some ⟨1, 3, true⟩ } })
    (fun t => decide (t.fuses.svnTbl = 3 ∧ t.fuses.svnFw = 0)) = true := by decide +kernel
/-- R646: ERASE clears the entry of KEY_SEL and leaves another. -/
theorem test_key_erase : leaves (exec .keyErase { served with sec := { served.sec with keys := [(0, some key10), (1, some key10)] } })
    (fun t => decide (t.sec.keys = [(1, some key10)])) = true := by decide +kernel
/-- R114, by hand: 0xFFFF_FFFF + 1 as INT wraps to 0 and carries. -/
theorem test_add_wraps : leaves (exec (.add aw) (calm [int 0xFFFFFFFF, int 1] []))
    (fun t => let k := Machine.core t 0
      decide ((k.ds.peek 0).pay = 0 ∧ (k.ds.peek 0).ty = .int) && k.flags.z && k.flags.c && !k.flags.v && !k.flags.n) = true := by
  decide +kernel
/-- R158, by hand: 1.0 + 2.0 = 3.0 in binary32. -/
theorem test_fadd : (f32.add .rne 0x3F800000 0x40000000).1 = 0x40400000 := by decide +kernel
/-- R85, R173: BR −6 leaves its target to the delay slot. -/
theorem test_branch : leaves (exec (.br lw 0x3FFFFA) (calm [] []))
    (fun t => decide ((Machine.core t 0).pc = 17) && decide ((Machine.core t 0).delay ≠ none)) = true := by decide +kernel
/-- R97: a store to code memory takes an access fault and writes nothing. -/
theorem test_store_code : leaves (exec (.st aw) (calm [nat 1, adr 0x500000] [])) (fun t => decide (t.mem.bank = [])) = true := by
  decide +kernel

end Sys2Proof.Tests
end

section
/-!
SUPPORT. What an error leaves (R572), and what the register window answers (R4, R5, R610, R688): the statements about the scope.
-/

namespace Sys2Proof.Machine

/-! ### Errors -/

theorem carried_iff (s : State) (p n : Nat) : carried s p n = true ↔ rdB s p 0x018 n = true ∧ rdF s p 0x01C (2 * n) 2 ≠ 0 := by
  rw [carried, Bool.and_eq_true, decide_eq_true_iff, routeOf]

/-- Whether an error is carried does not depend on ERR_STATUS. -/
theorem carried_wr_status (s : State) (p n : Nat) (v : W32) : carried (wr s p 0x010 v) p n = carried s p n := by
  have h : ∀ o < 0x1000, o ≠ 0x010 → rd (wr s p 0x010 v) p o = rd s p o := fun o ho g =>
    rd_wr_other s p 0x010 p o v fun e => g ((rkey_inj ho (by omega)).1 e).2
  rw [Bool.eq_iff_iff, carried_iff, carried_iff]
  simp only [rdB, rdF, h 0x018 (by omega) (by omega), h 0x01C (by omega) (by omega)]

theorem raiseErr_regs (s : State) (p n sub : Nat) (named : List UnitId) (inj w : Bool) :
    (raiseErr s p n sub named inj w).regs = (wr s p 0x010 (setBit (rd s p 0x010) n)).regs := by
  rw [raiseErr_frame]

/-- An error occurs at the Selvedge where its enable is 1 and its route is not NONE, as they stood before it (R572). -/
theorem raiseErr_occ_append (s : State) (p n sub : Nat) (named : List UnitId) (inj w : Bool) :
    (raiseErr s p n sub named inj w).selv.occ = s.selv.occ ++
      (if rdB s p 0x018 n = true ∧ rdF s p 0x01C (2 * n) 2 ≠ 0 then [⟨p, n, sub, named, inj, w⟩] else []) := by
  rw [raiseErr_occ, carried_wr_status]
  by_cases h : carried s p n = true
  · rw [if_pos h, if_pos ((carried_iff s p n).1 h)]
  · rw [if_neg h, if_neg (mt (carried_iff s p n).2 h), List.append_nil]

/-! ### The pages of the window -/

/-- The alias of the target pages and the aperture are no unit's pages (R526, R534, R687). -/
theorem pageUnit_aliasOrAperture {n : Nat} (h : 0x600 ≤ n ∧ n < 0x800 ∨ aperLo ≤ n ∧ n < aperHi) : pageUnit n = none := by
  simp only [aperLo, aperHi] at h
  unfold pageUnit
  iterate 8 rw [if_neg (by omega)]

theorem not_alias_of_pageUnit {n i : Nat} {u : RUnit} (h : pageUnit n = some (u, i)) : ¬ (0x600 ≤ n ∧ n < 0x800) := fun g => by
  simp [pageUnit_aliasOrAperture (.inl g)] at h

theorem not_aperture_of_pageUnit {n i : Nat} {u : RUnit} (h : pageUnit n = some (u, i)) : ¬ (aperLo ≤ n ∧ n < aperHi) := fun g => by
  simp [pageUnit_aliasOrAperture (.inr g)] at h

/-! ### Reads and writes of the window -/

/-- A place from offset 0x080 up that the table of its page does not list reads 0 (R688). -/
theorem readReg_unlisted {s : State} {page off i : Nat} {u : RUnit} (hu : pageUnit page = some (u, i)) (ho : 0x080 ≤ off)
    (hr : u.row? off = none) : readReg s page off = 0 := by
  unfold readReg
  simp only [if_neg (not_alias_of_pageUnit hu), hu, if_neg (Nat.not_lt.2 ho), hr, ite_self]

/-- R4: a write of another width or alignment answers a bus error and does nothing else. -/
theorem execRegisterWrite_misplaced {s : State} {w : RegWrite} (hm : curMode s ≠ .off) (hw : w.who ≠ .debug)
    (h : w.size ≠ 4 ∨ w.off % 4 ≠ 0) : execRegisterWrite w s = .next { s with lastAccess := .busError } := by
  unfold execRegisterWrite
  rw [if_neg (not_or.2 ⟨hm, hw⟩), if_pos (h.imp_right .inl)]

/-- A write of an aligned word to a page of a unit: a warning event without power, else the unit's own answer. -/
theorem execRegisterWrite_page {s : State} {w : RegWrite} {u : RUnit} {i : Nat} (hm : curMode s ≠ .off) (hw : w.who ≠ .debug)
    (hs : w.size = 4) (ha : w.off % 4 = 0) (hl : 0x080 ≤ w.off) (ho : w.off < 0x1000) (hu : pageUnit w.page = some (u, i)) :
    execRegisterWrite w s = .next (if pagePowered s w.page then
      writeUnit w.who u w.page i w.off w.data w.hw { s with lastAccess := .none }
      else warnEvent { s with lastAccess := .none } w.page) := by
  unfold execRegisterWrite
  rw [if_neg (not_or.2 ⟨hm, hw⟩), if_neg (by omega), if_neg (not_aperture_of_pageUnit hu)]
  simp only [hu, if_neg (Nat.not_lt.2 hl)]
  cases pagePowered s w.page <;> rfl

/-- R5, R688: a write changes nothing where the page's table lists no register or a read-only one. -/
theorem writeUnit_readOnly {s : State} {who : Who} {u : RUnit} {page i off : Nat} {v hw : W32}
    (h : ∀ r, u.row? off = some r → r.acc = .ro) : writeUnit who u page i off v hw s = s := by
  unfold writeUnit
  cases hr : u.row? off with
  | none => rfl
  | some r => simp only [h r hr]

end Sys2Proof.Machine

namespace Sys2Proof
open Machine

/-- Settles O41: ERR_STATUS of the page is the one register that changes, and the occurrence follows the enable and the route. -/
theorem errorsAreKeptAndRouted : Obligations.ErrorsAreKeptAndRouted := by
  intro s p n sub named inj w _ t
  refine ⟨fun m hm => rdB_raiseErr p n sub named inj w m hm, fun q o ho h => rd_raiseErr_other p n sub named inj w q o ho h,
    raiseErr_occ_append s p n sub named inj w, ?_⟩
  rw [show t.regs = _ from raiseErr_regs s p n sub named inj w]
  exact raiseErr_frame p n sub named inj w

/-- Settles O42, by the branches of the write: misplaced, on a page of a unit with power, on one without. -/
theorem registerWritesKeepTheirWidthAndPlace : Obligations.RegisterWritesKeepTheirWidthAndPlace := by
  intro s w hm hw s0
  refine ⟨execRegisterWrite_misplaced hm hw, fun u i hs ha hl ho hu => ?_⟩
  have hx : exec (.registerWrite w) s = _ := execRegisterWrite_page hm hw hs ha hl ho hu
  refine ⟨readReg_unlisted hu hl, fun hp hr => ?_, fun hp => ?_⟩
  · rw [hx, if_pos hp, writeUnit_readOnly hr]
  · rw [hx, if_neg (by simp [hp])]

end Sys2Proof
end

section
/-!
SUPPORT. The roles of the station (R22 to R29): what a gap, a manager that is heard and a manager that yields leave, and the statement
that roles follow the heartbeats.
-/

namespace Sys2Proof.Machine
variable {s : State}

/-! ### Heartbeats that are missed (R22, R23, R29) -/

/-- A gap makes the manager absent and leaves the rest of the role (R23). -/
theorem managerGap_glb (s : State) : (managerGap s).glb = { s.glb with present := false } := by
  unfold managerGap
  split
  · rfl
  · next h => rw [← Bool.eq_false_iff.2 h]

/-- A gap touches one register: IRQ_STATUS of GLB. -/
theorem rdB_managerGap_other {q o n : Nat} (ho : o < 0x1000) (h : q ≠ pgGLB ∨ o ≠ 0x024) :
    rdB (managerGap s) q o n = rdB s q o n := by
  unfold managerGap
  split
  · exact rdB_raiseIrq_other _ _ _ _ _ ho h
  · rfl

/-- A manager that was present and is no longer raises its interrupt (R27). -/
theorem rdB_managerGap_change (h : s.glb.present = true) : rdB (managerGap s) pgGLB 0x024 1 = true := by
  rw [managerGap, if_pos h]
  exact rdB_raiseIrq_same _ _ (by omega)

theorem execManagerTakeover_standby (hm : curMode s ≠ .off) (hr : s.glb.role = 3) (ht : s.glb.lastAt + 10 * msN ≤ s.now) :
    execManagerTakeover s = .next (raiseIrq { managerGap s with
      glb := { (managerGap s).glb with role := 2, takeover := true } } pgGLB 0) := by
  have hg : (managerGap s).glb.role = 3 := by rw [managerGap_glb, ← hr]
  rw [execManagerTakeover, if_neg (not_or.2 ⟨hm, by omega⟩)]
  exact congrArg _ (if_pos hg)

theorem execManagerLost_due (hm : curMode s ≠ .off) (hr : s.glb.role ≠ 0) (ht : s.glb.lastAt + 20 * msN ≤ s.now) :
    execManagerLost s = .next (condErr (managerGap s) pgGLB 1) := by
  rw [execManagerLost, if_neg (not_or.2 ⟨hm, by omega⟩)]

/-! ### A heartbeat of a manager (R23, R25, R29) -/

/-- The state in which manager `src` has been heard: it is present and the loss is over; a change raises its interrupt. -/
def managerHeard (s : State) (src : Nat) : State :=
  let t := condEnd { s with glb := { s.glb with present := true, lastMgr := some src, lastAt := s.now } } pgGLB 1
  if !s.glb.present || decide (s.glb.lastMgr ≠ some src) then raiseIrq t pgGLB 1 else t

/-- The state in which a manager has yielded to one with a lower number. -/
def managerYields (s : State) : State :=
  raiseIrq (raiseErr { s with glb := { s.glb with role := 1, conflict := true } } pgGLB 0) pgGLB 2

theorem managerHeard_glb (s : State) (src : Nat) :
    (managerHeard s src).glb = { s.glb with present := true, lastMgr := some src, lastAt := s.now } := by
  unfold managerHeard
  dsimp only
  split <;> rfl

theorem rdB_managerHeard_live (s : State) (src : Nat) : rdB (managerHeard s src) pgGLB 0x014 1 = false := by
  unfold managerHeard
  dsimp only
  split
  · rw [rdB_raiseIrq_other _ _ _ _ _ (by omega) (by omega), rdB_condEnd_live _ _ (by omega)]
  · exact rdB_condEnd_live _ _ (by omega)

theorem rdB_managerHeard_change {src : Nat} (h : s.glb.present = false ∨ s.glb.lastMgr ≠ some src) :
    rdB (managerHeard s src) pgGLB 0x024 1 = true := by
  rw [managerHeard, if_pos (by simpa using h)]
  exact rdB_raiseIrq_same _ _ (by omega)

theorem managerYields_glb (s : State) : (managerYields s).glb = { s.glb with role := 1, conflict := true } := by
  simp [managerYields]

/-- Yielding marks the conflict: ERR_STATUS bit 0 and IRQ_STATUS bit 2 of GLB (R25, R27, R29). -/
theorem rdB_managerYields_conflict (s : State) :
    rdB (managerYields s) pgGLB 0x010 0 = true ∧ rdB (managerYields s) pgGLB 0x024 2 = true := by
  refine ⟨?_, rdB_raiseIrq_same _ _ (by omega)⟩
  rw [managerYields, rdB_raiseIrq_other _ _ _ _ _ (by omega) (by omega), rdB_raiseErr _ _ _ _ _ _ _ (by omega)]
  exact Bool.or_true _

/-- Yielding leaves the other standing conditions and interrupts of GLB. -/
theorem rdB_managerYields_other {o n : Nat} (ho : o = 0x014 ∨ o = 0x024 ∧ n = 1) :
    rdB (managerYields s) pgGLB o n = rdB s pgGLB o n := by
  obtain rfl | ⟨rfl, rfl⟩ := ho
  · rw [managerYields, rdB_raiseIrq_other _ _ _ _ _ (by omega) (by omega),
      rdB_raiseErr_other _ _ _ _ _ _ _ _ _ (by omega) (by omega)]
    rfl
  · rw [managerYields, rdB_raiseIrq _ _ _ (by omega), rdB_raiseErr_other _ _ _ _ _ _ _ _ _ (by omega) (by omega)]
    exact Bool.or_false _

/-- A heartbeat that passes the checks, from another engine that is a manager in a running mode. -/
theorem execManagerHeartbeatRx_passed {f : MgrHb} {t : State} (hi : interRx s f.h = (true, t)) (hr : t.glb.role ≠ 0)
    (hf : f.role = 2) (hlo : 5 ≤ f.mode) (hhi : f.mode < 10) (hs : f.h.src ≠ t.glb.engineNum) :
    execManagerHeartbeatRx f s = .next (if t.glb.role = 2 ∧ f.h.src < t.glb.engineNum then managerYields (managerHeard t f.h.src)
      else managerHeard t f.h.src) := by
  have hg : ¬ ((!true) = true ∨ t.glb.role = 0 ∨ f.role ≠ 2 ∨ f.mode < 5 ∨ 10 ≤ f.mode ∨ f.h.src = t.glb.engineNum) :=
    not_or.2 ⟨Bool.false_ne_true, by omega⟩
  have hh : t.glb.role = 2 ∧ f.h.src < t.glb.engineNum ↔
      (managerHeard t f.h.src).glb.role = 2 ∧ f.h.src < (managerHeard t f.h.src).glb.engineNum := by rw [managerHeard_glb]
  rw [execManagerHeartbeatRx, hi, if_congr hh rfl rfl]
  exact congrArg _ (if_neg hg)

theorem execManagerHeartbeatSend_due (hm : curMode s ≠ .off) (hr : s.glb.role = 2 ∨ s.glb.role = 3)
    (ht : stcMs s ≠ s.glb.hbSentAt) :
    execManagerHeartbeatSend s = .next (interSend { s with glb := { s.glb with hbSentAt := stcMs s } } 3 0x7FF 8
      (.mgrHb s.glb.role s.mode.cur.code s.prck.dirGen)) := by
  rw [execManagerHeartbeatSend, if_neg (not_or.2 ⟨hm, not_or.2 ⟨by omega, ht⟩⟩)]

end Sys2Proof.Machine

namespace Sys2Proof
open Machine

/-- Settles O27, one clause for each of the four commands; of a heartbeat by whether the hearer yields. That a gap makes the manager
absent whatever the role is the reading of log entry 63. -/
theorem rolesFollowTheHeartbeats : Obligations.RolesFollowTheHeartbeats := by
  intro s hm
  refine ⟨execManagerHeartbeatSend_due hm, fun f t hi hr hf hlo hhi hs => ?_, fun hr ht => ?_, fun hr ht => ?_⟩
  · refine ⟨_, execManagerHeartbeatRx_passed hi hr hf hlo hhi hs, ?_⟩
    have hch := rdB_managerHeard_change (s := t) (src := f.h.src)
    split
    · next hy =>
      rw [managerYields_glb, managerHeard_glb, rdB_managerYields_other (.inl rfl), rdB_managerYields_other (.inr ⟨rfl, rfl⟩)]
      exact ⟨rfl, rfl, rfl, rdB_managerHeard_live _ _, fun _ => ⟨rfl, rfl, rdB_managerYields_conflict _⟩,
        fun hn => by omega, hch⟩
    · next hy =>
      rw [managerHeard_glb]
      exact ⟨rfl, rfl, rfl, rdB_managerHeard_live _ _, fun h => absurd h hy, fun _ => ⟨rfl, rfl⟩, hch⟩
  · refine ⟨_, execManagerTakeover_standby hm hr ht, rfl, rfl, ?_, rdB_raiseIrq_same _ _ (by omega), ?_⟩ <;>
      simp only [raiseIrq_glb, managerGap_glb]
  · refine ⟨_, execManagerLost_due hm hr ht, ?_, rdB_condErr_live _ _ _ _ (by omega), ?_, fun hl => ?_, fun hp => ?_⟩
    · rw [condErr_glb, managerGap_glb]
    · rw [condErr_glb, managerGap_glb]
    · exact rdB_condErr_status _ _ _ _ (by omega) (by rw [rdB_managerGap_other (by omega) (by omega), hl])
    · rw [rdB, rd_condErr_other _ _ _ _ _ _ (by omega) (by omega)]
      exact rdB_managerGap_change hp

end Sys2Proof
end

section
/-!
SUPPORT. The host's rings (R20, R536 to R544, R561): when a post is refused and when it is written and counted, when held MSI writes
leave, and the statement that host rings post and signal.
-/

namespace Sys2Proof.Machine
variable {s : State}

/-! ### Fields of a word cut to its low bits -/

theorem bits_w32_mod {v : W32} {n lo w : Nat} (hn : n ≤ 32) (h : lo + w ≤ n) :
    bits (w32 (v.toNat % 2 ^ n)) lo w = bits v lo w := by
  have hv : v.toNat % 2 ^ n < 2 ^ 32 := (Nat.mod_lt _ (by positivity)).trans_le (Nat.pow_le_pow_right (by omega) hn)
  rw [bits, bits, BitVec.toNat_ofNat, Nat.mod_eq_of_lt hv]
  refine Nat.eq_of_testBit_eq fun i => ?_
  simp only [Nat.testBit_mod_two_pow, Nat.testBit_div_two_pow]
  by_cases hi : i < w
  · simp [show i + lo < n by omega]
  · simp [hi]

theorem bit_w32_mod {v : W32} {n i : Nat} (hn : n ≤ 32) (h : i < n) : bit (w32 (v.toNat % 2 ^ n)) i = bit v i :=
  congrArg (· == 1) (bits_w32_mod (w := 1) hn h)

/-! ### Rings -/

@[simp] theorem cplRing_setCpl (s : State) (n m : Nat) (r : Ring) : cplRing (setCpl s n r) m = if m = n then r else cplRing s m := by
  simp [cplRing, setCpl]

@[simp] theorem setCpl_mem (s : State) (n : Nat) (r : Ring) : (setCpl s n r).mem = s.mem := rfl
@[simp] theorem setCpl_dra (s : State) (n : Nat) (r : Ring) : (setCpl s n r).dra = s.dra := rfl

/-! ### What waits for the host (R20, R540, R543) -/

theorem drainHeld_nothing (h : s.hif.held = []) : drainHeld s = s := by
  rw [drainHeld, h, List.foldl_nil, ← h]

/-- The MSI writes held leave, in order, to a host that is awake and whose clock runs. -/
theorem msiFlush_awake (hs : s.hif.hostSleep = false) (hc : s.hif.hostClock = true) : msiFlush s = { s with
    hif := { s.hif with msiSent := s.hif.msiHeld.reverse ++ s.hif.msiSent, msiHeld := [] } } := by
  rw [msiFlush, if_neg (by simp [hs, hc])]

/-- A host that wakes and whose clock runs is sent what was held for it, and HOST_WAKE falls (R543). -/
theorem execHostSleepFall_awake (hc : s.hif.hostClock = true) : execHostSleepFall s = .next { s with hif := { s.hif with
    hostSleep := false, hostWake := false, msiSent := s.hif.msiHeld.reverse ++ s.hif.msiSent, msiHeld := [] } } := by
  have hfl : msiFlush { s with hif := { s.hif with hostSleep := false, hostWake := false } } = _ := msiFlush_awake rfl hc
  rw [execHostSleepFall, hfl]

/-- With nothing held, stalled or waiting, the return of the clock sends the MSI writes of a host that is awake. -/
theorem execHostClockReturn_nothing (hh : s.hif.held = []) (hst : s.hif.stalled = none) (hd : s.hif.dma = [])
    (hs : s.hif.hostSleep = false) : execHostClockReturn s = .next { s with
      hif := { s.hif with hostClock := true, held := [], msiSent := s.hif.msiHeld.reverse ++ s.hif.msiSent, msiHeld := [] } } := by
  have hdr : drainHeld { s with hif := { s.hif with hostClock := true } } = _ := drainHeld_nothing hh
  have hfl : msiFlush { s with hif := { s.hif with hostClock := true } } = _ := msiFlush_awake hs rfl
  rw [execHostClockReturn, hdr, hfl]
  simp only [hst, hd, hh, sortBy, List.foldl_nil]

/-! ### The end of a post (R561, R563) -/

theorem rd_postEnd (s : State) (r : Nat) : rd (postEnd s r) pgHIF 0x0B8 = w32 r := by
  rw [postEnd, rd_raiseIrq_other _ _ _ _ (by omega) (by omega), rd_wr_same]

theorem rdB_postEnd (s : State) (r : Nat) : rdB (postEnd s r) pgHIF 0x024 0 = true := rdB_raiseIrq_same _ _ (by omega)

@[simp] theorem postEnd_mem (s : State) (r : Nat) : (postEnd s r).mem = s.mem := rfl
@[simp] theorem postEnd_dra (s : State) (r : Nat) : (postEnd s r).dra = s.dra := rfl
@[simp] theorem cplRing_postEnd (s : State) (r n : Nat) : cplRing (postEnd s r) n = cplRing s n := rfl

/-! ### Posts (R538 to R541, R544) -/

/-- A completion that is not urgent, below the count and with a moderation time, is counted and the timer runs. -/
theorem hifCount_below {n : Nat} {r : Ring} (ht : bits r.cfg 10 10 ≠ 0) (hc : r.count + 1 < bits r.cfg 20 6) :
    hifCount (setCpl s n r) n false = setCpl (setCpl s n r) n { r with
      count := r.count + 1, timer := some (r.timer.getD (s.now + bits r.cfg 10 10 * usN)) } := by
  have h : ¬ (false = true ∨ bits r.cfg 10 10 = 0 ∨ max 1 (bits r.cfg 20 6) ≤ r.count + 1) :=
    not_or.2 ⟨Bool.false_ne_true, by omega⟩
  have hr : cplRing (setCpl s n r) n = r := by rw [cplRing_setCpl, if_pos rfl]
  simp only [hifCount, hr]
  exact if_neg h

/-- The words of an entry as it is written (R538): KIND with URGENT and PHASE, then words 1 to 7. -/
def entryWords (p : Post) (phase : Bool) : List W32 :=
  w32 ((p.words.getD 0 0).toNat % 2 ^ 24 + at' p.urgent 30 + at' phase 31) :: (List.range 7).map fun i => p.words.getD (i + 1) 0

/-- The ring after an entry: HEAD advances and PHASE turns where it comes round (R536, R538). -/
def Ring.advance (r : Ring) : Ring :=
  let nh := (r.head + 1) % r.size
  { r with head := nh, phase := if nh = 0 then !r.phase else r.phase }

section
variable {p : Post} {n : Nat} (hn : p.ring = n)
include hn

/-- A post to memory that answers is written, advances the ring and counts. -/
theorem hifPut_written {r : Ring} {u : State} (hr : r = cplRing s n) (hb : physBad s (r.entry 32 r.head) 32 = false)
    (hw : u = physSetList s (r.entry 32 r.head) (wordBytes (entryWords p r.phase))) :
    hifPut s p false = (true, hifCount (setCpl u n r.advance) n p.urgent) := by
  subst hn hr
  have hi : ¬ ((false || physBad s ((cplRing s p.ring).entry 32 (cplRing s p.ring).head) 32) = true) := by simp [hb]
  rw [hw]
  exact if_neg hi

variable {b : Bool} (hh : s.hif.held = [])
include hh

theorem fwPost_disabled (he : (cplRing s n).en = false) : fwPost s p b = postEnd s 4 := by
  rw [fwPost, drainHeld_nothing hh, hn]
  exact if_pos (by simp [he])

theorem fwPost_full (he : (cplRing s n).en = true) (hf : (cplRing s n).full = true) : fwPost s p b = postEnd s 3 := by
  rw [fwPost, drainHeld_nothing hh, hn]
  exact (if_neg (by simp [he])).trans (if_pos hf)

theorem fwPost_written {t : State} (he : (cplRing s n).en = true) (hf : (cplRing s n).full = false) (hc : s.hif.hostClock = true)
    (hp : hifPut s p b = (true, t)) : fwPost s p b = postEnd t 2 := by
  simp [fwPost, drainHeld_nothing hh, hn, he, hf, hc, hp]

/-- A post that finds room, is not urgent and stays below the count: RESULT 2, and the ring advanced and counted over the entry. -/
theorem fwPost_counted {r : Ring} {u : State} (hr : r = cplRing s n) (he : r.en = true) (hf : r.full = false)
    (hc : s.hif.hostClock = true) (hb : physBad s (r.entry 32 r.head) 32 = false) (hu : p.urgent = false)
    (ht : bits r.cfg 10 10 ≠ 0) (hk : r.count + 1 < bits r.cfg 20 6)
    (hw : u = physSetList s (r.entry 32 r.head) (wordBytes (entryWords p r.phase))) :
    fwPost s p false = postEnd (setCpl (setCpl u n r.advance) n { r.advance with
      count := r.count + 1, timer := some (r.timer.getD (u.now + bits r.cfg 10 10 * usN)) }) 2 := by
  have hput := hifPut_written hn hr hb hw
  rw [hu, hifCount_below (r := r.advance) ht hk] at hput
  subst hr
  exact fwPost_written hn hh he hf hc hput

end

/-- The post that HIF_POST0 to HIF_POST7 and a write of HIF_POST_CMD spell (R561). -/
def firmwarePost (s : State) (v : W32) : Post :=
  ⟨bits v 0 6, (List.range 8).map fun i => rd s pgHIF (0x0C0 + 4 * i), bit v 6, true⟩

theorem execHifPost_go {v : W32} {b : Bool} (hm : curMode s ≠ .off) (hg : bit v 31 = true) (hs : s.hif.stalled = none) :
    execHifPost v b s = .next (fwPost s (firmwarePost s v) b) := by
  rw [execHifPost, if_neg (by simp [hm, hg, hs])]
  rfl

theorem entryWords_firmwarePost {v : W32} (hu : bit v 6 = false) (phase : Bool) : entryWords (firmwarePost s v) phase =
    w32 ((rd s pgHIF 0x0C0).toNat % 2 ^ 24 + at' phase 31) :: (List.range 7).map fun i => rd s pgHIF (0x0C0 + 4 * (i + 1)) := by
  simp [entryWords, firmwarePost, hu, at', List.range_succ]

/-! ### The commands -/

theorem execHifCmdDoorbell_rings {n : Nat} (hm : curMode s ≠ .off) (hn : n < 64) (v : W32) : execHifCmdDoorbell n v s = .next (
    let t := setCmd s n { cmdRing s n with head := bits v 0 12 }
    if pagePowered t pgEIC then eicEdge t (512 + n) else t) := by
  rw [execHifCmdDoorbell, if_neg hm, Nat.mod_eq_of_lt hn]

theorem execHifModTimer_expired {n d : Nat} (hn : n < 64) (ht : (cplRing s n).timer = some d) (hd : d ≤ s.now) :
    execHifModTimer n s = .next (hifSignal s n) := by
  simp [execHifModTimer, ht, hd, hn]

/-- Enabling a ring of a size in range resets its pointers (R561, R562). -/
theorem execHifRingCfgWrite_enable {v : W32} (hm : curMode s ≠ .off) (hlo : 4 ≤ bits v 0 4) (hhi : bits v 0 4 ≤ 12)
    (hv : bit v 4 = true) (he : (selRing s).en = false) : execHifRingCfgWrite v s = .next (setSelRing s { selRing s with
      cfg := w32 (v.toNat % 2 ^ 26), head := 0, tail := 0, phase := true }) := by
  have hsize := bits_w32_mod (v := v) (n := 26) (lo := 0) (w := 4) (by omega) (by omega)
  have hen := bit_w32_mod (v := v) (n := 26) (i := 4) (by omega) (by omega)
  simp only [execHifRingCfgWrite, if_neg hm, hsize, hen]
  rw [if_neg, if_pos (by rw [hv, he]; rfl)]
  rintro (h | h | ⟨h, -⟩)
  · omega
  · omega
  · exact Bool.false_ne_true (he.symm.trans h)

theorem execHifRingCfgWrite_size {v : W32} (hm : curMode s ≠ .off) (h : bits v 0 4 < 4 ∨ 12 < bits v 0 4) :
    execHifRingCfgWrite v s = .next (warnEvent s pgHIF) := by
  have hsize := bits_w32_mod (v := v) (n := 26) (lo := 0) (w := 4) (by omega) (by omega)
  simp only [execHifRingCfgWrite, if_neg hm, hsize]
  exact congrArg _ (if_pos (or_assoc.1 (.inl h)))

end Sys2Proof.Machine

namespace Sys2Proof
open Machine

/-- Settles O34, one clause for each command; of a post by whether its ring is disabled, full or has room. That a host
going to sleep may stop its clock is the operand of log entry 56. -/
theorem hostRingsPostAndSignal : Obligations.HostRingsPostAndSignal := by
  intro s hm
  refine ⟨fun n v hn => execHifCmdDoorbell_rings hm hn v, fun v n r hn hr hg hs hh => ?_,
    fun n d hn ht hd => execHifModTimer_expired hn ht hd, fun _ => rfl, execHostSleepFall_awake, execHostClockReturn_nothing,
    congrArg _ (if_neg hm), fun v hlo hhi hv he => execHifRingCfgWrite_enable hm hlo hhi hv he,
    fun v h => execHifRingCfgWrite_size hm h⟩
  have hpost := execHifPost_go (b := false) hm hg hs
  have hp : (firmwarePost s v).ring = n := hn
  refine ⟨fun he => ?_, fun he hf => ?_, ?_⟩
  · exact hpost.trans (congrArg _ (fwPost_disabled hp hh (hr ▸ he)))
  · exact hpost.trans (congrArg _ (fwPost_full hp hh (hr ▸ he) (hr ▸ hf)))
  · intro he hf hc hb hu ht hk w bytes u nh
    have hx := hpost.trans (congrArg _ (fwPost_counted (u := u) hp hh hr he hf hc hb hu ht hk (by rw [entryWords_firmwarePost hu])))
    clear_value u
    refine ⟨_, hx, ?_, ?_, ?_, ?_, ?_, fun m hmn => ?_⟩
    · rw [cplRing_postEnd, cplRing_setCpl, if_pos rfl]
      rfl
    · exact rd_postEnd _ _
    · exact rdB_postEnd _ _
    · rw [postEnd_mem, setCpl_mem, setCpl_mem]
    · rw [postEnd_dra, setCpl_dra, setCpl_dra]
    · simp only [cplRing_postEnd, cplRing_setCpl, if_neg hmn]

end Sys2Proof
end


section
/-!
SUPPORT. Words of a quiet bobbin beside the data unit's own: the checks that a word passes, a word led by the address unit, a
long-format word without an access, the flow of a word that branches or opens a loop.
-/

namespace Sys2Proof.Machine

/-! ### What a still core's premises give -/

theorem Still.inside {s : State} {c : Nat} {dl : Option Delay} (q : Still s c dl) : Inside (core s c).pc (core s c).loops := by
  obtain ⟨-, -, -, -, -, ⟨h, -⟩, -⟩ := q
  exact h

theorem Still.pc_lt {s : State} {c : Nat} {dl : Option Delay} (q : Still s c dl) : (core s c).pc < 65535 := by
  obtain ⟨-, -, -, -, -, -, -, -, -, -, -, h⟩ := q
  exact h

/-! ### Checks that pass -/

theorem checked_ok {α : Type} {l : List Check} (v : α) (h : firstExc l = none) : checked l v = .ok v := by
  rw [checked, h]

theorem depthCheck_none {stack depth cap need pop push : Nat} (h : need ≤ depth) (g : pop < push → depth - pop + push ≤ cap) :
    depthCheck stack depth cap need pop push = none := by
  rw [depthCheck, if_neg (by omega), if_neg]
  rintro ⟨h1, h2⟩
  have := g h1
  omega

/-- A stack that a word fits raises neither SU nor SO (R66, R67). -/
theorem Fits.check {k : Core} {need pop push : Nat} (h : Fits k need pop push) :
    depthCheck 0 k.ds.depth 16 need pop push = none :=
  depthCheck_none h.1 h.2

@[simp] theorem firstExc_nil : firstExc [] = none := rfl
@[simp] theorem firstExc_none (l : List Check) : firstExc (none :: l) = firstExc l := rfl
@[simp] theorem tagCheck_none : tagCheck none = none := rfl
@[simp] theorem failIf_false (e : Exc) : failIf false e = none := rfl

/-! ### Cores that an operation leaves -/

theorem Core.setDs_ds (k : Core) : k.setDs k.ds = k := by
  unfold Core.setDs Core.ds; split <;> rfl

theorem Core.setRs_rs (k : Core) : k.setRs k.rs = k := by
  unfold Core.setRs Core.rs; split <;> rfl

@[simp] theorem Core.setDs_rs (k : Core) (x : Stk) : (k.setDs x).rs = k.rs := by
  obtain ⟨-, -, -, -, h, -⟩ := setDs_fields k x
  exact h

theorem Core.setDs_setRs_rs (k : Core) (x : Stk) : (k.setDs x).setRs k.rs = k.setDs x := by
  conv_lhs => rw [← Core.setDs_rs k x, Core.setRs_rs]

/-- A word whose operation A is NOP leaves the data unit as it was. -/
theorem applyA_nop (c : Nat) (k : Core) : applyA c k {} = k := by
  have hs : applyA c k {} = { k.setDs k.ds with sticky := Nat.lor (k.setDs k.ds).sticky 0 } := by
    simp only [applyA]
    rw [if_neg (by simp)]
    rfl
  rw [hs, Core.setDs_ds]
  show { k with sticky := k.sticky ||| 0 } = k
  rw [Nat.or_zero]

/-- The effect of an operation of the address unit on the return stack alone. -/
theorem applyB_rs (k : Core) (rs : Stk) : applyB k ⟨rs, k.areg, k.loops, 0, 0⟩ = k.setRs rs := by
  unfold applyB Core.setRs; split <;> rfl

/-- The effect of an operation of the address unit that leaves the return stack. -/
theorem applyB_keeps_rs (k : Core) (a : AReg) (ls : List Loop) (n m : Nat) :
    applyB k ⟨k.rs, a, ls, n, m⟩ = { k with areg := a, loops := ls } := by
  rw [applyB, Core.setRs_rs]

theorem applyB_fields (k : Core) (x : BOut) : (applyB k x).haltReq = k.haltReq ∧ (applyB k x).delay = k.delay ∧
    (applyB k x).loops = x.loops ∧ (applyB k x).pc = k.pc ∧ (applyB k x).late = k.late := by
  unfold applyB Core.setRs; split <;> exact ⟨rfl, rfl, rfl, rfl, rfl⟩

/-! ### A word led by the address unit -/

/-- A plain address-unit word of a quiet bobbin has its operation's effect and no other. -/
theorem runB_quiet {s : State} {w : BWord} {b : BOp} (x : BOut) (q : Quiet s w.core) (p : PlainB w) (hb : x.bubbles = 0)
    (hl : Inside (core s w.core).pc x.loops)
    (h : addrOp w.core 16 (at_ s w.core).pc (at_ s w.core) b = .ok x) :
    runB b w s = wordEnd s w.core (onward (applyB (at_ s w.core) x)) 1 := by
  obtain ⟨p1, p2, p3, p4⟩ := p
  obtain ⟨hc, -, -, hh, hd, -, hbu, -⟩ := id q
  obtain ⟨fh, fd, fl, fp, ft⟩ := applyB_fields (at_ s w.core) x
  refine runWord_done s w.core w.env (fun u k _ => paired w.core w.cond w.ca w.cb w.a b w.env u k) q p4
    { k := applyB (at_ s w.core) x, ops := 2 } ?_ (fh.trans hh) ⟨fd.trans hd, ft.trans hbu.2⟩ ?_ fp rfl rfl rfl rfl rfl rfl rfl
  · have ha : opA (setCore s w.core (at_ s w.core)) w.core (at_ s w.core) w.env .nop =
        (.ok { out := {} }, setCore s w.core (at_ s w.core)) := rfl
    simp [paired, p1, p2, p3, microcoded, ha, rsCap_bob _ _ hc, h, hb, applyA_nop]
  · rw [fl, fp]; exact hl

section
variable {s : State} {w : BWord} (q : Quiet s w.core) (p : PlainB w)
include q p

/-- A word that leaves the return stack as `rs`. -/
theorem runB_rs {b : BOp} (rs : Stk)
    (h : addrOp w.core 16 (at_ s w.core).pc (at_ s w.core) b = .ok ⟨rs, (at_ s w.core).areg, (at_ s w.core).loops, 0, 0⟩) :
    runB b w s = wordEnd s w.core (onward ((at_ s w.core).setRs rs)) 1 := by
  rw [runB_quiet _ q p rfl q.inside h, applyB_rs]

/-- A word that leaves A as `a`. -/
theorem runB_areg {b : BOp} (a : AReg)
    (h : addrOp w.core 16 (at_ s w.core).pc (at_ s w.core) b = .ok ⟨(at_ s w.core).rs, a, (at_ s w.core).loops, 0, 0⟩) :
    runB b w s = wordEnd s w.core (onward { at_ s w.core with areg := a }) 1 := by
  rw [runB_quiet _ q p rfl q.inside h, applyB_keeps_rs]

/-- A word that leaves the loops as `ls`, whose bodies the bobbin stays inside. -/
theorem runB_loops {b : BOp} (ls : List Loop) (m : Nat) (hl : Inside (core s w.core).pc ls)
    (h : addrOp w.core 16 (at_ s w.core).pc (at_ s w.core) b = .ok ⟨(at_ s w.core).rs, (at_ s w.core).areg, ls, 0, m⟩) :
    runB b w s = wordEnd s w.core (onward { at_ s w.core with loops := ls }) 1 := by
  rw [runB_quiet _ q p rfl hl h, applyB_keeps_rs]

end
end Sys2Proof.Machine
end

section
/-!
SUPPORT. The address unit's operations on the return stack and on A (R89 to R94), and the statements about them.
-/

namespace Sys2Proof.Machine
variable {k : Core} {c pc : Nat}

/-! ### The return stack (R91) -/

/-- A return-stack move of `n` entries into `m` that reads `ws` passes its checks (R42, R66). -/
theorem returnMove_checks {n m : Nat} {ws : List TWord} (h : n ≤ k.rs.depth) (g : n < m → k.rs.depth - n + m ≤ 16)
    (hr : ∀ x ∈ ws, x.rsv = false) :
    firstExc [depthCheck 1 k.rs.depth 16 n n m, tagCheck (if ws.any (·.rsv) then some 3 else none)] = none := by
  have hany : ws.any (·.rsv) = false := List.any_eq_false.2 fun x hx => by simp [hr x hx]
  rw [depthCheck_none h g, hany]
  rfl

/-- A push of entry `i` of the data stack passes its checks. -/
theorem returnPush_checks {i : Nat} (hd : i + 1 ≤ k.ds.depth) (hr : k.rs.depth < 16)
    (ht : tagCauses k [(.move, k.ds.peek i)] = none) :
    firstExc [depthCheck 0 k.ds.depth 0 (i + 1) 0 0, depthCheck 1 k.rs.depth 16 0 0 1,
      tagCheck (tagCauses k [(.move, k.ds.peek i)])] = none := by
  rw [depthCheck_none hd (by omega), depthCheck_none (Nat.zero_le _) (by omega), ht]
  rfl

theorem addrOp_rdrop (h : 1 ≤ k.rs.depth) : addrOp c 16 pc k .rdrop = .ok ⟨k.rs.drop 1, k.areg, k.loops, 0, 0⟩ :=
  checked_ok _ (returnMove_checks h (by simp) (by simp))

theorem addrOp_rdup (h : 1 ≤ k.rs.depth) (g : k.rs.depth < 16) (hr : (k.rs.peek 0).rsv = false) :
    addrOp c 16 pc k .rdup = .ok ⟨(k.rs.drop 1).pushAll [k.rs.peek 0, k.rs.peek 0], k.areg, k.loops, 0, 0⟩ :=
  checked_ok _ (returnMove_checks h (by simp; omega) (by simp [hr]))

theorem addrOp_rswap (h : 2 ≤ k.rs.depth) (hr : (k.rs.peek 0).rsv = false) (hr' : (k.rs.peek 1).rsv = false) :
    addrOp c 16 pc k .rswap = .ok ⟨(k.rs.drop 2).pushAll [k.rs.peek 0, k.rs.peek 1], k.areg, k.loops, 0, 0⟩ :=
  checked_ok _ (returnMove_checks h (by simp) (by simp [hr, hr']))

theorem addrOp_rover (h : 2 ≤ k.rs.depth) (g : k.rs.depth < 16) (hr : (k.rs.peek 0).rsv = false)
    (hr' : (k.rs.peek 1).rsv = false) :
    addrOp c 16 pc k .rover =
      .ok ⟨(k.rs.drop 2).pushAll [k.rs.peek 1, k.rs.peek 0, k.rs.peek 1], k.areg, k.loops, 0, 0⟩ :=
  checked_ok _ (returnMove_checks h (by simp; omega) (by simp [hr, hr']))

theorem addrOp_rpushT (h : 1 ≤ k.ds.depth) (g : k.rs.depth < 16) (ht : tagCauses k [(.move, k.ds.peek 0)] = none) :
    addrOp c 16 pc k .rpushT = .ok ⟨k.rs.push (k.ds.peek 0), k.areg, k.loops, 0, 0⟩ :=
  checked_ok _ (returnPush_checks h g ht)

theorem addrOp_rpushN (h : 2 ≤ k.ds.depth) (g : k.rs.depth < 16) (ht : tagCauses k [(.move, k.ds.peek 1)] = none) :
    addrOp c 16 pc k .rpushN = .ok ⟨k.rs.push (k.ds.peek 1), k.areg, k.loops, 0, 0⟩ :=
  checked_ok _ (returnPush_checks h g ht)

/-! ### A (R92, R93) -/

/-- A on a bobbin, moved to `v` modulo 2²⁴. -/
theorem moveA_bob (hc : c < 256) (a : AReg) (v : Int) : moveA c a v = { a with pay := BitVec.ofNat 48 (v % 2 ^ 24).toNat } := by
  rw [moveA, if_neg (show ¬ c = spindle from Nat.ne_of_lt hc)]
  rfl

/-- The word that a bobbin takes as A keeps its tag and its low 24 bits. -/
theorem asA_bob (hc : c < 256) (x : TWord) : asA c x = ⟨x.ty, x.q, x.rsv, BitVec.ofNat 48 (x.pay.toNat % 2 ^ 24)⟩ := by
  rw [asA, if_neg (show ¬ c = spindle from Nat.ne_of_lt hc), bits, Nat.pow_zero, Nat.div_one]

/-- Without a buffer length the circular step is the straight one (R93). -/
theorem circStep_straight (d : Int) (h : ((k.acl.toNat % 2 ^ 16 : Nat) : Int) = 0) : circStep k d = k.areg.pay.toNat + d := by
  simp only [circStep, bits, Nat.pow_zero, Nat.div_one]
  exact if_pos h

theorem circStep_within (d : Int) (h : ((k.acl.toNat % 2 ^ 16 : Nat) : Int) ≠ 0) :
    circStep k d = (k.acb.toNat % 2 ^ 24 : Nat) + (k.areg.pay.toNat - (k.acb.toNat % 2 ^ 24 : Nat) + d) % (k.acl.toNat % 2 ^ 16 : Nat) := by
  simp only [circStep, bits, Nat.pow_zero, Nat.div_one]
  exact if_neg h

section
variable (ht : tagCauses k [(.arith [.adr, .int, .nat], k.areg.word)] = none)
include ht

theorem addrOp_aStep (d : BitVec 9) :
    addrOp c 16 pc k (.aStep d) = .ok ⟨k.rs, moveA c k.areg (k.areg.pay.toNat + d.toInt), k.loops, 0, 0⟩ :=
  checked_ok _ (by rw [ht]; rfl)

theorem addrOp_aStepCirc (d : BitVec 9) :
    addrOp c 16 pc k (.aStepCirc d) = .ok ⟨k.rs, moveA c k.areg (circStep k d.toInt), k.loops, 0, 0⟩ :=
  checked_ok _ (by rw [ht]; rfl)

end

theorem addrOp_aSetTos (h : 1 ≤ k.ds.depth) (ht : aSource k (k.ds.peek 0) true = none) :
    addrOp c 16 pc k .aSetTos = .ok ⟨k.rs, asA c (k.ds.peek 0), k.loops, 0, 0⟩ :=
  checked_ok _ (by rw [depthCheck_none h (by omega), ht]; rfl)

theorem addrOp_aSetNos (h : 2 ≤ k.ds.depth) (ht : aSource k (k.ds.peek 1) true = none) :
    addrOp c 16 pc k .aSetNos = .ok ⟨k.rs, asA c (k.ds.peek 1), k.loops, 0, 0⟩ :=
  checked_ok _ (by rw [depthCheck_none h (by omega), ht]; rfl)

theorem addrOp_aSetRtos (h : 1 ≤ k.rs.depth) (ht : aSource k (k.rs.peek 0) false = none) :
    addrOp c 16 pc k .aSetRtos = .ok ⟨k.rs, asA c (k.rs.peek 0), k.loops, 0, 0⟩ :=
  checked_ok _ (by rw [depthCheck_none h (by omega), ht]; rfl)

theorem addrOp_aAddTos (h : 1 ≤ k.ds.depth)
    (ht : tagCauses k [(.arith [.adr, .int, .nat], k.areg.word), (.arith [.int, .nat], k.ds.peek 0)] = none) :
    addrOp c 16 pc k .aAddTos = .ok ⟨k.rs, { moveA c k.areg (k.areg.pay.toNat + stepOf (k.ds.peek 0)) with
      q := k.areg.q.merge (k.ds.peek 0).q }, k.loops, 0, 0⟩ :=
  checked_ok _ (by rw [depthCheck_none h (by omega), ht]; rfl)

/-! ### LBRK (R94, R186) -/

theorem addrOp_lbrk_none (h : k.loops = []) : addrOp c 16 pc k .lbrk = .ok ⟨k.rs, k.areg, k.loops, 0, 0⟩ := by
  have hi : k.inner = none := by rw [Core.inner, h]; rfl
  simp only [addrOp, hi]

/-- At three words or more from its end the innermost loop breaks without a bubble. -/
theorem addrOp_lbrk_far {l : Loop} {t : List Loop} (h : k.loops = l :: t) (he : l.entered = true) (hf : l.stop - 1 - pc ≥ 3) :
    addrOp c 16 pc k .lbrk =
      .ok ⟨k.rs, k.areg, { l with left := min 1 l.now, taken := false } :: t, 0, l.stop - 1 - pc⟩ := by
  have hi : k.inner = some l := by rw [Core.inner, h]; exact List.find?_cons_of_pos he
  have hb : breakInner k.loops = { l with left := min 1 l.now, taken := false } :: t := by rw [h, breakInner, if_pos he]
  simp only [addrOp, hi, hb]
  rw [if_neg (by omega)]

end Sys2Proof.Machine

namespace Sys2Proof
open Machine

/-- Settles O13, one word after the other. That only a copied or moved word is checked for RSV is the reading of log entry 85. -/
theorem returnStackMoves : Obligations.ReturnStackMoves := by
  intro s w q p
  exact ⟨fun h => congrArg _ (runB_rs q p _ (addrOp_rdrop h)),
    fun h g hr => congrArg _ (runB_rs q p _ (addrOp_rdup h g hr)),
    fun h hr hr' => ⟨congrArg _ (runB_rs q p _ (addrOp_rswap h hr hr')),
      fun g => congrArg _ (runB_rs q p _ (addrOp_rover h g hr hr'))⟩,
    fun g => ⟨fun h ht => congrArg _ (runB_rs q p _ (addrOp_rpushT h g ht)),
      fun h ht => congrArg _ (runB_rs q p _ (addrOp_rpushN h g ht))⟩⟩

/-- Settles O14, one operation after the other. That a step keeps A's quality and A its low 24 bits are the choices of log entries 86 and
87, that A itself is checked as an operand that of log entry 124. -/
theorem addressRegisterResults : Obligations.AddressRegisterResults := by
  intro s w d q p c k a base len toA ends from_
  have hc : c < 256 := q.1
  have hm : ∀ v, moveA c k.areg v = toA v := moveA_bob hc k.areg
  have hs : ∀ x, asA c x = from_ x := asA_bob hc
  have hin : Inside k.pc k.loops := q.inside
  refine ⟨fun ht => ⟨?_, fun hl => ?_, fun hl => ?_⟩, fun h ht => ?_, fun h ht => ?_, fun h ht => ?_, fun h ht => ?_,
    fun hn => ?_, fun l t hl hf => ?_⟩
  · exact congrArg _ (runB_areg q p _ (hm _ ▸ addrOp_aStep ht d))
  · exact congrArg _ (runB_areg q p _ (hm _ ▸ circStep_straight d.toInt hl ▸ addrOp_aStepCirc ht d))
  · exact congrArg _ (runB_areg q p _ (hm _ ▸ circStep_within d.toInt hl ▸ addrOp_aStepCirc ht d))
  · exact congrArg _ (runB_areg q p _ (hs _ ▸ addrOp_aSetTos h ht))
  · exact congrArg _ (runB_areg q p _ (hs _ ▸ addrOp_aSetNos h ht))
  · exact congrArg _ (runB_areg q p _ (hs _ ▸ addrOp_aSetRtos h ht))
  · exact congrArg _ (runB_areg q p _ (hm _ ▸ addrOp_aAddTos h ht))
  · exact congrArg _ (runB_loops q p _ 0 hin (addrOp_lbrk_none hn))
  · refine congrArg _ (runB_loops q p _ _ ?_ (addrOp_lbrk_far hl (hin l (hl ▸ List.mem_cons_self)).1 hf))
    rw [hl] at hin
    exact List.forall_mem_cons.2 ⟨hin l List.mem_cons_self, (List.forall_mem_cons.1 hin).2⟩

end Sys2Proof
end

section
/-!
SUPPORT. Literals of a quiet bobbin (R87, R88), and the statement about them.
-/

namespace Sys2Proof.Machine
variable {s : State} {w : LWord} (q : Quiet s w.core) (p : PlainL w)
include q p

/-- A long-format word of a quiet bobbin whose only effect is a data-unit effect. -/
theorem runLong_op {body : State → Core → Res} (o : AOut)
    (h : body (setCore s w.core (at_ s w.core)) (at_ s w.core) =
      (.ok (aDone w.core (at_ s w.core) o), setCore s w.core (at_ s w.core))) :
    runLong w body s = afterOp s w.core o := by
  obtain ⟨hc, -, -, hh, hd, hl, hbu, -⟩ := id q
  obtain ⟨fh, fd, fl, fp, -, -⟩ := applyA_fields w.core (at_ s w.core) o
  refine runLong_done s w body q p (aDone w.core (at_ s w.core) o) h (fh.trans hh) ⟨fd.trans hd, (applyA_late _ _ _).trans hbu.2⟩ ?_ fp
    rfl rfl rfl rfl rfl rfl rfl
  show Inside (applyA w.core (at_ s w.core) o).pc (applyA w.core (at_ s w.core) o).loops
  rw [fl, fp]
  exact hl.1

/-- A literal for which the stack has room is pushed. -/
theorem runLong_lit (x : TWord) (hf : Fits (at_ s w.core) 0 0 1) :
    runLong w (litRes w.core x) s = afterOp s w.core { push := [x] } := by
  refine runLong_op q p _ ?_
  rw [litRes, dsCap_bob _ _ q.1, hf.check]
  rfl

theorem runLong_litH (v : BitVec 10) (hf : Fits (at_ s w.core) 1 1 1)
    (ht : tagCauses (at_ s w.core) [(.plain sendable, (at_ s w.core).ds.peek 0)] = none) :
    runLong w (litHRes w.core v) s = afterOp s w.core { pop := 1, push := [{ (at_ s w.core).ds.peek 0 with
      pay := w32 (bits ((at_ s w.core).ds.peek 0).pay 0 22 + v.toNat * 2 ^ 22) }] } := by
  refine runLong_op q p _ ?_
  simp only [litHRes]
  rw [dsCap_bob _ _ q.1, hf.check, ht]
  rfl

end Sys2Proof.Machine

namespace Sys2Proof.Machine

/-! ### Payloads -/

theorem w32_litF (v : BitVec 22) : w32 (v.toNat * 2 ^ 10) = v ++ 0#10 := by
  apply BitVec.eq_of_toNat_eq
  have := v.isLt
  rw [BitVec.toNat_append, BitVec.toNat_ofNat, Nat.mod_eq_of_lt (by omega)]
  simp [Nat.shiftLeft_eq]

theorem w32_litH (x : W32) (v : BitVec 10) : w32 (bits x 0 22 + v.toNat * 2 ^ 22) = v ++ x.setWidth 22 := by
  apply BitVec.eq_of_toNat_eq
  have := v.isLt
  have hb : bits x 0 22 = x.toNat % 2 ^ 22 := by rw [bits, Nat.pow_zero, Nat.div_one]
  have hx : x.toNat % 2 ^ 22 < 2 ^ 22 := Nat.mod_lt _ (by decide)
  rw [hb, BitVec.toNat_append, BitVec.toNat_ofNat, BitVec.toNat_setWidth, Nat.mod_eq_of_lt (by omega),
    ← Nat.shiftLeft_add_eq_or_of_lt hx, Nat.shiftLeft_eq, Nat.add_comm]

theorem litXRaw_small {v : BitVec 22} (h : v.msb = false) : litXRaw v = (v.setWidth 21).signExtend 32 := by
  rw [litXRaw, h]; rfl

/-- The long form of LIT.X puts its 21 bits at the top of the word. -/
theorem litXRaw_large {v : BitVec 22} (h : v.msb = true) : litXRaw v = v.setWidth 21 ++ 0#11 := by
  rw [litXRaw, h, if_pos rfl]
  apply BitVec.eq_of_toNat_eq
  generalize v.setWidth 21 = u
  have hs : (u.signExtend 32).toNat % 2 ^ 21 = u.toNat := by
    rw [BitVec.toNat_signExtend]
    have := u.isLt
    simp
    split <;> omega
  have := u.isLt
  rw [BitVec.toNat_append, BitVec.toNat_ofNat]
  simp [Nat.shiftLeft_eq]
  omega

end Sys2Proof.Machine

namespace Sys2Proof
open Machine

/-- Settles O15, one literal after the other. -/
theorem literalsPushTheirWord : Obligations.LiteralsPushTheirWord := by
  intro s w v h q p
  refine ⟨fun hf => ⟨congrArg _ (runLong_lit q p _ hf), congrArg _ (runLong_lit q p _ hf), ?_,
    congrArg _ (runLong_lit q p _ hf), fun hv => ?_, fun hv => ?_⟩, fun hf ht => ?_⟩
  · rw [← w32_litF v]
    exact congrArg _ (runLong_lit q p _ hf)
  · rw [← litXRaw_small hv]
    exact congrArg _ (runLong_lit q p _ hf)
  · rw [← litXRaw_large hv]
    exact congrArg _ (runLong_lit q p _ hf)
  · exact congrArg _ (w32_litH _ h ▸ runLong_litH q p h hf ht)

end Sys2Proof
end

section
/-!
SUPPORT. Loads and stores of a quiet bobbin in a bank (R95 to R97, R127, R174), and the statement about the paired ones.
-/

namespace Sys2Proof.Machine
variable {s : State} {c : Nat}

/-! ### Accesses that are served -/

/-- Permission rests on no core's context beside the one it is asked for. -/
theorem accessPlace_setCore (s : State) (c d : Nat) (j k : Core) (x : AccKind) (a : Nat) :
    accessPlace (setCore s d j) c k x a = accessPlace s c k x a := rfl

section
variable {e : Env} {k : Core} {kind : AccKind} {a b : Nat}

theorem accessCheck_serves (j : Core) (h : Serves s c e k kind a b) :
    accessCheck (setCore s c j) c k e kind a = (.ok (.bank b), setCore s c j) := by
  obtain ⟨hp, -, ho, -⟩ := h
  rw [accessCheck, ho, accessPlace_setCore, hp]
  rfl

/-- A bank word without an error reads as it is stored (R49). -/
theorem readPlace_clean (j : Core) (hb : b ∉ s.mem.bankBad) :
    readPlace (setCore s c j) c (.bank b) .clean = (some (bankGet s b), setCore s c j) := by
  rw [readPlace, bankRead, if_neg (show b ∉ (setCore s c j).mem.bankBad from hb)]
  rfl

/-- A load reads the word that it sees (R174). -/
theorem readSeen_loadSees (j : Core) {x : TWord} (hx : loadSees s k b = some x) (hb : b ∉ s.mem.bankBad) :
    readSeen (setCore s c j) c k (.bank b) .clean = (some x, setCore s c j) := by
  have hr := readPlace_clean (c := c) j hb
  unfold loadSees at hx
  cases hf : k.stale.find? fun e => decide (e.1 = b) with
  | some f =>
    have hw : staleWord k (.bank b) = some (some x) := by
      rw [hf] at hx
      rw [staleWord, hf]
      exact congrArg some hx
    simp only [readSeen, hw, hr, Option.map_some]
  | none =>
    have hw : staleWord k (.bank b) = none := by rw [staleWord, hf]; rfl
    rw [hf] at hx
    simp only [bankSeen, if_neg hb] at hx
    simp only [readSeen, hw, hr, hx]

/-- A load that passes its checks delivers the word it sees at distance 3. -/
theorem loadOp_serves (j : Core) (pop : Nat) {x : TWord} (h : Serves s c e k .read a b) (hx : loadSees s k b = some x)
    (hb : b ∉ s.mem.bankBad) (ht : tagCauses k [(.move, x)] = none) :
    loadOp (setCore s c j) c k e none pop a =
      (.ok { out := { pop := pop, push := [x], lat := 3 }, acc := [(false, a)] }, setCore s c j) := by
  have ⟨_, _, _, he, _⟩ := h
  simp only [loadOp, loadChecked, loadWord, accessCheck_serves j h, he, readSeen_loadSees j hx hb, ht]

/-- A store that passes its checks writes its bank word. -/
theorem storeOp_serves (j : Core) (pop : Nat) (x : TWord) (h : Serves s c e k .write a b) :
    storeOp (setCore s c j) c k e none pop a x =
      (.ok { out := { pop := pop }, acc := [(true, a)], store := some (.bank b, x) }, setCore s c j) := by
  simp only [storeOp, accessCheck_serves j h]

/-- The one access of a word, as the waits of a word need it. -/
theorem Serves.waits (h : Serves s c e k kind a b) (store : Bool) :
    ∃ y a' b', [(store, a)] = [(y, a')] ∧ placeOf c a' = some (.bank b') ∧ e.bankWait ≤ 17 ∧ e.remoteWait ≤ 200 ∧
      waitOf c e b = waitOf c e b' :=
  have ⟨_, hp, _, _, hw, hr⟩ := h
  ⟨store, a, b, rfl, hp, hw, hr, rfl⟩

end

/-- Nothing but a bank store of plain memory, which no copy reads, is asked of a word's store. -/
theorem plain_store {b : Nat} {x : TWord} (h : eicWord b = none) (hm : ∀ m ∈ s.prck.migs, m.copying = false) :
    ∀ p, some (b, x) = some p → eicWord p.1 = none ∧ ∀ m ∈ s.prck.migs, m.copying = false := by
  rintro _ ⟨⟩
  exact ⟨h, hm⟩

theorem applyA_staleNew (c : Nat) (k : Core) (o : AOut) : (applyA c k o).staleNew = k.staleNew := by
  have hd (x : Stk) : (k.setDs x).staleNew = k.staleNew := by unfold Core.setDs; split <;> rfl
  cases hf : o.flags <;> by_cases hl : c ≠ spindle ∧ 1 < o.lat <;> simp [applyA, hf, hl, hd]

/-- A store notes the word that it replaces, for the next word's loads. -/
theorem noted_store (s : State) (b : Nat) (x : TWord) {k : Core} (h : k.staleNew = []) :
    noted s k (some (b, x)) = { k with staleNew := [(b, bankSeen s b)] } := by
  rw [noted, h]

/-! ### Paired loads and stores -/

section
variable {w : AWord} (q : Quiet s w.core) (p : Plain w) {op : AOp} {pop a b : Nat}
include q p

/-- A word that loads has its load's effect and waits for its bank. -/
theorem runA_load {x : TWord} (hm : microcoded op = false)
    (hop : opA (setCore s w.core (at_ s w.core)) w.core (at_ s w.core) w.env op =
      loadOp (setCore s w.core (at_ s w.core)) w.core (at_ s w.core) w.env none pop a)
    (h : Serves s w.core w.env (at_ s w.core) .read a b) (hx : loadSees s (at_ s w.core) b = some x) (hb : b ∉ s.mem.bankBad)
    (ht : tagCauses (at_ s w.core) [(.move, x)] = none) :
    Leaves s (runA op w s) w.core (applyA w.core (at_ s w.core) { pop := pop, push := [x], lat := 3 })
      (1 + waitOf w.core w.env b) :=
  runA_leaves s w op { out := { pop := pop, push := [x], lat := 3 }, acc := [(false, a)] } none (waitOf w.core w.env b) q p hm
    (hop.trans (loadOp_serves _ pop h hx hb ht)) rfl (fun _ g => nomatch g) (.inr (h.waits false))

/-- A word that stores has its store's effect, notes the word it replaces and waits for its bank. -/
theorem runA_store {x : TWord} (hm : microcoded op = false)
    (hop : opA (setCore s w.core (at_ s w.core)) w.core (at_ s w.core) w.env op =
      storeOp (setCore s w.core (at_ s w.core)) w.core (at_ s w.core) w.env none pop a x)
    (h : Serves s w.core w.env (at_ s w.core) .write a b) (he : eicWord b = none) (hc : ∀ m ∈ s.prck.migs, m.copying = false) :
    Leaves (bankSet s b x) (runA op w s) w.core
      { applyA w.core (at_ s w.core) { pop := pop } with staleNew := [(b, bankSeen s b)] } (1 + waitOf w.core w.env b) := by
  have := runA_leaves s w op { out := { pop := pop }, acc := [(true, a)], store := some (.bank b, x) } (some (b, x))
    (waitOf w.core w.env b) q p hm (hop.trans (storeOp_serves _ pop x h)) rfl (plain_store he hc) (.inr (h.waits true))
  rwa [noted_store s b x (applyA_staleNew _ _ _)] at this

end
end Sys2Proof.Machine

namespace Sys2Proof
open Machine

/-- Settles O12: each of the four words passes its checks, and then is its load or its store. -/
theorem pairedLoadsAndStores : Obligations.PairedLoadsAndStores := by
  intro s w d b q p c k n far load store
  have hcap : dsCap (setCore s c k) c = 16 := dsCap_bob _ _ q.1
  refine ⟨fun x hx hb hm => ⟨fun hf ht h => ⟨_, rfl, ?_⟩, fun hf ht h => ⟨_, rfl, ?_⟩⟩,
    fun he hc => ⟨fun hf ht h => ⟨_, rfl, ?_⟩, fun hf ht h => ⟨_, rfl, ?_⟩⟩⟩
  · have ht' : tagCauses k [(.addr, k.ds.peek 0)] = none := ht
    exact runA_load q p rfl (by rw [opA, hcap, hf.check, ht']; rfl) h hx hb hm
  · exact runA_load q p rfl (by rw [opA, hcap, hf.check, ht]; rfl) h hx hb hm
  · exact runA_store q p rfl (by rw [opA, hcap, hf.check, ht]; rfl) h he hc
  · exact runA_store q p rfl (by rw [opA, hcap, hf.check, ht]; rfl) h he hc

end Sys2Proof
end

section
/-!
SUPPORT. The long-format loads, stores and atomics of a quiet bobbin (R96, R97, R127, R128), and the statement about them.
-/

namespace Sys2Proof.Machine

/-- The fields of a core that place its flow, and its state, are kept. -/
def KeepsFlow (k k' : Core) : Prop :=
  k'.haltReq = k.haltReq ∧ k'.delay = k.delay ∧ k'.loops = k.loops ∧ k'.pc = k.pc ∧ k'.late = k.late ∧ k'.bubbles = k.bubbles ∧
    k'.pstate = k.pstate

theorem KeepsFlow.refl (k : Core) : KeepsFlow k k := ⟨rfl, rfl, rfl, rfl, rfl, rfl, rfl⟩

theorem KeepsFlow.trans {k k' k'' : Core} (h : KeepsFlow k k') (g : KeepsFlow k' k'') : KeepsFlow k k'' := by
  obtain ⟨h1, h2, h3, h4, h5, h6, h7⟩ := h
  obtain ⟨g1, g2, g3, g4, g5, g6, g7⟩ := g
  exact ⟨g1.trans h1, g2.trans h2, g3.trans h3, g4.trans h4, g5.trans h5, g6.trans h6, g7.trans h7⟩

theorem keepsFlow_setDs (k : Core) (x : Stk) : KeepsFlow k (k.setDs x) := by
  unfold Core.setDs; split <;> exact ⟨rfl, rfl, rfl, rfl, rfl, rfl, rfl⟩

theorem keepsFlow_setRs (k : Core) (x : Stk) : KeepsFlow k (k.setRs x) := by
  unfold Core.setRs; split <;> exact ⟨rfl, rfl, rfl, rfl, rfl, rfl, rfl⟩

theorem keepsFlow_applyA (c : Nat) (k : Core) (o : AOut) : KeepsFlow k (applyA c k o) := by
  obtain ⟨h1, h2, h3, h4, -, -⟩ := applyA_fields c k o
  refine ⟨h1, h2, h3, h4, applyA_late c k o, ?_, applyA_pstate c k o⟩
  have hd (x : Stk) : (k.setDs x).bubbles = k.bubbles := by unfold Core.setDs; split <;> rfl
  cases hf : o.flags <;> by_cases hl : c ≠ spindle ∧ 1 < o.lat <;> simp [applyA, hf, hl, hd]

section
variable {s u : State} {w : LWord} (q : Quiet s w.core) (p : PlainL w) {body : State → Core → Res}
include q p

/-- A long-format word that goes on in sequence, with at most one access and one bank store. -/
theorem runLong_bank (d : Done) (st : Option (Nat × TWord)) (wt : Nat)
    (hb : body (setCore s w.core (at_ s w.core)) (at_ s w.core) = (.ok d, u))
    (hu : OnPage (setCore s w.core (at_ s w.core)) u (pgBOB w.core)) (hk : KeepsFlow (at_ s w.core) d.k)
    (hd : d.flow = .seq 0 ∧ d.host = [] ∧ d.annulled = false ∧ d.after = fun s => s)
    (h3 : d.store = st.map fun p => (.bank p.1, p.2))
    (hst : ∀ p, st = some p → eicWord p.1 = none ∧ ∀ m ∈ s.prck.migs, m.copying = false)
    (h2 : d.acc = [] ∧ wt = 0 ∨ ∃ x a b, d.acc = [(x, a)] ∧ placeOf w.core a = some (.bank b) ∧ w.env.bankWait ≤ 17 ∧
      w.env.remoteWait ≤ 200 ∧ wt = waitOf w.core w.env b) :
    Leaves (stored s st) (runLong w body s) w.core (noted s d.k st) (d.cycles + d.wait + wt) := by
  obtain ⟨hc, hr, -, hh, hdl, hl, hbu, -⟩ := id q
  obtain ⟨kh, kd, kl, kp, kt, -, ks⟩ := hk
  obtain ⟨d1, d2, d3, d4⟩ := hd
  refine runLong_leaves s u w body d st wt q p hb hu (kh.trans hh) ⟨kd.trans hdl, kt.trans hbu.2⟩ ?_ kp d1 d2 d3 d4 ?_ h3 hst h2
  · rw [kl, kp]; exact hl.1
  · rw [ks]; exact runs_ne_off s w.core hc hr

variable {a b pop : Nat} {x : TWord}

/-- The same with a store to plain bank memory: the word it replaces is noted for the next word's loads. -/
theorem runLong_bankStore (d : Done) (wt : Nat)
    (hb : body (setCore s w.core (at_ s w.core)) (at_ s w.core) = (.ok d, u))
    (hu : OnPage (setCore s w.core (at_ s w.core)) u (pgBOB w.core)) (hk : KeepsFlow (at_ s w.core) d.k)
    (hd : d.flow = .seq 0 ∧ d.host = [] ∧ d.annulled = false ∧ d.after = fun s => s)
    (h3 : d.store = some (.bank b, x)) (hn : d.k.staleNew = []) (he : eicWord b = none) (hc : ∀ m ∈ s.prck.migs, m.copying = false)
    (h2 : d.acc = [] ∧ wt = 0 ∨ ∃ x a b, d.acc = [(x, a)] ∧ placeOf w.core a = some (.bank b) ∧ w.env.bankWait ≤ 17 ∧
      w.env.remoteWait ≤ 200 ∧ wt = waitOf w.core w.env b) :
    Leaves (bankSet s b x) (runLong w body s) w.core { d.k with staleNew := [(b, bankSeen s b)] } (d.cycles + d.wait + wt) := by
  rw [← noted_store s b x hn]
  exact runLong_bank q p d (some (b, x)) wt hb hu hk hd h3 (plain_store he hc) h2

/-! ### Absolute accesses -/

/-- A word that loads has its load's effect and waits for its bank. -/
theorem runLong_load
    (hb : body (setCore s w.core (at_ s w.core)) (at_ s w.core) = effDone w.core (at_ s w.core)
      (loadOp (setCore s w.core (at_ s w.core)) w.core (at_ s w.core) w.env none pop a))
    (h : Serves s w.core w.env (at_ s w.core) .read a b) (hx : loadSees s (at_ s w.core) b = some x) (hg : b ∉ s.mem.bankBad)
    (ht : tagCauses (at_ s w.core) [(.move, x)] = none) :
    Leaves s (runLong w body s) w.core (applyA w.core (at_ s w.core) { pop := pop, push := [x], lat := 3 })
      (1 + waitOf w.core w.env b) :=
  runLong_bank q p { aDone w.core (at_ s w.core) { pop := pop, push := [x], lat := 3 } with acc := [(false, a)] } none
    (waitOf w.core w.env b) (by rw [hb, loadOp_serves _ pop h hx hg ht]; rfl) (OnPage.refl _ _) (keepsFlow_applyA _ _ _)
    ⟨rfl, rfl, rfl, rfl⟩ rfl (fun _ g => nomatch g) (.inr (h.waits false))

/-- A word that stores has its store's effect, notes the word it replaces and waits for its bank. -/
theorem runLong_store
    (hb : body (setCore s w.core (at_ s w.core)) (at_ s w.core) = effDone w.core (at_ s w.core)
      (storeOp (setCore s w.core (at_ s w.core)) w.core (at_ s w.core) w.env none pop a x))
    (h : Serves s w.core w.env (at_ s w.core) .write a b) (he : eicWord b = none) (hc : ∀ m ∈ s.prck.migs, m.copying = false) :
    Leaves (bankSet s b x) (runLong w body s) w.core
      { applyA w.core (at_ s w.core) { pop := pop } with staleNew := [(b, bankSeen s b)] } (1 + waitOf w.core w.env b) :=
  runLong_bankStore q p { aDone w.core (at_ s w.core) { pop := pop } with acc := [(true, a)], store := some (.bank b, x) }
    (waitOf w.core w.env b) (by rw [hb, storeOp_serves _ pop x h]; rfl) (OnPage.refl _ _) (keepsFlow_applyA _ _ _)
    ⟨rfl, rfl, rfl, rfl⟩ rfl (applyA_staleNew _ _ _) he hc (.inr (h.waits true))

/-! ### Strand-local accesses (R97) -/

section
variable {o : OnCore} {n : Nat} (ho : (at_ s w.core).strand = some o) (hn : n ≤ 23)
  (hcell : b = ctxAddr (pilOf w.core) o.slot (40 + n)) (hserve : bankServes s b = true) (h1 : w.env.bankWait ≤ 17)
  (h2 : w.env.remoteWait ≤ 200)
include ho hn hcell

omit p in
/-- Cell `n` of the strand on a bobbin, where the other checks of the word pass. -/
theorem localCheck_cell {more : List Check} (h : firstExc more = none) : localCheck w.core (at_ s w.core) n more = .ok b := by
  have hc : w.core < 256 := q.1
  have hf : firstExc (failIf (decide (w.core = spindle ∨ 23 < n)) Exc.il :: more) = none := by
    rw [decide_eq_false (by simp only [spindle]; omega)]
    exact h
  rw [localCheck, hf, localCell, ho, hcell]

include hserve h1 h2

theorem runLong_ldl (hf : Fits (at_ s w.core) 0 0 1) (hecc : w.env.ecc = .clean) (hx : loadSees s (at_ s w.core) b = some x)
    (hg : b ∉ s.mem.bankBad) (ht : tagCauses (at_ s w.core) [(.move, x)] = none) :
    Leaves s (runLong w (ldlRes w.core n w.env) s) w.core (applyA w.core (at_ s w.core) { push := [x], lat := 3 })
      (1 + waitOf w.core w.env b) := by
  obtain ⟨t, hw, hp⟩ := bankStall_quiet (setCore s w.core (at_ s w.core)) w.core b w.env q.2.2.1 h1 h2
  refine runLong_bank q p
    { aDone w.core (at_ s w.core) { push := [x], lat := 3 } with wait := waitOf w.core w.env b } none 0 ?_ hp
    (keepsFlow_applyA _ _ _) ⟨rfl, rfl, rfl, rfl⟩ rfl (fun _ g => nomatch g) (.inl ⟨rfl, rfl⟩)
  have hs : bankServes (setCore s w.core (at_ s w.core)) b = true := hserve
  rw [ldlRes, localCheck_cell q ho hn hcell (by rw [hf.check]; rfl)]
  simp only [hs, hecc, readSeen_loadSees _ hx hg, ht, hw]
  rfl

theorem runLong_stl (hf : Fits (at_ s w.core) 1 1 0) (ht : tagCauses (at_ s w.core) [(.move, (at_ s w.core).ds.peek 0)] = none)
    (he : eicWord b = none) (hc : ∀ m ∈ s.prck.migs, m.copying = false) :
    Leaves (bankSet s b ((at_ s w.core).ds.peek 0)) (runLong w (stlRes w.core n w.env) s) w.core
      { applyA w.core (at_ s w.core) { pop := 1 } with staleNew := [(b, bankSeen s b)] } (1 + waitOf w.core w.env b) := by
  obtain ⟨t, hw, hp⟩ := bankStall_quiet (setCore s w.core (at_ s w.core)) w.core b w.env q.2.2.1 h1 h2
  refine runLong_bankStore q p
    { aDone w.core (at_ s w.core) { pop := 1 } with
      store := some (.bank b, (at_ s w.core).ds.peek 0), wait := waitOf w.core w.env b }
    0 ?_ hp (keepsFlow_applyA _ _ _) ⟨rfl, rfl, rfl, rfl⟩ rfl (applyA_staleNew _ _ _) he hc (.inl ⟨rfl, rfl⟩)
  have hs : bankServes (setCore s w.core (at_ s w.core)) b = true := hserve
  rw [stlRes, localCheck_cell q ho hn hcell (by rw [hf.check, ht]; rfl)]
  simp only [hs, hw]
  rfl

end

/-! ### Bank atomics (R128) -/

omit q p in
theorem atomicRead_serves {c : Nat} {e : Env} {k : Core} (j : Core) (h : Serves s c e k .atomic a b) (hg : b ∉ s.mem.bankBad) :
    atomicRead (setCore s c j) c k e a = (.ok (.bank b, bankGet s b), setCore s c j) := by
  have ⟨_, _, _, he, _⟩ := h
  simp only [atomicRead, accessCheck_serves j h, he, readPlace_clean j hg]

/-- An atomic that passes its checks writes one bank word, notes the word it replaces and waits for its bank. -/
theorem runLong_atomic {k' : Core} (hk : KeepsFlow (at_ s w.core) k') (hst : k'.staleNew = [])
    (hb : body (setCore s w.core (at_ s w.core)) (at_ s w.core) =
      (.ok { k := k', acc := [(true, a)], store := some (.bank b, x) }, setCore s w.core (at_ s w.core)))
    (h : Serves s w.core w.env (at_ s w.core) .atomic a b) (he : eicWord b = none) (hc : ∀ m ∈ s.prck.migs, m.copying = false) :
    Leaves (bankSet s b x) (runLong w body s) w.core { k' with staleNew := [(b, bankSeen s b)] } (1 + waitOf w.core w.env b) :=
  runLong_bankStore q p _ (waitOf w.core w.env b) hb (OnPage.refl _ _) hk ⟨rfl, rfl, rfl, rfl⟩ rfl hst he hc (.inr (h.waits true))

end

theorem Qual.good_merge (q : Qual) : Qual.good.merge q = q := rfl

/-- The carry-free sum of two words. -/
theorem addW_false (a b : W32) : addW a b false =
    (a + b, decide (2 ^ 32 ≤ a.toNat + b.toNat), decide (a.toInt + b.toInt < -2 ^ 31 ∨ 2 ^ 31 ≤ a.toInt + b.toInt)) := by
  have hr : w32 (a.toNat + b.toNat + 0) = a + b := by
    apply BitVec.eq_of_toNat_eq
    rw [Nat.add_zero, BitVec.toNat_ofNat, BitVec.toNat_add]
  have ho : outS (sv a + sv b + (0 : Nat)) = decide (a.toInt + b.toInt < -2 ^ 31 ∨ 2 ^ 31 ≤ a.toInt + b.toInt) := by
    rw [outS, decide_eq_decide, sv, sv]
    omega
  exact Prod.ext hr (Prod.ext rfl ho)

theorem intTy_two (x y : TWord) : intTy [x, y] = if x.ty = .int ∨ y.ty = .int then .int else .nat := by
  simp [intTy]

/-- What ATADD delivers (R128): the sum of the bank word and the operand, its type and its quality. -/
def ataddSum (x n adr : TWord) : TWord :=
  ⟨if x.ty = .int ∨ n.ty = .int then .int else .nat, (x.q.merge n.q).merge adr.q, false, x.pay + n.pay⟩

/-- The flags that travel with it. -/
def ataddFlags (x n adr : TWord) : Landing :=
  .flags (decide (x.pay + n.pay = 0)) (x.pay + n.pay).msb (decide (2 ^ 32 ≤ x.pay.toNat + n.pay.toNat))
    (decide (x.pay.toInt + n.pay.toInt < -2 ^ 31 ∨ 2 ^ 31 ≤ x.pay.toInt + n.pay.toInt)) ((x.q.merge n.q).merge adr.q)

section
variable {s : State} {c b : Nat} {e : Env} {k : Core} (hc : c < 256) (hf : Fits k 2 2 1)
  (h : Serves s c e k .atomic (k.ds.peek 0).pay.toNat b) (hg : b ∉ s.mem.bankBad)
include hc hf h hg

theorem ataddRes_serves (j : Core)
    (ht : tagCauses k [(.arith [.int, .nat], k.ds.peek 1), (.addr, k.ds.peek 0)] = none)
    (hx : tagCauses k [(.arith [.int, .nat], bankGet s b)] = none) :
    let k1 := applyA c k { pop := 2, push := [ataddSum (bankGet s b) (k.ds.peek 1) (k.ds.peek 0)], lat := 3 }
    ataddRes c e (setCore s c j) k =
      (.ok { k := { k1 with flight := k1.flight ++ [⟨3, ataddFlags (bankGet s b) (k.ds.peek 1) (k.ds.peek 0)⟩] }
             acc := [(true, (k.ds.peek 0).pay.toNat)]
             store := some (.bank b, ataddSum (bankGet s b) (k.ds.peek 1) (k.ds.peek 0)) }, setCore s c j) := by
  have hs : ¬ c = spindle := Nat.ne_of_lt hc
  simp only [ataddRes, dsCap_bob _ _ hc, hf.check, ht, firstExc_none, tagCheck_none, firstExc_nil, atomicRead_serves j h hg, hx,
    addW_false, intTy_two, if_neg hs]
  rfl

theorem atswpRes_serves (j : Core) (ht : tagCauses k [(.move, k.ds.peek 1), (.addr, k.ds.peek 0)] = none)
    (hx : tagCauses k [(.move, bankGet s b)] = none) :
    atswpRes c e (setCore s c j) k =
      (.ok { k := applyA c k { pop := 2, push := [bankGet s b], lat := 3 }, acc := [(true, (k.ds.peek 0).pay.toNat)]
             store := some (.bank b, k.ds.peek 1) }, setCore s c j) := by
  simp only [atswpRes, dsCap_bob _ _ hc, hf.check, ht, firstExc_none, tagCheck_none, firstExc_nil, atomicRead_serves j h hg, hx]
  rfl

end
end Sys2Proof.Machine

namespace Sys2Proof
open Machine

/-- Settles O16, one word after the other. The flags of ATADD and the quality that its sum merges are the choices of log entry 125. -/
theorem longLoadsStoresAndAtomics : Obligations.LongLoadsStoresAndAtomics := by
  intro s w a i b q p c k n t load noting plainBank
  have hc : c < 256 := q.1
  have hcap : dsCap (setCore s c k) c = 16 := dsCap_bob _ _ hc
  refine ⟨fun hf x hx hg hm h => ⟨_, rfl, ?_⟩, fun hf ht hb h => ⟨_, rfl, ?_⟩, fun o ho hn hcell hs h1 h2 => ⟨?_, ?_⟩,
    fun hf hb h hg => ⟨?_, ?_⟩⟩
  · exact runLong_load q p (by rw [hcap, hf.check]) h hx hg hm
  · exact runLong_store q p (by rw [hcap, hf.check, ht]; rfl) h hb.1 hb.2
  · exact fun hf he x hx hg hm => ⟨_, rfl, runLong_ldl q p ho hn hcell hs h1 h2 hf he hx hg hm⟩
  · exact fun hf ht hb => ⟨_, rfl, runLong_stl q p ho hn hcell hs h1 h2 hf ht hb.1 hb.2⟩
  · intro ht hx
    exact ⟨_, rfl, runLong_atomic q p (keepsFlow_applyA _ _ _) (applyA_staleNew _ _ _)
      (ataddRes_serves hc hf h hg k ht hx) h hb.1 hb.2⟩
  · intro ht hx
    exact ⟨_, rfl, runLong_atomic q p (keepsFlow_applyA _ _ _) (applyA_staleNew _ _ _)
      (atswpRes_serves hc hf h hg k ht hx) h hb.1 hb.2⟩

end Sys2Proof
end

section
/-!
SUPPORT. The flow of words that branch and of words that open a loop (R85, R86, R129, R130, R185, R186), and the statements about
them.
-/

namespace Sys2Proof.Machine

/-! ### The next word in sequence -/

/-- No loop ends at the word `pc` and the body of none starts behind it. -/
def Clear (pc : Nat) (ls : List Loop) : Prop := ∀ l ∈ ls, if l.entered then l.stop ≠ pc + 1 else l.start ≠ pc + 1

theorem Inside.clear {pc : Nat} {ls : List Loop} (h : Inside pc ls) : Clear pc ls := fun l hl => by
  rw [if_pos (h l hl).1]
  exact (h l hl).2.2

theorem follow_clear {pc : Nat} {ls : List Loop} (h : Clear pc ls) : follow 1 pc ls = (pc + 1, ls, .none) := by
  induction ls with
  | nil => rfl
  | cons l t ih =>
    obtain ⟨hl, ht⟩ := List.forall_mem_cons.1 h
    cases he : l.entered with
    | false => simp [follow, he, ih ht]
    | true =>
      rw [he, if_pos rfl] at hl
      simp [follow, he, Ne.symm hl]

theorem arrive_clear (n : Nat) {pc : Nat} {ls : List Loop} (h : Clear pc ls) : arrive n (pc + 1) ls = (pc + 1, ls) := by
  have hh : ∀ l ∈ ls, (!l.entered && decide (pc + 1 = l.start)) = false := fun l hl => by
    have := h l hl
    cases he : l.entered with
    | false => simpa [he, eq_comm] using this
    | true => rfl
  have hf : (ls.find? fun l => (!l.entered && decide (pc + 1 = l.start)) && decide (l.left = 0)) = none :=
    List.find?_eq_none.2 fun l hl => by simp [hh l hl]
  have h1 : (ls.filter fun l => !l.entered && decide (pc + 1 = l.start)) = [] :=
    List.filter_eq_nil_iff.2 fun l hl => by simp [hh l hl]
  have h2 : (ls.filter fun l => !(!l.entered && decide (pc + 1 = l.start))) = ls :=
    List.filter_eq_self.2 fun l hl => by simp [hh l hl]
  unfold arrive
  simp only [hf, h1, h2]
  cases n <;> rfl

/-- A branch that is no call ends the innermost loop where it leaves its body (R185). -/
theorem leavesLoop_inside {k : Core} (h : Inside k.pc k.loops) (t : Nat) (call : Bool) :
    (leavesLoop k t call && (match k.inner, k.inner with
      | some l, some m => decide (l.start = m.start ∧ l.stop = m.stop)
      | _, _ => false)) = (!call && Leaving k t) := by
  unfold leavesLoop Leaving Core.inner
  cases hk : k.loops with
  | nil => cases call <;> rfl
  | cons l ls =>
    have he : l.entered = true := (h l (hk ▸ List.mem_cons_self)).1
    simp [List.find?_cons_of_pos, he, Bool.and_assoc]

section
variable {c : Nat} {k : Core} (hc : c < 256) (hl : Clear k.pc k.loops) (hp : k.pc < 65535)
include hc hl hp

/-- Where no loop ends and none begins, the next word is the next address. -/
theorem stepSeq_clear : stepSeq c k = { k with pc := k.pc + 1 } := by
  have hs : pcStep c = 1 := if_neg (show ¬ c = spindle from Nat.ne_of_lt hc)
  have hw : pcWrap c (k.pc + 1) = k.pc + 1 := by
    rw [pcWrap, if_neg (show ¬ c = spindle from Nat.ne_of_lt hc), Nat.mod_eq_of_lt (by omega)]
  simp only [stepSeq, hs, follow_clear hl, goto, arrive_clear _ hl, hw]

/-! ### Flows -/

variable (hd : k.delay = none) (ht : k.late = [])
include hd ht

/-- A word goes on in sequence. -/
theorem flowOn_next : flowOn c k (.seq 0) = ({ k with pc := k.pc + 1, delay := none, bubbles := 0, late := [] }, none) := by
  have hs : ¬ c = spindle := Nat.ne_of_lt hc
  simp only [flowOn, flowTo, hd, if_neg hs]
  rw [stepSeq_clear (k := { k with delay := none }) hc hl hp]
  simp only [dueBubbles, ht]
  rfl

/-- A word goes on in sequence, and one bubble is due after the next word. -/
theorem flowOn_bubble (hb : k.bubbles = 0) :
    flowOn c k (.later 1 1) = ({ k with pc := k.pc + 1, delay := none, bubbles := 0, late := [(1, 1)] }, none) := by
  have hs : ¬ c = spindle := Nat.ne_of_lt hc
  simp only [flowOn, flowTo, hd, if_neg hs]
  rw [stepSeq_clear (k := { k with delay := none }) hc hl hp]
  simp only [dueBubbles, ht]
  show (({ k with pc := k.pc + 1, delay := none, bubbles := k.bubbles + 0, late := [(1, 1)] } : Core), none) = _
  rw [hb]

omit hl in
/-- A branch that is taken leaves its target to the delay slot. -/
theorem flowOn_jump (hi : Inside k.pc k.loops) (hb : k.bubbles = 0) (t b : Nat) :
    flowOn c k (.branch true t b false) =
      ({ k with pc := k.pc + 1, delay := some (.branch t b (Leaving k t)), bubbles := 0, late := [] }, none) := by
  have hs : ¬ c = spindle := Nat.ne_of_lt hc
  have hv := leavesLoop_inside hi t false
  simp only [flowOn, flowTo, hd, if_neg hs]
  rw [stepSeq_clear (k := { k with delay := none }) hc hi.clear hp]
  simp only [dueBubbles, ht]
  show (({ k with
    pc := k.pc + 1, delay := some (.branch t b (leavesLoop k t false && (match k.inner, k.inner with
      | some l, some m => decide (l.start = m.start ∧ l.stop = m.stop)
      | _, _ => false))), bubbles := k.bubbles + 0, late := [] } : Core), none) = _
  rw [hv, hb]
  rfl

omit hl in
/-- A call leaves its target to the delay slot and keeps the loops. -/
theorem flowOn_call (hi : Inside k.pc k.loops) (hb : k.bubbles = 0) (t b : Nat) :
    flowOn c k (.branch true t b true) =
      ({ k with
        pc := k.pc + 1, delay := some (.branch t b false), lbActive := false, lbCap := false, bubbles := 0, late := [] }, none) := by
  have hs : ¬ c = spindle := Nat.ne_of_lt hc
  have hv := leavesLoop_inside hi t true
  simp only [flowOn, flowTo, hd, if_neg hs]
  rw [stepSeq_clear (k := { k with delay := none }) hc hi.clear hp]
  simp only [dueBubbles, ht]
  show (({ k with
    pc := k.pc + 1, delay := some (.branch t b (leavesLoop k t true && (match k.inner, k.inner with
      | some l, some m => decide (l.start = m.start ∧ l.stop = m.stop)
      | _, _ => false))), lbActive := false, lbCap := false, bubbles := k.bubbles + 0, late := [] } : Core), none) = _
  rw [hv, hb]
  rfl

end

/-! ### Branches and calls (R85, R99, R129, R130) -/

theorem Leaving_congr {k x : Core} (h : KeepsFlow k x) (t : Nat) : Leaving x t = Leaving k t := by
  obtain ⟨-, -, hl, hp, -⟩ := h
  rw [Leaving, hl, hp, Leaving]

section
variable {s : State} {w : LWord} (q : Quiet s w.core) (p : PlainL w) {res : State → Core → Res} {pr : Pred} {x : Core} {t b n : Nat}
include q p

/-- A branch word of a quiet bobbin moves the core as its flow says. -/
theorem runBranch_flow {call : Bool} {k' : Core} (hx : KeepsFlow (at_ s w.core) x)
    (h : res (setCore s w.core (at_ s w.core)) (at_ s w.core) =
      (.ok { k := x, flow := .branch true t b call, cycles := n }, setCore s w.core (at_ s w.core)))
    (hf : flowOn w.core x (.branch true t b call) = (k', none)) (hk : k'.haltReq = x.haltReq) :
    runBranch w (fun u k => foretold w pr (res u k)) s =
      wordEnd s w.core { k' with lastPc := (core s w.core).pc, atHandler := false, bpPass := false } n := by
  obtain ⟨-, -, -, hh, hdl, -⟩ := id q
  refine runWord_flow s w.core w.env (fun u k snap =>
      conditioned w.cond true true snap k u (if k.delay.isSome then (.error Exc.il, u) else foretold w pr (res u k))) q p.2
    { k := x, flow := .branch true t b call, cycles := n, pred := if pr = .none ∧ w.cond ≠ .al then .direction else pr } k' ?_
    (hx.1.trans hh) hf ⟨nofun, nofun⟩ hk rfl rfl rfl rfl rfl rfl
  have hd : (at_ s w.core).delay = none := hdl
  simp only [p.1, conditioned, condCheck, condHolds, hd, h, foretold]
  rfl

/-- A branch that is no call. -/
theorem runBranch_jump (hx : KeepsFlow (at_ s w.core) x)
    (h : res (setCore s w.core (at_ s w.core)) (at_ s w.core) =
      (.ok { k := x, flow := .branch true t b false, cycles := n }, setCore s w.core (at_ s w.core))) :
    runBranch w (fun u k => foretold w pr (res u k)) s =
      wordEnd s w.core (slotted x (.branch t b (Leaving (at_ s w.core) t))) n := by
  obtain ⟨hc, -, -, -, hdl, hin, hbu, -, -, -, -, hpc⟩ := id q
  obtain ⟨-, xd, xl, xp, xt, xb, -⟩ := id hx
  have hp : x.pc = (core s w.core).pc := xp
  have hf := flowOn_jump (k := x) hc (by omega) (xd.trans hdl) (xt.trans hbu.2) (by rw [xp, xl]; exact hin.1) xb t b
  rw [runBranch_flow q p hx h hf rfl, ← Leaving_congr hx, ← hp]
  rfl

/-- A call. -/
theorem runBranch_call (hx : KeepsFlow (at_ s w.core) x)
    (h : res (setCore s w.core (at_ s w.core)) (at_ s w.core) =
      (.ok { k := x, flow := .branch true t b true, cycles := n }, setCore s w.core (at_ s w.core))) :
    runBranch w (fun u k => foretold w pr (res u k)) s =
      wordEnd s w.core { slotted x (.branch t b false) with lbActive := false, lbCap := false } n := by
  obtain ⟨hc, -, -, -, hdl, hin, hbu, -, -, -, -, hpc⟩ := id q
  obtain ⟨-, xd, xl, xp, xt, xb, -⟩ := id hx
  have hp : x.pc = (core s w.core).pc := xp
  have hf := flowOn_call (k := x) hc (by omega) (xd.trans hdl) (xt.trans hbu.2) (by rw [xp, xl]; exact hin.1) xb t b
  rw [runBranch_flow q p hx h hf rfl, ← hp]
  rfl

end

section
variable {s : State} {c : Nat} {k : Core} (hc : c < 256)
include hc

/-- The link of a call on a bobbin: the word after its slot (R72). -/
theorem callLink_bob (hi : Inside k.pc k.loops) (hp : k.pc < 65535) :
    callLink c k = [TWord.ofTy .ret (w32 ((k.pc + 2) % 2 ^ 16))] := by
  have hs : ¬ c = spindle := Nat.ne_of_lt hc
  rw [callLink, slotAddr, stepSeq_clear hc hi.clear hp, linkCells, pcWrap, pcStep, if_neg hs, if_neg hs, if_neg hs, Nat.mod_mod]

/-- A target within a bobbin's code memory (R85). -/
theorem relTarget_bob {off : BitVec 22} {t : Nat} (ht : (t : Int) = k.pc + off.toInt) (h : t < 65536) :
    relTarget c k off = .ok t := by
  have hs : ¬ c = spindle := Nat.ne_of_lt hc
  have he : (k.pc : Int) + off.toInt * (pcStep c : Nat) = t := by
    rw [pcStep, if_neg hs, Nat.cast_one, mul_one, ht]
  simp only [relTarget, he, if_neg hs]
  rw [if_neg (by omega)]
  rfl

theorem callRes_bob {off : BitVec 22} {t : Nat} {link : TWord} (ht : (t : Int) = k.pc + off.toInt) (h : t < 65536)
    (hl : callLink c k = [link]) (hr : k.rs.depth < 16) :
    callRes c off s k = (.ok { k := k.setRs (k.rs.push link), flow := .branch true t 0 true }, s) := by
  have h1 : depthCheck 1 k.rs.depth 16 0 0 1 = none := depthCheck_none (Nat.zero_le _) fun _ => hr
  simp only [callRes, hl, rsCap_bob _ _ hc, List.length_singleton, h1, relTarget_bob hc ht h]
  rfl

theorem retRes_bob (hd : 1 ≤ k.rs.depth) (ht : (k.rs.peek 0).ty = .ret) (hr : (k.rs.peek 0).rsv = false)
    (hp : (k.rs.peek 0).pay.toNat < 2 ^ 16) :
    retRes c s k = (.ok { k := k.setRs (k.rs.drop 1), flow := .branch true (k.rs.peek 0).pay.toNat 1 false, cycles := 2 }, s) := by
  have hs : ¬ c = spindle := Nat.ne_of_lt hc
  have h1 : bits (k.rs.peek 0).pay 16 16 = 0 := by rw [bits, Nat.div_eq_of_lt hp, Nat.zero_mod]
  have h2 : bits (k.rs.peek 0).pay 0 16 = (k.rs.peek 0).pay.toNat := by
    rw [bits, Nat.pow_zero, Nat.div_one, Nat.mod_eq_of_lt hp]
  have hv : ([k.rs.peek 0].any fun w => decide (w.ty = .void)) = false := by simp [ht]
  have hn : ([k.rs.peek 0].any fun w => decide (w.ty ≠ .ret)) = false := by simp [ht]
  have ha : ([k.rs.peek 0].any (·.rsv)) = false := by simp [hr]
  have h3 : depthCheck 1 k.rs.depth 16 1 1 0 = none := depthCheck_none hd (by omega)
  simp only [retRes, if_neg hs, h1, h2, hv, hn, ha, rsCap_bob _ _ hc, h3]
  rfl

theorem indirectRes_bob {call : Bool} (hd : 1 ≤ k.ds.depth) (ht : tagCauses k [(.addr, k.ds.peek 0)] = none)
    (hp : (k.ds.peek 0).pay.toNat < 2 ^ 16) {l : List TWord} (hl : (if call then callLink c k else []) = l)
    (hr : 0 < l.length → k.rs.depth + l.length ≤ 16) :
    indirectRes c call s k = (.ok { k := (k.setDs (k.ds.drop 1)).setRs (k.rs.pushAll l)
                                    flow := .branch true (k.ds.peek 0).pay.toNat 1 call, cycles := 2 }, s) := by
  have hs : ¬ c = spindle := Nat.ne_of_lt hc
  have h1 : decide (c = spindle ∧ (k.ds.peek 0).pay.toNat % 4 ≠ 0) = false := by simp [hs]
  have h2 : decide (c ≠ spindle ∧ 65535 < (k.ds.peek 0).pay.toNat) = false := decide_eq_false (by omega)
  have h3 : depthCheck 0 k.ds.depth 16 1 1 0 = none := depthCheck_none hd (by omega)
  have h4 : depthCheck 1 k.rs.depth 16 0 0 l.length = none := depthCheck_none (Nat.zero_le _) hr
  simp only [indirectRes, if_neg hs, hl, h1, h2, ht, dsCap_bob _ _ hc, rsCap_bob _ _ hc, h3, h4]
  rfl

end

end Sys2Proof.Machine

namespace Sys2Proof
open Machine

/-- Settles O18, one word after the other. -/
theorem controlTransfers : Obligations.ControlTransfers := by
  intro s w off q p c k d r link jump call
  have hc : c < 256 := q.1
  have hl : callLink c k = [link] := callLink_bob hc q.inside q.pc_lt
  refine ⟨fun t ht h => ⟨?_, fun hr => ?_⟩, fun hd ht hr hp => ?_, fun hd ht hp => ⟨?_, fun hr => ?_⟩⟩
  · exact congrArg _ (runBranch_jump q p (KeepsFlow.refl k) (by rw [brRes, relTarget_bob hc ht h]; rfl))
  · exact congrArg _ (runBranch_call q p (keepsFlow_setRs _ _) (callRes_bob hc ht h hl hr))
  · exact congrArg _ (runBranch_jump q p (keepsFlow_setRs _ _) (retRes_bob hc hd ht hr hp))
  · refine congrArg _ (runBranch_jump q p (keepsFlow_setDs _ _) ?_)
    rw [indirectRes_bob (call := false) (l := []) hc hd ht hp rfl (by simp), show k.rs.pushAll [] = k.rs from rfl,
      Core.setDs_setRs_rs]
  · refine congrArg _ (runBranch_call q p ((keepsFlow_setDs _ _).trans (keepsFlow_setRs _ _)) ?_)
    rw [indirectRes_bob (call := true) (l := [link]) hc hd ht hp hl fun _ => hr, Core.setDs_rs]
    rfl

end Sys2Proof
end

section
/-!
SUPPORT. Words that open a loop (R63, R86, R186), and the statement about them.
-/

namespace Sys2Proof.Machine

/-! ### Checks -/

/-- A word that raises no cause where its type is judged by a specific cause raises none where the rule gives cause 1 (R42, R86). -/
theorem tagCause_strict {sc : Scope} {lvl : Level} {ok : List Ty} {x : TWord} (h : tagCause sc lvl (.plain ok) x = none) :
    tagCause sc lvl (.strict ok) x = none := by
  have hc : (decide (sc = .full) && decide (x.ty ∉ ok)) = false := by
    by_contra hc
    obtain ⟨rfl, hn⟩ : sc = .full ∧ x.ty ∉ ok := by simpa using hc
    by_cases hv : x.ty = .void
    · simp [tagCause, hv] at h
    · by_cases hr : x.ty = .ret ∧ lvl = .u
      · simp [tagCause, hr] at h
        split at h <;> cases h
      · simp [tagCause, hv, hr, hn] at h
  simp only [tagCause, hc, Bool.false_and, ne_eq, reduceCtorEq, not_false_eq_true, true_and, decide_false] at h ⊢
  exact h

section
variable {c : Nat} {k : Core} {dist len : Nat} (hc : c < 256)
include hc

/-- A loop whose body lies in a bobbin's code memory, where one more loop may be open, is legal. -/
theorem loopBad_bob (hn : k.loops.length < 2) (hd : 2 ≤ dist) (hl : len ≠ 0) (hp : k.pc + dist + len ≤ 65536) :
    loopBad c k dist len = false := by
  have hs : ¬ c = spindle := Nat.ne_of_lt hc
  have hf := List.length_filter_le (fun l : Loop => l.entered || decide (l.left ≠ 0)) k.loops
  simp only [loopBad, pcStep, if_neg hs, Bool.or_eq_false_iff, decide_eq_false_iff_not]
  omega

theorem loopDone_bob (count : Nat) (tos : Bool) : loopDone c k dist len count tos =
    { k := { k with
        loops := ⟨k.pc + dist, k.pc + dist + len, count, false, false⟩ :: k.loops, lbActive := false, lbCap := false }
      flow := if tos && decide (count = 0 ∧ dist = 2) then .later 1 1 else .seq 0 } := by
  have hs : ¬ c = spindle := Nat.ne_of_lt hc
  simp only [loopDone, pcStep, if_neg hs, Nat.mul_one]

end

/-- LOOP takes a NAT, or an INT that is not negative, of any quality. -/
theorem loopRes_bob {c : Nat} {k : Core} {dist len : Nat} (s : State) (hc : c < 256) (hb : loopBad c k dist len = false)
    (hd : 1 ≤ k.ds.depth) (ht : tagCauses k [(.plain [.int, .nat], k.ds.peek 0)] = none)
    (hi : (k.ds.peek 0).ty = .int → (k.ds.peek 0).pay.msb = false) :
    loopRes c dist len s k = (.ok (loopDone c (k.setDs (k.ds.drop 1)) dist len (k.ds.peek 0).pay.toNat true), s) := by
  have h1 : depthCheck 0 k.ds.depth 16 1 1 0 = none := depthCheck_none hd (by omega)
  have h2 : tagCauses k [(.strict intIn, k.ds.peek 0)] = none := tagCause_strict ht
  have h3 : (decide ((k.ds.peek 0).ty = .int) && (k.ds.peek 0).pay.msb) = false := by
    by_cases h : (k.ds.peek 0).ty = .int
    · rw [hi h, Bool.and_false]
    · rw [decide_eq_false h, Bool.false_and]
  simp only [loopRes, hb, dsCap_bob _ _ hc, h1, h2, h3]
  rfl

/-! ### A word that opens a loop -/

section
variable {s : State} {w : LWord} (q : Quiet s w.core) (p : PlainL w) {body : State → Core → Res} {x : Core} {dist len count : Nat}
include q p

/-- The loop stands behind those that are open, not yet active; a bubble may be due after the next word. -/
theorem runLong_loop {tos : Bool} (hx : KeepsFlow (at_ s w.core) x) (hd : 2 ≤ dist)
    (hb : body (setCore s w.core (at_ s w.core)) (at_ s w.core) =
      (.ok (loopDone w.core x dist len count tos), setCore s w.core (at_ s w.core))) :
    runLong w body s = wordEnd s w.core { onward x with
      loops := ⟨(at_ s w.core).pc + dist, (at_ s w.core).pc + dist + len, count, false, false⟩ :: (at_ s w.core).loops
      lbActive := false, lbCap := false
      late := if tos && decide (count = 0 ∧ dist = 2) then [(1, 1)] else [] } 1 := by
  obtain ⟨hc, -, -, hh, hdl, hin, hbu, -, -, -, -, hpc⟩ := id q
  obtain ⟨xh, xd, xl, xp, xt, xb, -⟩ := hx
  have hp : x.pc = (core s w.core).pc := xp
  let y : Core := { x with
    loops := ⟨x.pc + dist, x.pc + dist + len, count, false, false⟩ :: x.loops, lbActive := false, lbCap := false }
  have hl : Clear y.pc y.loops := by
    refine List.forall_mem_cons.2 ⟨?_, ?_⟩
    · show x.pc + dist ≠ x.pc + 1
      omega
    · rw [xl]
      exact hp ▸ hin.1.clear
  have hf : flowOn w.core y (if tos && decide (count = 0 ∧ dist = 2) then .later 1 1 else .seq 0) =
      ({ y with pc := y.pc + 1, delay := none, bubbles := 0
                late := if tos && decide (count = 0 ∧ dist = 2) then [(1, 1)] else [] }, none) := by
    split
    · exact flowOn_bubble hc hl (hp ▸ hpc) (xd.trans hdl) (xt.trans hbu.2) xb
    · exact flowOn_next hc hl (hp ▸ hpc) (xd.trans hdl) (xt.trans hbu.2)
  have hr := runWord_flow s w.core w.env (fun u k snap => conditioned w.cond false false snap k u (body u k)) q p.2
    { k := y, flow := if tos && decide (count = 0 ∧ dist = 2) then .later 1 1 else .seq 0 } _ ?_ (xh.trans hh) hf
    (by split <;> exact ⟨nofun, nofun⟩) rfl rfl rfl rfl rfl rfl rfl
  · rw [runLong, hr, ← hp, ← xl, ← xp]
    rfl
  · simp only [p.1, hb, loopDone_bob hc]
    rfl

end
end Sys2Proof.Machine

namespace Sys2Proof
open Machine

/-- Settles O20: a loop's word passes its checks and opens it; LOOP takes its count from TOS, LOOP.I has it in the word. -/
theorem loopsAreSetUp : Obligations.LoopsAreSetUp := by
  intro s w dist len n short q p c k d looped hdist hloops
  have hc : c < 256 := q.1
  refine ⟨fun hl hp hd ht hi => ?_, fun hl hp => ?_⟩
  · have hb := loopBad_bob hc hloops hdist (fun h => hl (BitVec.eq_of_toNat_eq h)) hp
    have hz : (if true && decide (d.pay.toNat = 0 ∧ dist.toNat = 2) then [(1, 1)] else []) =
        if d.pay = 0 ∧ dist = 2 then [(1, 1)] else ([] : List (Nat × Nat)) := by
      have h0 : d.pay = 0 ↔ d.pay.toNat = 0 := BitVec.toNat_eq
      have h2 : dist = 2 ↔ dist.toNat = 2 := BitVec.toNat_eq
      simp only [h0, h2, Bool.true_and, decide_eq_true_eq]
    rw [← hz]
    exact congrArg _ (runLong_loop q p (keepsFlow_setDs _ _) hdist (loopRes_bob _ hc hb hd ht hi))
  · have hb := loopBad_bob hc hloops hdist (fun h => hl (BitVec.eq_of_toNat_eq h)) hp
    refine congrArg _ (runLong_loop (x := k) (tos := false) q p (KeepsFlow.refl k) hdist ?_)
    show (checked [failIf (loopBad c k dist.toNat short.toNat) Exc.il] _, _) = _
    rw [hb]
    rfl

end Sys2Proof
end

section
/-!
SUPPORT. The entry of an exception on a quiet bobbin (R282 to R294): what it leaves beside the core, the descriptor it reads, the
frame it pushes, and the statement about illegal words.
-/

namespace Sys2Proof.Machine

/-! ### What an entry leaves alone -/

/-- Bobbin c has left everything beside itself and its page, the memories, the strands and the part's debug level. -/
def Apart (s t : State) (c : Nat) : Prop := Beside s t c ∧ t.mem = s.mem ∧ t.whrl = s.whrl ∧ dbgLevel t = dbgLevel s

section
variable {s t u : State} {c : Nat}

theorem Apart.mem (h : Apart s t c) : t.mem = s.mem := h.2.1

theorem Apart.whrl (h : Apart s t c) : t.whrl = s.whrl := h.2.2.1

theorem Apart.dbgLevel (h : Apart s t c) : dbgLevel t = dbgLevel s := h.2.2.2

theorem Apart.trans (h : Apart s t c) (g : Apart t u c) : Apart s u c := by
  obtain ⟨⟨h1, h2⟩, h3, h4, h5⟩ := h
  obtain ⟨⟨g1, g2⟩, g3, g4, g5⟩ := g
  exact ⟨⟨fun e he => (g1 e he).trans (h1 e he), fun q o hq ho => (g2 q o hq ho).trans (h2 q o hq ho)⟩, g3.trans h3, g4.trans h4,
    g5.trans h5⟩

theorem OnPage.apart (h : OnPage s t (pgBOB c)) : Apart s t c :=
  ⟨⟨fun e _ => onPage_core h e, h.2⟩, by rw [h.1], by rw [h.1], onPage_dbgLevel h⟩

theorem apart_setCore (s : State) (c : Nat) (k : Core) : Apart s (setCore s c k) c :=
  ⟨⟨fun e he => by rw [core_setCore, if_neg he], fun _ _ _ _ => rfl⟩, rfl, rfl, rfl⟩

theorem apart_loopCells (s : State) (c : Nat) (l : List (List Loop)) : Apart s { s with loopCells := l } c :=
  ⟨⟨fun _ _ => rfl, fun _ _ _ _ => rfl⟩, rfl, rfl, rfl⟩

/-- Cycles of a bobbin charge its core and count on its page. -/
theorem spend_apart (hc : c ≠ 256) (hd : dbgLevel s = 0) (k : Core) (n : Nat) (hk : k.pstate ≠ .off) :
    Apart s (spend (setCore s c k) c n) c ∧ core (spend (setCore s c k) c n) c = charge k n := by
  have h := spend_leaves s c n k hc hd hk
  exact ⟨(apart_setCore s c _).trans h.apart, (onPage_core h c).trans (core_setCore_same _ _ _)⟩

end

/-- No cycles charge nothing. -/
theorem charge_zero (k : Core) : charge k 0 = k := by
  unfold charge
  split
  · have : decide (0 < k.budgetLeft ∧ k.budgetLeft ≤ 0) = false := decide_eq_false (by omega)
    rw [this, Bool.or_false, Nat.sub_zero]
  · rfl

/-! ### The descriptor (R275 to R277) -/

theorem bankRead_clean {s : State} {a : Nat} (src : Nat) (h : a ∉ s.mem.bankBad) : bankRead s a src .clean = (some (bankGet s a), s) := by
  rw [bankRead, if_neg h]

/-- The words of an entry that can be read. -/
theorem readDesc_clean {s : State} {c n : Nat} (hc : c < 256) (h : ∀ i < 4, entryWord c n i ∉ s.mem.bankBad) :
    readDesc s c n .clean = (some ((List.range 4).map fun i => bankGet s (entryWord c n i)), s) := by
  have hs : ¬ c = spindle := Nat.ne_of_lt hc
  have h0 := bankRead_clean 0 (h 0 (by omega))
  have h1 := bankRead_clean 0 (h 1 (by omega))
  have h2 := bankRead_clean 0 (h 2 (by omega))
  have h3 := bankRead_clean 0 (h 3 (by omega))
  simp only [entryWord] at h0 h1 h2 h3
  simp only [readDesc, if_neg hs, ite_self, List.range_eq_range', List.range', List.foldl, h0, h1, h2, h3]
  rfl

/-- A bobbin waits for its own pillow's bank within the bounds of R179. -/
theorem bankStall_own {s : State} {c b : Nat} {e : Env} (hd : dbgLevel s = 0) (hp : b / 2 ^ 18 = pilOf c) (h : e.bankWait ≤ 17) :
    ∃ t, bankStall s c b e = (e.bankWait, t) ∧ OnPage s t (pgBOB c) := by
  have he : bankStall s c b e = bankStall s c b { e with remoteWait := 0 } := by simp only [bankStall, hp, if_true]
  have hw : waitOf c { e with remoteWait := 0 } b = e.bankWait := if_pos hp
  obtain ⟨t, ht, hq⟩ := bankStall_quiet s c b { e with remoteWait := 0 } hd h (Nat.zero_le _)
  exact ⟨t, by rw [he, ht, hw], hq⟩

theorem entryWord_pillow {c n i : Nat} (hn : n < 1024) (hi : i < 4) : entryWord c n i / 2 ^ 18 = pilOf c := by
  simp only [entryWord, bankAddr]
  omega

/-! ### The frame (R283) -/

theorem loopCellsOf_cells (s : State) (ls : List Loop) :
    ∃ a b z, (loopCellsOf s ls).1 = [a, b, z] ∧ (ls = [] → a = 0 ∧ b = 0 ∧ z = 0) := by
  unfold loopCellsOf
  split
  · exact ⟨0, 0, 0, rfl, fun _ => ⟨rfl, rfl, rfl⟩⟩
  · next h => split <;> exact ⟨_, _, _, rfl, fun g => absurd g h⟩

theorem loopCellsOf_apart (s : State) (c : Nat) (ls : List Loop) :
    Apart s (loopCellsOf s ls).2 c ∧ core (loopCellsOf s ls).2 c = core s c := by
  have h : (loopCellsOf s ls).2 = { s with loopCells := (loopCellsOf s ls).2.loopCells } := by
    unfold loopCellsOf
    split
    · rfl
    · split <;> rfl
  rw [h]
  exact ⟨apart_loopCells s c _, rfl⟩

/-- FINFO of an entry without a delay slot and without a DETAIL. -/
theorem finfoWord_bob {c v : Nat} (hc : c < 256) (hv : v < 2 ^ 10) (sw : Bool) :
    finfoWord c ⟨v, 0, 0, sw, 0, 0⟩ none = w32 (v + at' sw 11) := by
  have hs : ¬ c = spindle := Nat.ne_of_lt hc
  have h0 : at' (Option.isSome (none : Option Nat)) 10 = 0 := rfl
  simp only [finfoWord, if_neg hs, h0, Nat.mod_eq_of_lt hv, Option.getD_none, Nat.zero_mod, Nat.zero_mul, Nat.add_zero]

/-- The cells of a bobbin's frame, deepest first. -/
theorem frameCells_bob {c : Nat} (hc : c < 256) (s : State) (k : Core) (a b z : W32) (resume v : Nat) (hv : v < 2 ^ 10) (sw : Bool) :
    frameCells s c k [a, b, z] resume none ⟨v, 0, 0, sw, 0, 0⟩ =
      [TWord.nat a, TWord.nat b, TWord.nat z, TWord.nat 0, TWord.nat (w32 (v + at' sw 11)), TWord.nat (statusWord c k),
        TWord.ofTy .ret (w32 (resume % 2 ^ 16))] := by
  have hs : ¬ c = spindle := Nat.ne_of_lt hc
  simp only [frameCells, linkCells, finfoWord_bob hc hv, hs, false_and, if_false]
  rfl

/-! ### Entry -/

/-- A core with power keeps it at its handler. -/
theorem atEntry_pstate {k : Core} (h : k.pstate ≠ .off) (d : Desc) (mask : Nat) (esc : Bool) :
    (atEntry k d mask esc).pstate ≠ .off := by
  show (if k.pstate = .idle then (if k.strand.isSome then PState.strand else .system) else k.pstate) ≠ .off
  split
  · split <;> exact nofun
  · exact h

theorem Describes.congr {s t : State} {c n : Nat} {lv : Level} {d : Desc} (h : Describes s c n lv d) (hm : t.mem = s.mem) :
    Describes t c n lv d := by
  unfold Describes bankGet at *
  rw [hm]
  exact h

/-- An entry that describes a handler is read as the words that do. -/
theorem Describes.read {s : State} {c n : Nat} {lv : Level} {d : Desc} (hc : c < 256) (h : Describes s c n lv d) :
    ∃ l, readDesc s c n .clean = (some l, s) ∧ l.any (·.rsv) = false ∧ descOf c n lv (l.map (·.pay)) = some d := by
  obtain ⟨hb, hd⟩ := h
  refine ⟨_, readDesc_clean hc fun i hi => (hb i hi).1, ?_, ?_⟩
  · rw [List.any_map, List.any_eq_false]
    exact fun i hi => by simp [(hb i (List.mem_range.1 hi)).2]
  · rw [List.map_map]
    exact hd

/-- Entry where its descriptor reads and the privileged return stack has room. The proof keeps the definition and the descriptor's
address closed while it takes the definition's bindings apart: opened, they make the kernel compute with the address. -/
theorem enterBob_serves {s s1 s2 : State} {c a w n : Nat} {e : Env} {f : FrameInfo} {esc : Bool} {loops : List Loop} {cells : List W32}
    {l : List TWord} {d : Desc} (ha : bankAddr (pilOf c) 5 (0x7000 + 4 * n) = a) (hcells : loopCellsOf s loops = (cells, s1))
    (hdl : (core s c).delay = none) (hstall : bankStall s1 c a e = (w, s2)) (hread : readDesc s2 c n e.ecc = (some l, s2))
    (hrsv : l.any (·.rsv) = false) (hdesc : descOf c n (core s c).modes.level (l.map (·.pay)) = some d) (hr : (core s c).rsP.depth ≤ 9) :
    enterBob s c e f n esc loops none =
      spend (setCore s2 c (atEntry (toPriv (core s c) (frameCells s1 c (core s c) cells (core s c).pc none f) 0 0) d
        (if esc then 7 else d.mask) esc)) c (16 + w) := by
  have hres : resumePoint (core s c) = ((core s c).pc, none) := by rw [resumePoint, hdl]
  have hroom : ¬ 16 - (core s c).rsP.depth < 7 := by omega
  have hd : ((some l).bind fun l => if l.any (·.rsv) then none else descOf c n (core s c).modes.level (l.map (·.pay))) = some d := by
    rw [Option.bind_some, hrsv, if_neg Bool.false_ne_true, hdesc]
  obtain ⟨E, hE⟩ : ∃ E, E = @enterBob := ⟨_, rfl⟩
  rw [← hE]
  delta enterBob at hE
  rw [hE]
  beta_reduce
  rw [ha]
  simp only [hcells, hres, hstall, hread, hd, writeClaim, if_neg hroom]

section
variable {s : State} {c n v : Nat} {e : Env} {sw esc : Bool} {loops : List Loop} {d : Desc} (hc : c < 256) (hn : n < 1024)
  (hd : dbgLevel s = 0) (he : e.ecc = .clean) (hw : e.bankWait ≤ 17) (hdesc : Describes s c n (core s c).modes.level d)
include hc hn hd he hw hdesc

/-- A bobbin whose privileged return stack has room enters the handler of an entry that describes one: the frame is pushed, and
nothing beside the bobbin and its page differs. -/
theorem enterBob_entered (hv : v < 2 ^ 10) (hdl : (core s c).delay = none) (hr : (core s c).rsP.depth ≤ 9)
    (hp : (core s c).pstate ≠ .off) :
    ∃ a b z m, (loops = [] → a = 0 ∧ b = 0 ∧ z = 0) ∧
      Apart s (enterBob s c e ⟨v, 0, 0, sw, 0, 0⟩ n esc loops none) c ∧
      core (enterBob s c e ⟨v, 0, 0, sw, 0, 0⟩ n esc loops none) c = charge (atEntry (toPriv (core s c)
        [TWord.nat a, TWord.nat b, TWord.nat z, TWord.nat 0, TWord.nat (w32 (v + at' sw 11)), TWord.nat (statusWord c (core s c)),
          TWord.ofTy .ret (w32 ((core s c).pc % 2 ^ 16))] 0 0) d (if esc then 7 else d.mask) esc) m := by
  have hc' : c ≠ 256 := Nat.ne_of_lt hc
  obtain ⟨a, b, z, hcells, hz⟩ := loopCellsOf_cells s loops
  obtain ⟨h1, hk1⟩ := loopCellsOf_apart s c loops
  obtain ⟨t, ht, hp2⟩ := bankStall_own (s := (loopCellsOf s loops).2) (e := e) (h1.dbgLevel.trans hd)
    (entryWord_pillow (c := c) (i := 0) hn (by omega)) hw
  have h2 : Apart s t c := h1.trans hp2.apart
  obtain ⟨l, hread, hrsv, hl⟩ := (hdesc.congr h2.mem).read hc
  have henter := enterBob_serves (f := ⟨v, 0, 0, sw, 0, 0⟩) (esc := esc) (a := entryWord c n 0) rfl (Prod.ext hcells rfl)
    hdl ht (by rw [he]; exact hread) hrsv hl hr
  rw [henter, frameCells_bob hc _ _ _ _ _ _ _ hv]
  have hps (fr : List TWord) (mask : Nat) : (atEntry (toPriv (core s c) fr 0 0) d mask esc).pstate ≠ .off :=
    atEntry_pstate (k := toPriv (core s c) fr 0 0) hp d mask esc
  obtain ⟨h3, hk3⟩ := spend_apart hc' (h2.dbgLevel.trans hd) _ (16 + e.bankWait) (hps _ _)
  exact ⟨a, b, z, _, hz, h2.trans h3, hk3⟩

end

/-! ### Exceptions (R285, R287 to R289) -/

theorem drain_quiet {k : Core} (h : k.flight = []) :
    drain k = { k with flight := [], stale := [], staleNew := [], bubbles := 0, late := [], condNow := snapOf k } := by
  unfold drain
  rw [h]
  rfl

theorem traceRec_quiet {s : State} (h : dbgLevel s = 0) (o : Option Nat) (kind pc : Nat) (w : W32) : traceRec s o kind pc w = s := by
  unfold traceRec
  have : ¬ 1 ≤ dbgLevel s := by omega
  simp only [decide_eq_false this, Bool.and_false, Bool.not_false, Bool.true_or, if_true]

theorem Stays.congr {s t : State} {c : Nat} (h : Stays s c) (hs : (core t c).strand = (core s c).strand) (hw : t.whrl = s.whrl) :
    Stays t c := by
  unfold Stays ply? strand at *
  rw [hs, hw]
  exact h

theorem drainLeave_stays {s : State} {c : Nat} (h : Stays s c) : drainLeave s c = none := by
  cases ho : (core s c).strand with
  | none => simp only [drainLeave, ho]
  | some o =>
    cases hp : ply? s o.idx o.ply with
    | none => simp only [drainLeave, ho, hp]
    | some p => simp only [drainLeave, ho, hp, h o p ho hp, Option.isNone_none, if_true]

theorem goesHere_stays {s : State} {c : Nat} (h : Stays s c) (hf : (core s c).flight = []) : goesHere s c = none := by
  have hd : Stays (setCore s c (drain (core s c))) c := by
    refine h.congr ?_ rfl
    rw [core_setCore_same, drain_quiet hf]
  rw [goesHere, drainLeave_stays hd, ite_self]

/-- An exception that is neither IA nor FX enters its vector where no SUSPEND and no FREE waits. -/
theorem takeExc_enters {s : State} {c : Nat} {e : Env} {x : Exc} (h7 : x.vec ≠ 7) (h11 : x.vec ≠ 11) (h : Stays s c)
    (hf : (core s c).flight = []) : takeExc s c e x = enter s c e x.vec x.detail x.faddr true := by
  have h7' : ¬ (x.vec = 7 ∧ (core s c).atHandler = true ∧ x.faddr = (core s c).pc) := fun g => h7 g.1
  simp only [takeExc, if_neg h7', if_neg h11, goesHere_stays h hf]

/-- The loop state that an exception saves is empty where the core's is. -/
theorem markEdge_nil {step : Nat} {k : Core} (h : k.loops = []) : markEdge step k = [] := by
  unfold markEdge
  rw [h]
  rfl

/-- A synchronous exception of a bobbin enters its vector, or vector 0 at MASK 7 (R289). -/
theorem enter_bob {s : State} {c v : Nat} {e : Env} (hc : c < 256) (hd : dbgLevel s = 0) (hesc : (core s c).esc = false)
    (he : e.entry.fetches = []) : enter s c e v 0 0 true =
      enterBob (setCore s c (drain (core s c))) c e ⟨v, 0, 0, decide ((core s c).modes.level = .u), 0, 0⟩
        (if (core s c).modes.mask = 7 then 0 else v) (decide ((core s c).modes.mask = 7))
        (markEdge 1 { core s c with loops := savedLoops (core s c) }) none := by
  have hs : ¬ c = spindle := Nat.ne_of_lt hc
  have hq (a b n : Nat) (w : W32) :
      traceRec (pmcCount (setCore s c (drain (core s c))) c a n) (some c) 2 b w = setCore s c (drain (core s c)) := by
    rw [pmcCount_quiet _ _ _ _ (by exact hd), traceRec_quiet (by exact hd)]
  simp only [enter, hq, hesc, Bool.true_and, Bool.false_eq_true, if_false, sequencer_plain _ c _ _ _ he, ne_eq, not_true_eq_false,
    hs, not_false_eq_true, true_and, decide_eq_true_eq, if_true, pcStep]


/-- What a quiet bobbin finds of itself after an entry from the core k. -/
theorem enteredAs_of_charge {k : Core} {fr : List TWord} {d : Desc} {esc : Bool} {m : Nat} (hf : k.flight = []) (he : k.esc = false)
    (mask : Nat) : EnteredAs k (charge (atEntry (toPriv (drain k) fr 0 0) d mask esc) m) d mask esc fr := by
  rw [drain_quiet hf]
  unfold EnteredAs charge
  split <;> simp only [atEntry, toPriv, settledCore, he, Bool.false_or] <;> rfl

/-- A synchronous exception of a bobbin that stands still is entered: the frame, the core at its handler, and nothing beside it. -/
theorem enter_synchronous {s : State} {c v : Nat} {e : Env} {d : Desc} (hc : c < 256) (hd : dbgLevel s = 0) (hdl : (core s c).delay = none)
    (hf : (core s c).flight = []) (hp : (core s c).pstate ≠ .off) (hesc : (core s c).esc = false) (hr : (core s c).rsP.depth ≤ 9)
    (he : Enters e) (hv : v < 64)
    (hdesc : Describes s c (if (core s c).modes.mask = 7 then 0 else v) (core s c).modes.level d) :
    ∃ fr, FrameOf c (core s c) (v + at' (decide ((core s c).modes.level = .u)) 11) (core s c).pc fr ∧
      EnteredAs (core s c) (core (enter s c e v 0 0 true) c) d (if decide ((core s c).modes.mask = 7) then 7 else d.mask)
        (decide ((core s c).modes.mask = 7)) fr ∧ Apart s (enter s c e v 0 0 true) c := by
  obtain ⟨-, hentry, hecc, hwait⟩ := he
  have hk : core (setCore s c (drain (core s c))) c = drain (core s c) := core_setCore_same _ _ _
  have hq := drain_quiet hf
  obtain ⟨a, b, z, m, hz, hapart, hcore⟩ := enterBob_entered (s := setCore s c (drain (core s c))) (c := c)
    (n := if (core s c).modes.mask = 7 then 0 else v) (v := v) (e := e) (sw := decide ((core s c).modes.level = .u))
    (esc := decide ((core s c).modes.mask = 7)) (loops := markEdge 1 { core s c with loops := savedLoops (core s c) }) (d := d)
    hc (by split <;> omega) hd hecc hwait (by rw [hk, hq]; exact hdesc) (by omega) (by rw [hk, hq]; exact hdl)
    (by rw [hk, hq]; exact hr) (by rw [hk, hq]; exact hp)
  rw [hk] at hcore
  rw [enter_bob hc hd hesc hentry, hcore]
  have hst : statusWord c (drain (core s c)) = statusWord c (core s c) := by rw [hq]; rfl
  have hpc : (drain (core s c)).pc = (core s c).pc := by rw [hq]
  rw [hst, hpc]
  refine ⟨_, ⟨a, b, z, rfl, fun hl => hz (markEdge_nil ?_)⟩, enteredAs_of_charge hf hesc _, (apart_setCore s c _).trans hapart⟩
  rw [savedLoops, hdl]
  exact hl

/-- A word of a quiet bobbin that raises an exception at once: the exception is taken from the core as the word reads it. -/
theorem runWord_raises {s : State} {c : Nat} {e : Env} {x : Exc} (q : Quiet s c) (h : Calm e) :
    runWord s c e (fun u _ _ => (.error x, u)) = stepDone (takeExc (spend (setCore s c (at_ s c)) c 0) c e x) c :=
  runWord_quiet s c e _ q h

end Sys2Proof.Machine

namespace Sys2Proof
open Machine

/-- Settles O22. The word raises IL before any operation of it runs, whatever its COND is (log entry 94): its exception is taken
from the core as the word reads it, and the entry finds the descriptor and the room that its premises give. -/
theorem illegalWordsEnterTheirHandler : Obligations.IllegalWordsEnterTheirHandler := by
  intro s w form d q hcalm henv c k esc hstays hesc hr hdesc
  have ⟨hc, hrun, hd, hhalt, hdl, _⟩ := q
  have hp : k.pstate ≠ .off := runs_ne_off s c hc hrun
  obtain ⟨hapart, hcore⟩ := spend_apart (Nat.ne_of_lt hc) hd k 0 hp
  rw [charge_zero] at hcore
  have hstays' : Stays (spend (setCore s c k) c 0) c := hstays.congr (by rw [hcore]; rfl) hapart.whrl
  have hexec : exec (.illegalInstruction w form) s = .next (stepDone (enter (spend (setCore s c k) c 0) c w.env 1 0 0 true) c) := by
    show Host.Outcome.next (runWord s c w.env _) = _
    rw [runWord_raises q hcalm, takeExc_enters (by decide) (by decide) hstays' (by rw [hcore]; rfl)]
  obtain ⟨fr, hframe, hentered, hapart'⟩ := enter_synchronous (s := spend (setCore s c k) c 0) (v := 1) (d := d) hc
    (hapart.dbgLevel.trans hd) (by rw [hcore]; exact hdl) (by rw [hcore]; rfl) (by rw [hcore]; exact hp) (by rw [hcore]; exact hesc)
    (by rw [hcore]; exact hr) henv (by decide) (by rw [hcore]; simpa only [esc, decide_eq_true_eq] using hdesc.congr hapart.mem)
  rw [hcore] at hframe hentered
  have hall := hapart.trans hapart'
  refine ⟨_, fr, hexec, hframe, ?_, ?_⟩
  all_goals rw [stepDone_quiet _ _ (by rw [hentered]; exact hhalt)]
  · exact hentered
  · exact ⟨hall.1, hall.mem⟩

end Sys2Proof
end


section
/-!
SUPPORT. Data-unit words of a quiet bobbin: a word whose checks pass has its operation's effect and no other; and the statements
about the stack moves (R110).
-/

namespace Sys2Proof.Machine

/-- The operation works on the core alone: it reaches neither memory nor the time counter. -/
def coreOnly : AOp → Bool
  | .ld | .st | .ldA _ | .stA _ | .timNow => false
  | _ => true

/-- On a bobbin every entry that such an operation reads lies in the stack's registers. -/
theorem opA_coreOnly {s : State} {c : Nat} {k : Core} {e : Env} {a : AOp} (hc : c < 256) (h : coreOnly a = true) :
    opA s c k e a = ((dataOp 16 k a).map fun o => { out := o }, s) := by
  have hd (n : Nat) (op : Core → Except Exc AEff) : deepOp s c k e n op = (op k, s) := if_pos (.inl (Nat.ne_of_lt hc))
  simp only [opA, dsCap_bob _ _ hc]
  split
  case h_6 => exact hd _ _
  case h_7 => exact hd _ _
  case h_8 => rfl
  all_goals exact absurd h Bool.false_ne_true

section
variable {s : State} {w : AWord} (q : Quiet s w.core) (p : Plain w) {a : AOp} {o : AOut}
include q p

theorem runA_coreOnly (hm : microcoded a = true → w.env.seq.fetches = []) (ha : coreOnly a = true)
    (h : dataOp 16 (at_ s w.core) a = .ok o) : runA a w s = afterOp s w.core o :=
  runA_quiet s w a o q p hm (by rw [opA_coreOnly q.1 ha, h]; rfl)

/-- A word that checks its depths and the tags of the n words that it pops. -/
theorem runA_operate {n : Nat} {u : Use} {more : List Check} {o' : AOut} (hm : microcoded a = false) (ha : coreOnly a = true)
    (h : dataOp 16 (at_ s w.core) a = operate 16 (at_ s w.core) n u more o')
    (hf : Fits (at_ s w.core) n n o'.push.length) (ht : Takes (at_ s w.core) n u) (hmore : firstExc more = none)
    (ho : { o' with pop := n } = o) : runA a w s = afterOp s w.core o :=
  runA_coreOnly q p (by simp [hm]) ha (h.trans ((operate_ok _ n u more o' hf ht hmore).trans (congrArg _ ho)))

/-- A word with a list of checks of its own. -/
theorem runA_checked {l : List Check} (hm : microcoded a = true → w.env.seq.fetches = []) (ha : coreOnly a = true)
    (h : dataOp 16 (at_ s w.core) a = checked l o) (hl : firstExc l = none) : runA a w s = afterOp s w.core o :=
  runA_coreOnly q p hm ha (h.trans (checked_ok o hl))

end

/-- The n + 1 entries from the top without the deepest. -/
theorem Core.top_succ_tail (k : Core) (n : Nat) :
    (k.top (n + 1)).tail = (List.range n).map fun i => k.ds.peek (n - 1 - i) := by
  rw [Core.top, List.range_succ_eq_map, List.map_cons, List.tail_cons, List.map_map]
  refine List.map_congr_left fun i _ => ?_
  show k.ds.peek (n + 1 - 1 - (i + 1)) = _
  congr 1
  omega

end Sys2Proof.Machine

namespace Sys2Proof
open Machine

/-- Settles O1, one word after the other. That PICK checks the copied word only is the reading of log entry 85. -/
theorem stackMovesRearrangeTheStack : Obligations.StackMovesRearrangeTheStack := by
  intro s w q p c k x
  have move {a : AOp} {n : Nat} {out : List TWord} (hm : microcoded a = false) (ha : coreOnly a = true)
      (h : dataOp 16 k a = moveOp 16 k n out) (hf : Fits k n n out.length) (ht : Takes k n .move) :
      runA a w s = afterOp s c { pop := n, push := out } := runA_operate q p hm ha h hf ht rfl rfl
  refine ⟨congrArg _ (runA_coreOnly (a := .nop) q p nofun rfl rfl), ?_⟩
  refine ⟨fun hf ht => congrArg _ (move (a := .dup) rfl rfl rfl hf ht), fun hf ht => congrArg _ (move (a := .drop) rfl rfl rfl hf ht),
    fun hf ht => congrArg _ (move (a := .swap) rfl rfl rfl hf ht), fun hf ht => congrArg _ (move (a := .over) rfl rfl rfl hf ht),
    fun hf ht => congrArg _ (move (a := .rot) rfl rfl rfl hf ht), fun hf ht => congrArg _ (move (a := .nip) rfl rfl rfl hf ht),
    fun hf ht => congrArg _ (move (a := .tuck) rfl rfl rfl hf ht), fun hf ht => congrArg _ (move (a := .dup2) rfl rfl rfl hf ht),
    fun hf ht => congrArg _ (move (a := .drop2) rfl rfl rfl hf ht), fun hf ht => congrArg _ (move (a := .swap2) rfl rfl rfl hf ht),
    fun hf ht => congrArg _ (move (a := .over2) rfl rfl rfl hf ht), fun n hf ht => ?_, fun n hf ht => ?_, fun v hf => ?_⟩
  · exact congrArg _ (runA_checked (a := .pick n) q p nofun rfl rfl (by rw [hf.check, ht]; rfl))
  · have hlen : ((List.range n.toNat).map (fun i => x (n.toNat - 1 - i)) ++ [x n.toNat]).length = n.toNat + 1 := by
      rw [List.length_append, List.length_map, List.length_range, List.length_singleton]
    exact congrArg _ (move (a := .roll n) rfl rfl (by rw [← Core.top_succ_tail]; rfl)
      ⟨hf.1, fun h => absurd (hlen ▸ h) (Nat.lt_irrefl _)⟩ ht)
  · exact congrArg _ (runA_checked (a := .litS v) q p nofun rfl rfl (by rw [hf.check]; rfl))

end Sys2Proof
end


section
/-!
SUPPORT. Logic operations, bit counts and shifts of a quiet bobbin (R111, R112), and the statements about them.
-/

namespace Sys2Proof.Machine

/-- The bits that POPC and PAR count. -/
theorem popc_eq (x : W32) : popc x = (List.range 32).countP fun i => x.getLsbD i := by
  simp only [popc, bit_eq, List.countP_eq_length_filter]

theorem clz_eq (x : W32) : clz x = if x = 0 then 32 else 31 - Nat.log2 x.toNat := by
  have hz : x = 0 ↔ x.toNat = 0 := BitVec.toNat_eq
  simp only [clz, bitLen, hz]
  split <;> omega

/-! ### Shifts -/

theorem shiftW_shl (a : W32) (n : Nat) : shiftW .shl a n =
    (a <<< n, decide (0 < n ∧ n ≤ 32) && a.getLsbD (32 - n)) := by
  have hr : w32 (a.toNat * 2 ^ min n 32) = a <<< n := by
    apply BitVec.eq_of_toNat_eq
    rw [BitVec.toNat_ofNat, BitVec.toNat_shiftLeft, Nat.shiftLeft_eq]
    rcases Nat.le_total n 32 with h | h
    · rw [Nat.min_eq_left h]
    · rw [Nat.min_eq_right h, Nat.mul_mod_left, Nat.mod_eq_zero_of_dvd ((pow_dvd_pow 2 h).mul_left _)]
  simp only [shiftW, hr, bit_eq, Nat.pos_iff_ne_zero]

theorem shiftW_shr (a : W32) (n : Nat) : shiftW .shr a n =
    (a >>> n, decide (0 < n ∧ n ≤ 32) && a.getLsbD (n - 1)) := by
  have hr : w32 (a.toNat / 2 ^ min n 32) = a >>> n := by
    apply BitVec.eq_of_toNat_eq
    rw [BitVec.toNat_ofNat, BitVec.toNat_ushiftRight, Nat.shiftRight_eq_div_pow,
      Nat.mod_eq_of_lt ((Nat.div_le_self _ _).trans_lt a.isLt)]
    rcases Nat.le_total n 32 with h | h
    · rw [Nat.min_eq_left h]
    · rw [Nat.min_eq_right h, Nat.div_eq_of_lt a.isLt,
        Nat.div_eq_of_lt (a.isLt.trans_le (Nat.pow_le_pow_right (by decide) h))]
  simp only [shiftW, hr, bit_eq, Nat.pos_iff_ne_zero]

/-- Past 32 places nothing but the sign is left. -/
theorem sdiv_pow_large (a : W32) {n : Nat} (h : 32 ≤ n) : a.toInt / 2 ^ n = if a.toInt < 0 then -1 else 0 := by
  have h1 := a.toInt_lt
  have h2 := a.le_toInt
  have hp : (2 : Int) ^ 32 ≤ 2 ^ n := pow_le_pow_right₀ (by decide) h
  split
  · rw [Int.ediv_eq_iff_of_pos (by positivity)]; omega
  · rw [Int.ediv_eq_zero_of_lt (by omega) (by omega)]

theorem shiftW_sar (a : W32) (n : Nat) : shiftW .sar a n =
    (a.sshiftRight n, decide (0 < n) && a.getLsbD (min n 32 - 1)) := by
  have hr : ofI (sv a / 2 ^ min n 32) = a.sshiftRight n := by
    rw [BitVec.sshiftRight, Int.shiftRight_eq_div_pow, ofI, sv]
    rcases Nat.le_total n 32 with h | h
    · rw [Nat.min_eq_left h]; norm_cast
    · rw [Nat.min_eq_right h, sdiv_pow_large a (Nat.le_refl _)]; push_cast; rw [sdiv_pow_large a h]
  simp only [shiftW, hr, bit_eq, Nat.pos_iff_ne_zero]

theorem shiftW_rol (a : W32) (n : Nat) : shiftW .rol a n =
    (a.rotateLeft n, decide (0 < n % 32) && (a.rotateLeft n).getLsbD 0) := by
  have hr : w32 (a.toNat * 2 ^ (n % 32) + a.toNat / 2 ^ (32 - n % 32)) = a.rotateLeft n := by
    have hlow : a.toNat / 2 ^ (32 - n % 32) < 2 ^ (n % 32) := by
      rw [Nat.div_lt_iff_lt_mul (by positivity), ← Nat.pow_add]
      exact a.isLt.trans_le (Nat.pow_le_pow_right (by decide) (by omega))
    apply BitVec.eq_of_toNat_eq
    rw [BitVec.rotateLeft_def, BitVec.toNat_or, BitVec.toNat_shiftLeft, BitVec.toNat_ushiftRight, BitVec.toNat_ofNat,
      ← Nat.shiftLeft_eq, Nat.shiftLeft_add_eq_or_of_lt hlow, Nat.or_mod_two_pow, Nat.shiftRight_eq_div_pow,
      Nat.mod_eq_of_lt ((Nat.div_le_self _ _).trans_lt a.isLt)]
  simp only [shiftW, hr, bit_eq, Nat.pos_iff_ne_zero]

end Sys2Proof.Machine

namespace Sys2Proof
open Machine

/-- Settles O2, one word after the other. -/
theorem logicResults : Obligations.LogicResults := by
  intro s w q p c k a b q1 q2 out
  refine ⟨fun hf ht => ⟨?_, ?_, ?_, ?_⟩, fun hf ht => ⟨?_, ?_, ?_⟩⟩
  · exact congrArg _ (runA_operate (a := .and) q p rfl rfl rfl hf ht rfl rfl)
  · exact congrArg _ (runA_operate (a := .or) q p rfl rfl rfl hf ht rfl rfl)
  · exact congrArg _ (runA_operate (a := .xor) q p rfl rfl rfl hf ht rfl rfl)
  · exact congrArg _ (runA_operate (a := .andn) q p rfl rfl rfl hf ht rfl rfl)
  · exact congrArg _ (runA_operate (a := .not) q p rfl rfl rfl hf ht rfl rfl)
  · rw [← popc_eq]
    exact congrArg _ (runA_operate (a := .popc) q p rfl rfl rfl hf ht rfl rfl)
  · rw [← clz_eq]
    exact congrArg _ (runA_operate (a := .clz) q p rfl rfl rfl hf ht rfl rfl)

/-- Settles O3: the operand and the count are the same two words whatever the direction, so one shift stands for all four. -/
theorem shiftResults : Obligations.ShiftResults := by
  intro s w i q p c k n a count m out hf ht
  have shift (op : ShiftOp) : runA (.shift op i) w s = afterOp s c (out (shiftW op a count).1 (shiftW op a count).2) := by
    cases i with
    | none => exact runA_operate q p rfl rfl rfl hf ht rfl rfl
    | some v => exact runA_operate q p rfl rfl rfl hf ht rfl rfl
  refine ⟨?_, ?_, ?_, ?_⟩
  · exact congrArg _ (shiftW_shl a count ▸ shift .shl)
  · exact congrArg _ (shiftW_shr a count ▸ shift .shr)
  · exact congrArg _ (shiftW_sar a count ▸ shift .sar)
  · exact congrArg _ (shiftW_rol a count ▸ shift .rol)

end Sys2Proof
end


section
/-!
SUPPORT. Integer and address arithmetic of a quiet bobbin (R113 to R115), and the statements about it.
-/

namespace Sys2Proof.Machine

/-! ### Sums, differences and magnitudes -/

theorem outS_eq (v : Int) : outS v = decide (v < -2 ^ 31 ∨ 2 ^ 31 ≤ v) := by
  rw [outS, decide_eq_decide]
  omega

theorem w32_toNat_add (a b : W32) (n : Nat) : w32 (a.toNat + b.toNat + n) = a + b + w32 n := by
  apply BitVec.eq_of_toNat_eq
  simp [BitVec.toNat_add]

theorem ofI_toNat_sub (a b : W32) (n : Nat) : ofI ((a.toNat : Int) - b.toNat - n) = a - b - w32 n := by
  rw [ofI, Int.sub_eq_add_neg, Int.sub_eq_add_neg, BitVec.ofInt_add, BitVec.ofInt_add, BitVec.ofInt_neg, BitVec.ofInt_neg,
    ← BitVec.sub_eq_add_neg, ← BitVec.sub_eq_add_neg]
  simp

theorem addW_carry (a b : W32) (c : Bool) : addW a b c = (a + b + w32 c.toNat, decide (2 ^ 32 ≤ a.toNat + b.toNat + c.toNat),
    decide (a.toInt + b.toInt + c.toNat < -2 ^ 31 ∨ 2 ^ 31 ≤ a.toInt + b.toInt + c.toNat)) := by
  rw [addW, w32_toNat_add, outS_eq, sv, sv]

theorem subW_borrow (a b : W32) (c : Bool) : subW a b c = (a - b - w32 c.toNat, decide (a.toNat < b.toNat + c.toNat),
    decide (a.toInt - b.toInt - c.toNat < -2 ^ 31 ∨ 2 ^ 31 ≤ a.toInt - b.toInt - c.toNat)) := by
  rw [subW, ofI_toNat_sub, outS_eq, sv, sv]

theorem subW_false (a b : W32) : subW a b false = (a - b, decide (a.toNat < b.toNat),
    decide (a.toInt - b.toInt < -2 ^ 31 ∨ 2 ^ 31 ≤ a.toInt - b.toInt)) := by
  have h := subW_borrow a b false
  simpa using h

/-- The least signed word is its own negative. -/
theorem toInt_eq_least_iff (b : W32) : b.toInt = -2 ^ 31 ↔ b = 0x80000000 := by
  rw [← BitVec.toInt_inj]; rfl

theorem toInt_eq_greatest_iff (b : W32) : b.toInt = 2 ^ 31 - 1 ↔ b = 0x7FFFFFFF := by
  rw [← BitVec.toInt_inj]; rfl

theorem subW_zero (b : W32) : subW 0 b false = (-b, decide (b ≠ 0), decide (b = 0x80000000)) := by
  have h1 := b.toInt_lt
  have h2 := b.le_toInt
  rw [subW_false, show 0 - b = -b from BitVec.zero_sub b]
  refine Prod.ext rfl (Prod.ext (decide_eq_decide.2 ?_) (decide_eq_decide.2 ?_))
  · rw [ne_eq, BitVec.toNat_eq]
    exact Nat.pos_iff_ne_zero
  · rw [← toInt_eq_least_iff]
    show 0 - b.toInt < _ ∨ _ ≤ 0 - b.toInt ↔ _
    omega

theorem addW_one (b : W32) : addW b 1 false = (b + 1, decide (b = 0xFFFFFFFF), decide (b = 0x7FFFFFFF)) := by
  have h0 := b.isLt
  have h1 := b.toInt_lt
  have h2 := b.le_toInt
  rw [addW_false]
  refine Prod.ext rfl (Prod.ext (decide_eq_decide.2 ?_) (decide_eq_decide.2 ?_))
  · rw [BitVec.toNat_eq]; simp; omega
  · rw [← toInt_eq_greatest_iff]
    show b.toInt + 1 < _ ∨ _ ≤ b.toInt + 1 ↔ _
    omega

theorem subW_one (b : W32) : subW b 1 false = (b - 1, decide (b = 0), decide (b = 0x80000000)) := by
  have h1 := b.toInt_lt
  have h2 := b.le_toInt
  rw [subW_false]
  refine Prod.ext rfl (Prod.ext (decide_eq_decide.2 ?_) (decide_eq_decide.2 ?_))
  · rw [BitVec.toNat_eq]; simp
  · rw [← toInt_eq_least_iff]
    show b.toInt - 1 < _ ∨ _ ≤ b.toInt - 1 ↔ _
    omega

theorem absW_eq (b : W32) : absW b = (if b.msb then -b else b, decide (b = 0x80000000)) := by
  refine Prod.ext ?_ rfl
  have hm : b.msb = decide (b.toInt < 0) := by rw [BitVec.msb_eq_toInt]
  show ofI ((sv b).natAbs : Int) = if b.msb then -b else b
  rw [hm, ofI, sv]
  by_cases h : b.toInt < 0
  · rw [decide_eq_true h, if_pos rfl, Int.ofNat_natAbs_of_nonpos h.le, BitVec.ofInt_neg, BitVec.ofInt_toInt]
  · rw [decide_eq_false h, if_neg (by decide), Int.natAbs_of_nonneg (by omega), BitVec.ofInt_toInt]

theorem absW_zero_iff (b : W32) : (if b.msb then -b else b) = 0 ↔ b = 0 := by
  split
  · exact BitVec.neg_eq_zero_iff
  · rfl

/-- Of the magnitudes only that of the least word has the sign bit. -/
theorem absW_msb (b : W32) : (if b.msb then -b else b).msb = decide (b = 0x80000000) := by
  rw [← BitVec.abs_eq, BitVec.msb_abs, decide_eq_true (show 0 < 32 by decide), Bool.and_true]
  rfl

/-- The flags of ABS (R114). -/
theorem zn_absW (f : Flags) (b : W32) : { zn f (absW b).1 with v := (absW b).2 } =
    { f with z := decide (b = 0), n := decide (b = 0x80000000), v := decide (b = 0x80000000) } := by
  simp only [zn, absW_eq, absW_msb, absW_zero_iff]

/-- The flags of CMP: Z says that the operands are equal. -/
theorem arithFlags_sub (a b : W32) (q : Qual) : arithFlags (subW a b false) q =
    ⟨decide (a = b), (a - b).msb, decide (a.toNat < b.toNat),
      decide (a.toInt - b.toInt < -2 ^ 31 ∨ 2 ^ 31 ≤ a.toInt - b.toInt), q⟩ := by
  have hz : a - b = 0 ↔ a = b := sub_eq_zero
  simp only [arithFlags, subW_false, hz]

theorem w32_bool (b : Bool) : w32 b.toNat = if b then 1 else 0 := by cases b <;> rfl

theorem intTy_one (x : TWord) : intTy [x] = if x.ty = .int then .int else .nat := by simp [intTy]

/-- The effect of a sum or a difference of n operands: its word, and its flags with the quality that CQ takes (R38, R114). -/
def sumOut (n : Nat) (t : Ty) (q : Qual) (r : W32 × Bool × Bool) : AOut :=
  { pop := n, push := [TWord.mk' t q r.1], flags := some (arithFlags r q) }

/-- A word that leaves such a sum, of the value and the type that are to be shown. -/
theorem runA_sum {s : State} {w : AWord} {a : AOp} {n : Nat} {ok : List Ty} {t t' : Ty} {m : Qual} {r r' : W32 × Bool × Bool}
    (q : Quiet s w.core) (p : Plain w) (hm : microcoded a = false) (ha : coreOnly a = true)
    (h : dataOp 16 (at_ s w.core) a = intRes 16 (at_ s w.core) n ok [TWord.mk' t m r.1] (arithFlags r m))
    (hf : Fits (at_ s w.core) n n 1) (ht : Takes (at_ s w.core) n (.arith ok)) (hty : t = t') (hr : r = r') :
    runA a w s = afterOp s w.core (sumOut n t' m r') := by
  subst hty hr
  exact runA_operate q p hm ha h hf ht rfl rfl

section
variable {cap n : Nat} {k : Core} {op : AOp} (r : W32 × Bool × Bool)

/-- A sum or a difference without an address (R114). -/
theorem addSub_plain (h : addrArith k op = none) : addSub cap k op n r =
    intRes cap k n intIn [TWord.mk' (intTy (k.top n)) (mergeOf (k.top n)) r.1] (arithFlags r (mergeOf (k.top n))) := by
  rw [addSub, h]

/-- Address arithmetic (R115). -/
theorem addSub_addr {x : TWord × Flags} (h : addrArith k op = some x) :
    addSub cap k op n r = intRes cap k n [.int, .nat, .adr] [x.1] x.2 := by
  rw [addSub, h]

end

section
variable {k : Core}

theorem addrArith_add_none (ha : (k.ds.peek 1).ty ≠ .adr) (hb : (k.ds.peek 0).ty ≠ .adr) : addrArith k .add = none := by
  simp [addrArith, ha, hb]

theorem addrArith_sub_none (ha : (k.ds.peek 1).ty ≠ .adr) : addrArith k .sub = none := by
  simp [addrArith, ha]

theorem addrArith_inc_none (hb : (k.ds.peek 0).ty ≠ .adr) : addrArith k .inc = none := by
  simp [addrArith, hb]

theorem addrArith_dec_none (hb : (k.ds.peek 0).ty ≠ .adr) : addrArith k .dec = none := by
  simp [addrArith, hb]

end

/-! ### Addresses (R115) -/

/-- The word and the flags of the address x moved by a step of value d. -/
def movedAddr (q : Qual) (x : W32) (d : Int) : TWord × Flags :=
  let e : Int := (x.toNat % 2 ^ 24 : Nat) + d
  let r := BitVec.ofInt 32 (e % 2 ^ 24)
  (⟨.adr, q, false, r⟩, ⟨decide (r = 0), false, decide (e < 0 ∨ 2 ^ 24 ≤ e), false, q⟩)

/-- A number below 2²⁴ as a word, and that it is 0. -/
theorem ofInt_emod_addr (e : Int) : w32 (e % (2 ^ 24 : Nat)).toNat = BitVec.ofInt 32 (e % 2 ^ 24) ∧
    ((e % (2 ^ 24 : Nat)).toNat = 0 ↔ BitVec.ofInt 32 (e % 2 ^ 24) = 0) := by
  have h1 : 0 ≤ e % 2 ^ 24 := Int.emod_nonneg _ (by decide)
  have h2 : e % 2 ^ 24 < 2 ^ 24 := Int.emod_lt_of_pos _ (by decide)
  obtain ⟨n, hn⟩ := Int.eq_ofNat_of_zero_le h1
  have he : e % ((2 ^ 24 : Nat) : Int) = n := hn
  have hz : BitVec.ofNat 32 n = 0 ↔ n = 0 := by
    rw [BitVec.toNat_eq, BitVec.toNat_ofNat, Nat.mod_eq_of_lt (by omega)]
    rfl
  rw [he, hn, BitVec.ofInt_natCast, Int.toNat_natCast]
  exact ⟨rfl, hz.symm⟩

theorem movedAddr_eq (q : Qual) (x : W32) (d : Int) : movedAddr q x d =
    (TWord.mk' .adr q (w32 (stepAddr x.toNat d).1), ⟨decide ((stepAddr x.toNat d).1 = 0), false, (stepAddr x.toNat d).2, false, q⟩) := by
  obtain ⟨h1, h2⟩ := ofInt_emod_addr ((x.toNat % 2 ^ 24 : Nat) + d)
  simp only [movedAddr, stepAddr, h1, h2]
  rfl

/-- The difference of two addresses, an INT word. -/
theorem subW_addr (x y : W32) :
    let d : Int := (x.toNat % 2 ^ 24 : Nat) - (y.toNat % 2 ^ 24 : Nat)
    let r := subW (w32 (bits x 0 24)) (w32 (bits y 0 24)) false
    r.1 = BitVec.ofInt 32 d ∧ decide (r.1 = 0) = decide (d = 0) ∧ r.1.msb = decide (d < 0) ∧ r.2.1 = decide (d < 0) := by
  intro d r
  have hb (z : W32) : (w32 (bits z 0 24)).toNat = z.toNat % 2 ^ 24 := by
    rw [bits, Nat.pow_zero, Nat.div_one, BitVec.toNat_ofNat, Nat.mod_eq_of_lt (by omega)]
  have h1 : r.1 = BitVec.ofInt 32 d := by
    show ofI (((w32 (bits x 0 24)).toNat : Int) - (w32 (bits y 0 24)).toNat - (0 : Nat)) = _
    rw [hb, hb, ofI, Nat.cast_zero, sub_zero]
  have hd : (BitVec.ofInt 32 d).toInt = d := BitVec.toInt_ofInt_eq_self (by decide) (by omega) (by omega)
  refine ⟨h1, ?_, ?_, ?_⟩
  · rw [h1, decide_eq_decide, ← BitVec.toInt_inj, hd]
    rfl
  · rw [h1, BitVec.msb_eq_toInt, hd]
  · show decide ((w32 (bits x 0 24)).toNat < (w32 (bits y 0 24)).toNat + 0) = _
    rw [hb, hb, decide_eq_decide]
    omega

section
variable {k : Core}

theorem addrArith_add_left (ha : (k.ds.peek 1).ty = .adr) (hb : (k.ds.peek 0).ty ≠ .adr) : addrArith k .add =
    some (movedAddr ((k.ds.peek 1).q.merge (k.ds.peek 0).q) (k.ds.peek 1).pay (stepOf (k.ds.peek 0))) := by
  simp [addrArith, ha, hb, movedAddr_eq]

theorem addrArith_add_right (hb : (k.ds.peek 0).ty = .adr) (ha : (k.ds.peek 1).ty ≠ .adr) : addrArith k .add =
    some (movedAddr ((k.ds.peek 1).q.merge (k.ds.peek 0).q) (k.ds.peek 0).pay (stepOf (k.ds.peek 1))) := by
  simp [addrArith, ha, hb, movedAddr_eq]

theorem addrArith_sub_left (ha : (k.ds.peek 1).ty = .adr) (hb : (k.ds.peek 0).ty ≠ .adr) : addrArith k .sub =
    some (movedAddr ((k.ds.peek 1).q.merge (k.ds.peek 0).q) (k.ds.peek 1).pay (-stepOf (k.ds.peek 0))) := by
  simp [addrArith, ha, hb, movedAddr_eq]

theorem addrArith_inc (hb : (k.ds.peek 0).ty = .adr) :
    addrArith k .inc = some (movedAddr (k.ds.peek 0).q (k.ds.peek 0).pay 1) := by
  simp [addrArith, hb, movedAddr_eq]

theorem addrArith_dec (hb : (k.ds.peek 0).ty = .adr) :
    addrArith k .dec = some (movedAddr (k.ds.peek 0).q (k.ds.peek 0).pay (-1)) := by
  simp [addrArith, hb, movedAddr_eq]

/-- The difference of two addresses. -/
theorem addrArith_sub_both (ha : (k.ds.peek 1).ty = .adr) (hb : (k.ds.peek 0).ty = .adr) :
    let q := (k.ds.peek 1).q.merge (k.ds.peek 0).q
    let d : Int := ((k.ds.peek 1).pay.toNat % 2 ^ 24 : Nat) - ((k.ds.peek 0).pay.toNat % 2 ^ 24 : Nat)
    addrArith k .sub = some (⟨.int, q, false, BitVec.ofInt 32 d⟩, ⟨decide (d = 0), decide (d < 0), decide (d < 0), false, q⟩) := by
  intro q d
  obtain ⟨h1, h2, h3, h4⟩ := subW_addr (k.ds.peek 1).pay (k.ds.peek 0).pay
  simp only [addrArith, ha, hb, and_self, if_true, arithFlags, h2, h3, h4]
  rw [h1]
  rfl

end

end Sys2Proof.Machine

namespace Sys2Proof
open Machine

/-- Settles O4, one word after the other. -/
theorem integerResults : Obligations.IntegerResults := by
  intro s w q p c k wa wb a b i q2 qc ty2 ty1 far out rel choose
  have h2 : intTy [wa, wb] = ty2 := intTy_two wa wb
  have h1 : intTy [wb] = ty1 := intTy_one wb
  refine ⟨fun hf ht hna hnb => ⟨?_, ?_⟩, fun hf ht => ?_, fun hf ht => ?_, fun hf ht => ⟨?_, ?_⟩, fun hf ht hn => ⟨?_, ?_⟩⟩
  · exact congrArg _ (runA_sum (a := .add) (r' := (_, _, _)) q p rfl rfl (addSub_plain _ (addrArith_add_none hna hnb)) hf ht h2
      (addW_false a b))
  · exact congrArg _ (runA_sum (a := .sub) (r' := (_, _, _)) q p rfl rfl (addSub_plain _ (addrArith_sub_none hna)) hf ht h2
      (subW_false a b))
  · have relation {op : AOp} {h : Bool} (hm : microcoded op = false) (ha : coreOnly op = true)
        (hop : dataOp 16 k op = intRes 16 k 2 intIn [TWord.mk' .nat q2 (w32 h.toNat)] { k.flags with z := !h }) :
        runA op w s = afterOp s c (rel h) := by
      rw [w32_bool] at hop
      exact runA_operate q p hm ha hop hf ht rfl rfl
    have choice {op : AOp} {h : Bool} (hm : microcoded op = false) (ha : coreOnly op = true)
        (hop : dataOp 16 k op = intRes 16 k 2 intIn [(if h then wa else wb).withQ q2] (zn k.flags (if h then wa else wb).pay)) :
        runA op w s = afterOp s c (choose h) := runA_operate q p hm ha hop hf ht rfl rfl
    refine ⟨?_, ?_, ?_, ?_, ?_, ?_, ?_, ?_, ?_⟩
    · exact congrArg _ (runA_sum (a := .adc) (r' := (_, _, _)) q p rfl rfl rfl hf ht h2 (addW_carry a b k.flags.c))
    · exact congrArg _ (runA_sum (a := .sbc) (r' := (_, _, _)) q p rfl rfl rfl hf ht h2 (subW_borrow a b k.flags.c))
    · exact congrArg _ (relation (op := .eq) rfl rfl rfl)
    · exact congrArg _ (relation (op := .lt) rfl rfl rfl)
    · exact congrArg _ (relation (op := .ult) rfl rfl rfl)
    · exact congrArg _ (choice (op := .min) rfl rfl rfl)
    · exact congrArg _ (choice (op := .max) rfl rfl rfl)
    · exact congrArg _ (choice (op := .umin) rfl rfl rfl)
    · exact congrArg _ (choice (op := .umax) rfl rfl rfl)
  · exact congrArg _ (runA_operate (a := .cmp) q p rfl rfl rfl hf ht rfl
      (congrArg (fun f => ({ pop := 2, flags := some f } : AOut)) (arithFlags_sub a b q2)))
  · exact congrArg _ (runA_sum (a := .neg) (r' := (_, _, _)) q p rfl rfl rfl hf ht h1 (subW_zero b))
  · exact congrArg _ (runA_operate (a := .abs) q p rfl rfl rfl hf ht rfl
      (congrArg₂ (fun r f => ({ pop := 1, push := [⟨wb.ty, wb.q, false, r⟩], flags := some f } : AOut))
        (congrArg Prod.fst (absW_eq b)) (zn_absW k.flags b)))
  · exact congrArg _ (runA_sum (a := .inc) (r' := (_, _, _)) q p rfl rfl (addSub_plain _ (addrArith_inc_none hn)) hf ht h1
      (addW_one b))
  · exact congrArg _ (runA_sum (a := .dec) (r' := (_, _, _)) q p rfl rfl (addSub_plain _ (addrArith_dec_none hn)) hf ht h1
      (subW_one b))

/-- Settles O5: each clause is one row of the address arithmetic. -/
theorem addressArithmetic : Obligations.AddressArithmetic := by
  intro s w q p c k wa wb m step moved
  refine ⟨fun hf ht => ⟨fun ha hb => ⟨?_, ?_⟩, fun hb ha => ?_, fun ha hb => ?_⟩, fun hf ht hb => ⟨?_, ?_⟩⟩
  · exact congrArg _ (runA_operate (a := .add) q p rfl rfl (addSub_addr _ (addrArith_add_left ha hb)) hf ht rfl rfl)
  · exact congrArg _ (runA_operate (a := .sub) q p rfl rfl (addSub_addr _ (addrArith_sub_left ha hb)) hf ht rfl rfl)
  · exact congrArg _ (runA_operate (a := .add) q p rfl rfl (addSub_addr _ (addrArith_add_right hb ha)) hf ht rfl rfl)
  · exact congrArg _ (runA_operate (a := .sub) q p rfl rfl (addSub_addr _ (addrArith_sub_both ha hb)) hf ht rfl rfl)
  · exact congrArg _ (runA_operate (a := .inc) q p rfl rfl (addSub_addr _ (addrArith_inc hb)) hf ht rfl rfl)
  · exact congrArg _ (runA_operate (a := .dec) q p rfl rfl (addSub_addr _ (addrArith_dec hb)) hf ht rfl rfl)

end Sys2Proof
end


section
/-!
SUPPORT. Multiplication, division and fixed-point arithmetic of a quiet bobbin (R116 to R120, R149, R150, R155), and the statements
about them.
-/

namespace Sys2Proof.Machine

/-! ### Products and quotients -/

theorem ofI_signed_product (a b : W32) : ofI (sv a * sv b) = a * b := by
  rw [ofI, BitVec.ofInt_mul, sv, sv, BitVec.ofInt_toInt, BitVec.ofInt_toInt]

theorem ofI_unsigned_product (a b : W32) : ofI ((a.toNat : Int) * b.toNat) = a * b := by
  rw [ofI, BitVec.ofInt_mul, BitVec.ofInt_natCast, BitVec.ofInt_natCast, BitVec.ofNat_toNat, BitVec.ofNat_toNat,
    BitVec.setWidth_eq, BitVec.setWidth_eq]

/-- The one signed quotient that does not fit is that of the least word and −1. -/
theorem outS_tdiv (a b : W32) (h : b ≠ 0) : outS ((sv a).tdiv (sv b)) = decide (a = 0x80000000 ∧ b = 0xFFFFFFFF) := by
  have ha1 := a.toInt_lt
  have ha2 := a.le_toInt
  have hb : b.toInt ≠ 0 := fun g => h (BitVec.toInt_inj.1 g)
  have hm : b = 0xFFFFFFFF ↔ b.toInt = -1 := by rw [← BitVec.toInt_inj]; rfl
  rw [outS_eq, decide_eq_decide, hm, ← toInt_eq_least_iff, sv, sv]
  by_cases h1 : b.toInt = -1
  · rw [h1, Int.tdiv_neg, Int.tdiv_one]
    omega
  · have hq : (a.toInt.tdiv b.toInt).natAbs = a.toInt.natAbs / b.toInt.natAbs := Int.natAbs_tdiv _ _
    by_cases h2 : b.toInt = 1
    · rw [h2, Int.tdiv_one]
      omega
    · have h3 : a.toInt.natAbs / b.toInt.natAbs ≤ a.toInt.natAbs / 2 := Nat.div_le_div_left (by omega) (by decide)
      omega

theorem divW_div (a b : W32) : divW true true a b =
    (if b = 0 then 0 else BitVec.ofInt 32 (a.toInt.tdiv b.toInt), decide (b = 0 ∨ a = 0x80000000 ∧ b = 0xFFFFFFFF), decide (b = 0)) := by
  by_cases h : b = 0
  · simp [divW, h]
  · simp only [divW, h, if_false, if_true, false_or, decide_false]
    rw [outS_tdiv a b h]
    rfl

theorem divW_rem (a b : W32) : divW true false a b =
    (if b = 0 then a else BitVec.ofInt 32 (a.toInt.tmod b.toInt), decide (b = 0), decide (b = 0)) := by
  by_cases h : b = 0
  · simp [divW, h]
  · simp only [divW, h, if_false, if_true, Bool.false_eq_true, decide_false, ofI, sv]

theorem divW_divu (a b : W32) : divW false true a b = (if b = 0 then 0 else a / b, decide (b = 0), decide (b = 0)) := by
  by_cases h : b = 0
  · simp [divW, h]
  · have hr : w32 (a.toNat / b.toNat) = a / b := by
      apply BitVec.eq_of_toNat_eq
      rw [BitVec.toNat_ofNat, BitVec.toNat_udiv, Nat.mod_eq_of_lt ((Nat.div_le_self _ _).trans_lt a.isLt)]
    simp only [divW, h, hr, if_false, Bool.false_eq_true, if_true, decide_false]

theorem divW_remu (a b : W32) : divW false false a b = (if b = 0 then a else a % b, decide (b = 0), decide (b = 0)) := by
  by_cases h : b = 0
  · simp [divW, h]
  · have hr : w32 (a.toNat % b.toNat) = a % b := by
      apply BitVec.eq_of_toNat_eq
      rw [BitVec.toNat_ofNat, BitVec.toNat_umod, Nat.mod_eq_of_lt ((Nat.mod_le _ _).trans_lt a.isLt)]
    simp only [divW, h, hr, if_false, Bool.false_eq_true, decide_false]

section
variable {k : Core} {cap : Nat}

/-- MUL is signed where an operand is INT (R116). -/
theorem mulDivOp_mul_int (h : intTy [k.ds.peek 1, k.ds.peek 0] = .int) :
    let a := (k.ds.peek 1).pay
    let b := (k.ds.peek 0).pay
    mulDivOp cap k .mul = operate cap k 2 (.arith intIn) []
      { push := [TWord.mk' .int ((k.ds.peek 1).q.merge (k.ds.peek 0).q) (a * b)]
        flags := some { zn k.flags (a * b) with v := decide (a.toInt * b.toInt < -2 ^ 31 ∨ 2 ^ 31 ≤ a.toInt * b.toInt) }
        cycles := mulCycles k.modes.ft true b } := by
  simp only [mulDivOp, h, mulExact, decide_true, if_true, ofI_signed_product, outS_eq]
  rfl

theorem mulDivOp_mul_nat (h : intTy [k.ds.peek 1, k.ds.peek 0] = .nat) :
    let a := (k.ds.peek 1).pay
    let b := (k.ds.peek 0).pay
    mulDivOp cap k .mul = operate cap k 2 (.arith intIn) []
      { push := [TWord.mk' .nat ((k.ds.peek 1).q.merge (k.ds.peek 0).q) (a * b)]
        flags := some { zn k.flags (a * b) with v := decide (2 ^ 32 ≤ a.toNat * b.toNat) }
        cycles := mulCycles k.modes.ft false b } := by
  intro a b
  have hv : (2 ^ 32 : Int) ≤ a.toNat * b.toNat ↔ 2 ^ 32 ≤ a.toNat * b.toNat := by norm_cast
  have hs : decide (Ty.nat = .int) = false := rfl
  simp only [mulDivOp, h, mulExact, hs, Bool.false_eq_true, if_false, ofI_unsigned_product]
  rw [decide_eq_decide.2 hv]

end

/-- An unsigned product as two words, zero or not, and never negative. -/
theorem unsigned_product (n : Nat) : ofI ((n : Int) / 2 ^ 32) = w32 (n / 2 ^ 32) ∧ ofI (n : Int) = w32 n ∧
    decide ((n : Int) = 0) = decide (n = 0) ∧ decide ((n : Int) < 0) = false := by
  refine ⟨?_, BitVec.ofInt_natCast _ _, decide_eq_decide.2 Int.natCast_eq_zero, decide_eq_false (by omega)⟩
  rw [ofI, w32, ← BitVec.ofInt_natCast]
  norm_cast

/-! ### Q15.16 (R119, R120, R155) -/

theorem clampS_eq (v : Int) : clampS v = max (-2 ^ 31) (min (2 ^ 31 - 1) v) := by
  unfold clampS
  split
  · omega
  · split <;> omega

theorem fixDeliver_eq (sat : Bool) (r : Int) :
    fixDeliver sat r = BitVec.ofInt 32 (if sat then max (-2 ^ 31) (min (2 ^ 31 - 1) r) else r) := by
  rw [fixDeliver, clampS_eq]
  cases sat <;> rfl

theorem fixRaw_add (a b : W32) : fixRaw .add a b =
    (a.toInt + b.toInt, decide (a.toInt + b.toInt < -2 ^ 31 ∨ 2 ^ 31 ≤ a.toInt + b.toInt), false) := by
  rw [← outS_eq]; rfl

theorem fixRaw_sub (a b : W32) : fixRaw .sub a b =
    (a.toInt - b.toInt, decide (a.toInt - b.toInt < -2 ^ 31 ∨ 2 ^ 31 ≤ a.toInt - b.toInt), false) := by
  rw [← outS_eq]; rfl

/-- The opposite and the magnitude of the least word alone lie outside the range. -/
theorem fixRaw_neg (b : W32) : fixRaw .neg b b = (-b.toInt, decide (b.toInt = -2 ^ 31), false) := by
  have := b.toInt_lt
  have := b.le_toInt
  have h : (-b.toInt < -2 ^ 31 ∨ 2 ^ 31 ≤ -b.toInt) ↔ b.toInt = -2 ^ 31 := by omega
  rw [← decide_eq_decide.2 h, ← outS_eq]
  rfl

theorem fixRaw_abs (b : W32) : fixRaw .abs b b = ((b.toInt.natAbs : Int), decide (b.toInt = -2 ^ 31), false) := by
  have := b.toInt_lt
  have := b.le_toInt
  have h : ((b.toInt.natAbs : Int) < -2 ^ 31 ∨ 2 ^ 31 ≤ (b.toInt.natAbs : Int)) ↔ b.toInt = -2 ^ 31 := by omega
  rw [← decide_eq_decide.2 h, ← outS_eq]
  rfl

/-- The product rounded half up, with V as the exact one leaves the range. -/
theorem fixRaw_mul (a b : W32) : fixRaw .mul a b = ((a.toInt * b.toInt + 2 ^ 15) / 2 ^ 16,
    decide (a.toInt * b.toInt < -2 ^ 47 ∨ (2 ^ 31 - 1) * 2 ^ 16 < a.toInt * b.toInt), false) := rfl

theorem fixRaw_div_zero (a b : W32) (h : b.toInt = 0) : fixRaw .div a b = (0, true, true) := by
  have hb : b = 0 := BitVec.toInt_inj.1 h
  rw [fixRaw, if_pos hb]

/-- The quotient truncated, with V as the exact one leaves the range. -/
theorem fixRaw_div_pos (a b : W32) (h : 0 < b.toInt) : fixRaw .div a b = ((a.toInt * 2 ^ 16).tdiv b.toInt,
    decide (a.toInt * 2 ^ 16 < -2 ^ 31 * b.toInt ∨ (2 ^ 31 - 1) * b.toInt < a.toInt * 2 ^ 16), false) := by
  have hb : b ≠ 0 := by rintro rfl; exact absurd h (by decide)
  have hs : 0 < sv b := h
  simp only [fixRaw, if_neg hb, if_pos hs]
  rfl

theorem fixRaw_div_neg (a b : W32) (h : b.toInt < 0) : fixRaw .div a b = ((a.toInt * 2 ^ 16).tdiv b.toInt,
    decide (-2 ^ 31 * b.toInt < a.toInt * 2 ^ 16 ∨ a.toInt * 2 ^ 16 < (2 ^ 31 - 1) * b.toInt), false) := by
  have hb : b ≠ 0 := by rintro rfl; exact absurd h (by decide)
  have hs : ¬ 0 < sv b := h.not_gt
  simp only [fixRaw, if_neg hb, if_neg hs]
  rfl

end Sys2Proof.Machine

namespace Sys2Proof
open Machine

/-- Settles O6. The six that leave one word are taken by kind. That the high word of MULW has the TYPE rule of a multiply is the choice
of log entry 174. -/
theorem productsAndQuotients : Obligations.ProductsAndQuotients := by
  intro s w q p c k wa wb a b m ty ps pu wide div
  have hty : intTy [wa, wb] = ty := intTy_two wa wb
  have both {op : AOp} {signed : Bool} (hm : microcoded op = false) (ha : coreOnly op = true)
      (hop : dataOp 16 k op = operate 16 k 2 (.arith intIn) []
        { push := [TWord.mk' (intTy [wa, wb]) m (ofI (mulExact signed a b / 2 ^ 32)), TWord.mk' .nat m (ofI (mulExact signed a b))]
          flags := some { k.flags with z := decide (mulExact signed a b = 0), n := decide (mulExact signed a b < 0) }
          cycles := mulCycles k.modes.ft signed b })
      (hf : Fits k 2 2 2) (ht : Takes k 2 (.arith intIn)) :
      let x := mulExact signed a b
      runA op w s = afterOp s c (wide (ofI (x / 2 ^ 32)) (ofI x) (decide (x = 0)) (decide (x < 0)) signed) := by
    rw [hty] at hop
    exact runA_operate q p hm ha hop hf ht rfl rfl
  refine ⟨fun hf ht => ?_, fun hf ht => ⟨?_, ?_⟩⟩
  · have quotient {op : AOp} {signed quot : Bool} {r : W32} {ov : Bool} (hm : microcoded op = false) (ha : coreOnly op = true)
        (hop : dataOp 16 k op = operate 16 k 2 (.arith intIn) []
          { push := [TWord.mk' (intTy [wa, wb]) (if (divW signed quot a b).2.2 then m.atLeast .invalid else m) (divW signed quot a b).1]
            flags := some { zn k.flags (divW signed quot a b).1 with v := (divW signed quot a b).2.1 }, cycles := 18 })
        (hr : divW signed quot a b = (r, ov, decide (b = 0))) : runA op w s = afterOp s c (div r ov) := by
      rw [hr, hty] at hop
      refine runA_operate q p hm ha hop hf ht rfl ?_
      simp only [decide_eq_true_eq]
      rfl
    refine ⟨fun h => ?_, fun h => ?_, ?_, ?_, ?_, ?_⟩
    · exact congrArg _ (runA_operate (a := .mul) q p rfl rfl (mulDivOp_mul_int (hty.trans h)) hf ht rfl rfl)
    · exact congrArg _ (runA_operate (a := .mul) q p rfl rfl (mulDivOp_mul_nat (hty.trans h)) hf ht rfl rfl)
    · exact congrArg _ (quotient (op := .div) rfl rfl rfl (divW_div a b))
    · exact congrArg _ (quotient (op := .divu) rfl rfl rfl (divW_divu a b))
    · exact congrArg _ (quotient (op := .rem) rfl rfl rfl (divW_rem a b))
    · exact congrArg _ (quotient (op := .remu) rfl rfl rfl (divW_remu a b))
  · exact congrArg _ (both (op := .mulwS) (signed := true) rfl rfl rfl hf ht)
  · obtain ⟨hhi, hlo, hz, hn⟩ := unsigned_product pu
    rw [← hhi, ← hlo, ← hz, ← hn]
    exact congrArg _ (both (op := .mulwU) (signed := false) rfl rfl rfl hf ht)

/-- Settles O7. That V is judged on the exact value, and the delivered word is the rounded one, is the choice of log entry 88. -/
theorem fixedPointResults : Obligations.FixedPointResults := by
  intro s w sat q p c k a b q1 q2 fit far out
  have word {op : FixOp} {n cyc : Nat} {l : W32} {r : Int} {ov zero : Bool}
      (hop : dataOp 16 k (.fix op sat) = operate 16 k n (.arith [.fix]) []
        { push := [TWord.mk' .fix
            (if (fixRaw op l (k.ds.peek 0).pay).2.2 then (mergeOf (k.top n)).atLeast .invalid else mergeOf (k.top n))
            (fixDeliver sat (fixRaw op l (k.ds.peek 0).pay).1)]
          flags := some { zn k.flags (fixDeliver sat (fixRaw op l (k.ds.peek 0).pay).1) with v := (fixRaw op l (k.ds.peek 0).pay).2.1 }
          cycles := cyc })
      (hr : fixRaw op l (k.ds.peek 0).pay = (r, ov, zero)) (hf : Fits k n n 1) (ht : Takes k n (.arith [.fix])) :
      runA (.fix op sat) w s =
        afterOp s c (out n (if zero then (mergeOf (k.top n)).atLeast .invalid else mergeOf (k.top n)) (fit r) ov cyc) := by
    rw [hr, fixDeliver_eq] at hop
    exact runA_operate q p rfl rfl hop hf ht rfl rfl
  refine ⟨fun hf ht => ⟨?_, ?_, ?_, fun _ hb => ?_, fun hb => ?_, fun hb => ?_⟩, fun hf ht => ⟨?_, ?_⟩⟩
  · exact congrArg _ (word (op := .add) rfl (fixRaw_add _ _) hf ht)
  · exact congrArg _ (word (op := .sub) rfl (fixRaw_sub _ _) hf ht)
  · exact congrArg _ (word (op := .mul) rfl (fixRaw_mul _ _) hf ht)
  · exact congrArg _ (word (op := .div) rfl (fixRaw_div_pos _ _ hb) hf ht)
  · exact congrArg _ (word (op := .div) rfl (fixRaw_div_neg _ _ hb) hf ht)
  · have h0 : fit 0 = 0 := by cases sat <;> rfl
    exact congrArg _ (h0 ▸ word (op := .div) rfl (fixRaw_div_zero _ _ hb) hf ht)
  · exact congrArg _ (word (op := .neg) rfl (fixRaw_neg _) hf ht)
  · exact congrArg _ (word (op := .abs) rfl (fixRaw_abs _) hf ht)

end Sys2Proof
end


section
/-!
SUPPORT. Binary32 operations and conversions of a quiet bobbin (R121 to R126, R40), and the statements about them.
-/

namespace Sys2Proof.Machine

/-- The n entries from the top, in either order. -/
theorem Core.any_top (k : Core) (n : Nat) (f : TWord → Bool) : (k.top n).any f = (List.range n).any fun i => f (k.ds.peek i) := by
  rw [Bool.eq_iff_iff, Core.top]
  simp only [List.any_map, List.any_eq_true, List.mem_range, Function.comp]
  constructor
  · rintro ⟨i, hi, h⟩
    exact ⟨n - 1 - i, by omega, h⟩
  · rintro ⟨i, hi, h⟩
    exact ⟨n - 1 - i, by omega, by rwa [show n - 1 - (n - 1 - i) = i by omega]⟩

/-- No trap is enabled for a flag that the operation raises (R123). -/
theorem fxCheck_none {k : Core} {f : FFlags} (h : f.trap k.traps = none) : firstExc [fxCheck k f] = none := by
  rw [fxCheck, h]; rfl

/-- What a binary32 operation of n operands leaves, with the quality that R40 gives a NaN. -/
def floatOut (k : Core) (ty : Ty) (n lat cycles : Nat) (r : Nat × FFlags) : AOut :=
  let m := mergeOf (k.top n)
  let nan := f32.isNaN r.1 || (List.range n).any fun i => f32.isNaN (k.ds.peek i).pay.toNat
  { pop := n, push := [⟨ty, if k.modes.nanInvalid && nan then m.atLeast .invalid else m, false, w32 r.1⟩], lat := lat
    sticky := r.2.code, cycles := cycles }

section
variable {s : State} {w : AWord} (q : Quiet s w.core) (p : Plain w) {a : AOp}
include q p

theorem runA_float {ty : Ty} {n lat cycles : Nat} {r : Nat × FFlags} (hm : microcoded a = false) (ha : coreOnly a = true)
    (h : dataOp 16 (at_ s w.core) a = fltTyped ty 16 (at_ s w.core) n lat cycles r) (hf : Fits (at_ s w.core) n n 1)
    (ht : Takes (at_ s w.core) n (.arith [.flt])) (hq : r.2.trap (at_ s w.core).traps = none) :
    runA a w s = afterOp s w.core (floatOut (at_ s w.core) ty n lat cycles r) := by
  rw [fltTyped, Core.any_top] at h
  exact runA_operate q p hm ha h hf ht (fxCheck_none hq) rfl

/-- A conversion to binary32 that traps nothing. -/
theorem runA_toFloat {src : Ty} (r : Nat × FFlags) (hm : microcoded a = false) (ha : coreOnly a = true)
    (h : dataOp 16 (at_ s w.core) a = cvtRes 16 (at_ s w.core) src .flt false (w32 r.1) r.2) (hf : Fits (at_ s w.core) 1 1 1)
    (ht : Takes (at_ s w.core) 1 (.arith [src])) (hq : r.2.trap (at_ s w.core).traps = none) :
    runA a w s = afterOp s w.core
      { pop := 1, push := [⟨.flt, ((at_ s w.core).ds.peek 0).q, false, w32 r.1⟩], lat := 4, sticky := r.2.code } := by
  have hn (m : Qual) : nanQ (at_ s w.core) false m = m := by rw [nanQ, Bool.and_false, if_neg Bool.false_ne_true]
  rw [cvtRes, hn] at h
  exact runA_operate q p hm ha h hf ht (fxCheck_none hq) rfl

/-- A conversion from binary32 that traps nothing, with the quality that R40 gives a NaN. -/
theorem runA_ofFloat {dst : Ty} {r r' : Int × FFlags} (hr : r = r') (hm : microcoded a = false) (ha : coreOnly a = true)
    (h : dataOp 16 (at_ s w.core) a =
      cvtRes 16 (at_ s w.core) .flt dst (f32.isNaN ((at_ s w.core).ds.peek 0).pay.toNat) (ofI r'.1) r'.2)
    (hf : Fits (at_ s w.core) 1 1 1) (ht : Takes (at_ s w.core) 1 (.arith [.flt])) (hq : r.2.trap (at_ s w.core).traps = none) :
    runA a w s = afterOp s w.core
      { pop := 1, push := [⟨dst, nanQ (at_ s w.core) (f32.isNaN ((at_ s w.core).ds.peek 0).pay.toNat) ((at_ s w.core).ds.peek 0).q,
          false, ofI r.1⟩], lat := 4, sticky := r.2.code } := by
  subst hr
  exact runA_operate q p hm ha h hf ht (fxCheck_none hq) rfl

/-- A word that changes its operand's type alone (R126). -/
theorem runA_retype {ty : Ty} (hm : microcoded a = false) (ha : coreOnly a = true)
    (h : dataOp 16 (at_ s w.core) a = retype (at_ s w.core) ty) (hf : Fits (at_ s w.core) 1 1 1)
    (hret : ((at_ s w.core).ds.peek 0).ty ≠ .ret) (hrsv : ((at_ s w.core).ds.peek 0).rsv = false)
    (hty : (at_ s w.core).modes.tcs = .off ∨ ((at_ s w.core).ds.peek 0).ty ≠ .void ∧ ((at_ s w.core).ds.peek 0).ty ≠ .tim) :
    runA a w s = afterOp s w.core { pop := 1, push := [{ (at_ s w.core).ds.peek 0 with ty := ty }] } := by
  have hv : ¬ (((at_ s w.core).ds.peek 0).ty = .void ∧ (at_ s w.core).modes.tcs ≠ .off) := by tauto
  have htim : ¬ (((at_ s w.core).ds.peek 0).ty = .tim ∧ (at_ s w.core).modes.tcs ≠ .off) := by tauto
  refine runA_checked q p (by simp [hm]) ha h ?_
  rw [hf.check, hrsv, decide_eq_false hv, decide_eq_false htim, if_neg Bool.false_ne_true, if_neg Bool.false_ne_true, if_neg hret,
    if_neg Bool.false_ne_true]
  rfl

end

/-- The flags of FCMP (R122), by its four answers. -/
theorem fcmpFlags_eq {f : FFmt} {a b : Nat} {less equal un sig : Bool} (q : Qual) (h : f.cmp a b = (less, equal, un, sig)) :
    fcmpFlags f a b q = ⟨equal, less, un, false, q⟩ := by
  rw [fcmpFlags, h]

theorem floatOp_fcmp {cap : Nat} {k : Core} {less equal un sig : Bool}
    (h : f32.cmp (k.ds.peek 1).pay.toNat (k.ds.peek 0).pay.toNat = (less, equal, un, sig)) :
    floatOp cap k .fcmp = operate cap k 2 (.arith [.flt]) [fxCheck k { iv := sig }]
      { flags := some ⟨equal, less, un, false,
          nanQ k (f32.isNaN (k.ds.peek 1).pay.toNat || f32.isNaN (k.ds.peek 0).pay.toNat) (mergeOf (k.top 2))⟩
        sticky := FFlags.code { iv := sig } } := by
  simp only [floatOp, fcmpFlags_eq _ h, h]

/-- CVT.IX saturates, with V (R125). -/
theorem convOp_cvtIx {cap : Nat} {k : Core} :
    let v := (k.ds.peek 0).pay.toInt * 2 ^ 16
    let r := BitVec.ofInt 32 (max (-2 ^ 31) (min (2 ^ 31 - 1) v))
    convOp cap k .cvtIx = operate cap k 1 (.arith [.int]) []
      { push := [TWord.mk' .fix (k.ds.peek 0).q r], flags := some { zn k.flags r with v := decide (v < -2 ^ 31 ∨ 2 ^ 31 ≤ v) } } := by
  intro v r
  simp only [convOp, clampS_eq, outS_eq]
  rfl

end Sys2Proof.Machine

namespace Sys2Proof
open Machine

/-- Settles O8, one word after the other. The TYPE of a NaN that FMIN or FMAX has not chosen is the choice of log entry 122. -/
theorem floatResults : Obligations.FloatResults := by
  intro s w q p c k x m rm q1 q2 q3 anyNan qual out quiet chosen
  refine ⟨fun hf ht => ⟨?_, ?_, fun hq => ?_⟩,
    fun hf ht => ⟨fun hq => ?_, fun hq => ?_, fun hq => ?_, fun hq => ?_, fun hq => ?_, fun hq => ?_⟩, fun hf ht hq => ?_,
    fun hf ht less equal un sig hc hq => ?_⟩
  · exact congrArg _ (runA_float (a := .fneg) q p rfl rfl rfl hf ht rfl)
  · exact congrArg _ (runA_float (a := .fabs) q p rfl rfl rfl hf ht rfl)
  · exact congrArg _ (runA_float (a := .fsqrt) q p rfl rfl rfl hf ht hq)
  · exact congrArg _ (runA_float (a := .fadd) q p rfl rfl rfl hf ht hq)
  · exact congrArg _ (runA_float (a := .fsub) q p rfl rfl rfl hf ht hq)
  · exact congrArg _ (runA_float (a := .fmul) q p rfl rfl rfl hf ht hq)
  · exact congrArg _ (runA_float (a := .fdiv) q p rfl rfl rfl hf ht hq)
  · exact congrArg _ (runA_float (a := .fmin) q p rfl rfl rfl hf ht hq)
  · exact congrArg _ (runA_float (a := .fmax) q p rfl rfl rfl hf ht hq)
  · exact congrArg _ (runA_float (a := .fma) q p rfl rfl rfl hf ht hq)
  · exact congrArg _ (runA_operate (a := .fcmp) q p rfl rfl (floatOp_fcmp hc) hf ht (fxCheck_none hq) rfl)

/-- Settles O9, one word after the other. -/
theorem conversionResults : Obligations.ConversionResults := by
  intro s w q p c k x rm out toF ofF hf
  have lo : (-2 ^ 31 : Int) = -2147483648 := by norm_num
  have hi : (2 ^ 31 - 1 : Int) = 2147483647 := by norm_num
  have hu : (2 ^ 32 - 1 : Int) = 4294967295 := by norm_num
  refine ⟨fun ht hq => ?_, fun ht hq => ?_, fun ht hq => ?_, fun ht hq => ?_, fun ht hq => ?_, fun ht hq => ?_, fun ht => ?_,
    fun ht => ?_, fun hret hrsv hty => ⟨?_, ?_, ?_, ?_⟩⟩
  · exact congrArg _ (runA_toFloat (a := .cvtIf) q p (f32.ofInt rm x.pay.toInt 0) rfl rfl rfl hf ht hq)
  · exact congrArg _ (runA_toFloat (a := .cvtNf) q p (f32.ofInt rm x.pay.toNat 0) rfl rfl rfl hf ht hq)
  · exact congrArg _ (runA_toFloat (a := .cvtXf) q p (f32.ofInt rm x.pay.toInt (-16)) rfl rfl rfl hf ht hq)
  · exact congrArg _ (runA_ofFloat (a := .cvtFi) q p (congrArg₂ (f32.toInt rm 0 · · x.pay.toNat) lo hi) rfl rfl rfl hf ht hq)
  · exact congrArg _ (runA_ofFloat (a := .cvtFn) q p (congrArg (f32.toInt rm 0 0 · x.pay.toNat) hu) rfl rfl rfl hf ht hq)
  · exact congrArg _ (runA_ofFloat (a := .cvtFx) q p (congrArg₂ (f32.toInt rm 16 · · x.pay.toNat) lo hi) rfl rfl rfl hf ht hq)
  · exact congrArg _ (runA_operate (a := .cvtIx) q p rfl rfl convOp_cvtIx hf ht rfl rfl)
  · exact congrArg _ (runA_operate (a := .cvtXi) q p rfl rfl rfl hf ht rfl rfl)
  · exact congrArg _ (runA_retype (a := .asNat) q p rfl rfl rfl hf hret hrsv hty)
  · exact congrArg _ (runA_retype (a := .asInt) q p rfl rfl rfl hf hret hrsv hty)
  · exact congrArg _ (runA_retype (a := .asFlt) q p rfl rfl rfl hf hret hrsv hty)
  · exact congrArg _ (runA_retype (a := .asAdr) q p rfl rfl rfl hf hret hrsv hty)

end Sys2Proof
end


section
/-!
SUPPORT. Words of a quiet bobbin on bits, tags, copies of address-unit state and times (R41, R127, R132, R133, R137, R138), and the
statements about them.
-/

namespace Sys2Proof.Machine

/-! ### Tag faults over several words -/

theorem lowest_none_iff {a b : Option Nat} : lowest a b = none ↔ a = none ∧ b = none := by
  cases a <;> cases b <;> simp [lowest]

/-- Words that are taken together raise no cause where none of them does (R109). -/
theorem tagCauses_none_iff {k : Core} {l : List (Use × TWord)} :
    tagCauses k l = none ↔ ∀ p ∈ l, tagCause k.modes.tcs k.modes.level p.1 p.2 = none := by
  suffices h : ∀ a, l.foldl (fun a p => lowest a (tagCause k.modes.tcs k.modes.level p.1 p.2)) a = none ↔
      a = none ∧ ∀ p ∈ l, tagCause k.modes.tcs k.modes.level p.1 p.2 = none from (h none).trans (by simp)
  induction l with
  | nil => simp
  | cons p t ih => intro a; simp only [List.foldl_cons, ih, lowest_none_iff, List.forall_mem_cons, and_assoc]

theorem tagCauses_cons_none {k : Core} {p : Use × TWord} {l : List (Use × TWord)} :
    tagCauses k (p :: l) = none ↔ tagCause k.modes.tcs k.modes.level p.1 p.2 = none ∧ tagCauses k l = none := by
  simp only [tagCauses_none_iff, List.forall_mem_cons]

/-- A cell of type TIM is checked as a moved word is: cause 5 judges its type (R46). -/
theorem tagCause_cell {sc : Scope} {lvl : Level} {x : TWord} (h : x.ty = .tim) :
    tagCause sc lvl .cell x = tagCause sc lvl .move x := by
  simp [tagCause, h]

/-! ### Bits and tags -/

theorem bitsOp_crcStep {cap : Nat} {k : Core} {p : Nat × Nat × Bool × Nat} (h : crcParams k.crcCfg k.crcPoly = some p) :
    let r := crcStepW p (k.ds.peek 1).pay (k.ds.peek 0).pay
    bitsOp cap k .crcStep = operate cap k 2 (.arith intIn) []
      { push := [TWord.mk' .nat (mergeOf (k.top 2)) r], flags := some { k.flags with z := decide (r = 0) } } := by
  intro r
  simp only [bitsOp, h]
  rfl

theorem bits_low_byte (x : W32) : bits x 0 8 = x.toNat % 256 := by
  rw [bits, Nat.pow_zero, Nat.div_one]
  rfl

/-- Bit 0 of the tag that TAG.SET is given is the RSV bit of its word. -/
theorem ofTag_rsv (x y : W32) : (TWord.ofTag (bits x 0 8) y).rsv = bit x 0 := by
  show (bits x 0 8 % 2 == 1) = (x.toNat / 2 ^ 0 % 2 == 1)
  rw [bits_low_byte, Nat.mod_mod_of_dvd _ (by decide), Nat.pow_zero, Nat.div_one]

/-- The checks of TAG.SET pass where its two operands and the word that it makes allow it (R41). -/
theorem tagSet_checks {k : Core} (hf : Fits k 2 2 1)
    (ht : tagCauses k [(.plain sendable, k.ds.peek 1), (.plain intIn, k.ds.peek 0)] = none) :
    let t := TWord.ofTag (bits (k.ds.peek 0).pay 0 8) (k.ds.peek 1).pay
    t.rsv = false → (k.modes.tcs = .full → t.ty = (k.ds.peek 1).ty) → ¬ (t.ty = .ret ∧ k.modes.level = .u) →
      let c1 := if decide (k.modes.tcs = .full) && decide (t.ty ≠ (k.ds.peek 1).ty) then some 1 else none
      let c3 := if bit (k.ds.peek 0).pay 0 then some 3 else none
      let c4 := if t.ty = .ret ∧ k.modes.level = .u then some 4 else none
      firstExc [depthCheck 0 k.ds.depth 16 2 2 1,
        tagCheck (lowest (tagCauses k [(.plain sendable, k.ds.peek 1), (.plain intIn, k.ds.peek 0)])
          (lowest c1 (lowest c3 c4)))] = none := by
  intro t hr hty hret c1 c3 c4
  have h1 : c1 = none := if_neg (by simpa using hty)
  have h3 : c3 = none := if_neg (by rw [← ofTag_rsv _ (k.ds.peek 1).pay, hr]; decide)
  have h4 : c4 = none := if_neg hret
  rw [hf.check, ht, h1, h3, h4]
  rfl

/-- The selector of SEL is checked as any operand of its types where it raises no cause. -/
theorem sel_tags {k : Core} {a x t : TWord} (h : tagCauses k [(.plain sendable, a), (.plain sendable, x), (.plain intIn, t)] = none) :
    tagCauses k [(.plain sendable, a), (.plain sendable, x), (.strict intIn, t)] = none := by
  simp only [tagCauses_cons_none] at h ⊢
  obtain ⟨ha, hx, ht, hnil⟩ := h
  exact ⟨ha, hx, tagCause_strict ht, hnil⟩

/-! ### Times (R45, R46, R138) -/

theorem cellNs_eq (x : W32) : cellNs x = x.toNat % 2 ^ 30 := by rw [cellNs, bits, Nat.pow_zero, Nat.div_one]

/-- A pair of TIM cells, the second with its marker and below one second (R45). -/
def GoodPair (a b : TWord) : Prop := a.ty = .tim ∧ b.ty = .tim ∧ b.pay.toNat / 2 ^ 30 = 1 ∧ b.pay.toNat % 2 ^ 30 ≤ 999999999

/-- Such a pair is not broken (R46). -/
theorem GoodPair.cause {a b : TWord} (h : GoodPair a b) : pairCause a b = none := by
  obtain ⟨ha, hb, hm, hn⟩ := h
  have hbits : bits b.pay 30 2 = 1 := by rw [bits, hm]; rfl
  have hns : bits b.pay 0 30 ≤ 999999999 := by rwa [← cellNs_eq] at hn
  have : pairBroken a b = false := by simp [pairBroken, ha, hb, hbits, hns]
  rw [pairCause, this, if_neg Bool.false_ne_true]

/-- Cells of pairs are checked as moved words are. -/
theorem tagCauses_cells {k : Core} {l : List TWord} (h : ∀ x ∈ l, x.ty = .tim)
    (ht : tagCauses k (l.map fun x => (.move, x)) = none) : tagCauses k (l.map fun x => (.cell, x)) = none := by
  rw [tagCauses_none_iff, List.forall_mem_map] at ht ⊢
  exact fun x hx => (tagCause_cell (h x hx)).trans (ht x hx)

section
variable {k : Core}

/-- The sum of a time and a count of nanoseconds (R138). -/
theorem timeOp_addns {cap : Nat} :
    let x := k.ds.peek
    let q := mergeOf (k.top 3)
    let t : Int := (x 2).pay.toNat * 1000000000 + ((x 1).pay.toNat % 2 ^ 30 : Nat) + (x 0).pay.toInt
    let sec := BitVec.ofInt 32 (t / 1000000000)
    timeOp cap k .timAddns = checked [depthCheck 0 k.ds.depth cap 3 3 2,
      tagCheck (lowest (tagCauses k [(.cell, x 2), (.cell, x 1), (.plain [.int], x 0)]) (pairCause (x 2) (x 1)))]
      { pop := 3, push := [⟨.tim, q, false, sec⟩, ⟨.tim, q, false, w32 (2 ^ 30 + (t % 1000000000).toNat)⟩]
        flags := some { k.flags with z := decide (sec = 0 ∧ t % 1000000000 = 0), n := sec.msb }, cycles := 2 } := by
  intro x q t sec
  have hz : (t % 1000000000).toNat = 0 ↔ t % 1000000000 = 0 := by
    have := Int.emod_nonneg t (show (1000000000 : Int) ≠ 0 by decide)
    omega
  simp only [timeOp, timAdd, cellNs_eq]
  rw [← decide_eq_decide.2 (and_congr_right fun _ => hz)]
  rfl

/-- The checks of TIM.SUB and TIM.CMP pass on two unbroken pairs. -/
theorem pairs_checks {n : Nat} (hf : Fits k 4 4 n) (ht : Takes k 4 .move)
    (ha : GoodPair (k.ds.peek 3) (k.ds.peek 2)) (hb : GoodPair (k.ds.peek 1) (k.ds.peek 0)) :
    firstExc [depthCheck 0 k.ds.depth 16 4 4 n, tagCheck (lowest (tagCauses k ((k.top 4).map fun x => (.cell, x)))
      (lowest (pairCause (k.ds.peek 3) (k.ds.peek 2)) (pairCause (k.ds.peek 1) (k.ds.peek 0))))] = none := by
  have hcells : ∀ x ∈ k.top 4, x.ty = .tim := by
    show ∀ x ∈ [k.ds.peek 3, k.ds.peek 2, k.ds.peek 1, k.ds.peek 0], x.ty = .tim
    simp [ha.1, ha.2.1, hb.1, hb.2.1]
  rw [hf.check, tagCauses_cells hcells ht, ha.cause, hb.cause]
  rfl

theorem timNs_eq (a b : W32) : timNs a b = a.toInt * 1000000000 + (b.toNat % 2 ^ 30 : Nat) := by rw [timNs, cellNs_eq, sv]

/-- The nanoseconds of the deeper and of the upper pair. -/
def deepNs (k : Core) : Int := (k.ds.peek 3).pay.toInt * 1000000000 + ((k.ds.peek 2).pay.toNat % 2 ^ 30 : Nat)
def upperNs (k : Core) : Int := (k.ds.peek 1).pay.toInt * 1000000000 + ((k.ds.peek 0).pay.toNat % 2 ^ 30 : Nat)

/-- The difference of two times, saturated (R138). -/
theorem timeOp_sub :
    let d := deepNs k - upperNs k
    let r := BitVec.ofInt 32 (max (-2 ^ 31) (min (2 ^ 31 - 1) d))
    timeOp 16 k .timSub = checked [depthCheck 0 k.ds.depth 16 4 4 1,
      tagCheck (lowest (tagCauses k ((k.top 4).map fun x => (.cell, x)))
        (lowest (pairCause (k.ds.peek 3) (k.ds.peek 2)) (pairCause (k.ds.peek 1) (k.ds.peek 0))))]
      { pop := 4, push := [⟨.int, mergeOf (k.top 4), false, r⟩], cycles := 2
        flags := some { zn k.flags r with v := decide (d < -2 ^ 31 ∨ 2 ^ 31 ≤ d) } } := by
  intro d r
  simp only [timeOp, timNs_eq, clampS_eq, outS_eq]
  rfl

/-- The order of two times (R138). -/
theorem timeOp_cmp :
    let a := deepNs k
    let b := upperNs k
    timeOp 16 k .timCmp = checked [depthCheck 0 k.ds.depth 16 4 4 0,
      tagCheck (lowest (tagCauses k ((k.top 4).map fun x => (.cell, x)))
        (lowest (pairCause (k.ds.peek 3) (k.ds.peek 2)) (pairCause (k.ds.peek 1) (k.ds.peek 0))))]
      { pop := 4, cycles := 2
        flags := some ⟨decide (a = b), decide (a < b), decide (a % 2 ^ 64 < b % 2 ^ 64), false, mergeOf (k.top 4)⟩ } := by
  intro a b
  simp only [timeOp, timNs_eq]
  rfl

end

end Sys2Proof.Machine

namespace Sys2Proof
open Machine

/-- Settles O10, one word after the other. That TAG.RD takes its word as a move does is the choice of log entry 121. -/
theorem bitTagAndCopyResults : Obligations.BitTagAndCopyResults := by
  intro s w q p c k x q1 q2 q3 out
  refine ⟨fun p' hp hf ht => ?_, fun hf ht => ⟨?_, fun n => ?_⟩, fun hf ht => ?_, fun hf ht => ?_, fun hf ht => ?_,
    fun hf => ⟨fun ht => ?_, fun hr ht => ?_, ?_⟩⟩
  · exact congrArg _ (runA_operate (a := .crcStep) q p rfl rfl (bitsOp_crcStep hp) hf ht rfl rfl)
  · rw [← popc_eq]
    exact congrArg _ (runA_operate (a := .par) q p rfl rfl rfl hf ht rfl rfl)
  · exact congrArg _ (runA_operate (a := .brev n) q p rfl rfl rfl hf ht rfl rfl)
  · have ht' : tagCauses k [(.move, k.ds.peek 0)] = none := ht
    exact congrArg _ (runA_checked (a := .tagRd) q p nofun rfl rfl (by rw [hf.check, ht']; rfl))
  · rw [← bits_low_byte]
    intro t hr hty hret
    exact congrArg _ (runA_checked (a := .tagSet) q p nofun rfl rfl (tagSet_checks hf ht hr hty hret))
  · rw [← ite_not]
    exact congrArg _ (runA_checked (a := .sel) q p nofun rfl rfl (by rw [hf.check, sel_tags ht]; rfl))
  · exact congrArg _ (runA_checked (a := .aFetch) q p nofun rfl rfl (by rw [hf.check, ht]; rfl))
  · exact congrArg _ (runA_checked (a := .rFetch) q p nofun rfl rfl (by rw [depthCheck_none hr (by omega), hf.check, ht]; rfl))
  · exact congrArg _ (runA_checked (a := .lcFetch) q p nofun rfl rfl (by rw [hf.check]; rfl))

/-- Settles O11, one word after the other. That Z of TIM.ADDNS ignores the marker is the choice of log entry 86. -/
theorem timeResults : Obligations.TimeResults := by
  intro s w q p hs c k x ns good q3 q4
  have hm {a : AOp} : microcoded a = true → w.env.seq.fetches = [] := fun _ => hs
  refine ⟨fun hf => ?_, fun hf hg ht => ?_, fun ha hb ht => ⟨fun hf => ?_, fun hf => ?_⟩⟩
  · refine congrArg _ (runA_quiet s w .timNow _ q p hm ?_)
    rw [opA, dsCap_bob _ _ q.1, hf.check]
    rfl
  · have ht' : tagCauses k [(.cell, x 2), (.cell, x 1), (.plain [.int], x 0)] = none := by
      simp only [tagCauses_cons_none, tagCause_cell hg.1, tagCause_cell hg.2.1] at ht ⊢
      exact ht
    exact congrArg _ (runA_checked (a := .timAddns) q p hm rfl timeOp_addns (by rw [hf.check, ht', GoodPair.cause hg]; rfl))
  · exact congrArg _ (runA_checked (a := .timSub) q p hm rfl timeOp_sub (pairs_checks hf ht ha hb))
  · exact congrArg _ (runA_checked (a := .timCmp) q p hm rfl timeOp_cmp (pairs_checks hf ht ha hb))

end Sys2Proof
end


section
/-!
SUPPORT. The control registers of a quiet bobbin (R144, R183, R271), and the statement about them.
-/

namespace Sys2Proof.Machine

theorem bits_low (x : W32) (n : Nat) : bits x 0 n = x.toNat % 2 ^ n := by rw [bits, Nat.pow_zero, Nat.div_one]

section
variable {s : State} {w : LWord} (q : Quiet s w.core) (p : PlainL w) {n : Nat}
include q p

/-! ### Reads -/

/-- A read of a register that a bobbin has delivers its word. -/
theorem runLong_ctlRd (x : TWord) (hn : n < 0x00A) (hf : Fits (at_ s w.core) 0 0 1)
    (hv : ctlValue (setCore s w.core (at_ s w.core)) w.core (at_ s w.core) n = (x, setCore s w.core (at_ s w.core)))
    (hret : ¬ (x.ty = .ret ∧ (at_ s w.core).modes.level = .u)) :
    runLong w (ctlRdRes w.core n) s = afterOp s w.core { push := [x] } := by
  have hs : ¬ w.core = spindle := Nat.ne_of_lt q.1
  have he : ctlExists w.core n = true := by rw [ctlExists, decide_eq_true hn, Bool.true_or]
  have h1 : decide (0x100 ≤ n) = false := decide_eq_false (by omega)
  refine runLong_op q p _ ?_
  simp only [ctlRdRes, he, h1, dsCap_bob _ _ q.1, hf.check, hv, if_neg hret, if_neg hs]
  rfl

/-! ### Writes -/

/-- A write of a register that software may write leaves the core as `k'`. -/
theorem runLong_ctlWr (k' : Core) (hn : n < 0x007) (hf : Fits (at_ s w.core) 1 1 0)
    (hp : ctlPriv w.core n (at_ s w.core) ((at_ s w.core).ds.peek 0).pay = none)
    (ht : tagCauses (at_ s w.core) [(if n = 6 then .move else .plain intIn, (at_ s w.core).ds.peek 0)] = none)
    (hk : KeepsFlow (at_ s w.core) k')
    (hset : ctlSet (setCore s w.core (at_ s w.core)) w.core (applyA w.core (at_ s w.core) { pop := 1 }) n
      ((at_ s w.core).ds.peek 0) = (k', false)) :
    runLong w (ctlWrRes w.core n) s = wordEnd s w.core (onward k') 1 := by
  obtain ⟨hc, -, -, hh, hdl, hl, hbu, -⟩ := id q
  obtain ⟨kh, kd, kl, kp, kt, -⟩ := hk
  have hs : ¬ w.core = spindle := Nat.ne_of_lt hc
  have he : (!ctlExists w.core n || ctlReadOnly n) = false := by
    have hr : ctlReadOnly n = false := decide_eq_false (by simp; omega)
    rw [ctlExists, decide_eq_true (show n < 0x00A by omega), hr]
    rfl
  have hd : ¬ (at_ s w.core).ds.depth = 0 := by have := hf.1; omega
  refine runLong_done s w _ q p { k := k' } ?_ (kh.trans hh) ⟨kd.trans hdl, kt.trans hbu.2⟩ (by rw [kl, kp]; exact hl.1) kp
    rfl rfl rfl rfl rfl rfl rfl
  simp only [ctlWrRes, he, if_neg hd, hp, dsCap_bob _ _ hc, hf.check, ht, hset, if_neg hs]
  rfl

end

/-! ### What a write changes -/

section
variable {s : State} {c : Nat} {k : Core}

/-- A pop on a bobbin leaves the results in flight, the modes and the strand. -/
theorem applyA_pop (n : Nat) : (applyA c k { pop := n }).flight = k.flight ∧ (applyA c k { pop := n }).modes = k.modes ∧
    (applyA c k { pop := n }).strand = k.strand := by
  have h (x : Stk) : (k.setDs x).flight = k.flight ∧ (k.setDs x).modes = k.modes ∧ (k.setDs x).strand = k.strand := by
    unfold Core.setDs; split <;> exact ⟨rfl, rfl, rfl⟩
  simp [applyA, h]

/-- With nothing in flight the newest modes are those in force. -/
theorem newestModes_quiet (h : k.flight = []) : newestModes k = k.modes := by rw [newestModes, h]; rfl

/-- On a bobbin a change of the modes takes effect at distance 3 (R183). -/
theorem changeModes_bob (hc : c < 256) (h : k.flight = []) (l : List Landing) :
    changeModes c k l = { k with flight := l.map fun x => ⟨3, x⟩ } := by
  rw [changeModes, if_neg (show ¬ c = spindle from Nat.ne_of_lt hc), h, List.nil_append]

/-- Outside class P the modes written are those that follow (R335). -/
theorem pModes_other {old new : Modes} : pModes false old new = (new, false) := rfl

theorem ctlSet_status (hc : c < 256) (h : k.flight = []) (hp : runsP s k = false) (x : TWord) : ctlSet s c k 0 x =
    ({ k with flight := [⟨3, .modes (modesOf x.pay)⟩, ⟨3, .flags (bit x.pay 11) (bit x.pay 12) (bit x.pay 13) (bit x.pay 14)
      ⟨Val.ofCode (bits x.pay 15 2), bit x.pay 17, bit x.pay 18⟩⟩] }, false) := by
  simp only [ctlSet, hp, pModes_other, changeModes_bob hc h]
  rfl

theorem ctlSet_fpcsr (hc : c < 256) (h : k.flight = []) (x : TWord) : ctlSet s c k 1 x =
    ({ k with
      sticky := x.pay.toNat / 2 ^ 4 % 2 ^ 5, traps := x.pay.toNat / 2 ^ 12 % 2 ^ 5
      flight := [⟨3, .modes { k.modes with rm := Rm.ofCode (x.pay.toNat % 2 ^ 2) }⟩] }, false) := by
  simp only [ctlSet, newestModes_quiet h, bits_low]
  rw [changeModes_bob (k := { k with sticky := bits x.pay 4 5, traps := bits x.pay 12 5 }) hc h]
  rfl

/-- Code above U may write a level that its own reaches, and U only where no frame is on the privileged set (R271). -/
theorem ctlPriv_status {v : W32} (hu : k.modes.level ≠ .u) (h3 : v.toNat % 4 ≠ 3) (hl : v.toNat % 4 ≤ k.modes.level.code)
    (hp : k.pset = true → v.toNat % 4 ≠ 0) : ctlPriv c 0 k v = none := by
  have hb : bits v 0 2 = v.toNat % 4 := bits_low v 2
  have h : (decide (k.modes.level = .u) || decide (v.toNat % 4 = 3 ∨ k.modes.level.code < v.toNat % 4) ||
      (decide (c ≠ spindle) && k.pset && decide (v.toNat % 4 = 0))) = false := by
    cases hk : k.pset with
    | false => simp [hu, h3, hl]
    | true => simp [hu, h3, hl, hp hk]
  rw [ctlPriv, if_pos rfl, hb, h]
  rfl

end
end Sys2Proof.Machine

namespace Sys2Proof
open Machine

/-- Settles O17, one register after the other. -/
theorem controlRegisterAccess : Obligations.ControlRegisterAccess := by
  intro s w q p c k t v got put
  have hc : c < 256 := q.1
  refine ⟨fun hf => ?_, fun hf => ⟨fun ht => ?_, fun ht => ?_⟩⟩
  · have read {n : Nat} {x : TWord} (hn : n < 0x00A) (hv : ctlValue (setCore s c k) c k n = (x, setCore s c k))
        (hx : ¬ (x.ty = .ret ∧ k.modes.level = .u)) : runLong w (ctlRdRes c n) s = afterOp s c { push := [x] } :=
      runLong_ctlRd q p x hn hf hv hx
    have nat {x : TWord} (h : x.ty = .nat) : ¬ (x.ty = .ret ∧ k.modes.level = .u) := by rw [h]; exact fun h => nomatch h.1
    refine ⟨?_, ?_, ?_, ?_, ?_, ?_, fun _ hu => ?_, fun hr => ?_, fun o x ho hx => ⟨?_, ?_⟩⟩
    · exact congrArg _ (read (n := 0) (by decide) rfl (nat rfl))
    · exact congrArg _ (read (n := 1) (by decide) rfl (nat rfl))
    · exact congrArg _ (read (n := 2) (by decide) rfl (nat rfl))
    · exact congrArg _ (read (n := 3) (by decide) rfl (nat rfl))
    · exact congrArg _ (read (n := 4) (by decide) rfl (nat rfl))
    · exact congrArg _ (read (n := 5) (by decide) rfl (nat rfl))
    · exact congrArg _ (read (n := 6) (by decide) rfl fun h => hu h.2)
    · exact congrArg _ (read (n := 6) (by decide) rfl fun h => hr h.1)
    · exact congrArg _ (read (n := 7) (by decide) (by simp only [ctlValue, ho]) (nat rfl))
    · have hx' : strand (setCore s c k) o.idx = some x := hx
      exact congrArg _ (read (n := 8) (by decide) (by simp only [ctlValue, ho, hx']) (nat rfl))
  · have hfl : (applyA c k { pop := 1 }).flight = [] := (applyA_pop 1).1
    have plain {n : Nat} {k' : Core} (hn : 1 ≤ n ∧ n < 6)
        (hk : KeepsFlow (applyA c k { pop := 1 }) k')
        (hset : ctlSet (setCore s c k) c (applyA c k { pop := 1 }) n t = (k', false)) :
        runLong w (ctlWrRes c n) s = wordEnd s c (onward k') 1 := by
      have h6 : tagCauses k [(if n = 6 then .move else .plain intIn, t)] = none := by rw [if_neg (by omega)]; exact ht
      refine runLong_ctlWr q p k' (by omega) hf ?_ h6 ((keepsFlow_applyA c k _).trans hk) hset
      rw [ctlPriv, if_neg (by omega), decide_eq_false (by omega), Bool.false_and]
      rfl
    refine ⟨?_, ?_, ?_, ?_, ?_, fun hu h3 hl hp hcls => ?_⟩
    · rw [← bits_low]
      exact congrArg Host.Outcome.next (plain (n := 2) (by decide) ⟨rfl, rfl, rfl, rfl, rfl, rfl, rfl⟩ rfl)
    · rw [← bits_low]
      exact congrArg Host.Outcome.next (plain (n := 3) (by decide) ⟨rfl, rfl, rfl, rfl, rfl, rfl, rfl⟩ rfl)
    · exact congrArg Host.Outcome.next (plain (n := 4) (by decide) ⟨rfl, rfl, rfl, rfl, rfl, rfl, rfl⟩ rfl)
    · rw [← bits_low]
      exact congrArg Host.Outcome.next (plain (n := 5) (by decide) ⟨rfl, rfl, rfl, rfl, rfl, rfl, rfl⟩ rfl)
    · exact congrArg Host.Outcome.next (plain (n := 1) (by decide) ⟨rfl, rfl, rfl, rfl, rfl, rfl, rfl⟩ (ctlSet_fpcsr hc hfl t))
    · have hcls' : runsP (setCore s c k) (applyA c k { pop := 1 }) = false := by
        rw [runsP, (applyA_pop 1).2.2]
        exact hcls
      exact congrArg Host.Outcome.next (runLong_ctlWr (n := 0) q p _ (by decide) hf (ctlPriv_status hu h3 hl hp) ht
        ((keepsFlow_applyA c k _).trans ⟨rfl, rfl, rfl, rfl, rfl, rfl, rfl⟩) (ctlSet_status hc hfl hcls' t))
  · exact congrArg Host.Outcome.next (runLong_ctlWr (n := 6) q p _ (by decide) hf rfl ht
      ((keepsFlow_applyA c k _).trans ⟨rfl, rfl, rfl, rfl, rfl, rfl, rfl⟩) rfl)

end Sys2Proof
end


section
/-!
SUPPORT. The flow of a word in a delay slot, at the edges of a loop's body and at a gate (R130, R131, R182, R185 to R187, R279), and the
statements about them.
-/

namespace Sys2Proof.Machine

/-! ### Flows -/

section
variable {c : Nat} {k : Core} (hc : c < 256) (ht : k.late = [])
include hc

theorem pcStep_bob : pcStep c = 1 := if_neg (show ¬ c = spindle from Nat.ne_of_lt hc)

theorem pcWrap_bob {n : Nat} (h : n < 65536) : pcWrap c n = n := by
  rw [pcWrap, if_neg (show ¬ c = spindle from Nat.ne_of_lt hc)]
  exact Nat.mod_eq_of_lt h

/-- Among loops that are all active nothing begins where the flow arrives. -/
theorem goto_active {n : Nat} {ls : List Loop} (h : n < 65536) (he : ∀ l ∈ ls, l.entered = true) :
    goto c k n ls = { k with pc := n, loops := ls } := by
  simp only [goto, arrive_inside _ _ _ he, pcWrap_bob hc h]

omit hc in
/-- The innermost of loops that are all active is the first. -/
theorem dropInner_active {ls : List Loop} (he : ∀ l ∈ ls, l.entered = true) : dropInner ls = ls.tail := by
  cases ls with
  | nil => rfl
  | cons l t => rw [dropInner, if_pos (he l List.mem_cons_self)]; rfl

include ht

/-- A word in the slot of a taken branch goes on at the target. -/
theorem flowOn_slot {t b : Nat} {ends : Bool} (hd : k.delay = some (.branch t b ends)) (hi : Inside k.pc k.loops)
    (ha : k.lbActive = false) (h : t < 65536) :
    flowOn c k (.seq 0) =
      ({ (if ends then { k with loops := k.loops.tail, lbCap := false } else k) with
        pc := t, delay := none, bubbles := b, late := [] }, none) := by
  have hs : ¬ c = spindle := Nat.ne_of_lt hc
  have he : ∀ l ∈ k.loops, l.entered = true := fun l hl => (hi l hl).1
  cases ends with
  | false =>
    simp only [flowOn, flowTo, hd, if_neg hs, Bool.false_eq_true, if_false, goto_active hc h he, dueBubbles, ht]
    rfl
  | true =>
    simp only [flowOn, flowTo, hd, if_neg hs, if_true, dropInner_active he,
      goto_active hc h fun l hl => he l (List.mem_of_mem_tail hl), dueBubbles, ht, ha]
    rfl

/-- A word in the slot of a branch that is not taken goes on in sequence. -/
theorem flowOn_fallThrough (hd : k.delay = some .fallThrough) (hi : Inside k.pc k.loops) (hp : k.pc < 65535) :
    flowOn c k (.seq 0) = ({ k with pc := k.pc + 1, delay := none, bubbles := 0, late := [] }, none) := by
  have hs : ¬ c = spindle := Nat.ne_of_lt hc
  simp only [flowOn, flowTo, hd, if_neg hs]
  rw [stepSeq_clear (k := { k with delay := none }) hc hi.clear hp]
  simp only [dueBubbles, ht]
  rfl

variable (hd : k.delay = none)
include hd

/-- A gate leaves its call to the delay slot. -/
theorem flowOn_gate (hi : Inside k.pc k.loops) (hp : k.pc < 65535) (hb : k.bubbles = 0) (n : Nat) :
    flowOn c k (.gate n) = ({ k with
      pc := k.pc + 1, delay := some (.gate n k.pc), lbActive := false, lbCap := false, bubbles := 0, late := [] }, none) := by
  have hs : ¬ c = spindle := Nat.ne_of_lt hc
  simp only [flowOn, flowTo, hd, if_neg hs]
  rw [stepSeq_clear (k := { k with delay := none }) hc hi.clear hp]
  simp only [dueBubbles, ht]
  show (({ k with
    pc := k.pc + 1, delay := some (.gate n k.pc), lbActive := false, lbCap := false, bubbles := k.bubbles + 0, late := [] } : Core),
    none) = _
  rw [hb]

/-- A word whose next in sequence is placed as `k'` goes on there. -/
theorem flowOn_stepSeq {k' : Core} (h : stepSeq c { k with delay := none } = k') :
    flowOn c k (.seq 0) = ({ k' with bubbles := 0, late := [] }, none) := by
  have hs : ¬ c = spindle := Nat.ne_of_lt hc
  simp only [flowOn, flowTo, hd, if_neg hs, h]
  simp only [dueBubbles, ht]
  rfl

end

/-! ### The next word at a loop's edges (R131, R187, R86) -/

section
variable {c : Nat} {k : Core} {l : Loop} (hc : c < 256) (hl : k.loops = [l])
include hc hl

/-- While iterations are left the last body word leads to the body's start. -/
theorem stepSeq_back (he : l.entered = true) (hstop : l.stop = k.pc + 1) (hn : 1 < l.now) (hp : l.start < 65536) :
    stepSeq c k = { k with pc := l.start, loops := [{ l with left := l.now - 1, taken := false }], lbActive := k.lbCap } := by
  have hf : follow 1 k.pc k.loops = (l.start, [{ l with left := l.now - 1, taken := false }], .back) := by
    rw [hl]
    simp [follow, he, hstop, hn]
  simp only [stepSeq, pcStep_bob hc, hf]
  rw [goto_active hc hp (by simp [he])]

/-- The last iteration's last word leads out of the body, and the loop is over. -/
theorem stepSeq_ended (he : l.entered = true) (hstop : l.stop = k.pc + 1) (hn : l.now ≤ 1) (hp : k.pc < 65535)
    (ha : k.lbActive = false) : stepSeq c k = { k with pc := k.pc + 1, loops := [], lbCap := false } := by
  have hf : follow 1 k.pc k.loops = (k.pc + 1, [], .ended) := by
    rw [hl]
    simp [follow, he, hstop, Nat.not_lt.2 hn]
  simp only [stepSeq, pcStep_bob hc, hf]
  rw [goto_active hc (by omega) (by simp), ← ha]

/-- A body that the flow reaches is skipped where its count is 0. -/
theorem stepSeq_skip (he : l.entered = false) (hstart : l.start = k.pc + 1) (hz : l.left = 0) (hp : l.stop < 65536) :
    stepSeq c k = { k with pc := l.stop, loops := [] } := by
  have hf : follow 1 k.pc k.loops = (k.pc + 1, [l], .none) := by
    rw [hl]
    simp [follow, he]
  have ha : arrive 1 (k.pc + 1) [l] = (l.stop, []) := by simp [arrive, he, hstart, hz]
  simp only [stepSeq, pcStep_bob hc, hf, goto, List.length_singleton, ha, pcWrap_bob hc hp]

/-- A body that the flow reaches is entered where its count is not 0. -/
theorem stepSeq_enter (he : l.entered = false) (hstart : l.start = k.pc + 1) (hz : l.left ≠ 0) (hp : k.pc < 65535) :
    stepSeq c k = { k with pc := k.pc + 1, loops := [{ l with entered := true }] } := by
  have hf : follow 1 k.pc k.loops = (k.pc + 1, [l], .none) := by
    rw [hl]
    simp [follow, he]
  have ha : arrive 1 (k.pc + 1) [l] = (k.pc + 1, [{ l with entered := true }]) := by simp [arrive, he, hstart, hz]
  simp only [stepSeq, pcStep_bob hc, hf, goto, List.length_singleton, ha, pcWrap_bob hc (show k.pc + 1 < 65536 by omega)]

end

/-! ### The word NOP -/

/-- A NOP paired with nothing leaves its core and goes on in sequence. -/
theorem nop_done (s : State) (w : AWord) (p : Plain w) :
    paired w.core w.cond w.ca w.cb .nop w.b w.env (setCore s w.core (at_ s w.core)) (at_ s w.core) =
      (.ok { k := at_ s w.core, ops := 2 }, setCore s w.core (at_ s w.core)) := by
  obtain ⟨ha, hb, hn, -⟩ := p
  simp [paired, ha, hb, hn, microcoded, opA, dataOp, stackOp, Except.map, applyA_nop, addrOp, applyB_same]

/-- A NOP moves the core as the flow in sequence says. -/
theorem nop_flow {s : State} {w : AWord} {d : Option Delay} {k' : Core} (q : Still s w.core d) (p : Plain w)
    (hf : flowOn w.core (at_ s w.core) (.seq 0) = (k', none)) (hk : k'.haltReq = .none) :
    exec (.nop w) s = .next (wordEnd s w.core { k' with lastPc := (core s w.core).pc, atHandler := false, bpPass := false } 1) :=
  have hh : (core s w.core).haltReq = .none := q.2.2.2.1
  congrArg Host.Outcome.next (runWord_flow s w.core w.env (fun u k _ => paired w.core w.cond w.ca w.cb .nop w.b w.env u k) q p.2.2.2
    { k := at_ s w.core, ops := 2 } k' (nop_done s w p) hh hf ⟨nofun, nofun⟩ (hk.trans hh.symm) rfl rfl rfl rfl rfl rfl)

/-! ### A word at a loop's edge -/

/-- Outside its buffered bodies a bobbin fetches from the line that its cache holds. -/
theorem fetchBob_line (s : State) (c : Nat) (k : Core) (e : Env) (h : e.fetch = .clean) (hn : ∀ l, k.inner = some l → l.start ≠ k.pc)
    (ha : k.lbActive = false) (hi : icHolds k (k.pc / 8) = true) (hb : rdB s (pgBOB c) 0x080 0 = true)
    (hp : k.pc / 1024 ∉ s.mem.loading) : fetchBob s c k e = (none, 0, modCore s c fun x => icTouch x (k.pc / 8)) := by
  cases hk : k.inner with
  | none => simp [fetchBob, fetchCache, fromBuffer, ha, h, hi, hb, hp, hk]
  | some l => simp [fetchBob, fetchCache, fromBuffer, ha, h, hi, hb, hp, hk, hn l hk]

/-- A NOP of a bobbin that is quiet apart from its loops, away from the start of its innermost one, moves the core as the flow in
sequence says. -/
theorem nop_edge {s : State} {w : AWord} {k' : Core} (q : Quiet (setCore s w.core { core s w.core with loops := [] }) w.core)
    (hn : ∀ l, (core s w.core).inner = some l → l.start ≠ (core s w.core).pc) (p : Plain w)
    (hf : flowOn w.core (at_ s w.core) (.seq 0) = (k', none)) (hk : k'.haltReq = .none) :
    exec (.nop w) s = .next (wordEnd s w.core { k' with lastPc := (core s w.core).pc, atHandler := false, bpPass := false } 1) := by
  have hw := nop_done s w p
  set c := w.core
  obtain ⟨hc, hr, hd, hh, -, ⟨-, ha⟩, ⟨hb, -⟩, hfl, hic, hen, hpg, -⟩ := q
  simp only [core_setCore_same] at hh ha hb hfl hic hpg
  have hsp : ¬ c = spindle := Nat.ne_of_lt hc
  have hr : runs s c = true := by simpa [runs] using hr
  have hp := runs_ne_off s c hc hr
  have hs : Calm w.env := p.2.2.2
  have ht : modCore (setCore s c (slotPassed (core s c))) c (fun x => icTouch x ((core s c).pc / 8)) = setCore s c (at_ s c) := by
    rw [modCore, core_setCore_same, setCore_setCore s c (slotPassed (core s c)) _ hp]
    rfl
  refine congrArg Host.Outcome.next (?_ : runWord s c w.env (fun u k _ => paired c w.cond w.ca w.cb .nop w.b w.env u k) = _)
  rw [runWord]
  simp only [hr, Bool.not_true, Bool.false_eq_true, if_false, bpTake_quiet s c 1 _ (show dbgLevel s < 2 by rw [show dbgLevel s = 0 from hd]; decide),
    ite_self, hsp, enterSlot_quiet c _ hsp hfl hb, hb]
  rw [fetchBob_line (setCore s c (slotPassed (core s c))) c (slotPassed (core s c)) w.env hs.1 hn ha hic hen hpg]
  simp only [show (slotPassed (core s c)).pc = (core s c).pc from rfl, ht]
  simp only [core_setCore_same, hs.2, Bool.false_and, Bool.false_eq_true, if_false, Nat.add_zero, hw]
  rw [settle_bob _ _ _ _ _ _ _ hsp (by simp)]
  exact commit_flow s c w.env (at_ s c) k' { k := at_ s c, ops := 2 } hc hd hh hf nofun (hk.trans hh.symm) rfl rfl rfl rfl rfl rfl hp

/-- The same, with the flow as `stepSeq` places it. -/

theorem nop_step {s : State} {w : AWord} {k' : Core} (q : Quiet (setCore s w.core { core s w.core with loops := [] }) w.core)
    (hn : ∀ l, (core s w.core).inner = some l → l.start ≠ (core s w.core).pc) (p : Plain w)
    (h : stepSeq w.core { at_ s w.core with delay := none } = k') (hk : k'.haltReq = .none) :
    exec (.nop w) s = .next (wordEnd s w.core
      { k' with bubbles := 0, late := [], lastPc := (core s w.core).pc, atHandler := false, bpPass := false } 1) := by
  obtain ⟨hc, -, -, -, hd, -, ⟨-, hl⟩, -⟩ := id q
  simp only [core_setCore_same] at hd hl
  have h' := nop_edge q hn p (flowOn_stepSeq (k := at_ s w.core) hc hl hd h) hk
  exact h'

/-- A core's one loop does not start at its word. -/
theorem edge_start {k : Core} {l : Loop} (hl : k.loops = [l]) (h : l.start ≠ k.pc) (m : Loop) (hm : k.inner = some m) : m.start ≠ k.pc := by
  obtain rfl : m = l := by simpa [hl] using inner_mem k m hm
  exact h

end Sys2Proof.Machine

namespace Sys2Proof
open Machine

/-- Settles O19: in a slot the flow in sequence is the pending branch's (`flowOn_slot`). -/
theorem delaySlotsRunBeforeTheTarget : Obligations.DelaySlotsRunBeforeTheTarget := by
  unfold Obligations.DelaySlotsRunBeforeTheTarget
  intro s w t b ends p ht c k
  refine ⟨fun q => ?_, fun q => ?_⟩ <;> obtain ⟨hc, -, -, hh, hd, ⟨hi, ha⟩, ⟨-, hl⟩, -, -, -, -, hp⟩ := id q
  · have h := nop_flow q p (flowOn_slot (k := k) hc hl hd hi ha ht) (by cases ends <;> exact hh)
    cases ends <;> exact h
  · have h := nop_flow q p (flowOn_fallThrough (k := k) hc hl hd hi hp) hh
    exact h

/-- Settles O21: the body's edges are those of `follow` and `arrive`. A loop becomes active, and one whose count is 0 is skipped, where
the flow reaches its body: the model's choice of the assumption log's entry 93. -/
theorem loopsTakeTheirBackEdges : Obligations.LoopsTakeTheirBackEdges := by
  unfold Obligations.LoopsTakeTheirBackEdges
  intro s w l p c k
  refine ⟨fun ⟨q, hl, he, hs, hb⟩ => ?_, fun q hl he hs ht => ?_⟩
  · obtain ⟨hc, -, -, hh, -, ⟨-, ha⟩, -, -, -, -, -, hp⟩ := id q
    simp only [core_setCore_same] at hh ha hp
    have hn := edge_start hl (show l.start ≠ _ by omega)
    refine ⟨fun hnow => ?_, fun hnow => ?_⟩
    · have h := stepSeq_back (k := { k with delay := none }) hc hl he hs hnow (show l.start < 65536 by omega)
      have h' := nop_step q hn p h hh
      exact h'
    · have h := stepSeq_ended (k := { k with delay := none }) hc hl he hs hnow hp ha
      have h' := nop_step q hn p h hh
      exact h'
  · obtain ⟨hc, -, -, hh, -, -, -, -, -, -, -, hp⟩ := id q
    simp only [core_setCore_same] at hh hp
    have hn := edge_start hl (show l.start ≠ _ by omega)
    refine ⟨fun hz => ?_, fun hz => ?_⟩
    · have h := stepSeq_skip (k := { k with delay := none }) hc hl he hs hz ht
      have h' := nop_step q hn p h hh
      exact h'
    · have h := stepSeq_enter (k := { k with delay := none }) hc hl he hs hz hp
      have h' := nop_step q hn p h hh
      exact h'

/-- Settles O24: a gate's flow leaves its call to the slot (`flowOn_gate`). -/
theorem gatesWaitForTheirSlot : Obligations.GatesWaitForTheirSlot := by
  unfold Obligations.GatesWaitForTheirSlot
  intro s w n q p c k
  obtain ⟨hc, -, -, hh, hd, ⟨hi, -⟩, ⟨-, hl⟩, -, -, -, -, hp⟩ := id q
  have hd : k.delay = none := hd
  have h := runWord_flow s c w.env (fun u k snap =>
      conditioned w.cond false true snap k u (if k.delay.isSome then (.error Exc.il, u) else (.ok { k := k, flow := .gate n.toNat }, u)))
    q p.2 { k := k, flow := .gate n.toNat } _
    (by simp only [p.1, conditioned, condCheck, condHolds, show (at_ s c).delay = none from hd]; rfl)
    hh (flowOn_gate (k := k) hc hl hd hi hp rfl n.toNat) ⟨nofun, nofun⟩ rfl rfl rfl rfl rfl rfl rfl
  exact congrArg Host.Outcome.next h

end Sys2Proof
end


section
/-!
SUPPORT. Words with an effect on the rest of the block, and the words that strands have (R139 to R143, R359, R360, R352, R491).
-/

namespace Sys2Proof.Machine

/-! ### Words with an effect on the block -/

theorem dbgLevel_spend {s : State} {c : Nat} (hc : c ≠ 256) (h : dbgLevel s = 0) (n : Nat) : dbgLevel (spend s c n) = 0 := by
  rw [spend_quiet s c n hc h]
  split <;> simp [modCore, h]

/-- Effects on the block that agree where no debugger is open are the same effect of a word. -/
theorem wordThen_congr {u : State} {c : Nat} {k : Core} {n m : Nat} {f g : State → State} (hc : c ≠ 256) (hd : dbgLevel u = 0)
    (h : ∀ x, dbgLevel x = 0 → f x = g x) : wordThen u c k n m f = wordThen u c k n m g := by
  refine congrArg (stepDone · c) (h _ (dbgLevel_spend hc ?_ _))
  split <;> simpa using hd

theorem wordThen_setCore {s : State} {c : Nat} {k : Core} (hk : k.pstate ≠ .off) (k' : Core) (n m : Nat) (f : State → State) :
    wordThen (setCore s c k) c k' n m f = wordThen s c k' n m f := by
  simp only [wordThen, setCore_setCore s c k k' hk]

/-- Operands popped and words pushed that no flag, no sticky flag and no distance goes with. -/
theorem applyA_put (c : Nat) (k : Core) (n m : Nat) (ws : List TWord) :
    applyA c k { pop := n, push := ws, cycles := m } = k.setDs ((k.ds.drop n).pushAll ws) := by
  have hs : applyA c k { pop := n, push := ws, cycles := m } =
      { k.setDs ((k.ds.drop n).pushAll ws) with sticky := Nat.lor (k.setDs ((k.ds.drop n).pushAll ws)).sticky 0 } := by
    simp only [applyA]
    rw [if_neg (by simp)]
  rw [hs, show Nat.lor (k.setDs ((k.ds.drop n).pushAll ws)).sticky 0 = (k.setDs ((k.ds.drop n).pushAll ws)).sticky from Nat.or_zero _]

/-- A pop without a push. -/
theorem applyA_drop (c : Nat) (k : Core) (n m : Nat) : applyA c k { pop := n, cycles := m } = k.setDs (k.ds.drop n) :=
  applyA_put c k n m []

/-- A core as a word in sequence may leave it: at the same place of the same loops, with nothing pending. -/
def InPlace (k x : Core) : Prop := x.delay = none ∧ x.late = [] ∧ x.loops = k.loops ∧ x.pc = k.pc

theorem inPlace_at {s : State} {c : Nat} (q : Quiet s c) : InPlace (at_ s c) (at_ s c) := by
  obtain ⟨-, -, -, -, hd, -, ⟨-, hl⟩, -⟩ := q
  exact ⟨hd, hl, rfl, rfl⟩

theorem InPlace.keeps {k x y : Core} (h : InPlace k x) (g : KeepsFlow x y) : InPlace k y := by
  obtain ⟨hd, ht, hl, hp⟩ := h
  obtain ⟨-, gd, gl, gp, gt, -⟩ := g
  exact ⟨gd.trans hd, gt.trans ht, gl.trans hl, gp.trans hp⟩

section
variable {s u : State} {w : LWord} {body : State → Core → Res} {x : Core} {n m : Nat} {f : State → State}
  (q : Quiet s w.core) (p : PlainL w) (hx : InPlace (at_ s w.core) x)
include q p hx

/-- A long-format word of a quiet bobbin whose body has reached the state `u` leaves `x` of its core, and has its effect on the block. -/
theorem runLong_effect (hb : body (setCore s w.core (at_ s w.core)) (at_ s w.core) = (.ok { k := x, cycles := n, wait := m, after := f }, u))
    (hd : dbgLevel u = 0) : runLong w body s = wordThen u w.core (onward x) n m f := by
  obtain ⟨-, -, -, -, -, ⟨hi, -⟩, -⟩ := id q
  obtain ⟨xd, xt, xl, xp⟩ := hx
  exact runLong_then s u w body q p { k := x, cycles := n, wait := m, after := f } hb hd ⟨xd, xt⟩ (by rw [xl, xp]; exact hi) xp
    rfl rfl rfl rfl rfl

/-- The same where the body changes no state. -/
theorem runLong_effect_here
    (hb : body (setCore s w.core (at_ s w.core)) (at_ s w.core) =
      (.ok { k := x, cycles := n, wait := m, after := f }, setCore s w.core (at_ s w.core))) {g : State → State}
    (hg : ∀ y, dbgLevel y = 0 → f y = g y) : runLong w body s = wordThen s w.core (onward x) n m g := by
  obtain ⟨hc, hr, hd, -⟩ := id q
  rw [runLong_effect q p hx hb hd, wordThen_setCore (show (at_ s w.core).pstate ≠ .off from runs_ne_off s w.core hc hr)]
  exact wordThen_congr (Nat.ne_of_lt hc) hd hg

end

/-! ### Waits and messages -/

/-- An access to a bank opens no debugger. -/
theorem dbgLevel_bankStall {s : State} (h : dbgLevel s = 0) (c a : Nat) (e : Env) : dbgLevel (bankStall s c a e).2 = 0 := by
  unfold bankStall
  simp only [snagWait_quiet s _ _ _ _ h]
  by_cases hp : a / 2 ^ 18 = pilOf c
  · have h1 : dbgLevel (addWrap s (pgBOB c) 0x098 0 e.bankWait) = 0 := by simpa using h
    simp only [hp, if_true, pmcCount_quiet _ _ _ _ h1, ne_eq, not_true_eq_false, and_false, if_false]
    exact (keeps_ite _ (keeps_raiseErr _ _ _ _ _ _ _) (.refl _)).level.trans h1
  · have h1 : dbgLevel (addWrap s (pgBOB c) 0x09C 0 e.remoteWait) = 0 := by simpa using h
    simp only [hp, ne_eq, not_true_eq_false, and_false, if_false]
    exact (keeps_ite _ (keeps_raiseErr _ _ _ _ _ _ _) (.refl _)).level.trans h1

theorem dbgLevel_poolStall {s : State} (h : dbgLevel s = 0) (c p : Nat) (e : Env) : dbgLevel (poolStall s c p e).2 = 0 := by
  unfold poolStall
  split
  · exact h
  · exact dbgLevel_bankStall h _ _ _

theorem dbgLevel_sendStall {s : State} (h : dbgLevel s = 0) (c : Nat) (d : W32) (e : Env) : dbgLevel (sendStall s c d e).2 = 0 := by
  unfold sendStall
  refine List.foldlRecOn _ _ (motive := fun a : Nat × State => dbgLevel a.2 = 0) h fun a ha p _ => dbgLevel_poolStall ha c p e

theorem keeps_wr (s : State) (p o : Nat) (v : W32) : Keeps s (wr s p o v) := ⟨rfl, rfl, rfl⟩

theorem keeps_wrF (s : State) (p o l n v : Nat) : Keeps s (wrF s p o l n v) := ⟨rfl, rfl, rfl⟩

theorem keeps_raiseIrq (s : State) (p n : Nat) : Keeps s (raiseIrq s p n) := ⟨rfl, rfl, rfl⟩

theorem keeps_secCount (s : State) (p k : Nat) : Keeps s (secCount s p k) := by
  unfold secCount
  exact ((keeps_wrF _ _ _ _ _ _).trans (keeps_raiseErr _ _ _ _ _ _ _)).trans (keeps_ite _ (keeps_raiseIrq _ _ _) (.refl _))

theorem keeps_dedLatch (s : State) (p a b : Nat) : Keeps s (dedLatch s p a b) := by
  have h (u : State) : Keeps u (bumpSat u (pgPIL p) 0x09C 0 16 1) := by unfold bumpSat; exact keeps_wrF _ _ _ _ _ _
  unfold dedLatch
  extract_lets s1 s2
  have h1 : Keeps s s1 := keeps_ite _ (.refl s) (keeps_wr _ _ _ _)
  exact (h1.trans (h s1)).trans (keeps_ite _ (keeps_raiseIrq _ _ _) (.refl _))

theorem keeps_bankDed (s : State) (a b : Nat) : Keeps s (bankDed s a b) := by
  have h (m : Mem) : Keeps s { s with mem := m } := ⟨rfl, rfl, rfl⟩
  unfold bankDed dedReport
  exact ((h _).trans (keeps_dedLatch _ _ _ _)).trans (keeps_raiseErr _ _ _ _ _ _ _)

theorem keeps_bankRead (s : State) (a b : Nat) (e : Ecc) : Keeps s (bankRead s a b e).2 := by
  unfold bankRead
  dsimp only
  split
  · exact keeps_bankDed s a b
  · cases e with
    | clean => exact .refl s
    | single => exact keeps_secCount s _ _
    | double => exact keeps_bankDed s a b
    | miscorrected => exact Keeps.trans ⟨rfl, rfl, rfl⟩ (keeps_secCount _ _ _)
    | unnoticed => exact ⟨rfl, rfl, rfl⟩

/-- WAIT's message is read without opening a debugger. -/
theorem dbgLevel_takeMsg {s v : State} {c n : Nat} {k : Core} {e : Env} {r : Except Exc Msg} (h : takeMsg s c k n e = (r, v)) :
    dbgLevel v = dbgLevel s := by
  have hr (a : Nat) : dbgLevel (readPlace s c (.bank a) e.ecc).2 = dbgLevel s := (keeps_bankRead s a _ _).level
  unfold takeMsg at h
  extract_lets a bad at h
  split at h
  · next u hu => rw [← (Prod.mk.inj h).2, ← hr, hu]
  · next u hu =>
    have hv : v = u := by extract_lets m at h; split at h <;> exact (Prod.mk.inj h).2.symm
    rw [hv, ← hr, hu]

/-! ### Switches of other cores -/

/-- What holds of an entry at another key is not touched by a write at this one. -/
theorem SMap.any_set_other {α : Type} [DecidableEq α] (m : SMap α) (d : α) (k : Nat) (v : α) (f : Nat × α → Bool) :
    ((SMap.set m d k v).any fun e => decide (e.1 ≠ k) && f e) = m.any fun e => decide (e.1 ≠ k) && f e := by
  unfold SMap.set
  split
  · simp only [SMap.erase, List.any_filter, ← Bool.and_assoc, Bool.and_self]
  · induction m with
    | nil => simp [SMap.insert]
    | cons e t ih =>
      obtain ⟨j, u⟩ := e
      simp only [SMap.insert]
      split_ifs with h1 h2
      · simp
      · simp [h2]
      · simp only [List.any_cons, ih]

/-- A core's own context says nothing about the switches of its partners. -/
theorem partnerSwitching_setCore (s : State) (c : Nat) (k : Core) (i : Nat) :
    partnerSwitching (setCore s c k) c i = partnerSwitching s c i := SMap.any_set_other _ _ _ _ _

/-! ### Words of strands -/

/-- Spills, drains and pops of a quiet core stay in its place. -/
theorem inPlace_pop {s : State} {c : Nat} (q : Quiet s c) (x : Stk) : InPlace (at_ s c) ((at_ s c).setDs x) :=
  (inPlace_at q).keeps (keepsFlow_setDs _ _)

theorem inPlace_waitPush {s : State} {c : Nat} (q : Quiet s c) (m : Option Msg) : InPlace (at_ s c) (waitPush (drain (at_ s c)) m) := by
  obtain ⟨hd, -, -, -⟩ := inPlace_at q
  have hp (k : Core) : (waitPush k m).delay = k.delay ∧ (waitPush k m).late = k.late ∧ (waitPush k m).loops = k.loops ∧
      (waitPush k m).pc = k.pc := by
    unfold waitPush
    cases m <;> simp only <;> split <;> exact ⟨rfl, rfl, rfl, rfl⟩
  obtain ⟨h1, h2, h3, h4⟩ := hp (drain (at_ s c))
  rw [drain_quiet (show (at_ s c).flight = [] from rfl)] at *
  exact ⟨h1.trans hd, h2, h3, h4⟩

section
variable {s : State} {w : LWord} (q : Quiet s w.core) (p : PlainL w) (hf : w.env.seq.fetches = [])
include q p

/-- A pop whose word then acts on the block. -/
theorem runLong_popThen {body : State → Core → Res} {f g : State → State} {n : Nat}
    (hb : body (setCore s w.core (at_ s w.core)) (at_ s w.core) =
      (.ok { aDone w.core (at_ s w.core) { pop := n } with after := f }, setCore s w.core (at_ s w.core)))
    (hg : ∀ y, dbgLevel y = 0 → f y = g y) :
    runLong w body s = wordThen s w.core (onward ((at_ s w.core).setDs ((at_ s w.core).ds.drop n))) 1 0 g :=
  runLong_effect_here q p (inPlace_pop q _) (hb.trans (by rw [aDone, applyA_drop])) hg

variable {o : OnCore} (hs : (at_ s w.core).strand = some o) (hd : Fits (at_ s w.core) 1 1 0)
include hs hd

/-- TRIP.SET of an output that the strand may still set. -/
theorem tripSet_then {n : Nat} (ht : Takes (at_ s w.core) 1 (.plain intIn)) (hn : n ∈ outsOf s o.idx)
    (h4 : ∀ p, ply? s o.idx o.ply = some p → SMap.get p.trips 0 n < 4) :
    runLong w (tripSetRes w.core n w.env) s =
      wordThen s w.core (onward ((at_ s w.core).setDs ((at_ s w.core).ds.drop 1))) 1 0 fun x =>
        tripSet x o.idx o.ply n w.env.sub ((at_ s w.core).ds.peek 0) w.env.agree := by
  have hc := q.1
  have ht : tagCauses (at_ s w.core) [(.plain intIn, (at_ s w.core).ds.peek 0)] = none := ht
  have hg : ¬ (n ∉ outsOf s o.idx ∨ 4 ≤ match ply? s o.idx o.ply with | some p => SMap.get p.trips 0 n | none => 0) := by
    rintro (h | h)
    · exact h hn
    · split at h
      · next p hp => exact absurd (h4 p hp) (by omega)
      · omega
  refine runLong_popThen q p (n := 1) ?_ fun _ _ => rfl
  unfold tripSetRes
  simp only [dsCap_bob _ _ hc, decide_eq_false (show ¬ w.core = spindle from Nat.ne_of_lt hc), failIf_false, firstExc_none, hd.check, ht,
    tagCheck_none, firstExc_nil, hs]
  exact if_neg hg

/-- PUB.WR of a word to a member of a slot that the strand publishes. -/
theorem pubWr_then {slot m : Nat} {x : Pub} (hn : slot ∈ pubsOf s o.idx) (hx : pub? s slot = some x) (hm : m < pubMembers x.entry)
    (hcm : m ≠ commitMarker) (ht : Takes (at_ s w.core) 1 (.plain [.int, .nat, .fix, .flt, .tim, .adr, .ret])) :
    runLong w (pubWrRes w.core slot m w.env) s =
      wordThen s w.core (onward ((at_ s w.core).setDs ((at_ s w.core).ds.drop 1))) 1 0 fun y =>
        pubWrite y o.idx o.ply slot m ((at_ s w.core).ds.peek 0) := by
  have hc := q.1
  have ht : tagCauses (at_ s w.core) [(.plain [.int, .nat, .fix, .flt, .tim, .adr, .ret], (at_ s w.core).ds.peek 0)] = none := ht
  refine runLong_popThen q p (n := 1) (f := fun y => if m = commitMarker then pubCommit y o.idx o.ply slot w.env.sub w.env.agree
    else pubWrite y o.idx o.ply slot m ((at_ s w.core).ds.peek 0)) ?_ fun _ _ => if_neg hcm
  unfold pubWrRes
  have hx' : pub? (setCore s w.core (at_ s w.core)) slot = some x := hx
  have hn' : slot ∈ pubsOf (setCore s w.core (at_ s w.core)) o.idx := hn
  simp only [dsCap_bob _ _ hc, decide_eq_false (show ¬ w.core = spindle from Nat.ne_of_lt hc), failIf_false, firstExc_none, hd.check, ht,
    tagCheck_none, firstExc_nil, hs, if_neg hcm, hx', hn', not_true, false_or, not_le.2 hm, and_false, if_false]

/-- PUB.WR's commit marker takes any word. -/
theorem pubWr_commit {slot : Nat} (hn : slot ∈ pubsOf s o.idx) :
    runLong w (pubWrRes w.core slot commitMarker w.env) s =
      wordThen s w.core (onward ((at_ s w.core).setDs ((at_ s w.core).ds.drop 1))) 1 0 fun y =>
        pubCommit y o.idx o.ply slot w.env.sub w.env.agree := by
  have hc := q.1
  refine runLong_popThen q p (n := 1) (f := fun y => if commitMarker = commitMarker then pubCommit y o.idx o.ply slot w.env.sub w.env.agree
    else pubWrite y o.idx o.ply slot commitMarker ((at_ s w.core).ds.peek 0)) ?_ fun _ _ => if_pos rfl
  unfold pubWrRes
  have hn' : slot ∈ pubsOf (setCore s w.core (at_ s w.core)) o.idx := hn
  simp only [dsCap_bob _ _ hc, decide_eq_false (show ¬ w.core = spindle from Nat.ne_of_lt hc), failIf_false, firstExc_none, hd.check,
    tagCheck_none, firstExc_nil, hs, if_true, hn', not_true, false_or, ne_eq, false_and, if_false]

end

section
variable {s : State} {w : LWord} (q : Quiet s w.core) (p : PlainL w) (hf : w.env.seq.fetches = [])
include q p hf

/-- SEND pops its words, waits for the pools and pushes its status. -/
theorem send_then {n : Nat} (hd : Fits (at_ s w.core) (n + 1) (n + 1) 1)
    (hi : tagCauses (at_ s w.core) [(.plain [.nat], (at_ s w.core).ds.peek 0)] = none)
    (hw : tagCauses (at_ s w.core) ((((at_ s w.core).top (n + 1)).take n).map fun x => (.plain sendable, x)) = none) :
    runLong w (routine w.core w.env true (sendRes w.core n w.env)) s =
      wordThen (sendStall (setCore s w.core (at_ s w.core)) w.core ((at_ s w.core).ds.peek 0).pay w.env).2 w.core
        (onward ((at_ s w.core).setDs ((at_ s w.core).ds.drop (n + 1)))) (2 + n)
        (sendStall (setCore s w.core (at_ s w.core)) w.core ((at_ s w.core).ds.peek 0).pay w.env).1 fun x =>
          pushStatus (sendFrom x (at_ s w.core) ((at_ s w.core).ds.peek 0).pay (((at_ s w.core).top (n + 1)).take n)).2 w.core
            (sendFrom x (at_ s w.core) ((at_ s w.core).ds.peek 0).pay (((at_ s w.core).top (n + 1)).take n)).1
            (mergeOf (((at_ s w.core).top (n + 1)).take n ++ [(at_ s w.core).ds.peek 0])) := by
  have hc := q.1
  have hl : lowest none none = none := rfl
  refine runLong_effect q p (inPlace_pop q _) ?_ (dbgLevel_sendStall (s := setCore s w.core (at_ s w.core)) q.2.2.1 _ _ _)
  unfold routine sendRes
  simp only [sequencer_plain _ _ _ _ _ hf, dsCap_bob _ _ hc, firstExc_none, hd.check, hi, hw, hl,
    tagCheck_none, firstExc_nil, aDone, applyA_drop, if_neg (show ¬ w.core = spindle from Nat.ne_of_lt hc)]

end

/-! ### WAIT and YIELD -/

section
variable {s : State} {w : LWord} (q : Quiet s w.core) (p : PlainL w) (hf : w.env.seq.fetches = [])
include q p hf

omit p hf in
/-- A quiet bobbin may yield: no delay slot is open on it. -/
theorem yield_check : ¬ (w.core = spindle ∨ (at_ s w.core).delay.isSome = true) := by
  rw [(inPlace_at q).1]
  rintro (h | h)
  · exact Nat.ne_of_lt q.1 h
  · cases h

/-- YIELD in a strand's own code leaves the bobbin in STAGED. -/
theorem yield_leaves {o : OnCore} (hu : atUser (at_ s w.core) = true) (hs : (at_ s w.core).strand = some o)
    (hp : partnerSwitching s w.core o.idx = false) :
    runLong w (routine w.core w.env false (yieldRes w.core w.env)) s =
      wordThen s w.core (onward (at_ s w.core)) 1 0 fun y =>
        leaveWith y w.core o ⟨true, false, .staged, none, w.env.agree⟩ w.env := by
  refine runLong_effect_here (f := ?f) q p (inPlace_at q) ?hb ?hg
  case hb =>
    unfold routine yieldRes awaitPartner
    simp only [sequencer_plain _ _ _ _ _ hf, if_neg (yield_check q), hu, hs, if_true, partnerSwitching_setCore, hp, Bool.false_eq_true, if_false]
    rfl
  case hg => exact fun y hy => congrArg (leaveWith · _ _ _ _) (traceRec_quiet hy _ _ _ _)

/-- YIELD in code that runs for no strand leaves the bobbin idle. -/
theorem yield_idles (hu : atUser (at_ s w.core) = false) :
    runLong w (routine w.core w.env false (yieldRes w.core w.env)) s =
      wordThen s w.core (onward (at_ s w.core)) 1 0 fun y => yieldRuntime y w.core (at_ s w.core).pc := by
  refine runLong_effect_here (f := ?f) q p (inPlace_at q) ?hb ?hg
  case hb =>
    unfold routine yieldRes
    simp only [sequencer_plain _ _ _ _ _ hf, if_neg (yield_check q), hu, Bool.false_eq_true, if_false]
    rfl
  case hg => exact fun y hy => congrArg (yieldRuntime · _ _) (traceRec_quiet hy _ _ _ _)

variable (hd : (at_ s w.core).ds.depth ≤ 6)
include hd

omit p hf in
/-- WAIT's checks pass on a quiet bobbin whose stack has room for a message. -/
theorem wait_checks : firstExc [failIf (decide (w.core = spindle) || (at_ s w.core).delay.isSome) Exc.il,
    failIf (decide (6 < (at_ s w.core).ds.depth)) (Exc.so 0)] = none := by
  rw [(inPlace_at q).1, decide_eq_false (show ¬ w.core = spindle from Nat.ne_of_lt q.1), decide_eq_false (Nat.not_lt.2 hd)]
  rfl

/-- WAIT in code that runs for no strand leaves the bobbin idle. -/
theorem wait_idles (n : Nat) (hu : atUser (at_ s w.core) = false) :
    runLong w (fun u k => routine w.core w.env (delivers u k) (waitRes w.core n w.env) u k) s =
      wordThen s w.core (onward (at_ s w.core)) 1 0 fun y => yieldRuntime y w.core (at_ s w.core).pc := by
  refine runLong_effect_here (f := ?f) q p (inPlace_at q) ?hb ?hg
  case hb =>
    unfold routine waitRes
    simp only [sequencer_plain _ _ _ _ _ hf, wait_checks q hd, hu, Bool.false_eq_true, if_false]
    rfl
  case hg => exact fun y hy => congrArg (yieldRuntime · _ _) (traceRec_quiet hy _ _ _ _)

variable {o : OnCore} {x : Strand} {y : Ply} (hu : atUser (at_ s w.core) = true) (hs : (at_ s w.core).strand = some o)
  (hx : strand s o.idx = some x) (hy : ply? s o.idx o.ply = some y)
include hu hs hx hy

/-- WAIT delivers the first queued message at once. -/
theorem wait_delivers (n : Nat) {b : Nat} {t : List Nat} {m : Msg} {v : State} (hq : y.queue = b :: t)
    (ht : takeMsg (poolStall (setCore s w.core (at_ s w.core)) w.core (pilOf w.core) w.env).2 w.core (at_ s w.core) b w.env = (.ok m, v)) :
    runLong w (fun u k => routine w.core w.env (delivers u k) (waitRes w.core n w.env) u k) s =
      wordThen v w.core (onward (waitPush (drain (at_ s w.core)) (some m))) (4 + m.words.length)
        (poolStall (setCore s w.core (at_ s w.core)) w.core (pilOf w.core) w.env).1
        fun z => drainDone (modPly z o.idx o.ply fun p => { p with queue := t }) w.core := by
  have hx' : strand (setCore s w.core (at_ s w.core)) o.idx = some x := hx
  have hy' : ply? (setCore s w.core (at_ s w.core)) o.idx o.ply = some y := hy
  refine runLong_effect q p (inPlace_waitPush q _) ?_
    ((dbgLevel_takeMsg ht).trans (dbgLevel_poolStall (s := setCore s w.core (at_ s w.core)) q.2.2.1 _ _ _))
  unfold routine waitRes
  simp only [sequencer_plain _ _ _ _ _ hf, wait_checks q hd, hu, hs, if_true, hx', hy', hq, ht]

/-- WAIT of a strand of class P goes on with a timeout where no message is queued. -/
theorem wait_timesOut (n : Nat) (hq : y.queue = []) (hc : dCls x.decl = 0) :
    runLong w (fun u k => routine w.core w.env (delivers u k) (waitRes w.core n w.env) u k) s =
      wordThen s w.core (onward (waitPush (drain (at_ s w.core)) none)) 4 0 fun z => drainDone z w.core := by
  have hx' : strand (setCore s w.core (at_ s w.core)) o.idx = some x := hx
  have hy' : ply? (setCore s w.core (at_ s w.core)) o.idx o.ply = some y := hy
  refine runLong_effect_here q p (inPlace_waitPush q _) ?_ fun _ _ => rfl
  unfold routine waitRes
  simp only [sequencer_plain _ _ _ _ _ hf, wait_checks q hd, hu, hs, if_true, hx', hy', hq, hc]

/-- WAIT of a strand of another class leaves the bobbin in WAITING where no message is queued. -/
theorem wait_leaves (n : Nat) (hq : y.queue = []) (hc : dCls x.decl ≠ 0) (hp : partnerSwitching s w.core o.idx = false) :
    runLong w (fun u k => routine w.core w.env (delivers u k) (waitRes w.core n w.env) u k) s =
      wordThen s w.core (onward (at_ s w.core)) 1 0 fun z =>
        leaveWith z w.core o ⟨false, false, .waiting, some (waitSpan z x.decl n), w.env.agree⟩ w.env := by
  have hx' : strand (setCore s w.core (at_ s w.core)) o.idx = some x := hx
  have hy' : ply? (setCore s w.core (at_ s w.core)) o.idx o.ply = some y := hy
  refine runLong_effect_here (f := ?f) q p (inPlace_at q) ?hb ?hg
  case hb =>
    unfold routine waitRes awaitPartner
    simp only [sequencer_plain _ _ _ _ _ hf, wait_checks q hd, hu, hs, if_true, hx', hy', hq, if_neg hc, partnerSwitching_setCore, hp,
      Bool.false_eq_true, if_false]
    rfl
  case hg =>
    exact fun z hz => congrArg (leaveWith · _ _ ⟨false, false, .waiting, some (waitSpan z x.decl n), w.env.agree⟩ _) (traceRec_quiet hz _ _ _ _)

end

end Sys2Proof.Machine

namespace Sys2Proof
open Machine

/-- Settles O56, word by word: each leaves its own core first and then acts on the block (`runLong_effect`). SEND's status takes the
merged quality of every word that it consumes, and a commit marker discards its word unchecked: the model's choices of the assumption
log's entries 127 and 131. -/
theorem strandWordsComplete : Obligations.StrandWordsComplete := by
  unfold Obligations.StrandWordsComplete
  intro s w q p hf c e k d here
  refine ⟨fun o hs => ⟨fun n hd ht hn h4 => ?_, fun slot m hd hn => ⟨fun x hx hm hcm ht => ?_, fun hcm => ?_⟩⟩, ?_, ?_, ?_, ?_⟩
  · exact congrArg Host.Outcome.next (tripSet_then q p hs hd ht hn h4)
  · exact congrArg Host.Outcome.next (pubWr_then q p hs hd hn hx hm hcm ht)
  · have h := pubWr_commit q p hs hd hn
    rw [← hcm] at h
    exact congrArg Host.Outcome.next h
  · intro n m words u hd hi hw
    exact congrArg Host.Outcome.next (send_then q p hf hd hi hw)
  · intro n o x y hd hu hs hx hy
    refine ⟨fun b t m v hq ht => ?_, fun hq hc => ?_, fun hq hc hp => ?_⟩
    · exact congrArg Host.Outcome.next (wait_delivers q p hf hd hu hs hx hy n.toNat hq ht)
    · exact congrArg Host.Outcome.next (wait_timesOut q p hf hd hu hs hx hy n.toNat hq hc)
    · exact congrArg Host.Outcome.next (wait_leaves q p hf hd hu hs hx hy n.toNat hq hc hp)
  · exact fun o hu hs hp => congrArg Host.Outcome.next (yield_leaves q p hf hu hs hp)
  · exact fun n hu => ⟨congrArg Host.Outcome.next (yield_idles q p hf hu), fun hd =>
      congrArg Host.Outcome.next (wait_idles q p hf hd n.toNat hu)⟩

end Sys2Proof
end


section
/-!
SUPPORT. Block operations (R133 to R136): the words that stay on a quiet bobbin, one element, and the statement about them.
-/

namespace Sys2Proof.Machine

/-! ### A word that may stay, with bank accesses -/

section
variable {s : State} {c : Nat}

theorem spend_charges (hc : c ≠ 256) (hd : dbgLevel s = 0) (n : Nat) :
    Apart s (spend s c n) c ∧ core (spend s c n) c = charge (core s c) n := by
  have ha := onPage_add64 s (pgBOB c) 0x090 0x094 0 n (by omega) (by omega)
  rw [spend_quiet s c n hc hd, charge]
  split
  · exact ⟨ha.apart.trans (apart_setCore _ c _), by rw [modCore, core_setCore_same, onPage_core ha]⟩
  · exact ⟨ha.apart, onPage_core ha c⟩

/-- The waits of bank accesses within their bounds. -/
theorem stalls_onPage {e : Env} (hc : c ≠ 256) (hb : e.bankWait ≤ 17) (hr : e.remoteWait ≤ 200) (acc : List (Bool × Nat))
    (hp : ∀ x ∈ acc, ∃ b, placeOf c x.2 = some (.bank b)) (hd : dbgLevel s = 0) : OnPage s (stalls s c e acc).2 (pgBOB c) := by
  refine List.foldlRecOn acc _ (motive := fun a : Nat × State => OnPage s a.2 (pgBOB c)) (OnPage.refl _ _) fun a ha x hx => ?_
  obtain ⟨b, hx⟩ := hp x hx
  obtain ⟨t, ht, hto⟩ := bankStall_quiet a.2 c b e ((onPage_dbgLevel ha).trans hd) hb hr
  have hs : accessStall a.2 c e x.2 = (waitOf c e b, t) := by rw [accessStall, if_neg (show ¬ c = spindle from hc), hx, ← ht]
  rw [hs]
  exact ha.trans hto

theorem dataBreaks_quiet (l : List (Bool × Nat)) (hd : dbgLevel s = 0) : dataBreaks s c l = s := by
  unfold dataBreaks
  induction l with
  | nil => rfl
  | cons a t ih => rw [List.foldl_cons, bpTake_quiet s c _ _ (by omega)]; exact ih

theorem countWord_onPage {d : Done} {link : Nat} {e : Env} (hc : c ≠ 256) (hd : dbgLevel s = 0) :
    OnPage s (countWord s c d link e) (pgBOB c) := by
  unfold countWord
  simp only [pmcCount_quiet s c _ _ hd, ite_self, if_neg (show ¬ c = spindle from hc)]
  exact onPage_ite _ (onPage_addWrap _ _ _ _ _ (by omega)) (OnPage.refl _ _)

theorem charge_ds (k : Core) (n : Nat) : (charge k n).ds = k.ds ∧ (charge k n).pc = k.pc ∧ (charge k n).haltReq = k.haltReq := by
  unfold charge
  split <;> exact ⟨rfl, rfl, rfl⟩

/-- A word of a bobbin that stays or goes on in sequence, with bank accesses and nothing after them, changes no more than its own core and
its page. -/
theorem commit_apart {e : Env} {k k' : Core} {d : Done} (hc : c ≠ 256) (hd : dbgLevel s = 0) (hf : flowOn c d.k d.flow = (k', none))
    (hs : d.flow = .seq 0 ∨ d.flow = .stay) (hh : k'.haltReq = .none) (h3 : d.store = none) (h4 : d.host = [])
    (h7 : d.after = fun s => s) (hb : e.bankWait ≤ 17) (hr : e.remoteWait ≤ 200)
    (hp : ∀ x ∈ d.acc, ∃ b, placeOf c x.2 = some (.bank b)) :
    Apart s (commit s c e k d 0) c ∧ (core (commit s c e k d 0) c).ds = k'.ds ∧ (core (commit s c e k d 0) c).pc = k'.pc := by
  obtain ⟨k2, hk2, hds, hpc, hhr⟩ : ∃ k2 : Core, k2 = { k' with
      lastPc := if decide (d.flow = .stay) then k.lastPc else k.pc, atHandler := false, bpPass := decide (d.flow = .stay) } ∧
      k2.ds = k'.ds ∧ k2.pc = k'.pc ∧ k2.haltReq = .none := ⟨_, rfl, rfl, rfl, hh⟩
  have h1 := stalls_onPage (s := setCore s c k2) hc hb hr d.acc hp hd
  have hd1 := (onPage_dbgLevel h1).trans hd
  have h2 := h1.trans (countWord_onPage (d := d) (link := pcWrap c ((stepSeq c k).pc + pcStep c)) (e := e) hc hd1)
  have hd2 := (onPage_dbgLevel h2).trans hd
  obtain ⟨h5, h6⟩ := spend_charges hc hd2 (d.cycles + d.wait + (stalls (setCore s c k2) c e d.acc).1)
  have hd5 := h5.dbgLevel.trans hd2
  have hcore := h6.trans (congrArg (charge · _) ((onPage_core h2 c).trans (core_setCore_same _ _ _)))
  obtain ⟨cd, cp, ch⟩ := charge_ds k2 (d.cycles + d.wait + (stalls (setCore s c k2) c e d.acc).1)
  have hdone := (congrArg Core.haltReq hcore).trans (ch.trans hhr)
  have he : commit s c e k d 0 =
      spend (countWord (stalls (setCore s c k2) c e d.acc).2 c d (pcWrap c ((stepSeq c k).pc + pcStep c)) e) c
        (d.cycles + d.wait + (stalls (setCore s c k2) c e d.acc).1) := by
    unfold commit
    simp only [hf, h3, h4, h7, ← hk2, commitStore, List.append_nil, Nat.add_zero]
    rcases hs with hs | hs <;> simp only [hs, dataBreaks_quiet _ hd5, stepDone_quiet _ _ hdone, ite_self]
  rw [he, hcore, cd, cp]
  exact ⟨((apart_setCore s c k2).trans h2.apart).trans h5, hds, hpc⟩

end

/-! ### One element (R135, R136) -/

theorem setDs_ds (k : Core) (x : Stk) : (k.setDs x).ds = x := by
  cases h : k.pset <;> simp [Core.setDs, Core.ds, h]

/-- The word that a block operation leaves of its last operands: the CRC. -/
def blkOut (op : BlkOp) (k : Core) (ws ws' : List TWord) : List TWord :=
  match op, ws' with
  | .crc, w :: _ => [crcOut k ws w]
  | _, _ => []

/-- A block operation whose operands have their types and ranges. -/
def BlkReady (op : BlkOp) (k : Core) : Prop :=
  op.args ≤ k.ds.depth ∧ tagCauses k (op.uses.zip (k.top op.args)) = none ∧ blkRange op k (k.top op.args) = false

/-- The count of a block operation is the top. -/
theorem blk_count (op : BlkOp) (k : Core) : (k.top op.args).getLastD voidWord = k.ds.peek 0 := by cases op <;> rfl

section
variable {s u : State} {c : Nat} {k : Core} {e : Env} {op : BlkOp} (hc : c < 256) (hr : BlkReady op k)
include hc hr

/-- The checks of a block operation on a bobbin whose operands it may take. -/
theorem blk_checks : firstExc [depthCheck 0 k.ds.depth (dsCap s c) op.args op.args 0,
    tagCheck (tagCauses k (op.uses.zip (k.top op.args)))] = none := by
  obtain ⟨hd, ht, -⟩ := hr
  rw [dsCap_bob _ _ hc, depthCheck_none hd (by omega), ht]
  rfl

/-- Without elements a block operation pops its operands. -/
theorem blkRes_none (hn : (k.ds.peek 0).pay = 0) :
    blkRes op c e s k =
      (.ok { k := k.setDs ((k.ds.drop op.args).pushAll (blkOut op k (k.top op.args) (k.top op.args))), cycles := 4 }, s) := by
  have hz : (k.ds.peek 0).pay.toNat = 0 := by rw [hn]; rfl
  have hs : ¬ c = spindle := Nat.ne_of_lt hc
  obtain ⟨-, -, hg⟩ := id hr
  unfold blkRes
  cases e.elems <;>
  · simp only [blk_checks hc hr, hg, blk_count, hz, Nat.min_zero, blkRun, if_neg hs, Nat.lt_irrefl, if_false, Bool.false_eq_true,
      depthSpill_bob _ _ _ _ _ hs, Nat.mul_zero, Nat.add_zero, Nat.one_mul, List.reverse_nil]
    rfl

/-- A run that ends at its first element leaves its operands showing the next one, or is over where it was the last. -/
theorem blkRes_one (hn : (k.ds.peek 0).pay ≠ 0) (he : e.elems = some 1) {ws : List TWord} {acc : List (Bool × Nat)}
    (h : blkElem op s c k e (k.top op.args) = (.ok (ws, acc), u)) :
    blkRes op c e s k = (.ok (if 1 < (k.ds.peek 0).pay.toNat
      then { k := k.setDs ((k.ds.drop op.args).pushAll ws), flow := .stay, cycles := op.per, acc := acc }
      else { k := k.setDs ((k.ds.drop op.args).pushAll (blkOut op k (k.top op.args) ws)), cycles := 4 + op.per, acc := acc }), u) := by
  have hz : (k.ds.peek 0).pay.toNat ≠ 0 := fun g => hn (BitVec.eq_of_toNat_eq g)
  have hm : min 1 (k.ds.peek 0).pay.toNat = 1 := by omega
  have hs : ¬ c = spindle := Nat.ne_of_lt hc
  obtain ⟨-, -, hg⟩ := id hr
  unfold blkRes
  simp only [blk_checks hc hr, hg, blk_count, he, hm, blkRun, h, if_neg hs, if_false, Bool.false_eq_true,
    depthSpill_bob _ _ _ _ _ hs, Nat.mul_one, Nat.one_mul, List.append_nil, List.reverse_reverse, Nat.zero_add]
  split <;> rfl

end

section
variable {s u : State} {w : LWord} {op : BlkOp} (q : Quiet s w.core) (p : PlainL w) (hf : w.env.seq.fetches = [])
  (hr : BlkReady op (at_ s w.core))
include q p hf hr

/-- A block operation without elements. -/
theorem runBlk_none (hn : ((at_ s w.core).ds.peek 0).pay = 0) :
    runBlk op w s = wordEnd s w.core (onward ((at_ s w.core).setDs
      (((at_ s w.core).ds.drop op.args).pushAll (blkOut op (at_ s w.core) ((at_ s w.core).top op.args) ((at_ s w.core).top op.args))))) 4 := by
  obtain ⟨hc, -, -, hh, hd, ⟨hi, -⟩, ⟨-, hl⟩, -⟩ := id q
  obtain ⟨kh, kd, kl, kp, kt, -⟩ := keepsFlow_setDs (at_ s w.core)
    (((at_ s w.core).ds.drop op.args).pushAll (blkOut op (at_ s w.core) ((at_ s w.core).top op.args) ((at_ s w.core).top op.args)))
  refine runLong_done s w _ q p { k := (at_ s w.core).setDs _, cycles := 4 } ?_ (kh.trans hh) ⟨kd.trans hd, kt.trans hl⟩
    (by rw [kl, kp]; exact hi) kp rfl rfl rfl rfl rfl rfl rfl
  rw [routine, sequencer_plain _ _ _ _ _ hf]
  exact blkRes_none hc hr hn

/-- A block operation whose run ends at its first element. -/
theorem runBlk_one (hn : ((at_ s w.core).ds.peek 0).pay ≠ 0) (he : w.env.elems = some 1) {ws : List TWord} {acc : List (Bool × Nat)}
    (h : blkElem op (setCore s w.core (at_ s w.core)) w.core (at_ s w.core) w.env ((at_ s w.core).top op.args) = (.ok (ws, acc), u))
    (hb : w.env.bankWait ≤ 17) (hw : w.env.remoteWait ≤ 200) (hp : ∀ x ∈ acc, ∃ b, placeOf w.core x.2 = some (.bank b))
    (hd : dbgLevel u = 0) :
    Apart u (runBlk op w s) w.core ∧
      (((at_ s w.core).ds.peek 0).pay = 1 →
        (core (runBlk op w s) w.core).ds =
          ((at_ s w.core).ds.drop op.args).pushAll (blkOut op (at_ s w.core) ((at_ s w.core).top op.args) ws) ∧
        (core (runBlk op w s) w.core).pc = (at_ s w.core).pc + 1) ∧
      (((at_ s w.core).ds.peek 0).pay ≠ 1 →
        (core (runBlk op w s) w.core).ds = ((at_ s w.core).ds.drop op.args).pushAll ws ∧
        (core (runBlk op w s) w.core).pc = (at_ s w.core).pc) := by
  obtain ⟨hc, -, -, hh, hdl, ⟨hi, -⟩, ⟨-, hl⟩, -, -, -, -, hpc⟩ := id q
  have hs : w.core ≠ 256 := Nat.ne_of_lt hc
  have hz : ((at_ s w.core).ds.peek 0).pay.toNat ≠ 0 := fun g => hn (BitVec.eq_of_toNat_eq g)
  have hres := blkRes_one hc hr hn he h
  have run (d : Done) (hd : blkRes op w.core w.env (setCore s w.core (at_ s w.core)) (at_ s w.core) = (.ok d, u)) (hfl : d.flow ≠ .locks) :
      runBlk op w s = commit u w.core w.env (at_ s w.core) d 0 := by
    unfold runBlk runLong
    rw [runWord_quiet s w.core w.env _ q p.2]
    simp only [p.1, conditioned, condCheck, condHolds, if_true, routine, sequencer_plain _ _ _ _ _ hf, hd]
    exact settle_bob _ _ _ _ _ _ _ hs hfl
  by_cases h1 : 1 < ((at_ s w.core).ds.peek 0).pay.toNat
  · rw [if_pos h1] at hres
    obtain ⟨kh, kd, kl, kp, kt, -⟩ := keepsFlow_setDs (at_ s w.core) (((at_ s w.core).ds.drop op.args).pushAll ws)
    have hcm := commit_apart (k := at_ s w.core) hs hd (d := { k := (at_ s w.core).setDs _, flow := .stay, cycles := op.per, acc := acc })
      rfl (.inr rfl) (kh.trans hh) rfl rfl rfl hb hw hp
    rw [← run _ hres nofun] at hcm
    obtain ⟨ha, hds, hp⟩ := hcm
    exact ⟨ha, fun g => absurd h1 (by rw [g]; decide), fun _ => ⟨hds.trans (setDs_ds _ _), hp.trans kp⟩⟩
  · rw [if_neg h1] at hres
    obtain ⟨kh, kd, kl, kp, kt, -⟩ := keepsFlow_setDs (at_ s w.core)
      (((at_ s w.core).ds.drop op.args).pushAll (blkOut op (at_ s w.core) ((at_ s w.core).top op.args) ws))
    have hcm := commit_apart (k := at_ s w.core) (e := w.env) hs hd
      (d := { k := (at_ s w.core).setDs _, cycles := 4 + op.per, acc := acc })
      (flowOn_seq _ _ hc ⟨kd.trans hdl, kt.trans hl⟩ (by rw [kl, kp]; exact hi) (by rw [kp]; exact hpc))
      (.inl rfl) (kh.trans hh) rfl rfl rfl hb hw hp
    rw [← run _ hres nofun] at hcm
    obtain ⟨ha, hds, hp⟩ := hcm
    exact ⟨ha, fun _ => ⟨hds.trans (setDs_ds _ _), hp.trans (congrArg (· + 1) kp)⟩,
      fun g => absurd (BitVec.eq_of_toNat_eq (show ((at_ s w.core).ds.peek 0).pay.toNat = (1 : W32).toNat by
        rw [show (1 : W32).toNat = 1 from rfl]; omega)) g⟩

end

/-! ### Copies and stores of one element -/

section
variable {s : State} {c : Nat} {k : Core} {e : Env} {a b src dst : Nat}

/-- A store to plain bank memory within its bounds. -/
theorem blk_store (j : Core) (hb : Serves s c e k .write dst b) (he : eicWord b = none) (hm : ∀ m ∈ s.prck.migs, m.copying = false)
    (x : TWord) : accessCheck (setCore s c j) c k e .write dst = (.ok (.bank b), setCore s c j) ∧
      writePlace (setCore s c j) c k (.bank b) x = bankSet (setCore s c j) b x :=
  ⟨accessCheck_serves j hb, writePlace_bank _ c k b x he hm⟩

/-- A word that is read without an error and carries no RSV is copied. -/
theorem blkCopy_serves (j : Core) (ha : Serves s c e k .read src a) (hg : a ∉ s.mem.bankBad) (hr : (bankGet s a).rsv = false)
    (hb : Serves s c e k .write dst b) (he : eicWord b = none) (hm : ∀ m ∈ s.prck.migs, m.copying = false) :
    blkCopy (setCore s c j) c k e src dst = (none, bankSet (setCore s c j) b (bankGet s a)) := by
  obtain ⟨h1, h2⟩ := blk_store j hb he hm (bankGet s a)
  have ⟨_, _, _, hecc, _⟩ := ha
  simp only [blkCopy, accessCheck_serves j ha, hecc, readPlace_clean j hg, hr, h1, h2, Bool.false_eq_true, if_false]

section
variable {u : State} {src dst kj n : TWord}

theorem blkElem_move (h : blkCopy s c k e src.pay.toNat dst.pay.toNat = (none, u)) :
    blkElem .move s c k e [src, dst, n] =
      (.ok ([wordUp src, wordUp dst, wordDown n], [(false, src.pay.toNat), (true, dst.pay.toNat)]), u) := by
  simp only [blkElem, h]

theorem blkElem_brev {d : Nat} (hd : dst.pay.toNat + revBits (bits kj.pay 0 5) (bits kj.pay 5 16) = d)
    (h : blkCopy s c k e src.pay.toNat d = (none, u)) :
    blkElem .brev s c k e [src, dst, kj, n] =
      (.ok ([wordUp src, dst, { kj with pay := kj.pay + 32 }, wordDown n], [(false, src.pay.toNat), (true, d)]), u) := by
  simp only [blkElem, hd, h]

theorem blkElem_fill (j : Core) (hb : Serves s c e k .write dst.pay.toNat b) (he : eicWord b = none)
    (hm : ∀ m ∈ s.prck.migs, m.copying = false) :
    blkElem .fill (setCore s c j) c k e [dst, n] =
      (.ok ([wordUp dst, wordDown n], [(true, dst.pay.toNat)]), bankSet (setCore s c j) b k.fillw) := by
  obtain ⟨h1, h2⟩ := blk_store j hb he hm k.fillw
  simp only [blkElem, h1, h2]

theorem blkElem_crc (j : Core) {crc : TWord} {p : Nat × Nat × Bool × Nat} (hp : crcParams k.crcCfg k.crcPoly = some p)
    (ha : Serves s c e k .read src.pay.toNat a) (hg : a ∉ s.mem.bankBad) (ht : tagCauses k [(.arith intIn, bankGet s a)] = none) :
    blkElem .crc (setCore s c j) c k e [crc, src, n] =
      (.ok ([TWord.mk' .nat (crc.q.merge (bankGet s a).q) (crcStepW p crc.pay (bankGet s a).pay), wordUp src, wordDown n],
        [(false, src.pay.toNat)]), setCore s c j) := by
  have ⟨_, _, _, hecc, _⟩ := ha
  simp only [blkElem, accessCheck_serves j ha, hecc, readPlace_clean j hg, ht, hp]

end

end

/-- The places of an access that its surroundings answer. -/
theorem Serves.place {s : State} {c : Nat} {e : Env} {k : Core} {x : AccKind} {a b : Nat} (h : Serves s c e k x a b) :
    ∃ b, placeOf c a = some (.bank b) := ⟨b, h.2.1⟩

/-- A block operation of core c has ended at its first element: operands that show the next one where there is one, its last word
popped with them else; beside the core and its page no core and no register has changed. -/
def BlkMoved (s t : State) (c : Nat) (k : Core) (op : BlkOp) (ws : List TWord) : Prop :=
  Beside s t c ∧
    ((k.ds.peek 0).pay = 1 →
      (core t c).ds = (k.ds.drop op.args).pushAll (blkOut op k (k.top op.args) ws) ∧ (core t c).pc = k.pc + 1) ∧
    ((k.ds.peek 0).pay ≠ 1 → (core t c).ds = (k.ds.drop op.args).pushAll ws ∧ (core t c).pc = k.pc)

section
variable {s u : State} {w : LWord} {op : BlkOp} (q : Quiet s w.core) (p : PlainL w) (hf : w.env.seq.fetches = [])
  (hr : BlkReady op (at_ s w.core)) (hn : ((at_ s w.core).ds.peek 0).pay ≠ 0) (he : w.env.elems = some 1)
  {ws : List TWord} {acc : List (Bool × Nat)} {a b : Nat} {x : TWord} {kind : AccKind} (hs : Serves s w.core w.env (at_ s w.core) kind a b)
  (hp : ∀ x ∈ acc, ∃ b, placeOf w.core x.2 = some (.bank b))
include q p hf hr hn he hs hp

/-- A block operation whose one element has stored one bank word. -/
theorem runBlk_stores {i : Nat}
    (h : blkElem op (setCore s w.core (at_ s w.core)) w.core (at_ s w.core) w.env ((at_ s w.core).top op.args) =
      (.ok (ws, acc), bankSet (setCore s w.core (at_ s w.core)) i x)) :
    (∀ j, bankGet (runBlk op w s) j = if j = i then x else bankGet s j) ∧ BlkMoved s (runBlk op w s) w.core (at_ s w.core) op ws := by
  obtain ⟨-, -, -, -, hb, hw⟩ := hs
  obtain ⟨ha, h1, h2⟩ := runBlk_one q p hf hr hn he h hb hw hp q.2.2.1
  obtain ⟨⟨hc, hg⟩, hm, -⟩ := ha
  refine ⟨fun j => ?_, ⟨fun e hne => (hc e hne).trans ?_, hg⟩, h1, h2⟩
  · rw [bankGet, hm]
    exact bankGet_bankSet _ _ _ _
  · exact (core_setCore _ _ _ _).trans (if_neg hne)

/-- A block operation whose one element has read one bank word. -/
theorem runBlk_reads
    (h : blkElem op (setCore s w.core (at_ s w.core)) w.core (at_ s w.core) w.env ((at_ s w.core).top op.args) =
      (.ok (ws, acc), setCore s w.core (at_ s w.core))) :
    (runBlk op w s).mem = s.mem ∧ BlkMoved s (runBlk op w s) w.core (at_ s w.core) op ws := by
  obtain ⟨-, -, -, -, hb, hw⟩ := hs
  obtain ⟨ha, h1, h2⟩ := runBlk_one q p hf hr hn he h hb hw hp q.2.2.1
  obtain ⟨hb, hm, -⟩ := (apart_setCore s w.core (at_ s w.core)).trans ha
  exact ⟨hm, hb, h1, h2⟩

end

end Sys2Proof.Machine

namespace Sys2Proof
open Machine

/-- Settles O57. CRC.BLK's result is NAT with the bits above the register's width 0, also where n is 0, and a moved element is checked
for RSV only: the model's choices of the assumption log's entry 107. -/
theorem blockOperationsGoElementByElement : Obligations.BlockOperationsGoElementByElement := by
  unfold Obligations.BlockOperationsGoElementByElement
  intro s w q p hf c k d n ready
  refine ⟨fun hn => ⟨?_, ?_, ?_, ?_⟩, fun hn he => ?_⟩
  · exact fun hr => congrArg Host.Outcome.next (runBlk_none (op := .move) q p hf hr hn)
  · exact fun hr => congrArg Host.Outcome.next (runBlk_none (op := .fill) q p hf hr hn)
  · exact fun hr => congrArg Host.Outcome.next (runBlk_none (op := .brev) q p hf hr hn)
  · exact fun hr => congrArg Host.Outcome.next (runBlk_none (op := .crc) q p hf hr hn)
  · refine ⟨fun a b hr ha hg hrsv hb ho => ⟨_, rfl, ?_⟩, fun b hr hb ho => ⟨_, rfl, ?_⟩, fun a b hr ha hg hrsv hb ho => ⟨_, rfl, ?_⟩,
      fun a poly hr hpoly ha hg ht => ⟨_, rfl, ?_⟩⟩
    · have h := blkElem_move (n := d.peek 0) (blkCopy_serves k ha hg hrsv hb ho.1 ho.2)
      exact runBlk_stores (op := .move) q p hf hr hn he ha (List.forall_mem_cons.2 ⟨ha.place, List.forall_mem_singleton.2 hb.place⟩) h
    · have h := blkElem_fill (n := d.peek 0) k hb ho.1 ho.2
      exact runBlk_stores (op := .fill) q p hf hr hn he hb (List.forall_mem_singleton.2 hb.place) h
    · have h := blkElem_brev (n := d.peek 0) rfl (blkCopy_serves k ha hg hrsv hb ho.1 ho.2)
      exact runBlk_stores (op := .brev) q p hf hr hn he ha (List.forall_mem_cons.2 ⟨ha.place, List.forall_mem_singleton.2 hb.place⟩) h
    · have h := blkElem_crc (n := d.peek 0) (crc := d.peek 2) k hpoly ha hg ht
      exact runBlk_reads (op := .crc) q p hf hr hn he ha (List.forall_mem_singleton.2 ha.place) h

end Sys2Proof
end


section
/-!
SUPPORT. The words that only the spindle has (R145 to R148, R168 to R170, R192, R212 to R228, R433, R522), and the statement about them.
-/

namespace Sys2Proof.Machine

/-! ### Checks -/

theorem firstExc_append_none {a b : List Check} (ha : firstExc a = none) (hb : firstExc b = none) : firstExc (a ++ b) = none := by
  induction a with
  | nil => exact hb
  | cons c t ih => cases c with
    | none => exact ih ha
    | some e => cases ha

theorem firstExc_map_none {α : Type} {f : α → Check} {l : List α} (h : ∀ a ∈ l, f a = none) : firstExc (l.map f) = none := by
  induction l with
  | nil => rfl
  | cons a t ih =>
    obtain ⟨ha, ht⟩ := List.forall_mem_cons.1 h
    rw [List.map_cons, ha]
    exact ih ht

section
variable {s : State} {write : Bool} {a n : Nat}

/-- An access begins at its address. -/
theorem hostParts_head (a n : Nat) : ∃ m, (a, m) ∈ hostParts a n := by
  unfold hostParts
  dsimp only
  split <;> exact ⟨_, List.mem_cons_self⟩

theorem Reaches.outside (h : Reaches s write a n) : inSpnWindow s a = false := by
  obtain ⟨-, -, -, -, hp⟩ := h
  obtain ⟨m, hm⟩ := hostParts_head a n
  exact (hp _ hm).1

/-- An access that its operands reach passes the checks of its address. -/
theorem Reaches.checks (h : Reaches s write a n) : firstExc (hostChecks (spnHere s) (core s spindle) write a n) = none := by
  obtain ⟨-, -, -, -, hp⟩ := h
  have hal : (decide (a % n ≠ 0) &&
      (hostParts a n).any fun p => !inSpnWindow (spnHere s) p.1 && decide (2 ≤ regionType (spnHere s) p.1)) = false := by
    by_cases ha : a % n = 0
    · simp [ha]
    · rw [Bool.and_eq_false_iff, List.any_eq_false]
      refine .inr fun p hm => ?_
      obtain ⟨-, -, hr⟩ := hp p hm
      have hr : regionType (spnHere s) p.1 < 2 := hr.resolve_left ha
      simp [hr]
  rw [hostChecks, hal]
  refine firstExc_append_none (a := [failIf false _]) rfl ?_
  rw [firstExc_map_none]
  · rfl
  · intro p hm
    obtain ⟨hw, hg, -⟩ := hp p hm
    rw [show inSpnWindow (spnHere s) p.1 = false from hw, show hostAllowed (spnHere s) (core s spindle) write p.1 = true from hg]
    rfl

/-- The operands of a spindle word with an address, which the stack holds and the word may take. -/
theorem argChecks_none {need pop push : Nat} {uses : List (Use × TWord)} (hf : FitsSpn s need pop push)
    (h1 : hostCause (core s spindle) ((core s spindle).ds.peek 1) = none) (h0 : hostCause (core s spindle) ((core s spindle).ds.peek 0) = none)
    (ht : tagCauses (core s spindle) uses = none) :
    firstExc (argChecks (spnHere s) spindle (core s spindle) false need pop push uses) = none := by
  obtain ⟨hn, hp⟩ := hf
  rw [argChecks, show dsCap (spnHere s) spindle = dsCap s spindle from rfl, depthCheck_none hn hp, h1, h0, ht]
  rfl

/-- All checks of a host access that its operands reach. -/
theorem Reaches.passes {need pop push : Nat} {uses : List (Use × TWord)} {more : List Check} (h : Reaches s write a n)
    (hf : FitsSpn s need pop push) (ht : tagCauses (core s spindle) uses = none) (hm : firstExc more = none) :
    firstExc (argChecks (spnHere s) spindle (core s spindle) false need pop push uses ++ more ++
      hostChecks (spnHere s) (core s spindle) write a n ++ [hostHigh ((core s spindle).ds.peek 1) ((core s spindle).ds.peek 0)]) = none := by
  have hc := h.checks
  obtain ⟨-, h1, h0, hh, -⟩ := h
  rw [hh]
  exact firstExc_append_none (firstExc_append_none (firstExc_append_none (argChecks_none hf h1 h0 ht) hm) hc) rfl

end

/-! ### A word that pops its operands and pushes its results -/

theorem depth_pushAll (x : Stk) (ws : List TWord) : (x.pushAll ws).depth = x.depth + ws.length := by
  induction ws generalizing x with
  | nil => rfl
  | cons w t ih => rw [Stk.pushAll, List.foldl_cons, ← Stk.pushAll, ih, List.length_cons]; show x.depth + 1 + t.length = _; omega

section
variable {s u : State} {w : LWord} (q : QuietSpn s w) {body : State → Core → Res}
include q

/-- What a word of the spindle leaves of its core needs no room beyond the registers, where it pushes at most one word more than it
pops. -/
theorem depth_applyA {o : AOut} (hn : o.pop ≤ (core s spindle).ds.depth) (hl : o.push.length ≤ o.pop + 1) :
    (applyA spindle (core s spindle) o).dsU.depth ≤ 8 := by
  obtain ⟨-, -, -, -, -, -, -, -, -, -, -, -, hd, -⟩ := q
  have hk : (applyA spindle (core s spindle) o).dsU = ((core s spindle).setDs (((core s spindle).ds.drop o.pop).pushAll o.push)).dsU := by
    unfold applyA
    simp only [show ¬ (spindle ≠ spindle ∧ 1 < o.lat) from fun h => h.1 rfl, decide_false, Bool.false_eq_true, if_false]
    split <;> rfl
  rw [hk]
  cases hp : (core s spindle).pset with
  | true =>
    rw [Core.setDs, hp, if_pos rfl]
    exact Nat.le_succ_of_le hd
  | false =>
    have he : (core s spindle).ds = (core s spindle).dsU := by rw [Core.ds, hp]; rfl
    rw [he] at hn
    rw [Core.setDs, hp, he]
    show ((((core s spindle).dsU.drop o.pop).pushAll o.push)).depth ≤ 8
    rw [depth_pushAll]
    show (core s spindle).dsU.depth - o.pop + o.push.length ≤ 8
    omega

/-- A word of the spindle that moves operands and acts on the block afterwards, its core's context and the debug level apart. -/
theorem runSpn_moves {o : AOut} {hst : List (Bool × Nat)} {f : State → State} (hn : o.pop ≤ (core s spindle).ds.depth)
    (hl : o.push.length ≤ o.pop + 1)
    (hb : body (spnHere s) (core s spindle) = (.ok { aDone spindle (core s spindle) o with host := hst, after := f }, u))
    (hu : Keeps (spnHere s) u) (hf : ∀ x, Keeps x (f x)) :
    runSpn w body s = rsvGone s (f (spnEnd u (applyA spindle (core s spindle) o) o.cycles)) :=
  runSpn_quiet s u w body { aDone spindle (core s spindle) o with host := hst, after := f } q hb hu.level (sameFlow_applyA _ _)
    (depth_applyA q hn hl) rfl rfl rfl rfl rfl rfl fun x => ⟨(hf x).level, congrArg Core.haltReq ((hf x).core _)⟩

end

/-! ### What a store meets -/

/-- The arrays of a line change no more than registers and reports. -/
theorem lineEcc_spn (s : State) (e : Env) (a : Nat) : (lineEcc s e a).2.spn = s.spn := by
  unfold lineEcc
  split
  · split
    · rfl
    · exact raiseErr_spn _ _ _ _ _ _ _
  · exact raiseErr_spn _ _ _ _ _ _ _
  · rfl
  · exact raiseErr_spn _ _ _ _ _ _ _
  · exact raiseErr_spn _ _ _ _ _ _ _
  · rfl

theorem storeMeets_quiet {e : Env} {l : List (Nat × Nat)} {s u : State} {r : Check} (h : storeMeets e l s = (r, u)) :
    Keeps s u ∧ u.spn = s.spn := by
  induction l generalizing s with
  | nil => obtain ⟨-, rfl⟩ := Prod.mk.inj h; exact ⟨.refl _, rfl⟩
  | cons p t ih =>
    rw [storeMeets] at h
    split at h
    · have hk := keeps_lineEcc s e p.1
      have hs := lineEcc_spn s e p.1
      split at h
      · next x v hv =>
        obtain ⟨-, rfl⟩ := Prod.mk.inj h
        rw [hv] at hk hs
        exact ⟨hk, hs⟩
      · next v hv =>
        rw [hv] at hk hs
        obtain ⟨gk, gs⟩ := ih h
        exact ⟨hk.trans gk, gs.trans hs⟩
    · exact ih h

theorem keeps_pushStores (l : List SbEnt) (x : State) : Keeps x (l.foldl pushStore x) := keeps_foldl _ keeps_pushStore _ _

theorem length_storeBytes (k : Core) (z : HSize) : (storeBytes k z).length = hBytes z := by
  cases z <;> simp [storeBytes, leBytes, hBytes]

theorem length_storeEnts (s : State) (a z : Nat) (l : List Byte) : (storeEnts s a z l).length ≤ 2 := by
  unfold storeEnts
  dsimp only
  split <;> simp

/-- A store into an empty buffer retires. -/
theorem hostStore_empty {s : State} (h : s.spn.sb = []) (k : Core) (a z pop : Nat) (push : List TWord) (l : List Byte) :
    hostStore spindle s k a z pop push l =
      (.ok { aDone spindle k { pop := pop, push := push, cycles := 1 + splitCycles a l.length } with
        host := [(true, a)], after := fun x => (storeEnts s a z l).foldl pushStore x }, s) := by
  have := length_storeEnts s a z l
  rw [hostStore, h]
  exact if_neg (by simp only [List.length_nil]; omega)

/-! ### Host loads and stores (R145, R218, R220, R222) -/

/-- A load that the memory system answers delivers its bytes. -/
theorem hostLoad_ok {s u : State} {k : Core} {e : Env} {a n : Nat} {own : Bool} {pk : PendKind} {l : List Byte}
    (h : readParts s e own pk (hostParts a n) = (some (.ok l), u)) (f : List Byte → Except Exc Done) :
    hostLoad s k e a n own pk f = (f l, u) := by
  rw [hostLoad, h]

theorem keeps_read {s u : State} {e : Env} {own : Bool} {pk : PendKind} {l : List (Nat × Nat)}
    {r : Option (Except Nat (List Byte))} (h : readParts (spnHere s) e own pk l = (r, u)) : Keeps (spnHere s) u := by
  have := keeps_readParts e own pk l (spnHere s)
  rwa [h] at this

theorem length_loadedWords (z : HSize) (sx : Bool) (l : List Byte) : (loadedWords z sx l).length = if z = .dword then 2 else 1 := by
  cases z <;> rfl

section
variable {s u : State} {w : LWord} {a : Nat} (q : QuietSpn s w)
include q

/-- LD.H outside the window. -/
theorem runSpn_ldH {z : HSize} {sx : Bool} {l : List Byte} (h : Reaches s false a (hBytes z))
    (hf : FitsSpn s 2 2 (if z = .dword then 2 else 1))
    (hr : readParts (spnHere s) w.env false (.load z sx) (hostParts a (hBytes z)) = (some (.ok l), u)) :
    runSpn w (ldHRes w.core z sx w.env) s =
      rsvGone s (spnEnd u ((core s spindle).setDs (((core s spindle).ds.drop 2).pushAll (loadedWords z sx l)))
        (4 + splitCycles a (hBytes z))) := by
  have hw : inSpnWindow (spnHere s) a = false := h.outside
  have hc := h.passes (uses := []) (more := []) hf rfl rfl
  obtain ⟨rfl, -⟩ := id h
  have hb : ldHRes spindle z sx w.env (spnHere s) (core s spindle) =
      (.ok { aDone spindle (core s spindle)
          { pop := 2, push := loadedWords z sx l, cycles := 4 + splitCycles (argAddr (core s spindle)) (hBytes z) } with
        host := [(false, argAddr (core s spindle))] }, u) := by
    rw [List.append_nil] at hc
    unfold ldHRes
    simp only [hw, hc, Bool.false_eq_true, if_false, hostLoad_ok hr]
  have hl : (loadedWords z sx l).length ≤ 2 + 1 := by rw [length_loadedWords]; split <;> omega
  have hm := runSpn_moves q hf.1 hl hb (keeps_read hr) .refl
  rw [applyA_put] at hm
  rwa [show w.core = spindle from q.1]

/-- LD.T outside the window. -/
theorem runSpn_ldT {l : List Byte} (h : Reaches s false a 8) (ha : a % 8 = 0) (hf : FitsSpn s 2 2 1)
    (hr : readParts (spnHere s) w.env false .loadT (hostParts a 8) = (some (.ok l), u))
    (ht : tagCauses (core s spindle) [(.move, TWord.ofContainer (BitVec.ofNat 64 (leNat l)))] = none) :
    runSpn w (ldTRes w.core w.env) s =
      rsvGone s (spnEnd u ((core s spindle).setDs (((core s spindle).ds.drop 2).pushAll [TWord.ofContainer (BitVec.ofNat 64 (leNat l))])) 4) := by
  have hw : inSpnWindow (spnHere s) a = false := h.outside
  have hc := h.passes (uses := []) (more := [failIf (decide (a % 8 ≠ 0)) (Exc.al a)]) hf rfl (by rw [ha]; rfl)
  obtain ⟨rfl, -⟩ := id h
  have hb : ldTRes spindle w.env (spnHere s) (core s spindle) =
      (.ok { aDone spindle (core s spindle) { pop := 2, push := [TWord.ofContainer (BitVec.ofNat 64 (leNat l))], cycles := 4 } with
        host := [(false, argAddr (core s spindle))] }, u) := by
    unfold ldTRes
    simp only [hw, hc, Bool.false_eq_true, if_false, hostLoad_ok hr, ht]
    rfl
  have hl : [TWord.ofContainer (BitVec.ofNat 64 (leNat l))].length ≤ 2 + 1 := Nat.le_add_left 1 2
  have hm := runSpn_moves q hf.1 hl hb (keeps_read hr) .refl
  rw [applyA_put] at hm
  rwa [show w.core = spindle from q.1]

/-- RSV.LD reserves a line of WB memory. -/
theorem runSpn_rsvLd {z : HSize} {l : List Byte} (h : Reaches s false a (hBytes z)) (ha : a % hBytes z = 0)
    (hf : FitsSpn s 2 2 (if z = .dword then 2 else 1))
    (hr : readParts (spnHere s) w.env (decide (regionType s a = 1)) (.rsvLoad z) (hostParts a (hBytes z)) = (some (.ok l), u)) :
    runSpn w (rsvLdRes w.core z w.env) s =
      rsvGone s ((fun x => if decide (regionType s a = 1) then
          { clearRsv x with spn := { (clearRsv x).spn with rsv := some (a / 64), rsvHold := true } } else clearRsv x)
        (spnEnd u ((core s spindle).setDs (((core s spindle).ds.drop 2).pushAll (loadedWords z false l))) 4)) := by
  have hsb : (spnHere s).spn.sb = [] := q.2.2.2.2.2.2.2.2.2.1
  have hc := h.passes (uses := []) (more := [failIf (decide (a % hBytes z ≠ 0)) (Exc.al a)]) hf rfl (by rw [ha]; rfl)
  obtain ⟨rfl, -⟩ := id h
  have hr' : readParts (spnHere s) w.env (decide (regionType (spnHere s) (argAddr (core s spindle)) = 1)) (.rsvLoad z)
      (hostParts (argAddr (core s spindle)) (hBytes z)) = (some (.ok l), u) := hr
  have hb : rsvLdRes spindle z w.env (spnHere s) (core s spindle) =
      (.ok { aDone spindle (core s spindle) { pop := 2, push := loadedWords z false l, cycles := 4 } with
        host := [(false, argAddr (core s spindle))]
        after := fun x => if decide (regionType s (argAddr (core s spindle)) = 1) then
          { clearRsv x with spn := { (clearRsv x).spn with rsv := some (argAddr (core s spindle) / 64), rsvHold := true } }
          else clearRsv x }, u) := by
    unfold rsvLdRes
    simp only [hc, hsb, hostLoad_ok hr', List.length_nil, ne_eq, not_true_eq_false, if_false]
    rfl
  have hl : (loadedWords z false l).length ≤ 2 + 1 := by rw [length_loadedWords]; split <;> omega
  have hm := runSpn_moves q hf.1 hl hb (keeps_read hr)
    fun x => keeps_ite _ ((keeps_clearRsv x).trans (keeps_spn _ _)) (keeps_clearRsv x)
  rw [applyA_put] at hm
  rwa [show w.core = spindle from q.1]

/-- ST.H retires into the empty buffer. -/
theorem runSpn_stH {z : HSize} (h : Reaches s true a (hBytes z)) (hf : FitsSpn s (storeArgs z) (storeArgs z) 0)
    (ht : tagCauses (core s spindle) (storeUses (core s spindle) z) = none)
    (hm : storeMeets w.env (hostParts a (hBytes z)) (spnHere s) = (none, u)) :
    runSpn w (stHRes w.core z w.env) s =
      rsvGone s ((fun x => (storeEnts u a (hCode z) (storeBytes (core s spindle) z)).foldl pushStore x)
        (spnEnd u ((core s spindle).setDs (((core s spindle).ds.drop (storeArgs z)).pushAll [])) (1 + splitCycles a (hBytes z)))) := by
  obtain ⟨hk, hs⟩ := storeMeets_quiet hm
  have hsb : u.spn.sb = [] := (congrArg Spn.sb hs).trans q.2.2.2.2.2.2.2.2.2.1
  have hc := h.passes (more := []) hf ht rfl
  obtain ⟨rfl, -⟩ := id h
  have hb : stHRes spindle z w.env (spnHere s) (core s spindle) =
      (.ok { aDone spindle (core s spindle)
        { pop := storeArgs z, push := [], cycles := 1 + splitCycles (argAddr (core s spindle)) (hBytes z) } with
        host := [(true, argAddr (core s spindle))]
        after := fun x => (storeEnts u (argAddr (core s spindle)) (hCode z) (storeBytes (core s spindle) z)).foldl pushStore x }, u) := by
    rw [List.append_nil] at hc
    unfold stHRes
    simp only [hc, hm, hostStore_empty hsb, length_storeBytes]
  have hm := runSpn_moves q hf.1 (Nat.zero_le _) hb hk fun x => keeps_pushStores _ x
  rw [applyA_put] at hm
  rwa [show w.core = spindle from q.1]

/-- ST.T retires into the empty buffer. -/
theorem runSpn_stT (h : Reaches s true a 8) (ha : a % 8 = 0) (hf : FitsSpn s 3 3 0)
    (ht : tagCauses (core s spindle) [(.move, (core s spindle).ds.peek 2)] = none)
    (hm : storeMeets w.env (hostParts a 8) (spnHere s) = (none, u)) :
    runSpn w (stTRes w.core w.env) s =
      rsvGone s ((fun x => (storeEnts u a 3 (leBytes 8 ((core s spindle).ds.peek 2).container.toNat)).foldl pushStore x)
        (spnEnd u ((core s spindle).setDs (((core s spindle).ds.drop 3).pushAll [])) 1)) := by
  obtain ⟨hk, hs⟩ := storeMeets_quiet hm
  have hsb : u.spn.sb = [] := (congrArg Spn.sb hs).trans q.2.2.2.2.2.2.2.2.2.1
  have hw : inSpnWindow (spnHere s) a = false := h.outside
  have hc := h.passes (more := [failIf (decide (a % 8 ≠ 0)) (Exc.al a)]) hf ht (by rw [ha]; rfl)
  have hcy : splitCycles a 8 = 0 := if_pos ha
  obtain ⟨haa, -⟩ := id h
  have hb : stTRes spindle w.env (spnHere s) (core s spindle) =
      (.ok { aDone spindle (core s spindle) { pop := 3, push := [], cycles := 1 } with
        host := [(true, a)]
        after := fun x => (storeEnts u a 3 (leBytes 8 ((core s spindle).ds.peek 2).container.toNat)).foldl pushStore x }, u) := by
    have hl : (leBytes 8 ((core s spindle).ds.peek 2).container.toNat).length = 8 := by simp [leBytes]
    have he := hostStore_empty hsb (core s spindle) a 3 3 [] (leBytes 8 ((core s spindle).ds.peek 2).container.toNat)
    rw [hl, hcy] at he
    rw [stTRes]
    dsimp only
    rw [← haa, if_neg (by rw [hw]; decide)]
    split
    · next x hx => exact absurd (hc.symm.trans hx) nofun
    · split
      · next x v hv => exact absurd (hm.symm.trans hv) (by simp)
      · next v hv =>
        obtain rfl : u = v := (Prod.mk.inj (hm.symm.trans hv)).2
        exact he
  have hm := runSpn_moves q hf.1 (Nat.zero_le _) hb hk fun x => keeps_pushStores _ x
  rw [applyA_put] at hm
  rwa [show w.core = spindle from q.1]

/-- RSV.ST stores and pushes 1 where `ok` says that its reservation stands, and else pushes 0; the reservation goes. -/
theorem runSpn_rsvSt {z : HSize} {ok : Bool} (h : Reaches s true a (hBytes z)) (ha : a % hBytes z = 0)
    (hf : FitsSpn s (storeArgs z) (storeArgs z) 1) (ht : tagCauses (core s spindle) (storeUses (core s spindle) z) = none)
    (hm : storeMeets w.env (hostParts a (hBytes z)) (spnHere s) = (none, u))
    (hok : (decide (u.spn.rsv = some (a / 64)) && (l2Get u (a / 64)).st.owned) = ok) :
    runSpn w (rsvStRes w.core z w.env) s =
      rsvGone s ((fun x => clearRsv (if ok then writeLine x (a / 64) (placed a (storeBytes (core s spindle) z)) else x))
        (spnEnd u ((core s spindle).setDs (((core s spindle).ds.drop (storeArgs z)).pushAll [TWord.nat (w32 ok.toNat)])) 4)) := by
  obtain ⟨hk, hs⟩ := storeMeets_quiet hm
  have hsb : ¬ u.spn.sb.length ≠ 0 := fun g =>
    g (congrArg List.length ((congrArg Spn.sb hs).trans q.2.2.2.2.2.2.2.2.2.1))
  have hc := h.passes (more := [failIf (decide (a % hBytes z ≠ 0)) (Exc.al a)]) hf ht (by rw [ha]; rfl)
  obtain ⟨haa, -⟩ := id h
  have hb : rsvStRes spindle z w.env (spnHere s) (core s spindle) =
      (.ok { aDone spindle (core s spindle) { pop := storeArgs z, push := [TWord.nat (w32 ok.toNat)], cycles := 4 } with
        host := if ok then [(true, a)] else []
        after := fun x => clearRsv (if ok then writeLine x (a / 64) (placed a (storeBytes (core s spindle) z)) else x) }, u) := by
    rw [rsvStRes]
    dsimp only
    rw [← haa]
    split
    · next x hx => exact absurd (hc.symm.trans hx) nofun
    · split
      · next x v hv => exact absurd (hm.symm.trans hv) (by simp)
      · next v hv =>
        obtain rfl : u = v := (Prod.mk.inj (hm.symm.trans hv)).2
        rw [if_neg hsb, hok]
  have hl : [TWord.nat (w32 ok.toNat)].length ≤ storeArgs z + 1 := Nat.le_add_left 1 _
  have hm := runSpn_moves q hf.1 hl hb hk
    fun x => Keeps.trans (keeps_ite _ (keeps_writeLine x _ _) (.refl x)) (keeps_clearRsv _)
  rw [applyA_put] at hm
  rwa [show w.core = spindle from q.1]

end

/-! ### CACHE (R147, R213, R219) -/

theorem keeps_writeBack (s : State) (l : Nat) (d : List Byte) :
    Keeps s (l2Set (physSetList (curePoison s l) (l * 64) d) l ⟨.e, d⟩) :=
  ((keeps_curePoison s l).trans (keeps_physSetList _ _ _)).trans (keeps_l2Set _ _ _)

/-- A CACHE word reaches the line of an address outside the window that its operands give. -/
def ReachesLine (s : State) (write : Bool) (a : Nat) : Prop :=
  let k := core s spindle
  a = argAddr k ∧ hostCause k (k.ds.peek 1) = none ∧ hostCause k (k.ds.peek 0) = none ∧
    hostHigh (k.ds.peek 1) (k.ds.peek 0) = none ∧ FitsSpn s 2 2 0 ∧ inSpnWindow s a = false ∧ hostAllowed s k write a = true

section
variable {s v t : State} {w : LWord} {a : Nat} {sys write reads : Bool} {act : State → Nat → Bool × State} (q : QuietSpn s w)
  (h : ReachesLine s write a) (hl : sys = true → (core s spindle).modes.level ≠ .u)
include q h hl

/-- A CACHE word that has met no error in the arrays of its line acts on it where it is WB memory, and on nothing else. -/
theorem runSpn_cache
    (hr : (if reads && lineDirty (spnHere s) (a / 64) then lineEcc (spnHere s) w.env a else (none, spnHere s)) = (none, v))
    (hact : act v (a / 64) = (true, t)) (ht : Keeps (spnHere s) t) :
    runSpn w (cacheRes w.core w.env sys write reads act) s =
      rsvGone s (spnEnd (if regionType s a = 1 then t else spnHere s)
        ((core s spindle).setDs (((core s spindle).ds.drop 2).pushAll [])) 2) := by
  obtain ⟨haa, h1, h0, hh, hf, hw, hg⟩ := h
  have hpv : (sys && decide ((core s spindle).modes.level = .u)) = false := by
    cases sys
    · rfl
    · simpa using hl rfl
  have hc : firstExc (argChecks (spnHere s) spindle (core s spindle) (sys && decide ((core s spindle).modes.level = .u)) 2 2 0 [] ++
      [failIf (inSpnWindow (spnHere s) a || !hostAllowed (spnHere s) (core s spindle) write a) (Exc.af a),
        hostHigh ((core s spindle).ds.peek 1) ((core s spindle).ds.peek 0)]) = none := by
    rw [hpv, show inSpnWindow (spnHere s) a = false from hw, show hostAllowed (spnHere s) (core s spindle) write a = true from hg, hh]
    exact firstExc_append_none (argChecks_none hf h1 h0 rfl) rfl
  have hb : cacheRes spindle w.env sys write reads act (spnHere s) (core s spindle) =
      (.ok { aDone spindle (core s spindle) { pop := 2, push := [], cycles := 2 } with host := [], after := fun x => x },
        if regionType s a = 1 then t else spnHere s) := by
    rw [cacheRes]
    dsimp only
    rw [← haa]
    split
    · next x hx => exact absurd (hc.symm.trans hx) nofun
    · by_cases hrt : regionType s a = 1
      · rw [if_pos (show regionType (spnHere s) a = 1 from hrt), if_pos hrt]
        split
        · next x u hu => exact absurd (hr.symm.trans hu) (by simp)
        · next u hu =>
          obtain rfl : v = u := (Prod.mk.inj (hr.symm.trans hu)).2
          rw [hact]
          rfl
      · rw [if_neg (show ¬ regionType (spnHere s) a = 1 from hrt), if_neg hrt]
        rfl
  have hm := runSpn_moves q hf.1 (Nat.zero_le _) hb (keeps_ite _ ht (.refl _)) .refl
  rw [applyA_put] at hm
  rwa [show w.core = spindle from q.1]

end

/-- No store to any line is buffered in an empty buffer. -/
theorem lineBuffered_empty {s : State} (h : s.spn.sb = []) (l : Nat) : lineBuffered s l = false := by rw [lineBuffered, h]; rfl

theorem dcZeroAct_owned {s : State} {l : Nat} (hb : lineBuffered s l = false) (h : (l2Get s l).st.owned = true) :
    dcZeroAct s l = (true, l1Put (l2Set (curePoison s l) l ⟨.m, zeroLine⟩) l ⟨true, zeroLine⟩) := by
  rw [dcZeroAct, hb]
  cases hs : (l2Get s l).st <;> simp_all [LineSt.owned]

theorem l2Get_spn {s v : State} (h : v.spn = s.spn) (l : Nat) : l2Get v l = l2Get s l := by rw [l2Get, h, l2Get]

theorem lineDirty_spn {s v : State} (h : v.spn = s.spn) (l : Nat) : lineDirty v l = lineDirty s l := by
  rw [lineDirty, lineDirty, l2Get_spn h, l1Get, l1Get, h]

/-- What a word that writes dirty data back has met in the arrays of its line. -/
theorem meets_quiet {s v : State} {e : Env} {a : Nat} {p : Prop} [Decidable p] {r : Check}
    (h : (if p then lineEcc s e a else (none, s)) = (r, v)) : Keeps s v ∧ v.spn = s.spn := by
  split at h
  · have hk := keeps_lineEcc s e a
    have hs := lineEcc_spn s e a
    rw [h] at hk hs
    exact ⟨hk, hs⟩
  · obtain ⟨-, rfl⟩ := Prod.mk.inj h
    exact ⟨.refl _, rfl⟩

/-! ### FLUSH.I and ENG (R148, R192, R219) -/

section
variable {s u : State} {w : LWord} (q : QuietSpn s w)
include q

/-- A word of the spindle that leaves its core's operands alone. -/
theorem runSpn_block {body : State → Core → Res} {n : Nat} {f : State → State}
    (hb : body (spnHere s) (core s spindle) = (.ok { k := core s spindle, cycles := n, after := f }, u)) (hu : dbgLevel u = dbgLevel s)
    (hf : ∀ x, dbgLevel (f x) = dbgLevel x ∧ (core (f x) spindle).haltReq = (core x spindle).haltReq) :
    runSpn w body s = rsvGone s (f (spnEnd u (core s spindle) n)) := by
  obtain ⟨-, -, -, -, -, -, -, -, -, -, -, -, hd, -⟩ := id q
  exact runSpn_quiet s u w body { k := core s spindle, cycles := n, after := f } q hb hu (sameFlow_refl _) (Nat.le_succ_of_le hd)
    rfl rfl rfl rfl rfl rfl hf

/-- A word without operands at a level that has it: the store buffer is empty. -/
theorem runSpn_eng {need : Level} {drains : Bool} {n : Nat} {f : State → State} (hl : need.code ≤ (core s spindle).modes.level.code)
    (hf : ∀ x, dbgLevel (f x) = dbgLevel x ∧ (core (f x) spindle).haltReq = (core x spindle).haltReq) :
    runSpn w (engRes need drains n f) s = rsvGone s (f (spnEnd (spnHere s) (core s spindle) n)) := by
  have hsb : s.spn.sb = [] := q.2.2.2.2.2.2.2.2.2.1
  refine runSpn_block q ?_ rfl hf
  simp [engRes, Nat.not_lt.2 hl, hsb]

end

theorem keeps_words {f : State → State} (h : ∀ x, Keeps x (f x)) (x : State) :
    dbgLevel (f x) = dbgLevel x ∧ (core (f x) spindle).haltReq = (core x spindle).haltReq :=
  ⟨(h x).level, congrArg Core.haltReq ((h x).core _)⟩

theorem level_above_user {l : Level} (h : l ≠ .u) : Level.s.code ≤ l.code := by
  cases l with
  | u => exact absurd rfl h
  | s => exact Nat.le_refl _
  | m => exact Nat.le_succ _

/-- Sleep is a state of the core alone. -/
theorem spnSleep_words (x : State) : dbgLevel (spnSleep x) = dbgLevel x ∧ (core (spnSleep x) spindle).haltReq = (core x spindle).haltReq := by
  unfold spnSleep
  split
  · exact ⟨rfl, rfl⟩
  · exact ⟨rfl, by rw [core_modCore, if_pos rfl]⟩

theorem dbgLevel_clbAck (s : State) (b : Nat) : dbgLevel (clbAck s b) = dbgLevel s := by
  have hc (x : State) : dbgLevel (clbComplete x) = dbgLevel x := by unfold clbComplete; split <;> rfl
  unfold clbAck
  split
  · rfl
  · refine (hc _).trans ?_
    dsimp only
    split <;> rfl

/-- The start of a barrier opens no debugger. -/
theorem dbgLevel_clbStart (s : State) : dbgLevel (clbStart s) = dbgLevel s := by
  unfold clbStart
  dsimp only
  refine List.foldlRecOn _ _ (motive := fun u : State => dbgLevel u = dbgLevel s) rfl fun u hu b _ => ?_
  split
  · exact (dbgLevel_clbAck u b).trans hu
  · exact hu

/-- ENG CLB once no barrier is active. -/
theorem runSpn_clb {s u : State} {w : LWord} (q : QuietSpn s w) (hl : (core s spindle).modes.level ≠ .u)
    (hu : u = if s.clb.waits || s.clb.active then spnHere s else clbStart (spnHere s)) (ha : u.clb.active = false) :
    runSpn w clbRes s = rsvGone s (marSync (spnEnd { u with clb := { u.clb with waits := false } } (core s spindle) 1)) := by
  refine runSpn_block q (f := marSync) ?_ ?_ (keeps_words keeps_marSync)
  · have hu' : (if (spnHere s).clb.waits || (spnHere s).clb.active then spnHere s else clbStart (spnHere s)) = u := hu.symm
    unfold clbRes
    simp only [decide_eq_false hl, failIf_false, firstExc_none, firstExc_nil, hu', ha, Bool.false_eq_true, if_false]
  · show dbgLevel u = dbgLevel s
    rw [hu]
    split
    · rfl
    · exact dbgLevel_clbStart (spnHere s)

/-! ### FP64 (R146, R168 to R170) -/

/-- An FP64 word that traps nothing delivers its words, flags and sticky flags. -/
theorem runSpn_f64 {s : State} {w : LWord} {body : State → Core → Res} {n cycles : Nat} {ty : Ty} {fl : FFlags} {push : List TWord}
    {flags : Option Flags} (q : QuietSpn s w)
    (hb : body (spnHere s) (core s spindle) = f64Res spindle n [ty] cycles fl push flags (spnHere s) (core s spindle))
    (hf : FitsSpn s n n push.length) (ht : tagCauses (core s spindle) (((core s spindle).top n).map fun x => (.arith [ty], x)) = none)
    (hx : fxCheck (core s spindle) fl = none) (hl : push.length ≤ n + 1) :
    runSpn w body s = rsvGone s (id (spnEnd (spnHere s)
      (applyA spindle (core s spindle) { pop := n, push := push, flags := flags, sticky := fl.code, cycles := cycles }) cycles)) := by
  obtain ⟨hn, hp⟩ := hf
  have hb' : body (spnHere s) (core s spindle) =
      (.ok { aDone spindle (core s spindle) { pop := n, push := push, flags := flags, sticky := fl.code, cycles := cycles } with
        host := [], after := fun x => x }, spnHere s) := by
    rw [hb, f64Res, show dsCap (spnHere s) spindle = dsCap s spindle from rfl, depthCheck_none hn hp, ht, hx]
    rfl
  exact runSpn_moves q hn hl hb' (.refl _) .refl

theorem any_range_one (f : Nat → Bool) : (List.range 1).any f = f 0 := Bool.or_false _

theorem any_range_two (f : Nat → Bool) : (List.range 2).any f = (f 0 || f 1) := by simp [List.range_succ]

theorem any_range_three (f : Nat → Bool) : (List.range 3).any f = (f 0 || (f 1 || f 2)) := by simp [List.range_succ]

/-- An FP64 operation on `m` pairs, one of which may be a NaN, delivers its pair. -/
theorem runSpn_f64Arith {s : State} {w : LWord} {m n cycles : Nat} {op : Core → Nat × FFlags} {r : Nat × FFlags} {nan : Bool}
    (q : QuietSpn s w) (hr : op (core s spindle) = r) (hm : n = 2 * m) (h1 : 1 ≤ m)
    (hnan : ((List.range m).any fun i => f64.isNaN (pairAt (core s spindle) (2 * i))) = nan) (hf : FitsSpn s n n 2)
    (ht : tagCauses (core s spindle) (((core s spindle).top n).map fun x => (.arith [.flt], x)) = none)
    (hx : fxCheck (core s spindle) r.2 = none) :
    runSpn w (f64Arith w.core m cycles op) s = rsvGone s (id (spnEnd (spnHere s)
      (applyA spindle (core s spindle)
        { pop := n, push := pairOf (f64Q (core s spindle) n (f64.isNaN r.1 || nan)) r.1, flags := none, sticky := r.2.code,
          cycles := cycles }) cycles)) := by
  subst hm hr hnan
  exact runSpn_f64 q (by rw [f64Arith, show w.core = spindle from q.1]) hf ht hx (show 2 ≤ 2 * m + 1 by omega)

/-! ### The CACHE words one by one -/

section
variable {s v : State} {w : LWord} {a : Nat} (q : QuietSpn s w) (h : ReachesLine s false a)
include q h

theorem runSpn_dcInv (hl : (core s spindle).modes.level ≠ .u) :
    runSpn w (cacheRes w.core w.env true false false dcInvAct) s =
      rsvGone s (spnEnd (if regionType s a = 1 then l1Set (spnHere s) (a / 64) none else spnHere s)
        ((core s spindle).setDs (((core s spindle).ds.drop 2).pushAll [])) 2) := by
  have hsb : (spnHere s).spn.sb = [] := q.2.2.2.2.2.2.2.2.2.1
  exact runSpn_cache q h (fun _ => hl) rfl (by rw [dcInvAct, lineBuffered_empty hsb]; rfl) (keeps_l1Set _ _ _)

theorem runSpn_icInv :
    runSpn w (cacheRes w.core w.env false false false fun u line =>
        (true, { u with spn := { u.spn with l1i := u.spn.l1i.filter fun l => decide (l ≠ line) } })) s =
      rsvGone s (spnEnd (if regionType s a = 1 then
          { spnHere s with spn := { (spnHere s).spn with l1i := (spnHere s).spn.l1i.filter fun x => decide (x ≠ a / 64) } } else spnHere s)
        ((core s spindle).setDs (((core s spindle).ds.drop 2).pushAll [])) 2) :=
  runSpn_cache q h nofun rfl rfl (keeps_spn _ _)

theorem runSpn_dcPf :
    runSpn w (cacheRes w.core w.env false false false fun u line =>
        (true, if (l2Get u line).st = .i then request (countL2 u line) line false else u)) s =
      rsvGone s (spnEnd (if regionType s a = 1 then
          (if (l2Get s (a / 64)).st = .i then request (countL2 (spnHere s) (a / 64)) (a / 64) false else spnHere s) else spnHere s)
        ((core s spindle).setDs (((core s spindle).ds.drop 2).pushAll [])) 2) :=
  runSpn_cache q h nofun rfl rfl (keeps_ite _ ((keeps_countL2 _ _).trans (keeps_request _ _ _)) (.refl _))

omit h in
theorem runSpn_dcZero (h : ReachesLine s true a) (ho : (l2Get s (a / 64)).st.owned = true) :
    runSpn w (cacheRes w.core w.env false true false dcZeroAct) s =
      rsvGone s (spnEnd (if regionType s a = 1 then
          l1Put (l2Set (curePoison (spnHere s) (a / 64)) (a / 64) ⟨.m, zeroLine⟩) (a / 64) ⟨true, zeroLine⟩ else spnHere s)
        ((core s spindle).setDs (((core s spindle).ds.drop 2).pushAll [])) 2) := by
  have hsb : (spnHere s).spn.sb = [] := q.2.2.2.2.2.2.2.2.2.1
  exact runSpn_cache q h nofun rfl (dcZeroAct_owned (lineBuffered_empty hsb _) ho)
    (((keeps_curePoison _ _).trans (keeps_l2Set _ _ _)).trans (keeps_l1Put _ _ _))

variable (hr : (if lineDirty (spnHere s) (a / 64) then lineEcc (spnHere s) w.env a else (none, spnHere s)) = (none, v))
include hr

theorem runSpn_dcClean :
    runSpn w (cacheRes w.core w.env false false true fun u line => (true, cleanL1 u line)) s =
      rsvGone s (spnEnd (if regionType s a = 1 then cleanL1 v (a / 64) else spnHere s)
        ((core s spindle).setDs (((core s spindle).ds.drop 2).pushAll [])) 2) :=
  runSpn_cache q h nofun hr rfl ((meets_quiet hr).1.trans (keeps_cleanL1 _ _))

theorem runSpn_dcCinv :
    runSpn w (cacheRes w.core w.env false false true dcCinvAct) s =
      rsvGone s (spnEnd (if regionType s a = 1 then l1Set (cleanL1 v (a / 64)) (a / 64) none else spnHere s)
        ((core s spindle).setDs (((core s spindle).ds.drop 2).pushAll [])) 2) := by
  obtain ⟨hk, hs⟩ := meets_quiet hr
  have hsb : v.spn.sb = [] := (congrArg Spn.sb hs).trans q.2.2.2.2.2.2.2.2.2.1
  exact runSpn_cache q h nofun hr (by rw [dcCinvAct, lineBuffered_empty hsb]; rfl)
    ((hk.trans (keeps_cleanL1 _ _)).trans (keeps_l1Set _ _ _))

/-- L2.CLEAN of a line that is not held, or not dirty. -/
theorem runSpn_l2Clean_clean (hc : (l2Get s (a / 64)).st.held = false ∨ lineDirty s (a / 64) = false) :
    runSpn w (cacheRes w.core w.env false false true l2CleanAct) s =
      rsvGone s (spnEnd (if regionType s a = 1 then v else spnHere s)
        ((core s spindle).setDs (((core s spindle).ds.drop 2).pushAll [])) 2) := by
  obtain ⟨hk, hs⟩ := meets_quiet hr
  have hg : ((l2Get v (a / 64)).st.held && lineDirty v (a / 64)) = false := by
    rw [l2Get_spn (s := s) hs, lineDirty_spn (s := s) hs]
    exact Bool.and_eq_false_iff.2 hc
  exact runSpn_cache q h nofun hr (by rw [l2CleanAct, hg]; rfl) hk

/-- L2.CLEAN of a dirty line. -/
theorem runSpn_l2Clean_dirty (hh : (l2Get s (a / 64)).st.held = true) (hd : lineDirty s (a / 64) = true) :
    runSpn w (cacheRes w.core w.env false false true l2CleanAct) s =
      rsvGone s (spnEnd (if regionType s a = 1 then
          l2Set (physSetList (curePoison (cleanL1 v (a / 64)) (a / 64)) (a / 64 * 64) (lineData (cleanL1 v (a / 64)) (a / 64))) (a / 64)
            ⟨.e, lineData (cleanL1 v (a / 64)) (a / 64)⟩ else spnHere s)
        ((core s spindle).setDs (((core s spindle).ds.drop 2).pushAll [])) 2) := by
  obtain ⟨hk, hs⟩ := meets_quiet hr
  have hg : ((l2Get v (a / 64)).st.held && lineDirty v (a / 64)) = true := by
    rw [l2Get_spn (s := s) hs, lineDirty_spn (s := s) hs, hh, hd]
    rfl
  exact runSpn_cache q h nofun hr (by rw [l2CleanAct, hg]; rfl) ((hk.trans (keeps_cleanL1 _ _)).trans (keeps_writeBack _ _ _))

/-- L2.CINV of a line whose act on it ends in `u`. -/
theorem runSpn_l2Cinv {u : State} (hl : (core s spindle).modes.level ≠ .u) (hu : l2CinvAct v (a / 64) = (true, u)) (hk : Keeps v u) :
    runSpn w (cacheRes w.core w.env true false true l2CinvAct) s =
      rsvGone s (spnEnd (if regionType s a = 1 then u else spnHere s)
        ((core s spindle).setDs (((core s spindle).ds.drop 2).pushAll [])) 2) :=
  runSpn_cache q h (fun _ => hl) hr hu ((meets_quiet hr).1.trans hk)

end

end Sys2Proof.Machine

namespace Sys2Proof
open Machine

/-- Settles O59, word by word. These are the model's choices, by entry of the assumption log: an RSV.LD outside WB memory sets no reservation
(48), L2.CLEAN writes memory within its word (92), a word takes the cycles of its table and 1 where none gives any (105), CACHE and
misaligned accesses are checked as entry 108 says, and RSV with z = 3 uses the pair forms (110). -/
theorem spindleWordsComplete : Obligations.SpindleWordsComplete := by
  unfold Obligations.SpindleWordsComplete
  intro s w z q
  have hw : w.core = spindle := q.1
  dsimp only
  refine ⟨?_, ?_, ?_, ?_, ?_, ?_, ?_, ?_, fun hl => ⟨?_, ?_, ?_⟩, fun hl => ?_, ?_⟩
  · exact fun a l u sx h hf hr => congrArg Host.Outcome.next (runSpn_ldH q h hf hr)
  · intro a l u h ha hf hr ht
    exact congrArg Host.Outcome.next (runSpn_ldT q h ha hf hr ht)
  · exact fun a u h hf ht hm => congrArg Host.Outcome.next (runSpn_stH q h hf ht hm)
  · exact fun a u h ha hf ht hm => congrArg Host.Outcome.next (runSpn_stT q h ha hf ht hm)
  · intro a l u h ha hf hr
    exact congrArg Host.Outcome.next (runSpn_rsvLd q h ha hf hr)
  · intro a u h ha hf ht hm
    refine ⟨fun hwon => ?_, fun hwon => ?_⟩
    · exact congrArg Host.Outcome.next (runSpn_rsvSt (ok := true) q h ha hf ht hm (by rw [decide_eq_true hwon.1, hwon.2]; rfl))
    · refine congrArg Host.Outcome.next (runSpn_rsvSt (ok := false) q h ha hf ht hm (Bool.eq_false_iff.2 fun g => hwon ?_))
      obtain ⟨g1, g2⟩ := Bool.and_eq_true_iff.1 g
      exact ⟨of_decide_eq_true g1, g2⟩
  · intro a haa h1 h0 hh hf hwin hg
    have hL : ReachesLine s false a := ⟨haa, h1, h0, hh, hf, hwin, hg⟩
    refine ⟨fun hl => ?_, fun hg ho => ?_, ?_, ?_,
      fun v hr => ⟨?_, ?_, fun hc => ?_, fun hh hd => ?_, fun hl => ⟨fun hh => ?_, fun u hh hu => ?_⟩⟩⟩
    · exact congrArg Host.Outcome.next (runSpn_dcInv q hL hl)
    · exact congrArg Host.Outcome.next (runSpn_dcZero q ⟨haa, h1, h0, hh, hf, hwin, hg⟩ ho)
    · have h := runSpn_icInv q hL
      exact congrArg Host.Outcome.next h
    · have h := runSpn_dcPf q hL
      exact congrArg Host.Outcome.next h
    · exact congrArg Host.Outcome.next (runSpn_dcClean q hL hr)
    · exact congrArg Host.Outcome.next (runSpn_dcCinv q hL hr)
    · exact congrArg Host.Outcome.next (runSpn_l2Clean_clean q hL hr hc)
    · exact congrArg Host.Outcome.next (runSpn_l2Clean_dirty q hL hr hh hd)
    · have hg : (l2Get v (a / 64)).st.held = false := by rw [l2Get_spn (s := s) (meets_quiet hr).2]; exact hh
      exact congrArg Host.Outcome.next (runSpn_l2Cinv q hL hr hl (by rw [l2CinvAct, hg]; rfl) (.refl v))
    · have hg : (l2Get v (a / 64)).st.held = true := by rw [l2Get_spn (s := s) (meets_quiet hr).2]; exact hh
      exact congrArg Host.Outcome.next (runSpn_l2Cinv q hL hr hl (by rw [l2CinvAct, hg, if_pos rfl, hu]) (keeps_evict v u _ hu))
  · exact congrArg Host.Outcome.next (runSpn_eng q (Nat.zero_le _) (keeps_words fun x => keeps_spn _ _))
  · exact congrArg Host.Outcome.next (runSpn_eng q (level_above_user hl) (keeps_words keeps_marSync))
  · exact congrArg Host.Outcome.next (runSpn_eng q (level_above_user hl) fun x =>
      (spnSleep_words (marSync x)).imp (·.trans (keeps_marSync x).level) (·.trans (keeps_words keeps_marSync x).2))
  · exact fun u hu ha => congrArg Host.Outcome.next (runSpn_clb q hl hu ha)
  · refine congrArg Host.Outcome.next (runSpn_eng q (by rw [hl]) (keeps_words fun x => (keeps_marSync x).trans (keeps_wipe _ _)))
  · refine ⟨fun ⟨hf, ht⟩ => ⟨?_, ?_, ?_, ?_⟩, ?_, ?_, ?_, ?_, ?_, ?_⟩
    · exact fun hx => congrArg Host.Outcome.next (runSpn_f64Arith (m := 2) q rfl rfl (by decide) (any_range_two _) hf ht hx)
    · exact fun hx => congrArg Host.Outcome.next (runSpn_f64Arith (m := 2) q rfl rfl (by decide) (any_range_two _) hf ht hx)
    · exact fun hx => congrArg Host.Outcome.next (runSpn_f64Arith (m := 2) q rfl rfl (by decide) (any_range_two _) hf ht hx)
    · exact fun hx => congrArg Host.Outcome.next (runSpn_f64Arith (m := 2) q rfl rfl (by decide) (any_range_two _) hf ht hx)
    · exact fun ⟨hf, ht⟩ hx => congrArg Host.Outcome.next (runSpn_f64 (n := 4) q (by rw [dCmpRes, hw]) hf ht hx (Nat.zero_le _))
    · exact fun ⟨hf, ht⟩ hx => congrArg Host.Outcome.next (runSpn_f64Arith (m := 3) q rfl rfl (by decide) (any_range_three _) hf ht hx)
    · exact fun ⟨hf, ht⟩ hx => congrArg Host.Outcome.next (runSpn_f64Arith (m := 1) q rfl rfl (by decide) (any_range_one _) hf ht hx)
    · exact fun ⟨hf, ht⟩ hx => congrArg Host.Outcome.next (runSpn_f64 (n := 1) q (by rw [cvtFdRes, hw]) hf ht hx (Nat.le_refl 2))
    · refine fun ⟨hf, ht⟩ => ⟨fun hx => ?_, fun hx => ?_⟩
      · exact congrArg Host.Outcome.next (runSpn_f64 (n := 2) q (by rw [cvtDfRes, hw]) hf ht hx (Nat.le_add_left 1 2))
      · exact congrArg Host.Outcome.next (runSpn_f64 (n := 2) q (by rw [cvtDiRes, hw]) hf ht hx (Nat.le_add_left 1 2))
    · exact fun ⟨hf, ht⟩ => congrArg Host.Outcome.next (runSpn_f64 (n := 1) q (by rw [cvtIdRes, hw]) hf ht rfl (Nat.le_refl 2))

end Sys2Proof
end

section
/-!
SUPPORT. Interrupts of a bobbin: what a claim leaves of the sources and targets (R515, R521), the claim word of an entry (R248, R516), the
entry of an interrupt (R193, R286, R287), and the statement that interrupts are entered and claimed.
-/

namespace Sys2Proof.Machine

/-! ### Sources and targets -/

section
variable (s : State)

@[simp] theorem esrc_setSrc (n : Nat) (x : Src) : esrc (setSrc s n x) n = x := by
  rw [esrc, setSrc, SMap.get_set, if_pos rfl]

@[simp] theorem tgt_setTgt (t : Nat) (x : Tgt) : tgt (setTgt s t x) t = x := by
  rw [tgt, setTgt, SMap.get_set, if_pos rfl]

@[simp] theorem tgt_setSrc (n : Nat) (x : Src) (t : Nat) : tgt (setSrc s n x) t = tgt s t := rfl

/-- A move to or from the spindle is noted in the registers alone (R521, R530). -/
theorem redirNote_regs (moved : Bool) : redirNote s moved = { s with regs := (redirNote s moved).regs } := by
  unfold redirNote
  split <;> rfl

/-! ### Claims (R515, R521) -/

/-- A claim touches the interrupt controller and registers alone. -/
theorem markClaimed_frame (t : Nat) (p : Nat × Nat) :
    markClaimed s t p = { s with eic := (markClaimed s t p).eic, regs := (markClaimed s t p).regs } := by
  unfold markClaimed
  split
  · rfl
  · conv_lhs => rw [redirNote_regs]
    conv_rhs => rw [redirNote_regs]
    rfl

theorem markClaimed_stack (t : Nat) (p : Nat × Nat) : (tgt (markClaimed s t p) t).stack = p :: (tgt s t).stack := by
  unfold markClaimed
  split
  · rw [tgt_setTgt]
  · rw [redirNote_regs]
    show (tgt (setSrc (setTgt s t _) p.1 _) t).stack = _
    rw [tgt_setSrc, tgt_setTgt]

/-- A shared source that is claimed is active and no longer pending. -/
theorem markClaimed_source (t : Nat) {p : Nat × Nat} (h : p.1 < 1024) :
    (esrc (markClaimed s t p) p.1).active = true ∧ (esrc (markClaimed s t p) p.1).pend = false := by
  unfold markClaimed
  rw [if_neg (Nat.not_le.2 h), redirNote_regs]
  show (esrc (setSrc _ p.1 _) p.1).active = true ∧ (esrc (setSrc _ p.1 _) p.1).pend = false
  rw [esrc_setSrc]
  exact ⟨rfl, rfl⟩

end

/-- A bobbin's entry claims the source that the EIC presents to it (R516). -/
theorem claimFor_bob {s : State} {c : Nat} {p : Nat × Nat} (hc : c < 256) (h : presented s (c + 1) = some p) :
    claimFor s c = (some (claimWord p), markClaimed s (c + 1) p) := by
  have hs : ¬ c = spindle := Nat.ne_of_lt hc
  simp only [claimFor, eicClaim, eicTarget, if_neg hs, h]

/-! ### The claim word (R248, R516) -/

/-- The claim word is written in memory and in the target's record. -/
theorem writeClaim_frame (s : State) (c : Nat) (claim : Option W32) :
    writeClaim s c claim = { s with mem := (writeClaim s c claim).mem, eic := (writeClaim s c claim).eic } := by
  cases claim <;> rfl

theorem writeClaim_congr {s t : State} (c : Nat) (claim : Option W32) (hm : t.mem = s.mem) (he : t.eic = s.eic) :
    (writeClaim t c claim).mem = (writeClaim s c claim).mem ∧ (writeClaim t c claim).eic = (writeClaim s c claim).eic := by
  cases claim with
  | none => exact ⟨hm, he⟩
  | some w => simp only [writeClaim, setTgt, tgt, bankSet, hm, he, and_self]

/-- What a state shows whose memory and interrupt controller are those of a written claim word. -/
theorem claim_written {s t : State} {c : Nat} {w : W32} (hc : c < 256) (hm : t.mem = (writeClaim s c (some w)).mem)
    (he : t.eic = (writeClaim s c (some w)).eic) :
    tgt t (c + 1) = { tgt s (c + 1) with lastClaim := w } ∧ (∀ n, esrc t n = esrc s n) ∧
      ∀ a, bankGet t a = if a = bankAddr (pilOf c) 5 (0x6FC0 + c % 16) then TWord.nat w else bankGet s a := by
  have ht : eicTarget c = c + 1 := if_neg (Nat.ne_of_lt hc)
  have htgt : tgt t (c + 1) = tgt (writeClaim s c (some w)) (c + 1) := by rw [tgt, he, tgt]
  have hbank (a : Nat) : bankGet t a = bankGet (writeClaim s c (some w)) a := by rw [bankGet, hm, bankGet]
  refine ⟨?_, fun n => by rw [esrc, he]; rfl, fun a => (hbank a).trans (bankGet_bankSet s _ a _)⟩
  rw [htgt, writeClaim, ht, tgt_setTgt]
  rfl

/-! ### Entry with a claim -/

theorem Apart.core_other {s t : State} {c e : Nat} (h : Apart s t c) (he : e ≠ c) : core t e = core s e := h.1.1 e he

/-- Entry where its descriptor reads and the privileged return stack has room, the claim word written after the descriptor. The proof
keeps the definition and the descriptor's address closed, as that of `enterBob_serves` does. -/
theorem enterBob_serves_claim {s s1 s2 : State} {c a w n : Nat} {e : Env} {f : FrameInfo} {loops : List Loop} {cells : List W32}
    {claim : Option W32} {l : List TWord} {d : Desc} (ha : bankAddr (pilOf c) 5 (0x7000 + 4 * n) = a)
    (hcells : loopCellsOf s loops = (cells, s1)) (hdl : (core s c).delay = none) (hstall : bankStall s1 c a e = (w, s2))
    (hread : readDesc s2 c n e.ecc = (some l, s2)) (hrsv : l.any (·.rsv) = false)
    (hdesc : descOf c n (core s c).modes.level (l.map (·.pay)) = some d) (hr : (core s c).rsP.depth ≤ 9) :
    enterBob s c e f n false loops claim =
      spend (setCore (writeClaim s2 c claim) c
        (atEntry (toPriv (core s c) (frameCells s1 c (core s c) cells (core s c).pc none f) 0 0) d d.mask false)) c (16 + w) := by
  have hres : resumePoint (core s c) = ((core s c).pc, none) := by rw [resumePoint, hdl]
  have hroom : ¬ 16 - (core s c).rsP.depth < 7 := by omega
  have hd : ((some l).bind fun l => if l.any (·.rsv) then none else descOf c n (core s c).modes.level (l.map (·.pay))) = some d := by
    rw [Option.bind_some, hrsv, if_neg Bool.false_ne_true, hdesc]
  obtain ⟨E, hE⟩ : ∃ E, E = @enterBob := ⟨_, rfl⟩
  rw [← hE]
  delta enterBob at hE
  rw [hE]
  beta_reduce
  rw [ha]
  simp only [hcells, hres, hstall, hread, hd, if_neg hroom, Bool.false_eq_true, if_false]

theorem loopCellsOf_eic (s : State) (ls : List Loop) : (loopCellsOf s ls).2.eic = s.eic := by
  unfold loopCellsOf
  split
  · rfl
  · split <;> rfl

theorem spend_eic {s : State} {c : Nat} {k : Core} (hc : c ≠ 256) (hd : dbgLevel s = 0) (hk : k.pstate ≠ .off) (n : Nat) :
    (spend (setCore s c k) c n).eic = s.eic := by
  rw [(spend_leaves s c n k hc hd hk).1]
  rfl

/-- A bobbin whose privileged return stack has room enters the handler of an entry that describes one: the frame is pushed, the claim
word is written, and no other core differs. -/
theorem enterBob_claims {s : State} {c n v : Nat} {e : Env} {sw : Bool} {loops : List Loop} {claim : Option W32} {d : Desc}
    (hc : c < 256) (hn : n < 1024) (hd : dbgLevel s = 0) (he : e.ecc = .clean) (hw : e.bankWait ≤ 17)
    (hdesc : Describes s c n (core s c).modes.level d) (hv : v < 2 ^ 10) (hdl : (core s c).delay = none)
    (hr : (core s c).rsP.depth ≤ 9) (hp : (core s c).pstate ≠ .off) :
    let t := enterBob s c e ⟨v, 0, 0, sw, 0, 0⟩ n false loops claim
    ∃ a b z m, (loops = [] → a = 0 ∧ b = 0 ∧ z = 0) ∧
      core t c = charge (atEntry (toPriv (core s c)
        [TWord.nat a, TWord.nat b, TWord.nat z, TWord.nat 0, TWord.nat (w32 (v + at' sw 11)), TWord.nat (statusWord c (core s c)),
          TWord.ofTy .ret (w32 ((core s c).pc % 2 ^ 16))] 0 0) d d.mask false) m ∧
      (∀ e, e ≠ c → core t e = core s e) ∧ t.mem = (writeClaim s c claim).mem ∧ t.eic = (writeClaim s c claim).eic := by
  obtain ⟨a, b, z, hcells, hz⟩ := loopCellsOf_cells s loops
  obtain ⟨h1, -⟩ := loopCellsOf_apart s c loops
  obtain ⟨u, hu, hpage⟩ := bankStall_own (s := (loopCellsOf s loops).2) (e := e) (h1.dbgLevel.trans hd)
    (entryWord_pillow (c := c) (i := 0) hn (by omega)) hw
  have h2 : Apart s u c := h1.trans hpage.apart
  have heic : u.eic = s.eic := by rw [hpage.1]; exact loopCellsOf_eic s loops
  obtain ⟨l, hread, hrsv, hl⟩ := (hdesc.congr h2.mem).read hc
  obtain ⟨hmem', heic'⟩ := writeClaim_congr c claim h2.mem heic
  intro t
  have ht : t = _ := enterBob_serves_claim (claim := claim) (f := ⟨v, 0, 0, sw, 0, 0⟩) (a := entryWord c n 0) rfl (Prod.ext hcells rfl)
    hdl hu (by rw [he]; exact hread) hrsv hl hr
  rw [frameCells_bob hc _ _ _ _ _ _ _ hv] at ht
  have hframe := writeClaim_frame u c claim
  have hbeside (e : Nat) : core (writeClaim u c claim) e = core u e := by rw [hframe]; rfl
  have hdbg : dbgLevel (writeClaim u c claim) = 0 := by rw [hframe]; exact h2.dbgLevel.trans hd
  have hps (fr : List TWord) : (atEntry (toPriv (core s c) fr 0 0) d d.mask false).pstate ≠ .off :=
    atEntry_pstate (k := toPriv (core s c) fr 0 0) hp d d.mask false
  have hspend (fr : List TWord) := spend_apart (Nat.ne_of_lt hc) hdbg _ (16 + e.bankWait) (hps fr)
  rw [ht]
  exact ⟨a, b, z, _, hz, (hspend _).2, fun b hb => ((hspend _).1.core_other hb).trans ((hbeside b).trans (h2.core_other hb)),
    (hspend _).1.mem.trans hmem', (spend_eic (Nat.ne_of_lt hc) hdbg (hps _) _).trans heic'⟩

/-- An asynchronous entry of a bobbin keeps its ESC and its loop state (R287, R289). -/
theorem enter_bob_async {s : State} {c v : Nat} {e : Env} {claim : Option W32} (hc : c < 256) (hd : dbgLevel s = 0)
    (he : e.entry.fetches = []) : enter s c e v 0 0 false claim =
      enterBob (setCore s c (drain (core s c))) c e ⟨v, 0, 0, decide ((core s c).modes.level = .u), 0, 0⟩ v false
        (savedLoops (core s c)) claim := by
  have hs : ¬ c = spindle := Nat.ne_of_lt hc
  have hq (a b n : Nat) (w : W32) :
      traceRec (pmcCount (setCore s c (drain (core s c))) c a n) (some c) 2 b w = setCore s c (drain (core s c)) := by
    rw [pmcCount_quiet _ _ _ _ (by exact hd), traceRec_quiet (by exact hd)]
  simp only [enter, hq, Bool.false_and, Bool.false_eq_true, if_false, sequencer_plain _ c _ _ _ he, ne_eq, not_true_eq_false,
    hs, not_false_eq_true, true_and]

/-- What a bobbin with nothing in flight finds of itself after an asynchronous entry from the core k, whose ESC stays. -/
theorem enteredAs_of_async {k : Core} {fr : List TWord} {d : Desc} {m : Nat} (hf : k.flight = []) :
    EnteredAs k (charge (atEntry (toPriv (drain k) fr 0 0) d d.mask false) m) d d.mask k.esc fr := by
  rw [drain_quiet hf]
  unfold EnteredAs charge
  split <;> simp only [atEntry, toPriv, settledCore, Bool.or_false] <;> rfl

/-- An interrupt of a bobbin that stands still is entered: the frame, the core at its handler, the claim word, and no other core. -/
theorem enter_asynchronous {s : State} {c v : Nat} {e : Env} {claim : Option W32} {d : Desc} (hc : c < 256) (hd : dbgLevel s = 0)
    (hdl : (core s c).delay = none) (hf : (core s c).flight = []) (hp : (core s c).pstate ≠ .off) (hr : (core s c).rsP.depth ≤ 9)
    (he : Enters e) (hv : v < 64) (hdesc : Describes s c v (core s c).modes.level d) :
    let t := enter s c e v 0 0 false claim
    ∃ fr, FrameOf c (core s c) (v + at' (decide ((core s c).modes.level = .u)) 11) (core s c).pc fr ∧
      EnteredAs (core s c) (core t c) d d.mask (core s c).esc fr ∧ (∀ e, e ≠ c → core t e = core s e) ∧
      t.mem = (writeClaim s c claim).mem ∧ t.eic = (writeClaim s c claim).eic := by
  obtain ⟨-, hentry, hecc, hwait⟩ := he
  have hk : core (setCore s c (drain (core s c))) c = drain (core s c) := core_setCore_same _ _ _
  have hq := drain_quiet hf
  obtain ⟨a, b, z, m, hz, hcore, hcores, hmem, heic⟩ := enterBob_claims (s := setCore s c (drain (core s c))) (c := c) (n := v) (v := v)
    (e := e) (sw := decide ((core s c).modes.level = .u)) (loops := savedLoops (core s c)) (claim := claim) (d := d)
    hc (by omega) hd hecc hwait (by rw [hk, hq]; exact hdesc) (by omega) (by rw [hk, hq]; exact hdl)
    (by rw [hk, hq]; exact hr) (by rw [hk, hq]; exact hp)
  obtain ⟨hmem', heic'⟩ := writeClaim_congr (s := s) (t := setCore s c (drain (core s c))) c claim rfl rfl
  rw [hk] at hcore
  have hst : statusWord c (drain (core s c)) = statusWord c (core s c) := by rw [hq]; rfl
  have hpc : (drain (core s c)).pc = (core s c).pc := by rw [hq]
  have hloops : savedLoops (core s c) = (core s c).loops := by rw [savedLoops, hdl]
  rw [hst, hpc] at hcore
  intro t
  rw [show t = _ from enter_bob_async hc hd hentry, hcore]
  exact ⟨_, ⟨a, b, z, rfl, hloops ▸ hz⟩, enteredAs_of_async hf, fun e he => (hcores e he).trans (by rw [core_setCore, if_neg he]),
    hmem.trans hmem', heic.trans heic'⟩

/-! ### Recognition (R193, R286, R287) -/

/-- An interrupt above MASK is admitted where neither a strand of class P nor a step holds it. -/
theorem admitted_bob {s : State} {c n p mask : Nat} (hc : c < 256) (hh : (core s c).haltReq = .none)
    (hr : runsP s (core s c) = false) (h : presented s (c + 1) = some (n, p)) (hm : mask < (p + 1) / 2) :
    admitted s c mask = some (n, p) := by
  have ht : eicTarget c = c + 1 := if_neg (Nat.ne_of_lt hc)
  simp only [admitted, hh, hr, ht, h, intLevel, Bool.and_false, Bool.or_false, Bool.false_eq_true, if_false]
  exact if_pos hm

/-- With nothing in flight the next word samples the present MASK. -/
theorem sampledMask_quiet {c : Nat} {k : Core} (h : k.flight = []) : sampledMask c k = k.modes.mask := by
  rw [sampledMask, h]
  exact ite_self _

/-- A bobbin with no exception before it enters the interrupt that is admitted. -/
theorem execInterruptEntry_bob {s : State} {c n p : Nat} {e : Env} (hc : c < 256) (hrec : canRecognise (core s c) = true)
    (hexc : asyncFirst (core s c) (core s c).modes.mask = false) (hf : (core s c).flight = []) (hs : Stays s c)
    (ha : admitted s c (core s c).modes.mask = some (n, p)) (h : presented s (c + 1) = some (n, p)) :
    execInterruptEntry c e s =
      .next (enter (markClaimed s (c + 1) (n, p)) c e (32 + p) 0 0 false (some (claimWord (n, p)))) := by
  have hd : discardWait s c = s := if_neg (Nat.ne_of_lt hc)
  have hno : ¬ (257 ≤ c ∨ (!canRecognise (core s c) || asyncFirst (core s c) (core s c).modes.mask) = true) := by
    rw [hrec, hexc]
    exact not_or.2 ⟨by omega, Bool.false_ne_true⟩
  simp only [execInterruptEntry, if_neg hno, sampledMask_quiet hf, ha, goesHere_stays hs hf, hd, claimFor_bob hc h]

end Sys2Proof.Machine

namespace Sys2Proof
open Machine

/-- Settles O23. The claim touches the interrupt controller and registers alone, so the entry finds the core, the descriptor and the
room that the premises give. -/
theorem interruptsAreEnteredAndClaimed : Obligations.InterruptsAreEnteredAndClaimed := by
  intro s c n p e d henv k cell hc hstays hd hp hdl hh hf hbud hlbe hrun hpres hmask hp15 hr hdesc
  have hrec : canRecognise k = true := by simp only [canRecognise, hdl, decide_eq_true hp, Bool.and_true]
  have hexc : asyncFirst k k.modes.mask = false := by rw [asyncFirst, hbud, hlbe, Bool.false_and, Bool.or_false]
  have hoff : k.pstate ≠ .off := by rcases hp with h | h | h <;> rw [h] <;> exact nofun
  have hexec : exec (.interruptEntry c e) s = .next _ :=
    execInterruptEntry_bob hc hrec hexc hf hstays (admitted_bob hc hh hrun hpres hmask) hpres
  have hframe := markClaimed_frame s (c + 1) (n, p)
  have hstack := markClaimed_stack s (c + 1) (n, p)
  have hsource := fun hn : n < 1024 => markClaimed_source s (c + 1) (p := (n, p)) hn
  generalize markClaimed s (c + 1) (n, p) = u at hexec hframe hstack hsource
  have hcore (b : Nat) : Machine.core u b = Machine.core s b := by rw [hframe]; rfl
  have hmem : u.mem = s.mem := by rw [hframe]
  have hdbg : dbgLevel u = 0 := by rw [hframe]; exact hd
  obtain ⟨fr, hfr, hentered, hcores, htmem, hteic⟩ := enter_asynchronous (s := u) (c := c) (v := 32 + p) (e := e)
    (claim := some (claimWord (n, p))) (d := d) hc hdbg (by rw [hcore]; exact hdl) (by rw [hcore]; exact hf) (by rw [hcore]; exact hoff)
    (by rw [hcore]; exact hr) henv (by omega) (by rw [hcore]; exact hdesc.congr hmem)
  obtain ⟨htgt, hsrc, hbank⟩ := claim_written hc htmem hteic
  rw [hcore] at hfr hentered
  refine ⟨_, fr, hexec, hfr, hentered, ?_, ?_, fun hn => ?_, ?_, fun b hb => ?_, fun b hb => (hcores b hb).trans (hcore b)⟩
  · rw [htgt]; rfl
  · rw [htgt]; exact hstack
  · rw [hsrc]; exact hsource hn
  · rw [hbank, if_pos rfl]; rfl
  · rw [hbank, if_neg hb, bankGet, bankGet, hmem]

end Sys2Proof
end


section
/-!
SUPPORT. Events of the coherence agent, of the barrier, of cores and of control stores (R192, R209, R210, R221, R228 to R237, R259, R355):
what each command does where its premises hold, and the statement that core events complete.
-/

namespace Sys2Proof.Machine
variable {s : State}

/-! ### Snoops (R228, R232, R233) -/

theorem snoopHeld_iff (s : State) (l : Nat) :
    snoopHeld s l = true ↔ (l2Get s l).st = .fp ∨ s.spn.rsvHold = true ∧ s.spn.rsv = some l := by
  rw [snoopHeld, Bool.or_eq_true, Bool.and_eq_true, decide_eq_true_iff, decide_eq_true_iff]

theorem execSnoopRx_held {l : Nat} {kind : Snoop} (hc : s.spn.connected = true)
    (h : (l2Get s l).st = .fp ∨ s.spn.rsvHold = true ∧ s.spn.rsv = some l) :
    execSnoopRx l kind s = .next { s with spn := { s.spn with snoops := s.spn.snoops ++ [(l, kind)] } } := by
  simp only [execSnoopRx, hc, (snoopHeld_iff s l).2 h, Bool.not_true, Bool.false_eq_true, if_false, if_true]

theorem execSnoopRx_answered {l : Nat} {kind : Snoop} (hc : s.spn.connected = true) (hs : (l2Get s l).st ≠ .fp)
    (hr : s.spn.rsvHold = false ∨ s.spn.rsv ≠ some l) : execSnoopRx l kind s = .next (answerSnoop s l kind) := by
  have h : ¬ snoopHeld s l = true := fun h => by
    rcases (snoopHeld_iff s l).1 h with h | ⟨h1, h2⟩
    · exact hs h
    · rcases hr with g | g
      · exact Bool.false_ne_true (g.symm.trans h1)
      · exact g h2
  simp only [execSnoopRx, hc, h, Bool.not_true, Bool.false_eq_true, if_false]

/-- A line that is not held is answered without data (R232). -/
theorem answerSnoop_unheld {l : Nat} {kind : Snoop} (h : (l2Get s l).st.held = false) :
    answerSnoop s l kind = { s with spn := { s.spn with answered := (l, false) :: s.spn.answered } } := by
  simp only [answerSnoop, h, Bool.not_false, if_true]

/-! ### Fills and writebacks (R229, R230) -/

/-- A good line that finds its place is installed; the word that waits for it, if one does, finds it in L1. -/
theorem execCohFillArrive_installed {l : Nat} {r : CohReq} {t u v : State}
    (hr : s.spn.reqs.find? (fun r => decide (r.line = l) && !r.retried) = some r)
    (hz : ∀ p, s.spn.pend = some p → p.line ≠ l ∨ p.kind ≠ .zero)
    (ht : t = cohAnswered { s with spn := { s.spn with reqs := s.spn.reqs.filter fun x => decide (x.line ≠ l) } })
    (hb : lineBad t l = false) (hu : install t l ⟨if r.own then .e else .s, memLine t l⟩ = some u)
    (hv : u.spn.pend = none ∧ v = u ∨ ∃ p, u.spn.pend = some p ∧ p.line = l ∧ v = l1Put u l ⟨false, memLine t l⟩) :
    execCohFillArrive l s = .next (serveSnoops (drainSb (resume v l true))) := by
  unfold execCohFillArrive
  simp -zeta only [hr]
  extract_lets zero s0 spn s1 waits s2 d
  have hzero : zero = false := by
    cases hq : s.spn.pend with
    | none => simp only [zero, hq]
    | some q => simp only [zero, hq, decide_eq_false fun h : q.line = l ∧ q.kind = .zero => (hz q hq).elim (· h.1) (· h.2)]
  have h1 : s1 = t := by simp only [s1, spn, s0, hzero, ht, Bool.false_eq_true, if_false]
  have hd : d = memLine t l := by simp only [d, hzero, h1, Bool.false_eq_true, if_false]
  rw [h1, hd, hb, if_neg Bool.false_ne_true, hu]
  rcases hv with ⟨hn, rfl⟩ | ⟨p, hp, hl, rfl⟩
  · simp only [hn]
  · simp only [hp, if_pos hl]

theorem execCohWritebackAck_entry {l : Nat} {e : Nat × List Byte} (h : s.spn.wb.find? (fun e => decide (e.1 = l)) = some e) :
    execCohWritebackAck l s = .next (
      let t := physSetList (curePoison s l) (l * 64) e.2
      rsvGone s (drainSb (l2Set { t with spn := { t.spn with wb := t.spn.wb.filter fun x => decide (x.1 ≠ l) } } l L2Line.none))) := by
  simp only [execCohWritebackAck, h]

/-! ### Requests (R231, R234) -/

section
variable {l : Nat} {r : CohReq} (hm : r ∈ s.spn.reqs) (hl : r.line = l) (hr : r.retried = false)
include hm hl hr

/-- A request that is out is held back and counted. -/
theorem execDirectoryRetry_out : execDirectoryRetry l s =
    .next (cohAnswered (modReq (bumpWrap s pgSPN 0x0BC 0) l fun r => { r with retried := true, late := false })) := by
  have h : (s.spn.reqs.any fun r => decide (r.line = l) && !r.retried) = true :=
    List.any_eq_true.2 ⟨r, hm, by rw [hr, decide_eq_true hl]; rfl⟩
  rw [execDirectoryRetry, if_pos h]

/-- A request that is out for 100 µs is late. -/
theorem execCohTimeout_out (ht : r.since + 100 * usN ≤ s.now) :
    execCohTimeout l s = .next (condErr (modReq s l fun r => { r with late := true }) pgSPN 8) := by
  have h : (s.spn.reqs.any fun r => decide (r.line = l ∧ r.since + 100 * usN ≤ s.now) && !r.retried) = true :=
    List.any_eq_true.2 ⟨r, hm, by rw [hr, decide_eq_true ⟨hl, ht⟩]; rfl⟩
  rw [execCohTimeout, if_pos h]

end

/-! ### Stores that fail, cores that disagree, a dead agent (R209, R210, R221, R235 to R237) -/

theorem execLateBusError_oldest {x : SbEnt} {t : List SbEnt} {e : StoreErr} (h : s.spn.sb = x :: t) :
    execLateBusError e s = .next (lateError { s with spn := { s.spn with sb := t } } x (decide (e = .poison))) := by
  simp only [execLateBusError, h]

theorem execSpindleLockstepMismatch_live (h1 : (core s spindle).pstate ≠ .off) (h2 : (core s spindle).pstate ≠ .fenced)
    (h3 : (core s spindle).pstate ≠ .lockedUp) : execSpindleLockstepMismatch s =
      .next (declareDead (raiseErr (modCore s spindle fun k => { k with pstate := .fenced, haltReq := .none }) pgSPN 0)) :=
  congrArg Host.Outcome.next (if_neg (not_or.2 ⟨h1, not_or.2 ⟨h2, h3⟩⟩))

/-- A spindle that is stopped stays with its dead agent until it starts. -/
theorem execDeadAgent_stopped (hc : s.spn.connected = true)
    (h : (core s spindle).pstate = .off ∨ (core s spindle).pstate = .fenced ∨ (core s spindle).pstate = .lockedUp) :
    execDeadAgent s = .next (declareDead s) := by
  simp only [execDeadAgent, hc, if_pos h, Bool.not_true, Bool.false_eq_true, if_false]

theorem execDeadAgent_live (hc : s.spn.connected = true) (h1 : (core s spindle).pstate ≠ .off)
    (h2 : (core s spindle).pstate ≠ .fenced) (h3 : (core s spindle).pstate ≠ .lockedUp) :
    execDeadAgent s = .next (reconnect (declareDead s)) := by
  simp only [execDeadAgent, hc, h1, h2, h3, Bool.not_true, Bool.false_eq_true, or_self, if_false]

/-! ### The barrier and the asynchronous exceptions (R192, R221, R286, R287, R355) -/

theorem execClbAck_idle {b : Nat} (hb : b < 256) (hs : (core s b).strand = none) (hp : (core s b).pstate = .idle) :
    execClbAck b s = .next (clbAck s b) := by
  simp only [execClbAck, hs, hp, Nat.not_le.2 hb, Option.isSome_none, Bool.false_eq_true, false_and, or_self, reduceCtorEq, if_false]

/-- A used budget is entered at a recognition point, unless its handler already deals with it. -/
theorem execExceptionEntry_budget {b : Nat} {e : Env} (hb : b < 256) (hp : (core s b).budgetPend = true)
    (hr : canRecognise (core s b) = true) (hs : (core s b).strand.isSome = true) (hh : budgetHandler (core s b) = false) :
    execExceptionEntry b e s =
      .next (enter (modCore s b fun x => { x with budgetPend := false, budgetOver := true }) b e 13 0 0 false) := by
  have hn : (core s b).strand.isNone = false := by rw [← Option.not_isSome, hs]; rfl
  simp only [execExceptionEntry, if_pos hb, budgetStep, takeBudget, hp, hr, hn, hh, Bool.false_and, Bool.not_true, Bool.or_self,
    Bool.false_eq_true, if_false]

/-- A late bus error is entered at a recognition point whose MASK is below 6. -/
theorem execExceptionEntry_late {e : Env} (hp : (core s spindle).lbePend = true) (hr : canRecognise (core s spindle) = true)
    (hm : (core s spindle).modes.mask < 6) : execExceptionEntry spindle e s =
      .next (enter (modCore (discardWait s spindle) spindle fun x => { x with lbePend := false }) spindle e 12 0 0 false) := by
  have hb : ¬ spindle < 256 := Nat.lt_irrefl 256
  simp only [execExceptionEntry, if_neg hb, takeLate, hp, hr, decide_eq_false (Nat.not_le.2 hm), Bool.not_true, Bool.or_self,
    Bool.false_eq_true, if_false, if_true]

/-! ### Commands of the pages (R200, R241, R267) -/

theorem execSpnCntClr_powered (h : pagePowered s pgSPN = true) :
    execSpnCntClr s = .next ([0x0A8, 0x0AC, 0x0B0, 0x0B4, 0x0B8, 0x0BC].foldl (fun u o => wr u pgSPN o 0) s) := by
  rw [execSpnCntClr, h, Bool.not_true, if_neg Bool.false_ne_true]

theorem execSpnLbeClr_powered (h : pagePowered s pgSPN = true) : execSpnLbeClr s = .next (clearLbe s) := by
  rw [execSpnLbeClr, h, Bool.not_true, if_neg Bool.false_ne_true]

theorem execUcsEccClr_powered (h : pagePowered s pgUCS = true) : execUcsEccClr s = .next (wr s pgUCS 0x0A4 0) := by
  rw [execUcsEccClr, h, Bool.not_true, if_neg Bool.false_ne_true]

section
variable {b : Nat} (hb : b < 256) (h : pagePowered s (pgBOB b) = true)
include hb h

theorem execBobCntClr_powered : execBobCntClr b s =
    .next ([0x090, 0x094, 0x098, 0x09C, 0x0A0, 0x0A4, 0x0A8, 0x0AC, 0x0B0].foldl (fun u o => wr u (pgBOB b) o 0) s) := by
  rw [execBobCntClr, if_neg (Nat.not_le.2 hb), h, Bool.not_true, if_neg Bool.false_ne_true]

theorem execBobIcInv_stopped (hp : (core s b).pstate = .halted ∨ (core s b).pstate = .vacated) :
    execBobIcInv b s = .next (modCore s b fun k => { k with icache := [], lbActive := false, lbCap := false }) := by
  rw [execBobIcInv, if_neg (Nat.not_le.2 hb), h, Bool.not_true, if_neg Bool.false_ne_true]
  exact congrArg Host.Outcome.next (if_pos hp)

end

/-! ### Patches (R259, R262) -/

/-- A patch is read at once in CONFIGURE while the host's clock runs. -/
theorem execUcsLoad_reads (h : pagePowered s pgUCS = true) (hr : rdF s pgUCS 0x0A0 0 4 ≠ 1) (hm : curMode s = .configure)
    (hc : s.hif.hostClock = true) : execUcsLoad s = .next (ucsRead s) := by
  rw [execUcsLoad, h, Bool.not_true, if_neg Bool.false_ne_true, if_neg hr, if_neg (not_not.2 hm), hifDma, if_pos hc, if_pos hc]

/-- A sequencer with power that is inside no routine takes the patch, and the load goes on with the rest of the list. -/
theorem execUcsPatchInstall_idle {n : Nat} {p : Patch} {l rest : List Nat} {t : State} (h : s.ucs.loading = some (p, l)) (hn : n ∈ l)
    (hp : n = 16 ∨ domSt s (384 + n) = .on) (hb : seqBusy s n = false)
    (hrest : rest = (l.filter fun x => decide (x = 16 ∨ domSt s (384 + x) = .on)).filter fun x => decide (x ≠ n))
    (ht : t = { s with ucs := { s.ucs with
      loading := some (p, rest), ram := SMap.set s.ucs.ram none n (some p)
      bad := s.ucs.bad.filter fun a => decide (a / 2 ^ 14 ≠ n ∨ a % 2 ^ 14 < 0x2000) } }) :
    execUcsPatchInstall n s = .next (if rest = [] then patchDone t (decide (n = 16)) p else t) := by
  have hlive : n ∈ l.filter fun x => decide (x = 16 ∨ domSt s (384 + x) = .on) := List.mem_filter.2 ⟨hn, decide_eq_true hp⟩
  have hidle : ¬ (decide (n ∉ l.filter fun x => decide (x = 16 ∨ domSt s (384 + x) = .on)) || seqBusy s n) = true := by
    rw [hb, decide_eq_false (not_not.2 hlive)]
    exact Bool.false_ne_true
  simp only [execUcsPatchInstall, h, if_neg (List.ne_nil_of_mem hlive), if_neg hidle, ← hrest, ← ht]

end Sys2Proof.Machine

namespace Sys2Proof
open Machine

/-- Settles O55, command by command. That a dead agent whose spindle runs reconnects at once is the choice of log entry 114, and that BUDGET is
not entered anew while its handler deals with the strand that of log entry 72. -/
theorem coreEventsComplete : Obligations.CoreEventsComplete := by
  intro s
  refine ⟨fun x t e h => ?_, fun h1 h2 h3 => ?_, fun l kind hc => ⟨fun h => ?_, fun hs hr => ?_, fun hh hs hr => ?_⟩, ?fill,
    fun l e h => ?_, fun l => rfl, fun l r hm hl hr => ⟨?_, fun ht => ?_⟩, rfl, fun hc => ⟨fun h => ?_, fun h1 h2 h3 => ?_⟩,
    fun h => ⟨?_, ?_⟩, fun b hb hs hp => ?_, fun b e hb hp hr hs hh => ?_, fun e hp hr hm => ?_,
    fun b hb h => ⟨?_, fun hp => ?_⟩, fun h => ⟨?_, fun hr hm hc => ?_⟩, ?install⟩
  case fill =>
    intro l r u hr hz t hb hu
    exact ⟨fun hp => execCohFillArrive_installed hr hz rfl hb hu (.inl ⟨hp, rfl⟩),
      fun p hp hl => execCohFillArrive_installed hr hz rfl hb hu (.inr ⟨p, hp, hl, rfl⟩)⟩
  case install =>
    intro n p l h hn hp hb live rest t
    have hinstall : exec (.ucsPatchInstall n) s = .next _ := execUcsPatchInstall_idle h hn hp hb rfl rfl
    exact ⟨fun hr => hinstall.trans (congrArg _ (if_neg hr)), fun hr => hinstall.trans (congrArg _ (if_pos hr))⟩
  · exact execLateBusError_oldest h
  · exact execSpindleLockstepMismatch_live h1 h2 h3
  · exact execSnoopRx_held hc h
  · exact execSnoopRx_answered hc hs hr
  · exact (execSnoopRx_answered hc hs hr).trans (congrArg _ (answerSnoop_unheld hh))
  · exact execCohWritebackAck_entry h
  · exact execDirectoryRetry_out hm hl hr
  · exact execCohTimeout_out hm hl hr ht
  · exact execDeadAgent_stopped hc h
  · exact execDeadAgent_live hc h1 h2 h3
  · exact execSpnCntClr_powered h
  · exact execSpnLbeClr_powered h
  · exact execClbAck_idle hb hs hp
  · exact execExceptionEntry_budget hb hp hr hs hh
  · exact execExceptionEntry_late hp hr hm
  · exact execBobCntClr_powered hb h
  · exact execBobIcInv_stopped hb h hp
  · exact execUcsEccClr_powered h
  · exact execUcsLoad_reads h hr hm hc

end Sys2Proof
end


section
/-!
SUPPORT. GATE once the word in its slot has run (R130, R278 to R282): the slot's word, the checks, the switch, and the statement that gates
start their handler.
-/

namespace Sys2Proof.Machine

/-! ### A word that acts when its core is written -/

/-- What a word of a quiet bobbin leaves that reaches no memory and is no branch: its core and its cycles, its effect on the block, and
the GATE that its slot completes. -/
theorem commit_acts {s : State} {c : Nat} {e : Env} {k k' : Core} {d : Done} {g : Option (Nat × Nat)} (hc : c < 256)
    (hd : dbgLevel s = 0) (hflow : d.flow = .seq 0 ∨ d.flow = .placed) (hf : flowOn c d.k d.flow = (k', g))
    (hacc : d.acc = []) (hstore : d.store = none) (hhost : d.host = []) (hwait : d.wait = 0) (hann : d.annulled = false) :
    commit s c e k d 0 = stepDone
      (let u := d.after (wordEnd s c { k' with lastPc := k.pc, atHandler := false, bpPass := false } d.cycles)
       g.elim u fun p => gate u c e p.1 p.2) c := by
  have hsp : ¬ c = spindle := Nat.ne_of_lt hc
  have hq (x : Core) : dbgLevel (setCore s c x) = 0 := hd
  have hst : d.flow ≠ .stay := by rcases hflow with h | h <;> rw [h] <;> exact nofun
  unfold commit
  simp only [hf, hacc, hstore, hhost, hwait, commitStore, stalls, dataBreaks, bpAddrs, hst, decide_false, if_neg hsp, countWord, hann,
    pmcCount_quiet _ c _ _ (hq _), Bool.false_eq_true, if_false, List.foldl_nil, List.append_nil, Nat.add_zero]
  rcases hflow with h | h <;> rw [h] <;> cases g <;> rfl

/-- The core that a word has read does not matter to what it leaves. -/
theorem wordEnd_setCore {s : State} {c n : Nat} {k k' : Core} (hk : k.pstate ≠ .off) :
    wordEnd (setCore s c k) c k' n = wordEnd s c k' n := by
  rw [wordEnd, setCore_setCore s c k _ hk]
  rfl

/-! ### The word in a gate's slot (R130) -/

/-- A word in the slot of a gate stays where it is and completes the gate. -/
theorem flowOn_gateSlot {c : Nat} {k : Core} {n pc : Nat} (hc : c < 256) (hl : k.late = []) (hb : k.bubbles = 0)
    (hd : k.delay = some (.gate n pc)) : flowOn c k (.seq 0) = ({ k with delay := none, bubbles := 0, late := [] }, some (n, pc)) := by
  have hs : ¬ c = spindle := Nat.ne_of_lt hc
  simp only [flowOn, flowTo, hd, if_neg hs, dueBubbles, hl, hb]
  rfl

/-- A NOP in the slot of a gate leaves its core where it stands, and then the gate acts. -/
theorem nop_gateSlot {s : State} {w : AWord} {n pc : Nat} (q : Still s w.core (some (.gate n pc))) (p : Plain w) :
    exec (.nop w) s =
      .next (stepDone (gate (wordEnd s w.core (placedAt (at_ s w.core) (core s w.core).pc) 1) w.core w.env n pc) w.core) := by
  obtain ⟨hc, hr, hd, -, hdl, -, ⟨-, hl⟩, -⟩ := id q
  have hcalm : Calm w.env := p.2.2.2
  have hnop := nop_done s w p
  have hcommit := commit_acts (s := setCore s w.core (at_ s w.core)) (e := w.env) (k := at_ s w.core) (d := { k := at_ s w.core, ops := 2 })
    hc hd (.inl rfl) (flowOn_gateSlot (k := at_ s w.core) hc hl rfl hdl) rfl rfl rfl rfl rfl
  rw [wordEnd_setCore (k := at_ s w.core) (runs_ne_off s w.core hc hr)] at hcommit
  show Host.Outcome.next (runWord s w.core w.env (fun u k _ => paired w.core w.cond w.ca w.cb .nop w.b w.env u k)) = _
  rw [runWord_quiet s w.core w.env _ q hcalm, hnop, settle_bob _ _ _ _ _ _ _ (Nat.ne_of_lt hc) (by simp)]
  exact congrArg Host.Outcome.next hcommit

/-! ### Budgets (R355) -/

/-- A core with another budget. -/
def rebudget (k : Core) (left : Nat) (pend : Bool) : Core := { k with budgetLeft := left, budgetPend := pend }

@[simp] theorem rebudget_strand (k : Core) (left : Nat) (pend : Bool) : (rebudget k left pend).strand = k.strand := rfl

@[simp] theorem placedAt_strand (k : Core) (pc : Nat) : (placedAt k pc).strand = k.strand := rfl

@[simp] theorem here_strand (k : Core) : (here k).strand = k.strand := rfl

/-- Cycles change a core's budget and nothing else of it. -/
theorem charge_rebudget (k : Core) (n : Nat) : ∃ left pend, charge k n = rebudget k left pend := by
  unfold charge
  split
  · exact ⟨_, _, rfl⟩
  · exact ⟨k.budgetLeft, k.budgetPend, rfl⟩

/-! ### GATE's checks (R278, R279) -/

/-- A descriptor that admits the caller, with its arguments of the signature's types on the stack and room for the entry, passes GATE's
checks. -/
theorem gateChecks_ok {s : State} {c n : Nat} {k : Core} {ecc : Ecc} {l : List TWord} {d : Desc} (hc : c < 256) (hn : 64 ≤ n)
    (hread : readDesc s c n ecc = (some l, s)) (hrsv : l.any (·.rsv) = false) (hdesc : descOf c n k.modes.level (l.map (·.pay)) = some d)
    (hu : k.modes.level = .u → d.uCall = true) (hs : k.modes.level = .s → d.sCall = true) (hroom : gateRoom k d = none)
    (hsig : sigFail (decide (k.modes.level = .u)) d.sig 0 ((List.range d.argc).map k.ds.peek) none = none) :
    gateChecks s c k n ecc = (.ok d, s) := by
  have hsp : ¬ c = spindle := Nat.ne_of_lt hc
  have hcall : ¬ ((k.modes.level = .u ∧ d.uCall = false) ∨ (k.modes.level = .s ∧ d.sCall = false)) := by
    rintro (⟨h, g⟩ | ⟨h, g⟩)
    · exact absurd (hu h) (by rw [g]; exact Bool.false_ne_true)
    · exact absurd (hs h) (by rw [g]; exact Bool.false_ne_true)
  simp only [gateChecks, if_neg (Nat.not_lt.2 hn), hread, hrsv, Bool.false_eq_true, if_false, hdesc, if_neg hcall, if_neg hsp, hroom, hsig]

/-- Room for an entry by GATE. -/
theorem gateRoom_none {k : Core} {d : Desc} (hargs : d.argc ≤ k.ds.depth) (hres : k.ds.depth + (d.resc - d.argc) ≤ 16)
    (hds : (if k.pset || decide (d.level ≠ .u) then k.dsP.depth else k.dsU.depth) + d.argc + d.dsFree ≤ 16)
    (hrs : (if k.pset || decide (d.level ≠ .u) then k.rsP.depth else k.rsU.depth) + 7 + d.rsFree ≤ 16) : gateRoom k d = none := by
  have hset : decide (k.pset = true ∨ d.level ≠ .u) = (k.pset || decide (d.level ≠ .u)) := by
    rw [Bool.decide_or, Bool.decide_eq_true]
  simp only [gateRoom, hset, if_neg (Nat.not_lt.2 hargs), if_neg (Nat.not_lt.2 hrs),
    if_neg (not_or.2 ⟨Nat.not_lt.2 hds, Nat.not_lt.2 hres⟩)]

/-- The room for an entry is that of the stack sets. -/
theorem gateRoom_congr {k k' : Core} {d : Desc} (hset : k'.pset = k.pset) (hdu : k'.dsU = k.dsU) (hru : k'.rsU = k.rsU)
    (hdp : k'.dsP = k.dsP) (hrp : k'.rsP = k.rsP) : gateRoom k' d = gateRoom k d := by
  simp only [gateRoom, Core.ds, Bool.decide_or, Bool.decide_eq_true, hset, hdu, hru, hdp, hrp]

/-! ### GATE's switch (R280, R282) -/

/-- The caller's core k at the handler that d describes: the frame on the return stack of the handler's set, the arguments copied to its
data stack. -/
def gateEntered (k : Core) (d : Desc) (fr : List TWord) : Core :=
  atEntry
    (if k.pset || decide (d.level ≠ .u) then { toPriv k fr d.argc d.resc with dsP := k.dsP.pushAll (k.top d.argc) }
     else { k with rsU := k.rsU.pushAll fr, dsU := k.dsU.pushAll (k.top d.argc) })
    d d.mask false

theorem gateEntered_priv {k : Core} {d : Desc} {fr : List TWord} (h : (k.pset || decide (d.level ≠ .u)) = true) :
    gateEntered k d fr = atEntry { toPriv k fr d.argc d.resc with dsP := k.dsP.pushAll (k.top d.argc) } d d.mask false := by
  rw [gateEntered, if_pos h]

theorem gateEntered_user {k : Core} {d : Desc} {fr : List TWord} (h : (k.pset || decide (d.level ≠ .u)) = false) :
    gateEntered k d fr = atEntry { k with rsU := k.rsU.pushAll fr, dsU := k.dsU.pushAll (k.top d.argc) } d d.mask false := by
  rw [gateEntered, if_neg (Bool.eq_false_iff.1 h)]

theorem gateSwitchBob_entered {s : State} {c n r : Nat} {k : Core} {d : Desc} (hc : c < 256) (hn : n < 1024) :
    ∃ fr, FrameOf c k (n + at' (decide (k.modes.level = .u ∧ d.level ≠ .u)) 11) r fr ∧
      core (gateSwitchBob s c k n d r) c = gateEntered k d fr ∧ Apart s (gateSwitchBob s c k n d r) c := by
  obtain ⟨a, b, z, hcells, hz⟩ := loopCellsOf_cells s k.loops
  obtain ⟨hapart, -⟩ := loopCellsOf_apart s c k.loops
  have h : gateSwitchBob s c k n d r = setCore (loopCellsOf s k.loops).2 c (gateEntered k d
      (frameCells (loopCellsOf s k.loops).2 c k [a, b, z] r none ⟨n, 0, 0, decide (k.modes.level = .u ∧ d.level ≠ .u), 0, 0⟩)) := by
    rw [← hcells]
    rfl
  rw [h, frameCells_bob hc _ _ _ _ _ _ _ hn]
  exact ⟨_, ⟨a, b, z, rfl, hz⟩, core_setCore_same _ _ _, hapart.trans (apart_setCore _ _ _)⟩

/-- GATE whose checks pass makes its switch. The proof keeps the definition and the descriptor's address closed, as that of
`enterBob_serves` does. -/
theorem gate_serves {s s2 : State} {c a w n pc : Nat} {e : Env} {k : Core} {d : Desc} (hc : c < 256) (hn : 64 ≤ n)
    (ha : bankAddr (pilOf c) 5 (0x7000 + 4 * n) = a) (hk : { drain (core s c) with pc := pc, delay := none, bubbles := 0 } = k)
    (hgoes : goesHere (setCore s c k) c = none)
    (hseq : e.seq.fetches = []) (hstall : bankStall (setCore s c k) c a e = (w, s2))
    (hchecks : gateChecks s2 c k n e.ecc = (.ok d, s2)) (hpc : (core s c).pc + 1 < 65536) :
    gate s c e n pc = (fun u => gateSwitchBob u c (core u c) n d ((core s c).pc + 1))
      (longStall (spend s2 c (8 + d.argc - 1 + w)) c (8 + d.argc)) := by
  have hsp : ¬ c = spindle := Nat.ne_of_lt hc
  have hplain : ¬ (c = spindle ∨ n < 64) := not_or.2 ⟨hsp, Nat.not_lt.2 hn⟩
  have hstops (u : State) : gateStops u c e n = false := by
    rw [gateStops, decide_eq_false (fun h => hsp h.1)]
    rfl
  obtain ⟨G, hG⟩ : ∃ G, G = @gate := ⟨_, rfl⟩
  rw [← hG]
  delta gate at hG
  rw [hG]
  beta_reduce
  rw [ha]
  simp only [hk, hgoes, sequencer_plain _ c _ _ _ hseq, hstops, if_neg hplain, hstall, hchecks, if_neg hsp, pushRet, pcStep_bob hc,
    pcWrap_bob hc hpc, reduceCtorEq, Bool.false_eq_true, if_false]

/-! ### Cycles of a core that is written -/

/-- A core that a page's registers have been counted for is still the one written. -/
theorem OnPage.setCore_self {s u : State} {c p : Nat} {k : Core} (h : OnPage (setCore s c k) u p) (hk : k.pstate ≠ .off) :
    setCore u c k = u := by
  rw [h.1]
  exact setCore_setCore { s with regs := u.regs } c k k hk

/-- Cycles charged after counts on the bobbin's page. -/
theorem spend_counted {s u : State} {c n : Nat} {k : Core} (hc : c < 256) (hd : dbgLevel s = 0) (hk : k.pstate ≠ .off)
    (h : OnPage (setCore s c k) u (pgBOB c)) : Apart s (spend u c n) c ∧ core (spend u c n) c = charge k n := by
  have hu := (apart_setCore s c k).trans h.apart
  obtain ⟨hs, hcore⟩ := spend_apart (Nat.ne_of_lt hc) (hu.dbgLevel.trans hd) k n hk
  rw [h.setCore_self hk] at hs hcore
  exact ⟨hu.trans hs, hcore⟩

theorem longStall_apart (s : State) (c n : Nat) :
    Apart s (longStall s c n) c ∧ core (longStall s c n) c = core s c := by
  have hp : OnPage s (longStall s c n) (pgBOB c) := onPage_ite _ (OnPage.refl _ _) (onPage_addWrap _ _ _ _ _ (by omega))
  exact ⟨hp.apart, onPage_core hp c⟩

theorem runs_states {s : State} {c : Nat} (hc : c < 256) (h : runs s c = true) :
    (core s c).pstate = .strand ∨ (core s c).pstate = .system := by
  simpa [runs, Nat.ne_of_lt hc, hc] using h

/-! ### GATE -/

/-- The core k at its GATE word with nothing in flight. -/
def atGate (k : Core) (pc : Nat) : Core := { k with
  flight := [], stale := [], staleNew := [], bubbles := 0, late := [], condNow := snapOf k, pc := pc, delay := none }

theorem drain_atGate {k : Core} (h : k.flight = []) (pc : Nat) :
    { drain k with pc := pc, delay := none, bubbles := 0 } = atGate k pc := by
  rw [drain_quiet h]
  rfl

/-- A gate of a bobbin whose slot is over starts the handler of an entry that admits its caller. -/
theorem gate_entered {s : State} {c n pc : Nat} {e : Env} {d : Desc} (hc : c < 256) (hd : dbgLevel s = 0) (henv : Enters e)
    (hf : (core s c).flight = []) (hp : (core s c).pstate ≠ .off) (hstays : Stays s c) (h64 : 64 ≤ n) (hn : n < 1024)
    (hpc : (core s c).pc + 1 < 65536) (hdesc : Describes s c n (core s c).modes.level d)
    (hu : (core s c).modes.level = .u → d.uCall = true) (hs : (core s c).modes.level = .s → d.sCall = true)
    (hroom : gateRoom (core s c) d = none)
    (hsig : sigFail (decide ((core s c).modes.level = .u)) d.sig 0 ((List.range d.argc).map (core s c).ds.peek) none = none) :
    ∃ fr left pend, FrameOf c (core s c) (n + at' (decide ((core s c).modes.level = .u ∧ d.level ≠ .u)) 11) ((core s c).pc + 1) fr ∧
      core (gate s c e n pc) c = gateEntered (rebudget (atGate (core s c) pc) left pend) d fr ∧ Apart s (gate s c e n pc) c := by
  obtain ⟨hseq, -, hecc, hwait⟩ := henv
  have hG := drain_atGate hf pc
  obtain ⟨s2, hstall, hpage⟩ := bankStall_own (s := setCore s c (atGate (core s c) pc)) (c := c) (b := entryWord c n 0) (e := e) hd
    (entryWord_pillow hn (by omega)) hwait
  have h2 : Apart s s2 c := (apart_setCore s c _).trans hpage.apart
  obtain ⟨l, hread, hrsv, hl⟩ := (hdesc.congr h2.mem).read hc
  have hgoes : goesHere (setCore s c (atGate (core s c) pc)) c = none := by
    refine goesHere_stays (hstays.congr ?_ rfl) ?_ <;> rw [core_setCore_same] <;> rfl
  have hchecks : gateChecks s2 c (atGate (core s c) pc) n e.ecc = (.ok d, s2) := by
    rw [hecc]
    exact gateChecks_ok (k := atGate (core s c) pc) hc h64 hread hrsv hl hu hs hroom hsig
  obtain ⟨h3, hk3⟩ := spend_counted (n := 8 + d.argc - 1 + e.bankWait) (k := atGate (core s c) pc) hc hd hp hpage
  obtain ⟨h4, hk4⟩ := longStall_apart (spend s2 c (8 + d.argc - 1 + e.bankWait)) c (8 + d.argc)
  obtain ⟨left, pend, hk⟩ := charge_rebudget (atGate (core s c) pc) (8 + d.argc - 1 + e.bankWait)
  rw [gate_serves hc h64 rfl hG hgoes hseq hstall hchecks hpc]
  generalize longStall (spend s2 c (8 + d.argc - 1 + e.bankWait)) c (8 + d.argc) = u at h4 hk4
  obtain ⟨fr, hframe, hcore, h5⟩ := gateSwitchBob_entered (s := u) (r := (core s c).pc + 1) (k := core u c) (d := d) hc hn
  rw [hk4, hk3, hk] at hframe hcore h5
  refine ⟨fr, left, pend, hframe, ?_, ?_⟩
  all_goals dsimp only; rw [hk4, hk3, hk]
  · exact hcore
  · exact (h3.trans h4).trans h5

/-- The core k has entered a handler by GATE from the word of its slot and stands as k', its budget apart (R280, R282). -/
def GateEnteredAs (k k' : Core) (d : Desc) (fr : List TWord) : Prop :=
  let priv := k.pset || decide (d.level ≠ .u)
  k' = { settledCore k with
    pc := d.handler
    lastPc := k.pc
    bpPass := false
    modes := { k.modes with level := d.level, mask := d.mask }
    dsP := if priv then k.dsP.pushAll (k.top d.argc) else k.dsP
    rsP := if priv then k.rsP.pushAll fr else k.rsP
    dsU := if priv then k.dsU else k.dsU.pushAll (k.top d.argc)
    rsU := if priv then k.rsU else k.rsU.pushAll fr
    gateReg := if priv ∧ k.modes.level = .u then some ⟨d.argc, d.resc, k.dsP.depth, k.rsP.depth⟩ else k.gateReg
    pset := k.pset || decide (d.level ≠ .u)
    condNow := snapOf { k with
      pset := priv, dsP := if priv then k.dsP.pushAll (k.top d.argc) else k.dsP
      dsU := if priv then k.dsU else k.dsU.pushAll (k.top d.argc) }
    budgetLeft := k'.budgetLeft
    budgetPend := k'.budgetPend }

/-- The core k, in the slot of a gate, back at its GATE word once the slot's word has run, with the budget that is left. -/
def callerAt (k : Core) (pc left : Nat) (pend : Bool) : Core := { k with
  flight := [], stale := [], staleNew := [], bubbles := 0, late := [], condNow := snapOf k, delay := none, pc := pc, lastPc := k.pc
  atHandler := false, bpPass := false, budgetLeft := left, budgetPend := pend }

theorem callerAt_slot (k : Core) (pc left left' : Nat) (pend pend' : Bool) :
    rebudget (atGate (rebudget (placedAt k k.pc) left pend) pc) left' pend' = callerAt k pc left' pend' := by
  have h : snapOf (rebudget (placedAt k k.pc) left pend) = snapOf k := rfl
  rw [atGate, h]
  rfl

@[simp] theorem callerAt_top (k : Core) (pc left n : Nat) (pend : Bool) : (callerAt k pc left pend).top n = k.top n := rfl

/-- The switch is made by the set of the handler. -/
theorem gateEnteredAs_callerAt {k : Core} {d : Desc} {fr : List TWord} {pc left : Nat} {pend : Bool} (h : ¬ k.pstate = .idle) :
    GateEnteredAs k (gateEntered (callerAt k pc left pend) d fr) d fr := by
  rw [GateEnteredAs]
  cases hpriv : k.pset || decide (d.level ≠ .u) with
  | true =>
    rw [gateEntered_priv (k := callerAt k pc left pend) hpriv, callerAt_top]
    simp only [atEntry, toPriv, callerAt, settledCore, snapOf, Core.ds, h, if_true, if_false, true_and, Bool.or_false]
    rfl
  | false =>
    obtain ⟨hset, -⟩ := Bool.or_eq_false_iff.1 hpriv
    rw [gateEntered_user (k := callerAt k pc left pend) hpriv, callerAt_top]
    simp only [atEntry, callerAt, settledCore, snapOf, Core.ds, hset, h, Bool.false_eq_true, if_false, false_and, Bool.or_false]

/-- A gate of a bobbin whose slot's word has left the core k where it stood starts the handler of an entry that admits its caller. -/
theorem gate_fromSlot {s : State} {c n pc left : Nat} {pend : Bool} {e : Env} {k : Core} {d : Desc} (hc : c < 256) (hd : dbgLevel s = 0)
    (henv : Enters e) (hk : core s c = rebudget (placedAt k k.pc) left pend) (hf : k.flight = [])
    (hp : k.pstate = .strand ∨ k.pstate = .system) (hstays : Stays s c) (h64 : 64 ≤ n) (hn : n < 1024) (hpc : k.pc < 65535)
    (hdesc : Describes s c n k.modes.level d) (hu : k.modes.level = .u → d.uCall = true) (hs : k.modes.level = .s → d.sCall = true) (hroom : gateRoom k d = none)
    (hsig : sigFail (decide (k.modes.level = .u)) d.sig 0 ((List.range d.argc).map k.ds.peek) none = none) :
    ∃ fr, FrameOf c k (n + at' (decide (k.modes.level = .u ∧ d.level ≠ .u)) 11) (k.pc + 1) fr ∧
      GateEnteredAs k (core (gate s c e n pc) c) d fr ∧ Apart s (gate s c e n pc) c := by
  have hoff : k.pstate ≠ .off := by rcases hp with h | h <;> rw [h] <;> exact nofun
  have hidle : ¬ k.pstate = .idle := by rcases hp with h | h <;> rw [h] <;> exact nofun
  have hroom' : gateRoom (core s c) d = none := by
    rw [hk]
    exact (gateRoom_congr rfl rfl rfl rfl rfl).trans hroom
  obtain ⟨fr, left', pend', hframe, hcore, hgate⟩ := gate_entered (s := s) (c := c) (n := n) (pc := pc) (e := e) (d := d) hc hd henv
    (by rw [hk]; exact hf) (by rw [hk]; exact hoff) hstays h64 hn (by rw [hk]; exact Nat.succ_lt_succ hpc) (by rw [hk]; exact hdesc)
    (by rw [hk]; exact hu) (by rw [hk]; exact hs) hroom' (by rw [hk]; exact hsig)
  rw [hk] at hframe hcore
  rw [callerAt_slot] at hcore
  exact ⟨fr, hframe, hcore ▸ gateEnteredAs_callerAt hidle, hgate⟩

end Sys2Proof.Machine

namespace Sys2Proof
open Machine

/-- Settles O25. The slot's word leaves the caller's core where it stands; the gate finds the descriptor, the arguments and the room that
its premises give, and switches from the caller's core as it was but for its budget. -/
theorem gatesStartTheirHandler : Obligations.GatesStartTheirHandler := by
  intro s w n pc d q p henv c k args priv hstays h64 hn _ hdesc hu hs hargs hres hds hrs hsig
  obtain ⟨hc, hrun, hd, hhalt, -⟩ := id q
  have hpage := wordEnd_leaves s c 1 (placedAt k k.pc) (Nat.ne_of_lt hc) hd (runs_ne_off s c hc hrun)
  have hexec : exec (.nop w) s = .next (stepDone (gate (wordEnd s c (placedAt k k.pc) 1) c w.env n pc) c) := nop_gateSlot q p
  generalize wordEnd s c (placedAt k k.pc) 1 = u at hpage hexec
  have hslot : Apart s u c := (apart_setCore s c _).trans hpage.apart
  obtain ⟨left, pend, hcharge⟩ := charge_rebudget (placedAt k k.pc) 1
  have hk : Machine.core u c = rebudget (placedAt k k.pc) left pend :=
    ((onPage_core hpage c).trans (core_setCore_same _ _ _)).trans hcharge
  have hstays' : Stays u c := hstays.congr (by rw [hk, rebudget_strand, placedAt_strand, here_strand]) hslot.whrl
  obtain ⟨fr, hframe, hentered, hgate⟩ := gate_fromSlot (pc := pc) hc (hslot.dbgLevel.trans hd) henv hk rfl (runs_states hc hrun)
    hstays' h64 hn q.pc_lt (hdesc.congr hslot.mem) hu hs (gateRoom_none hargs hres hds hrs) hsig
  have hall := hslot.trans hgate
  refine ⟨_, fr, hexec, ?_⟩
  rw [stepDone_quiet _ _ (by rw [hentered]; exact hhalt)]
  exact ⟨hall.1, hall.mem, hframe, hentered⟩

end Sys2Proof
end


section
/-!
SUPPORT. The return from a frame (R177, R281, R282, R295): the frame that RETG reads, the stacks it leaves, the core that it brings
back, and the statement that returns from frames restore their core.
-/

namespace Sys2Proof.Machine

/-! ### What the controller presents -/

/-- What the controller presents to a target rests on its own state, on power and on what registers read. -/
theorem presented_congr {s t : State} (heic : t.eic = s.eic) (hmode : t.mode = s.mode) (hpwr : t.pwr = s.pwr)
    (hrd : ∀ p o, rd t p o = rd s p o) (n : Nat) : presented t n = presented s n := by
  have hpg (p : Nat) : pagePowered t p = pagePowered s p := by
    unfold pagePowered curMode domSt
    rw [hmode, hpwr]
  have hsrc (n : Nat) : esrc t n = esrc s n := by rw [esrc, esrc, heic]
  have htgt : tgt t n = tgt s n := by rw [tgt, tgt, heic]
  have hprio (j : Nat) : privPrio t n j = privPrio s n j := by rw [privPrio, privPrio, rdF, rdF, hrd]
  have hpend (n : Nat) : srcPending t n = srcPending s n := by simp only [srcPending, srcLine, hsrc, hpg, hrd]
  have heff (n : Nat) : effTarget t n = effTarget s n := by rw [effTarget, effTarget, hsrc]
  have hopen : eicOpen t n = eicOpen s n := by simp only [eicOpen, rdB, htgt, hpg, hrd]
  have hrun : runPrio t n = runPrio s n := by rw [runPrio, runPrio, htgt]
  have hq : qualifying t n = qualifying s n := by simp only [qualifying, hpend, heff, hprio, htgt, rdB, hrd, heic]
  rw [presented, presented, hopen, hq, hrun]

/-- Nothing added leaves a counter of two registers as it is read. -/
theorem rd_add64_zero (s : State) (p lo hi irq q o : Nat) : rd (add64 s p lo hi irq 0) q o = rd s q o := by
  have hkey (a b c d : Nat) (h : rkey a b = rkey c d) : rd s a b = rd s c d := by rw [rd, rd, h]
  have hl := (rd s p lo).isLt
  have hh := (rd s p hi).isLt
  have hwrap : ¬ 2 ^ 64 ≤ (rd s p lo).toNat + 2 ^ 32 * (rd s p hi).toNat + 0 := by omega
  rw [add64, if_neg hwrap, rd_wr, rd_wr]
  split
  · next h =>
    rw [hkey _ _ _ _ h]
    refine BitVec.eq_of_toNat_eq ?_
    simp only [w32, BitVec.toNat_ofNat]
    omega
  · split
    · next h =>
      rw [hkey _ _ _ _ h]
      refine BitVec.eq_of_toNat_eq ?_
      simp only [w32, BitVec.toNat_ofNat]
      omega
    · rfl

/-- A word without cycles leaves every register as it is read. -/
theorem rd_wordEnd_zero {s : State} {c : Nat} {k : Core} (hc : c < 256) (hd : dbgLevel s = 0) (p o : Nat) :
    rd (wordEnd s c k 0) p o = rd s p o := by
  have h : wordEnd s c k 0 = spend (setCore s c k) c 0 := rfl
  rw [h, spend_quiet (setCore s c k) c 0 (Nat.ne_of_lt hc) hd]
  split
  · exact rd_add64_zero (setCore s c k) _ _ _ _ _ _
  · exact rd_add64_zero (setCore s c k) _ _ _ _ _ _

/-- Nothing presented is nothing admitted. -/
theorem admitted_none {s : State} {c : Nat} (hc : c < 256) (h : presented s (c + 1) = none) (mask : Nat) : admitted s c mask = none := by
  have ht : eicTarget c = c + 1 := if_neg (Nat.ne_of_lt hc)
  simp only [admitted, ht, h, ite_self]

/-! ### The frame (R281, R283) -/

/-- The core stands on a whole frame of a bobbin without a loop, whose status names a level that its own reaches. -/
def OnFrame (k : Core) : Prop :=
  7 ≤ k.rs.depth ∧ (∀ i < 6, (k.rs.peek (6 - i)).ty = .nat ∧ (k.rs.peek (6 - i)).rsv = false) ∧
    ((k.rs.peek 0).ty = .ret ∧ (k.rs.peek 0).rsv = false ∧ (k.rs.peek 0).pay.toNat < 2 ^ 16) ∧
    (∀ i < 3, (k.rs.peek (6 - i)).pay = 0) ∧ bits (k.rs.peek 1).pay 0 2 ≠ 3 ∧ bits (k.rs.peek 1).pay 0 2 ≤ k.modes.level.code

/-- What RETG takes from the frame on top of a bobbin's return stack. -/
def topFrame (k : Core) : Frame' :=
  ⟨[], [(k.rs.peek 6).pay, (k.rs.peek 5).pay, (k.rs.peek 4).pay],
    if bit (k.rs.peek 2).pay 10 then some (bits (k.rs.peek 2).pay 16 16) else none, (k.rs.peek 2).pay, (k.rs.peek 1).pay,
    (k.rs.peek 0).pay.toNat⟩

theorem OnFrame.read {c : Nat} {k : Core} (hc : c < 256) (h : OnFrame k) :
    ∃ l, frameOn c k = .ok l ∧ readFrame c l = topFrame k := by
  have hsp : ¬ c = spindle := Nat.ne_of_lt hc
  obtain ⟨hd, hcells, ⟨hlt, hlr, hlp⟩, -⟩ := h
  have hlist : ((List.range 7).map fun i => k.rs.peek (7 - 1 - i)) = [k.rs.peek 6, k.rs.peek 5, k.rs.peek 4, k.rs.peek 3, k.rs.peek 2,
    k.rs.peek 1, k.rs.peek 0] := rfl
  have hhi : bits (k.rs.peek 0).pay 16 16 = 0 := by simp only [bits]; omega
  have h0 := hcells 0 (by omega)
  have h1 := hcells 1 (by omega)
  have h2 := hcells 2 (by omega)
  have h3 := hcells 3 (by omega)
  have h4 := hcells 4 (by omega)
  have h5 := hcells 5 (by omega)
  simp only [Nat.sub_zero, Nat.reduceSub] at h0 h1 h2 h3 h4 h5
  refine ⟨[k.rs.peek 6, k.rs.peek 5, k.rs.peek 4, k.rs.peek 3, k.rs.peek 2, k.rs.peek 1, k.rs.peek 0], ?_, ?_⟩
  · simp only [frameOn, if_neg hsp, if_neg (Nat.not_lt.2 hd), hlist]
    simp [h0, h1, h2, h3, h4, h5, hlt, hlr, hhi]
  · simp only [readFrame, if_neg hsp]
    rfl

/-! ### What a return brings back (R281) -/

/-- The core k, whose return from the frame f has left its stacks as in k1, as f brings it back, where p says whether a strand of class P
runs on it. -/
def broughtBack (k k1 : Core) (p : Bool) (f : Frame') : Core :=
  let k2 : Core := { k1 with
    modes := (pModes p k.modes (modesOf f.status)).1, flags := flagsOf f.status, pset := decide (bits f.status 0 2 ≠ 0)
    esc := bit f.status 30, loops := [], pc := if f.slot.isSome then f.slot.getD 0 else f.link
    delay := if f.slot.isSome then some (.branch f.link 0 false) else none, bubbles := 0, atHandler := false }
  { k2 with condNow := snapOf k2 }

theorem arrive_nil (pc : Nat) : arrive 0 pc [] = (pc, []) := rfl

/-- The state in which a bobbin's return has written its core `k` and its cycles; a status that a strand of class P may not have is
warned of (R335). -/
def retgEnds (s : State) (c : Nat) (k : Core) (warn : Bool) : State :=
  let u := longStall (spend (setCore s c k) c 6) c 6
  if warn then warnEvent u (pgBOB c) else u

/-- A bobbin's return from a frame of no loop with nothing admitted. -/
theorem retg_returns {s : State} {c : Nat} {e : Env} {k k1 : Core} {f : Frame'} (hc : c < 256) (hd : dbgLevel s = 0) (hk : core s c = k)
    (h : OnFrame k) (hf : topFrame k = f) (hp : presented s (c + 1) = none) (hst : retStacksBob k f = .ok k1) :
    retg s c e = (.ok (), returned
      (retgEnds s c (broughtBack k k1 (runsP s k) f) (pModes (runsP s k) k.modes (modesOf f.status)).2) c e) := by
  have hsp : ¬ c = spindle := Nat.ne_of_lt hc
  obtain ⟨l, hl, hread⟩ := h.read hc
  rw [hf] at hread
  obtain ⟨-, -, -, hz, hlv, hle⟩ := h
  have hlevel : ¬ (bits f.status 0 2 = 3 ∨ k.modes.level.code < bits f.status 0 2) := by
    rw [← hf]
    exact not_or.2 ⟨hlv, Nat.not_lt.2 hle⟩
  have hloops : loopsOf s (f.loops.getD 0 0) (f.loops.getD 1 0) (f.loops.getD 2 0) = ([], s) := by
    rw [← hf]
    exact if_pos ⟨hz 0 (by omega), hz 1 (by omega), hz 2 (by omega)⟩
  have harr : (if f.slot.isSome then (f.slot.getD 0, ([] : List Loop)) else arrive ([] : List Loop).length f.link []) =
      (if f.slot.isSome then f.slot.getD 0 else f.link, []) := by
    split
    · rfl
    · exact arrive_nil _
  have htr (u : Core) (i j : Nat) (x : W32) : traceRec (setCore s c u) (some c) i j x = setCore s c u :=
    traceRec_quiet (s := setCore s c u) hd _ _ _ _
  have hset : (decide (c ≠ spindle) && decide (bits f.status 0 2 ≠ 0)) = decide (bits f.status 0 2 ≠ 0) := by
    rw [decide_eq_true hsp, Bool.true_and]
  simp only [retg, hk, hl, hread, if_neg hlevel, if_neg hsp, hst, admitted_none hc hp, ite_self, hloops, harr, htr, predictRet, hset]
  rfl

/-- The return's own cycles and a warning leave every other core. -/
theorem retgEnds_cores {s : State} {c : Nat} {k : Core} (hc : c < 256) (hd : dbgLevel s = 0) (hk : k.pstate ≠ .off) (warn : Bool) :
    core (retgEnds s c k warn) c = charge k 6 ∧ (∀ e, e ≠ c → core (retgEnds s c k warn) e = core s e) ∧
      (retgEnds s c k warn).whrl = s.whrl := by
  obtain ⟨h1, hk1⟩ := spend_apart (Nat.ne_of_lt hc) hd k 6 hk
  obtain ⟨h2, hk2⟩ := longStall_apart (spend (setCore s c k) c 6) c 6
  have h := h1.trans h2
  have hw (u : State) (e : Nat) : core (if warn then warnEvent u (pgBOB c) else u) e = core u e := by
    cases warn
    · rfl
    · rw [if_pos rfl, core, warnEvent_cores]
      rfl
  refine ⟨(hw _ c).trans (hk2.trans hk1), fun e he => (hw _ e).trans (h.core_other he), ?_⟩
  unfold retgEnds
  cases warn
  · exact h.whrl
  · rw [if_pos rfl, warnEvent_whrl]
    exact h.whrl

/-- Where nothing waits for the drain point, no overrun for its gate frame and no switch for the runtime's return, RETG is over. -/
theorem returned_cores {s : State} {c : Nat} {e : Env} (hc : c < 256) (hstays : Stays s c) (hf : (core s c).flight = [])
    (hover : (core s c).budgetOver = false) (hsw : (core s c).switch = none) (x : Nat) : core (returned s c e) x = core s x := by
  have hsp : ¬ c = spindle := Nat.ne_of_lt hc
  obtain ⟨u, hu⟩ : ∃ u, u = modCore s c fun k =>
    { k with budgetPend := k.budgetPend || (k.budgetOver && !k.pset), budgetOver := k.budgetOver && k.pset } := ⟨_, rfl⟩
  have hcore (x : Nat) : core u x = core s x := by
    rw [hu, core_modCore]
    split
    · next h =>
      rw [h, hover, Bool.false_and, Bool.false_and, Bool.or_false, ← hover]
    · rfl
  have hgoes : goesHere u c = none :=
    goesHere_stays (hstays.congr (by rw [hcore]) (by rw [hu]; rfl)) (by rw [hcore]; exact hf)
  have h : returned s c e = u := by
    simp only [returned, if_neg hsp, ← hu, hgoes, hcore, hsw]
  rw [h, hcore]

/-! ### The word RETG -/

/-- RETG of a quiet bobbin whose frame passes its checks returns once its core is written. -/
theorem exec_retg {s : State} {w : LWord} (q : Quiet s w.core) (p : PlainL w) (hseq : w.env.seq.fetches = [])
    (hok : (retg (setCore s w.core (drain (at_ s w.core))) w.core w.env).1 = .ok ()) :
    exec (.retg w) s = .next (stepDone (retg (wordEnd s w.core
      { drain (at_ s w.core) with lastPc := (core s w.core).pc, atHandler := false, bpPass := false } 0) w.core w.env).2 w.core) := by
  obtain ⟨hc, hr, hd, -, hdl, -⟩ := id q
  obtain ⟨hcond, hcalm⟩ := p
  have hoff : (at_ s w.core).pstate ≠ .off := runs_ne_off s w.core hc hr
  have hset := setCore_setCore s w.core (at_ s w.core) (drain (at_ s w.core)) hoff
  have hcommit := commit_acts (s := setCore s w.core (drain (at_ s w.core))) (e := w.env) (k := at_ s w.core)
    (d := { k := drain (at_ s w.core), flow := .placed, cycles := 0, after := fun x => (retg x w.core w.env).2 }) (g := none)
    (k' := drain (at_ s w.core)) hc hd (.inr rfl) rfl rfl rfl rfl rfl rfl
  rw [wordEnd_setCore (k := drain (at_ s w.core)) hoff] at hcommit
  have hbody : conditioned w.cond true false (core s w.core).condNow (at_ s w.core) (setCore s w.core (at_ s w.core))
      (if (at_ s w.core).delay.isSome then (.error Exc.il, setCore s w.core (at_ s w.core))
        else routine w.core w.env true (retgRes w.core w.env) (setCore s w.core (at_ s w.core)) (at_ s w.core)) =
      (.ok { k := drain (at_ s w.core), flow := .placed, cycles := 0, after := fun x => (retg x w.core w.env).2 },
        setCore s w.core (drain (at_ s w.core))) := by
    have hdl' : (at_ s w.core).delay = none := hdl
    obtain ⟨v, hret⟩ : ∃ v, retg (setCore s w.core (drain (at_ s w.core))) w.core w.env = (.ok (), v) := ⟨_, Prod.ext hok rfl⟩
    simp only [hcond, conditioned, condCheck, condHolds, hdl', routine, sequencer_plain _ _ _ _ _ hseq, retgRes, hset, hret]
    rfl
  show Host.Outcome.next (runWord s w.core w.env _) = _
  rw [runWord_quiet s w.core w.env _ q hcalm, hbody, settle_bob _ _ _ _ _ _ _ (Nat.ne_of_lt hc) (by simp)]
  exact congrArg Host.Outcome.next hcommit

/-! ### The stacks that a return leaves -/

/-- The stacks' part of a return leaves what else a core holds. -/
theorem retStacksBob_others {k k1 : Core} {f : Frame'} (h : retStacksBob k f = .ok k1) :
    k1.strand = k.strand ∧ k1.pstate = k.pstate ∧ k1.haltReq = k.haltReq ∧ k1.flight = k.flight ∧ k1.budgetOver = k.budgetOver ∧
      k1.switch = k.switch := by
  unfold retStacksBob at h
  dsimp only at h
  split at h
  · split at h
    · cases h
    · split at h
      · cases h
      · cases h
        and_intros <;> rfl
  · cases h
    unfold Core.setRs
    split <;> and_intros <;> rfl

theorem retStacksBob_keep {k : Core} {f : Frame'} (h : bit f.finfo 11 = false) : retStacksBob k f = .ok (k.setRs (k.rs.drop 7)) := by
  simp only [retStacksBob, h, Bool.false_eq_true, if_false]

/-- The core k with the stacks u and p that its results have moved to, the privileged return stack without its frame. -/
def resultsMoved (k : Core) (u p : Stk) : Core := { k with dsU := u, dsP := p, rsP := k.rsP.drop 7, gateReg := none }

theorem retStacksBob_move {k : Core} {f : Frame'} {g : GateReg} {u p : Stk} (h : bit f.finfo 11 = true) (hg : k.gateReg = some g)
    (hm : moveResults (decide (bits f.status 0 2 = 0)) k.dsU k.dsP g.argc g.resc g.d0 16 = .ok (u, p)) :
    retStacksBob k f = .ok (resultsMoved k u p) := by
  simp only [retStacksBob, h, if_true, hg, hm]
  rfl

/-! ### RETG of a core with nothing in flight -/

/-- The core k with nothing in flight, past or before a word as the other arguments say. -/
def drained (k : Core) (last : Nat) (handler pass : Bool) : Core := { k with
  flight := [], stale := [], staleNew := [], bubbles := 0, late := [], condNow := snapOf k, lastPc := last, atHandler := handler
  bpPass := pass }

theorem drain_drained {k : Core} (h : k.flight = []) : drain k = drained k k.lastPc k.atHandler k.bpPass := drain_quiet h

theorem drain_drained_past {k : Core} (h : k.flight = []) (last : Nat) :
    { drain k with lastPc := last, atHandler := false, bpPass := false } = drained k last false false := by
  rw [drain_quiet h]
  rfl

theorem runsP_congr {s t : State} {k k' : Core} (hw : t.whrl = s.whrl) (hk : k'.strand = k.strand) : runsP t k' = runsP s k := by
  unfold runsP strand
  rw [hw, hk]

section
variable {s : State} {c last : Nat} {e : Env} {k k1 : Core} {handler pass : Bool} (hc : c < 256) (hd : dbgLevel s = 0)
  (hk : core s c = drained k last handler pass) (h : OnFrame k) (hp : presented s (c + 1) = none)
  (hst : retStacksBob (drained k last handler pass) (topFrame k) = .ok k1)
include hc hd hk h hp hst

/-- RETG of a core that stands on a frame raises nothing. -/
theorem retg_ok : (retg s c e).1 = .ok () := by
  rw [retg_returns hc hd hk (f := topFrame k) h rfl hp hst]

/-- RETG brings its core back, its budget apart, and leaves every other core. -/
theorem retg_cores (hstays : Stays s c) (hoff : k.pstate ≠ .off) (hover : k.budgetOver = false) (hsw : k.switch = none) :
    (∃ left pend, core (retg s c e).2 c =
      rebudget (broughtBack (drained k last handler pass) k1 (runsP s k) (topFrame k)) left pend) ∧
      ∀ x, x ≠ c → core (retg s c e).2 x = core s x := by
  obtain ⟨hstrand, hstate, -, hflight, hbudget, hswitch⟩ := retStacksBob_others hst
  obtain ⟨left, pend, hcharge⟩ := charge_rebudget (broughtBack (drained k last handler pass) k1 (runsP s k) (topFrame k)) 6
  have hback : (broughtBack (drained k last handler pass) k1 (runsP s k) (topFrame k)).pstate ≠ .off := by
    show k1.pstate ≠ .off
    rw [hstate]
    exact hoff
  obtain ⟨h1, h2, h3⟩ := retgEnds_cores (c := c) hc hd hback
    (pModes (runsP s k) k.modes (modesOf (topFrame k).status)).2
  have hret := retg_returns (e := e) hc hd hk (f := topFrame k) h rfl hp hst
  rw [show runsP s (drained k last handler pass) = runsP s k from rfl] at hret
  rw [hcharge] at h1
  rw [hret]
  have hcores := returned_cores (e := e) hc (hstays.congr (by rw [h1, hk]; exact hstrand) h3) (by rw [h1]; exact hflight)
    (by rw [h1]; exact hbudget.trans hover) (by rw [h1]; exact hswitch.trans hsw)
  exact ⟨⟨left, pend, (hcores c).trans h1⟩, fun x hx => (hcores x).trans (h2 x hx)⟩

end

/-! ### The core that a return has brought back -/

/-- The core m is the core k after its return from the frame it stands on: modes, flags, set and ESC of the frame's status, no loop, and
the frame's link or its open slot (R281); p says whether a strand of class P runs on it. -/
def BackAs (p : Bool) (k m : Core) : Prop :=
  let f := topFrame k
  let open' := bit f.finfo 10
  m.modes = (pModes p k.modes (modesOf f.status)).1 ∧ m.flags = flagsOf f.status ∧ m.loops = [] ∧
    m.pset = decide (bits f.status 0 2 ≠ 0) ∧ m.esc = bit f.status 30 ∧ m.strand = k.strand ∧ m.pstate = k.pstate ∧
    m.pc = (if open' then bits f.finfo 16 16 else f.link) ∧ m.delay = if open' then some (.branch f.link 0 false) else none

/-- The core m has the stacks and the gate-return register of the core k. -/
def StacksAs (k m : Core) : Prop :=
  m.dsU = k.dsU ∧ m.dsP = k.dsP ∧ m.gateReg = k.gateReg ∧ m.rsU = k.rsU ∧ m.rsP = k.rsP

theorem broughtBack_backAs {k k1 : Core} {last left : Nat} {handler pass pend p : Bool}
    (hst : retStacksBob (drained k last handler pass) (topFrame k) = .ok k1) :
    BackAs p k (rebudget (broughtBack (drained k last handler pass) k1 p (topFrame k)) left pend) := by
  obtain ⟨hstrand, hstate, -⟩ := retStacksBob_others hst
  refine ⟨rfl, rfl, rfl, rfl, rfl, hstrand, hstate, ?_, ?_⟩
  all_goals
    by_cases hopen : bit (k.rs.peek 2).pay 10 = true <;> simp [rebudget, broughtBack, topFrame, hopen]

theorem StacksAs.trans {k m n : Core} (h : StacksAs k m) (g : StacksAs m n) : StacksAs k n := by
  obtain ⟨h1, h2, h3, h4, h5⟩ := h
  obtain ⟨g1, g2, g3, g4, g5⟩ := g
  exact ⟨g1.trans h1, g2.trans h2, g3.trans h3, g4.trans h4, g5.trans h5⟩

/-- A core with nothing in flight has the return stack dropped that is its own. -/
theorem stacksAs_setRs (k : Core) (last : Nat) (handler pass : Bool) (x : Stk) :
    StacksAs (k.setRs x) ((drained k last handler pass).setRs x) := by
  unfold Core.setRs drained
  split <;> exact ⟨rfl, rfl, rfl, rfl, rfl⟩

theorem setRs_others (k : Core) (x : Stk) : (k.setRs x).dsU = k.dsU ∧ (k.setRs x).dsP = k.dsP ∧ (k.setRs x).gateReg = k.gateReg := by
  unfold Core.setRs
  split <;> exact ⟨rfl, rfl, rfl⟩

/-- RETG of a quiet bobbin that stands on a frame, with nothing presented to it, brings back its core with the stacks that
the frame leaves. -/
theorem exec_retg_returns {s : State} {w : LWord} {k : Core} {k1 : Core → Core} (q : Quiet s w.core) (p : PlainL w)
    (hseq : w.env.seq.fetches = []) (hstays : Stays s w.core) (hk : at_ s w.core = k) (h : OnFrame k)
    (hp : presented s (w.core + 1) = none) (hsw : k.switch = none) (hover : k.budgetOver = false)
    (hst : ∀ last handler pass, let x := drained k last handler pass; retStacksBob x (topFrame k) = .ok (k1 x)) :
    ∃ t, exec (.retg w) s = .next t ∧ BackAs (runsP s k) k (core t w.core) ∧
      StacksAs (k1 (drained k (core s w.core).pc false false)) (core t w.core) ∧ ∀ x, x ≠ w.core → core t x = core s x := by
  obtain ⟨hc, hr, hd, hhalt, -⟩ := id q
  have hoff : k.pstate ≠ .off := by rw [← hk]; exact runs_ne_off s w.core hc hr
  have hfl : k.flight = [] := by rw [← hk]; rfl
  have hstrand : k.strand = (core s w.core).strand := by rw [← hk]; rfl
  have hhalt' : k.haltReq = .none := by rw [← hk]; exact hhalt
  have hexec := exec_retg q p hseq
  rw [hk, drain_drained_past hfl, drain_drained hfl] at hexec
  have hok := retg_ok (s := setCore s w.core (drained k k.lastPc k.atHandler k.bpPass)) (e := w.env) hc hd (core_setCore_same _ _ _) h
    ((presented_congr rfl rfl rfl (fun _ _ => rfl) _).trans hp) (hst _ _ _)
  have hpage := wordEnd_leaves s w.core 0 (drained k (core s w.core).pc false false) (Nat.ne_of_lt hc) hd hoff
  have hrd := rd_wordEnd_zero (s := s) (k := drained k (core s w.core).pc false false) hc hd
  replace hexec := hexec hok
  generalize wordEnd s w.core (drained k (core s w.core).pc false false) 0 = u at hpage hrd hexec
  have hu : Apart s u w.core := (apart_setCore s w.core _).trans hpage.apart
  have hcore : core u w.core = drained k (core s w.core).pc false false :=
    ((onPage_core hpage _).trans (core_setCore_same _ _ _)).trans (charge_zero _)
  have hpres : presented u (w.core + 1) = none :=
    (presented_congr (by rw [hpage.1]; rfl) (by rw [hpage.1]; rfl) (by rw [hpage.1]; rfl) hrd _).trans hp
  obtain ⟨⟨left, pend, hback⟩, hrest⟩ := retg_cores (e := w.env) hc (hu.dbgLevel.trans hd) hcore h hpres (hst _ _ _)
    (hstays.congr (by rw [hcore]; exact hstrand) hu.whrl) hoff hover hsw
  rw [runsP_congr (k := k) (k' := k) hu.whrl rfl] at hback
  have hquiet : (core (retg u w.core w.env).2 w.core).haltReq = .none := by
    obtain ⟨-, -, hreq, -⟩ := retStacksBob_others (hst _ _ _)
    rw [hback]
    exact hreq.trans hhalt'
  rw [stepDone_quiet _ _ hquiet] at hexec
  refine ⟨_, hexec, ?_, ?_, fun x hx => (hrest x hx).trans (hu.core_other hx)⟩
  all_goals rw [hback]
  · exact broughtBack_backAs (hst _ _ _)
  · exact ⟨rfl, rfl, rfl, rfl, rfl⟩

end Sys2Proof.Machine

namespace Sys2Proof
open Machine

/-- Settles O58. The frame reads back as it was pushed, its stacks are left as its SW bit says, and nothing that waits for the end of a
return acts on the core that it brings back. -/
theorem returnsFromFramesRestoreTheirCore : Obligations.ReturnsFromFramesRestoreTheirCore := by
  intro s w q p hseq hstays c k cell status finfo link h7 hcells hlink hz hlv hle hpres hsw hover open' back
  have hframe : OnFrame k := ⟨h7, hcells, hlink, hz, hlv, hle⟩
  have hback (t : State) (h : BackAs (runsP s k) k (Machine.core t c)) (hrest : ∀ e, e ≠ c → Machine.core t e = Machine.core s e) :
      back t := by
    obtain ⟨hmodes, hflags, hloops, hset, hesc, hstrand, hstate, hpc, hdelay⟩ := h
    exact ⟨hmodes, hflags, hloops, hset, hesc, hstrand, hstate, hpc, hdelay, hrest⟩
  refine ⟨fun hsame => ?_, fun hmoves g u v hg hres => ?_⟩
  · obtain ⟨t, hexec, hb, hstacks, hrest⟩ := exec_retg_returns q p hseq hstays rfl hframe hpres hsw hover
      (k1 := fun y => y.setRs (k.rs.drop 7)) fun _ _ _ => retStacksBob_keep hsame
    obtain ⟨hdu, hdp, hgr, hru, hrp⟩ := (stacksAs_setRs k _ _ _ _).trans hstacks
    obtain ⟨hdu', hdp', hgr'⟩ := setRs_others k (k.rs.drop 7)
    exact ⟨t, hexec, hback t hb hrest, hdu.trans hdu', hdp.trans hdp', hgr.trans hgr', hru, hrp⟩
  · obtain ⟨t, hexec, hb, ⟨hdu, hdp, hgr, hru, hrp⟩, hrest⟩ := exec_retg_returns q p hseq hstays rfl hframe hpres hsw hover
      (k1 := fun y => resultsMoved y u v) fun _ _ _ => retStacksBob_move hmoves hg hres
    exact ⟨t, hexec, hback t hb hrest, hdu, hdp, hgr, hru, hrp⟩

end Sys2Proof
end

section
/-!
SUPPORT. What releasing a strand leaves of the station time (R344, R345): an event that the counter brings about triggers strands, and
neither their publications and outputs nor their messages, migrations and records touch the counter.
-/

namespace Sys2Proof.Machine
variable (s : State)

/-- Steps that leave a part of the state alone leave it alone one after the other. -/
theorem foldl_part {α β : Type} (g : State → β) {f : State → α → State} (h : ∀ u a, g (f u a) = g u) (l : List α) (s : State) :
    g (l.foldl f s) = g s := by
  induction l generalizing s with
  | nil => rfl
  | cons a l ih => rw [List.foldl_cons, ih, h]

theorem foldl_stc {α : Type} {f : State → α → State} (h : ∀ u a, (f u a).stc = u.stc) (l : List α) (s : State) :
    (l.foldl f s).stc = s.stc := foldl_part (·.stc) h l s

theorem ite_stc {s t u : State} (c : Prop) [Decidable c] (h : t.stc = s.stc) (g : u.stc = s.stc) :
    (if c then t else u).stc = s.stc := by
  split
  · exact h
  · exact g

/-! ### Strands, memory and the engine's records -/

@[simp] theorem modStrand_stc (i : Nat) (f : Strand → Strand) : (modStrand s i f).stc = s.stc := by
  unfold modStrand
  split <;> rfl

@[simp] theorem modPly_stc (i j : Nat) (f : Ply → Ply) : (modPly s i j f).stc = s.stc := modStrand_stc _ _ _

@[simp] theorem bankSetList_stc (a : Nat) (l : List TWord) : (bankSetList s a l).stc = s.stc := by
  induction l generalizing s a with
  | nil => rfl
  | cons w l ih => rw [bankSetList, ih, bankSet_stc]

@[simp] theorem physSet_stc (a : Nat) (b : Byte) : (physSet s a b).stc = s.stc := by
  unfold physSet
  split <;> rfl

@[simp] theorem physSetList_stc (a : Nat) (l : List Byte) : (physSetList s a l).stc = s.stc := by
  induction l generalizing s a with
  | nil => rfl
  | cons b l ih => rw [physSetList, ih, physSet_stc]

@[simp] theorem msgDropped_stc : (msgDropped s).stc = s.stc := by
  unfold msgDropped
  split <;> rfl

@[simp] theorem queueMsg_stc (i j : Nat) (m : Msg) : (queueMsg s i j m).stc = s.stc := by
  unfold queueMsg
  split
  · dsimp only
    split <;> simp
  · rfl

@[simp] theorem appendHeld_stc (i : Nat) : (appendHeld s i).stc = s.stc := by
  unfold appendHeld
  split
  · rfl
  · rw [foldl_stc (fun u m => foldl_stc (fun v j => queueMsg_stc v i j m) _ u), modStrand_stc]

@[simp] theorem plyMismatch_stc (i n : Nat) (odd : List Nat) (w : TWord) : (plyMismatch s i n odd w).stc = s.stc := by
  unfold plyMismatch
  split <;> simp

@[simp] theorem traceRec_stc (c : Option Nat) (k p : Nat) (w : W32) : (traceRec s c k p w).stc = s.stc := by
  unfold traceRec
  exact ite_stc _ rfl (ite_stc _ rfl rfl)

@[simp] theorem privEdge_stc (t j : Nat) : (privEdge s t j).stc = s.stc := rfl

@[simp] theorem pmcCount_stc (c e n : Nat) : (pmcCount s c e n).stc = s.stc := by
  unfold pmcCount
  split
  · rfl
  · refine foldl_stc (fun u i => ?_) _ s
    dsimp only
    split
    · split <;> rfl
    · rfl

/-! ### Migrations and the decision log (R392, R406) -/

@[simp] theorem logWrite_stc (r : LogRec) : (logWrite s r).stc = s.stc := by
  unfold logWrite
  dsimp only
  split
  · rfl
  · split
    · simp
    · split <;> simp

@[simp] theorem prckLog_stc (r : LogRec) : (prckLog s r).stc = s.stc := by
  unfold prckLog
  split
  · rfl
  · split
    · exact logWrite_stc s r
    · rfl

@[simp] theorem abortMig_stc (m : Mig) : (abortMig s m).stc = s.stc := by
  unfold abortMig prckLogNow
  exact ite_stc _ (by simp) (by simp)

@[simp] theorem abortMigs_stc (i : Nat) : (abortMigs s i).stc = s.stc := foldl_stc abortMig_stc _ s

/-! ### Messages of plies (R364) -/

@[simp] theorem sendCompare_stc (i n : Nat) (closed : Bool) : (sendCompare s i n closed).stc = s.stc := by
  unfold sendCompare
  split
  · rfl
  · dsimp only
    split
    · rfl
    · split
      · split <;> simp
      · simp
      · simp

@[simp] theorem closeSends_stc (i : Nat) : (closeSends s i).stc = s.stc := by
  unfold closeSends
  split
  · rfl
  · exact foldl_stc (fun u n => sendCompare_stc u i n true) _ s

/-! ### Outputs (R491 to R495) -/

@[simp] theorem setOut_stc (n : Nat) (o : Out) : (setOut s n o).stc = s.stc := rfl
@[simp] theorem freeWord_stc : (freeWord s).2.stc = s.stc := rfl
@[simp] theorem putGroup_stc (n : Nat) (g : Group) : (putGroup s n g).stc = s.stc := rfl
@[simp] theorem closeGroup_stc (n : Nat) (g : Group) : (closeGroup s n g).stc = s.stc := rfl
@[simp] theorem dropGroup_stc (n k : Nat) : (dropGroup s n k).stc = s.stc := rfl

@[simp] theorem drivePin_stc (n sub : Nat) (op : Bool) (cmd : Option TWord) : (drivePin s n sub op cmd).stc = s.stc := by
  unfold drivePin tripSoe
  dsimp only
  split
  · rfl
  · split <;> simp

@[simp] theorem driveOrDefer_stc (n sub : Nat) (op : Bool) (c : TWord) : (driveOrDefer s n sub op c).stc = s.stc := by
  unfold driveOrDefer
  dsimp only
  split <;> simp

@[simp] theorem tripAct_stc (n sub : Nat) (c : TWord) : (tripAct s n sub c).stc = s.stc := by
  unfold tripAct tripSoe
  iterate 3 split; · simp
  split
  · split <;> simp
  · simp

@[simp] theorem tripMatch_stc (n sub : Nat) (c : TWord) (agree : Bool) : (tripMatch s n sub c agree).stc = s.stc := by
  unfold tripMatch
  dsimp only
  split <;> simp

@[simp] theorem tripDiffer_stc (n sub i : Nat) (odd : List Nat) (c : TWord) (agree : Bool) :
    (tripDiffer s n sub i odd c agree).stc = s.stc := by
  unfold tripDiffer
  dsimp only
  iterate 2 split; · simp
  split <;> simp

@[simp] theorem groupStep_stc (i n sub : Nat) (x : Strand) (g : Group) (closed agree : Bool) :
    (groupStep s i n sub x g closed agree).stc = s.stc := by
  unfold groupStep
  dsimp only
  split
  · rfl
  · simp
  · split
    · split <;> split <;> simp
    · split <;> simp

@[simp] theorem groupClose_stc (n k sub : Nat) (agree : Bool) : (groupClose s n k sub agree).stc = s.stc := by
  unfold groupClose
  split
  · split
    · split
      · rfl
      · simp
    · rfl
  · rfl

@[simp] theorem outRelease_stc (n : Nat) : (outRelease s n).stc = s.stc := by
  have hclose : ∀ ks : List Nat, ∀ sub u, (ks.foldl (fun u k => dropGroup (groupClose u n k sub true) n k) u).stc = u.stc :=
    fun ks sub u => foldl_stc (fun v k => by simp) ks u
  unfold outRelease elapsed
  dsimp only
  split
  · simp [hclose]
  · split
    · split
      · split <;> simp [hclose]
      · simp [hclose]
    · simp [hclose]

/-! ### Publications (R484 to R490) -/

@[simp] theorem setPub_stc (slot : Nat) (x : Pub) : (setPub s slot x).stc = s.stc := rfl
@[simp] theorem modLane_stc (k : Nat) (f : Lane → Lane) : (modLane s k f).stc = s.stc := rfl

@[simp] theorem laneQueue_stc (k : Nat) (f : TxFrame) : (laneQueue s k f).stc = s.stc := by
  unfold laneQueue laneCount
  iterate 2 split; · simp
  rfl

@[simp] theorem laneSend_stc (k : Nat) (f : TxFrame) : (laneSend s k f).stc = s.stc := by
  unfold laneSend
  split
  · simp
  · rw [foldl_stc (fun u q => laneQueue_stc u q _)]

@[simp] theorem pubSend_stc (x : Pub) (b : TxBody) : (pubSend s x b).stc = s.stc := by
  have hfree : (free32 s).2.stc = s.stc := rfl
  unfold pubSend
  dsimp only
  iterate 2 split; · simp [hfree]
  simp [hfree]

@[simp] theorem pubFrame_stc (slot : Nat) (x : Pub) (im : List TWord) (tick sub : Nat) :
    (pubFrame s slot x im tick sub).stc = s.stc := by
  unfold pubFrame
  dsimp only
  split
  · rfl
  · split
    · simp
    · split <;> simp

@[simp] theorem pubJudge_stc (slot : Nat) (x : Pub) (y : Strand) (closed agree : Bool) (sub : Nat) :
    (pubJudge s slot x y closed agree sub).stc = s.stc := by
  have hact : ∀ (a b : Bool) (im : List TWord) (tick : Nat), (if a then setPub s slot x else if b then
      pubFrame s slot x im tick sub else raiseErr (setPub s slot x) pgSELV 3).stc = s.stc := fun a b im tick => by
    split
    · rfl
    · split <;> simp
  unfold pubJudge
  split
  · rfl
  · dsimp only
    split
    · rfl
    · simp
    · split
      · split <;> simp [hact]
      · simp [hact]

@[simp] theorem pubRelease_stc (slot : Nat) : (pubRelease s slot).stc = s.stc := by
  have hclose : (pubClose s slot true).stc = s.stc := by
    unfold pubClose
    split
    · rfl
    · split <;> simp
  unfold pubRelease
  dsimp only
  split <;> simp [hclose]

/-! ### Releases (R344, R345) -/

@[simp] theorem release_stc (i tick deadline : Nat) : (release s i tick deadline).stc = s.stc := by
  have hclosed : (closeSends ((outsOf ((pubsOf s i).foldl pubRelease (abortMigs s i)) i).foldl outRelease
      ((pubsOf s i).foldl pubRelease (abortMigs s i))) i).stc = s.stc := by
    rw [closeSends_stc, foldl_stc outRelease_stc, foldl_stc pubRelease_stc, abortMigs_stc]
  unfold release
  split
  · rfl
  · dsimp only
    split
    · exact hclosed
    · rw [foldl_stc (fun u p => by split <;> simp), appendHeld_stc, modStrand_stc, hclosed]

@[simp] theorem trigger_stc (i : Nat) : (trigger s i).stc = s.stc := by
  unfold trigger
  split
  · rfl
  · dsimp only
    split
    · rfl
    · iterate 2 split; · simp
      split <;> simp

@[simp] theorem triggerEvent_stc (kind source : Nat) : (triggerEvent s kind source).stc = s.stc := foldl_stc trigger_stc _ s

end Sys2Proof.Machine
end

section
/-!
SUPPORT. The counter and what shows it (R303 to R306, R315, R317, R325 to R327, R331): what an edge of the always-on clock leaves, what
the commands that move the counter do, and the statements that the counter advances, slews and steps, and that time is shown and
adjusted.
-/

namespace Sys2Proof.Machine
variable {s : State}

/-! ### Registers -/

/-- A write leaves every register of another page or offset. -/
theorem rd_wr_apart {p o q r : Nat} {v : W32} (ho : o < 0x1000) (hr : r < 0x1000) (h : q ≠ p ∨ r ≠ o) :
    rd (wr s p o v) q r = rd s q r := by
  rw [rd_wr_other]
  rw [Ne, rkey_inj hr ho]
  omega

theorem toNat_setField_low (x : W32) {w : Nat} (hw : w ≤ 32) (v : Nat) :
    (setField x 0 w v).toNat = x.toNat / 2 ^ w * 2 ^ w + v % 2 ^ w := by
  have hx : x.toNat / 2 ^ w * 2 ^ w + x.toNat % 2 ^ w = x.toNat := Nat.div_add_mod' _ _
  have hq : (x.toNat / 2 ^ w + 1) * 2 ^ w ≤ 2 ^ 32 := by
    obtain ⟨k, hk⟩ := pow_dvd_pow 2 hw
    have hlt : x.toNat / 2 ^ w < k := Nat.div_lt_of_lt_mul (hk ▸ x.isLt)
    rw [hk, mul_comm]
    exact Nat.mul_le_mul_left _ hlt
  have hv : v % 2 ^ w < 2 ^ w := Nat.mod_lt _ (by positivity)
  rw [setField, bits_low, BitVec.toNat_ofNat, Nat.pow_zero, Nat.mul_one, Nat.mul_one, Nat.mod_eq_of_lt] <;> grind

/-- A field at the foot of a word, replaced, holds what was put there. -/
theorem bits_setField_low (x : W32) {w : Nat} (hw : w ≤ 32) (v : Nat) : bits (setField x 0 w v) 0 w = v % 2 ^ w := by
  rw [bits_low, toNat_setField_low x hw, Nat.mul_add_mod_self_right, Nat.mod_mod]

/-- A field above it stands. -/
theorem bits_setField_above (x : W32) {w lo n : Nat} (hw : w ≤ 32) (h : w ≤ lo) (v : Nat) :
    bits (setField x 0 w v) lo n = bits x lo n := by
  have hq : (x.toNat / 2 ^ w * 2 ^ w + v % 2 ^ w) / 2 ^ w = x.toNat / 2 ^ w := by
    rw [Nat.mul_comm, Nat.mul_add_div (by positivity), Nat.div_eq_of_lt (Nat.mod_lt _ (by positivity)), Nat.add_zero]
  obtain ⟨d, rfl⟩ := Nat.exists_eq_add_of_le h
  rw [bits, bits, toNat_setField_low x hw, pow_add, ← Nat.div_div_eq_div_mul, hq, Nat.div_div_eq_div_mul]

/-! ### An edge of the always-on clock (R303, R304, R305) -/

/-- The counter advanced by the increment of the period that ends. -/
def advanced (s : State) : State := { s with
  now := s.now + clkPeriod s / 2 ^ 28
  stc := { s.stc with cnt := s.stc.cnt + s.stc.incr, adjLeft := s.stc.adjLeft - s.stc.slew } }

/-- The output pulse ended where its time is over or the output is no longer driven. -/
def pulseOver (s : State) : State :=
  if s.stc.ppsOut && (decide (s.stc.ppsOutUntil ≤ s.now) || !ppsOutOn s) then { s with stc := { s.stc with ppsOut := false } } else s

/-- The verdict of the checker of the advance (R589). -/
def advanceChecked (s : State) (agree : Bool) : State := if agree then s else raiseErr s pgSELV 4

theorem loadTime_none (hn : s.stc.setNow = none) (hb : s.stc.stepBy = none) : loadTime s = s := by
  simp only [loadTime, hn, hb]

/-- An edge with no time waiting. -/
theorem execRefInEdge_free (hm : curMode s ≠ .off) (hn : s.stc.setNow = none) (hb : s.stc.stepBy = none) (o : EdgeObs) :
    execRefInEdge o s =
      .next (o.seen.foldl selfCheck (advanceChecked (calibrate (takeIncr (pulseOver (advanced s))) o.calOk) o.agree)) := by
  have hload : loadTime (advanced s) = advanced s := loadTime_none hn hb
  simp only [execRefInEdge, if_neg hm]
  rw [← advanced, hload]
  rfl

theorem pulseOver_none (h : s.stc.ppsOut = false) : pulseOver s = s := if_neg (by simp [h])

/-- INTERP_FAULT arises as the interpolator leaves its range, and ends as it is back (R9, R305). -/
theorem calibrate_eq (ok : Bool) : calibrate s ok =
    if s.clk.onIntOsc = true ∨ s.stc.calBad = !ok then s
    else if ok = true then { s with stc := { s.stc with calBad := false } }
    else raiseErr { s with stc := { s.stc with calBad := true } } pgSTC 7 := by
  cases ok <;> rfl

/-! ### The source of the increment (R21, R304) -/

theorem takeIncr_onIntOsc (h : s.clk.onIntOsc = true) : takeIncr s = { s with stc := { s.stc with incr := s.clk.intOsc, slew := 0 } } := by
  simp only [takeIncr, nextIncr, if_pos h]

@[simp] theorem rd_takeIncr (s : State) (p o : Nat) : rd (takeIncr s) p o = rd s p o := rfl
@[simp] theorem rdB_takeIncr (s : State) (p o n : Nat) : rdB (takeIncr s) p o n = rdB s p o n := rfl

theorem execRefInLost_onRef (hm : curMode s ≠ .off) (h : s.clk.onIntOsc = false) : execRefInLost s = .next (takeIncr (raiseIrq
    (condErr { s with clk := { s.clk with onIntOsc := true }, stc := { s.stc with traceable := false } } pgSTC 0) pgCLK 0)) := by
  rw [execRefInLost, if_neg (by simp [hm, h])]

theorem execRefInReturn_onIntOsc (hm : curMode s ≠ .off) (h : s.clk.onIntOsc = true) : execRefInReturn s =
    .next (takeIncr (raiseIrq (stcResume (condEnd { s with clk := { s.clk with onIntOsc := false } } pgSTC 0)) pgCLK 0)) := by
  rw [execRefInReturn, if_neg (by simp [hm, h])]

/-- The state of a counter whose sources are as its state tells does not change as REF_IN returns. -/
theorem stcResume_settled (h : s.stc.st = .unset ∨ ((s.stc.st = .locked ∨ s.stc.st = .acquiring) ∧ s.stc.src ≠ 0 ∧
    s.stc.disagree = false) ∨ ((s.stc.st = .freeRun ∨ s.stc.st = .holdover) ∧ (s.stc.src = 0 ∨ s.stc.disagree = true))) :
    stcResume s = s := by
  obtain h | ⟨h | h, hsrc, hdis⟩ | ⟨h | h, hsrc⟩ := h
  · simp only [stcResume, h]
  · simp only [stcResume, h, hsrc, hdis, Bool.false_eq_true, or_self, if_false]
  · simp only [stcResume, h, hsrc, hdis, Bool.false_eq_true, if_false]
  all_goals
    simp only [stcResume, h]
    exact if_neg (by simpa [or_iff_not_imp_left] using hsrc)

/-! ### Commands that move the counter (R315 to R317, R325) -/

theorem execStcAdjWrite_asked (hm : curMode s ≠ .off) (h1 : stcMode s ≠ 1) (h2 : stcMode s ≠ 2) (v : W32) :
    execStcAdjWrite v s = .next (if slewLimit s < v.toInt.natAbs * 16 then askStep s (v.toInt * nsU)
      else { s with stc := { s.stc with adjLeft := s.stc.adjLeft + v.toInt * nsU } }) := by
  rw [execStcAdjWrite, if_neg hm, if_neg (not_or.2 ⟨h1, h2⟩)]

theorem execStcAdjWrite_refused (hm : curMode s ≠ .off) (h : stcMode s = 1 ∨ stcMode s = 2) (v : W32) :
    execStcAdjWrite v s = .next (warnEvent s pgSTC) := by
  rw [execStcAdjWrite, if_neg hm, if_pos h]

section
variable (hm : curMode s ≠ .off)
include hm

theorem execStcSetNow_inRange (h : rdF s pgSTC 0x0C8 0 30 ≤ 999999999) : execStcSetNow s =
    .next { s with stc := { s.stc with setNow := some (setSec s, rdF s pgSTC 0x0C8 0 30) } } := by
  rw [execStcSetNow, if_neg hm, if_neg (Nat.not_lt.2 h)]

theorem execStcSetAtEdge_inRange (h : rdF s pgSTC 0x0C8 0 30 ≤ 999999999) :
    execStcSetAtEdge s = .next { s with stc := { s.stc with setEdge := some (setSec s) } } := by
  rw [execStcSetAtEdge, if_neg hm, if_neg (Nat.not_lt.2 h)]

theorem execStcSetNow_refused (h : 999999999 < rdF s pgSTC 0x0C8 0 30) : execStcSetNow s = .next (warnEvent s pgSTC) := by
  rw [execStcSetNow, if_neg hm, if_pos h]

theorem execStcSetAtEdge_refused (h : 999999999 < rdF s pgSTC 0x0C8 0 30) : execStcSetAtEdge s = .next (warnEvent s pgSTC) := by
  rw [execStcSetAtEdge, if_neg hm, if_pos h]

/-! ### What shows the counter (R305, R306, R327, R331) -/

theorem execStcSnap_powered (sub : Nat) : execStcSnap sub s = .next (
    let c := cntAt s sub
    wr (wr (wr (wr s pgSTC 0x0CC (w32 (secOf c / 2 ^ 32))) pgSTC 0x0D0 (w32 (secOf c))) pgSTC 0x0D4 (w32 (nsOf c)))
      pgSTC 0x0D8 (w32 (fracOf c))) := by
  rw [execStcSnap, if_neg hm]

theorem execStcCntClr_powered : execStcCntClr s = .next (wrF (wrF s pgSTC 0x0E8 0 16 0) pgSTC 0x0EC 0 16 0) := by
  rw [execStcCntClr, if_neg hm]

theorem execPpsOutPulse_due (hon : ppsOutOn s = true)
    (hc : (phaseErr (s.stc.cnt + (BitVec.ofNat 16 (rdF s pgSTC 0x100 16 16)).toInt * nsU)).natAbs ≤ s.stc.incr) :
    execPpsOutPulse s =
      .next { s with stc := { s.stc with ppsOut := true, ppsOutUntil := s.now + rdF s pgSTC 0x100 0 10 * msN } } := by
  simp only [execPpsOutPulse]
  rw [if_pos ⟨hm, hon, hc⟩]

end

theorem ppsOutOn_iff : ppsOutOn s = true ↔ s.stc.st = .locked ∨ s.stc.st = .holdover ∨ rdB s pgSTC 0x080 3 = true := by
  rw [ppsOutOn, Bool.or_eq_true, decide_eq_true_iff, or_assoc]

/-- The leap second at LEAP_AT (R326): forward with bit 16 of the register, else back. -/
theorem execLeapApply_due (hs : secOf s.stc.cnt = rdF s pgSTC 0x0E4 0 16 * 2 ^ 32 + (rd s pgSTC 0x0E0).toNat)
    (hf : rdB s pgSTC 0x0DC 16 = true ∨ rdB s pgSTC 0x0DC 17 = true) : execLeapApply s = .next (raiseIrq (wr s pgSTC 0x0DC
      (w32 ((rdF s pgSTC 0x0DC 0 16 + if rdB s pgSTC 0x0DC 16 then 1 else 65535) % 65536))) pgSTC 4) := by
  have hdue : ((bit (rd s pgSTC 0x0DC) 16 || bit (rd s pgSTC 0x0DC) 17) &&
      decide (secOf s.stc.cnt = rdF s pgSTC 0x0E4 0 16 * 2 ^ 32 + (rd s pgSTC 0x0E0).toNat)) = true :=
    Bool.and_eq_true_iff.2 ⟨Bool.or_eq_true_iff.2 hf, decide_eq_true hs⟩
  simp only [execLeapApply, if_pos hdue]
  rfl

end Sys2Proof.Machine

namespace Sys2Proof
open Machine

/-- Settles O29, one clause for each command; of REF_IN's return the state is settled, so that it stays (`stcResume_settled`). -/
theorem theCounterAdvancesSlewsAndSteps : Obligations.TheCounterAdvancesSlewsAndSteps := by
  intro s hm
  refine ⟨fun o hn hb hp => ?_, rfl, fun v h1 h2 => execStcAdjWrite_asked hm h1 h2 v, fun v h => execStcAdjWrite_refused hm h v,
    fun h => ⟨execStcSetNow_inRange hm h, execStcSetAtEdge_inRange hm h⟩,
    fun h => ⟨execStcSetNow_refused hm h, execStcSetAtEdge_refused hm h⟩, fun h => ?_, fun h => ⟨execRefInReturn_onIntOsc hm h, ?_⟩⟩
  · refine (execRefInEdge_free hm hn hb o).trans ?_
    rw [pulseOver_none (s := advanced s) hp, calibrate_eq]
    rfl
  · refine ⟨_, execRefInLost_onRef hm h, ?_⟩
    rw [takeIncr_onIntOsc (by simp)]
    refine ⟨by simp, by simp, ?_, rdB_raiseIrq_same _ _ (by omega), ?_⟩
    · refine (rdB_raiseIrq_other (s := condErr _ pgSTC 0) _ _ _ _ _ (by omega) (by omega)).trans ?_
      exact rdB_condErr_live _ _ _ _ (by omega)
    · rw [condErr_frame]
      rfl
  · intro x hx
    refine ⟨_, execRefInReturn_onIntOsc hm h, ?_⟩
    rw [stcResume_settled (by exact hx)]
    refine ⟨rfl, rfl, rfl, rfl, ?_, rdB_raiseIrq_same _ _ (by omega), rfl⟩
    rw [rdB_takeIncr, rdB_raiseIrq_other _ _ _ _ _ (by omega) (by omega)]
    exact rdB_condEnd_live _ _ (by omega)

/-- Settles O30, one clause for each command. -/
theorem timeIsShownAndAdjusted : Obligations.TimeIsShownAndAdjusted := by
  intro s hm
  refine ⟨fun sub => execStcSnap_powered hm sub, ⟨_, execStcCntClr_powered hm, ?_⟩, fun hs => ⟨fun hf => ?_, fun hn hf => ?_⟩,
    fun hon hc => execPpsOutPulse_due hm (ppsOutOn_iff.2 hon) hc⟩
  · have hfirst : rd (wrF (wrF s pgSTC 0x0E8 0 16 0) pgSTC 0x0EC 0 16 0) pgSTC 0x0E8 = setField (rd s pgSTC 0x0E8) 0 16 0 := by
      rw [wrF, rd_wr_apart (by omega) (by omega) (by omega), rd_wrF]
    have hsecond : rd (wrF (wrF s pgSTC 0x0E8 0 16 0) pgSTC 0x0EC 0 16 0) pgSTC 0x0EC = setField (rd s pgSTC 0x0EC) 0 16 0 := by
      rw [rd_wrF, wrF, rd_wr_apart (by omega) (by omega) (by omega)]
    simp only [rdF, hfirst, hsecond, bits_setField_low _ (show 16 ≤ 32 by omega), bits_setField_above _ (show 16 ≤ 32 by omega) le_rfl,
      true_and]
    refine ⟨rfl, rfl, rfl, fun q o ho h => ?_⟩
    rw [wrF, rd_wr_apart (by omega) ho (by omega), wrF, rd_wr_apart (by omega) ho (by omega)]
  · refine (execLeapApply_due hs (.inl hf)).trans ?_
    rw [if_pos hf]
  · refine (execLeapApply_due hs (.inr hf)).trans ?_
    rw [if_neg (by simp [hn])]

end Sys2Proof
end

section
/-!
SUPPORT. The inputs of the station time (R310 to R314, R319, R321, R323, R324, R333): which source is selected, what an accepted edge
and a decoded frame leave, and the statement that time inputs discipline the counter.
-/

namespace Sys2Proof.Machine
variable {s : State}

/-! ### Pulse sources -/

@[simp] theorem tsrc_setTsrc (s : State) (n : Nat) (x : TSrc) : tsrc (setTsrc s n x) n = x :=
  match n with | 0 | 1 | 2 | _ + 3 => rfl

@[simp] theorem setTsrc_setTsrc (s : State) (n : Nat) (x y : TSrc) : setTsrc (setTsrc s n x) n y = setTsrc s n y :=
  match n with | 0 | 1 | 2 | _ + 3 => rfl

/-- A pulse source replaced changes the three sources alone. -/
theorem setTsrc_frame (s : State) (n : Nat) (x : TSrc) : setTsrc s n x = { s with stc := { s.stc with
    pps0 := (setTsrc s n x).stc.pps0, pps1 := (setTsrc s n x).stc.pps1, irig := (setTsrc s n x).stc.irig } } :=
  match n with | 0 | 1 | 2 | _ + 3 => rfl

@[simp] theorem setTsrc_regs (s : State) (n : Nat) (x : TSrc) : (setTsrc s n x).regs = s.regs := by rw [setTsrc_frame]
@[simp] theorem setTsrc_now (s : State) (n : Nat) (x : TSrc) : (setTsrc s n x).now = s.now := by rw [setTsrc_frame]
@[simp] theorem setTsrc_clk (s : State) (n : Nat) (x : TSrc) : (setTsrc s n x).clk = s.clk := by rw [setTsrc_frame]
@[simp] theorem rd_setTsrc (s : State) (n : Nat) (x : TSrc) (p o : Nat) : rd (setTsrc s n x) p o = rd s p o := by
  simp only [rd, setTsrc_regs]
@[simp] theorem cntAt_setTsrc (s : State) (n : Nat) (x : TSrc) (sub : Nat) : cntAt (setTsrc s n x) sub = cntAt s sub := by
  rw [setTsrc_frame]
  rfl

/-! ### The selected source (R312, R318, R319) -/

theorem stcMode_congr {t : State} (h : rd t pgSTC 0x080 = rd s pgSTC 0x080) : stcMode t = stcMode s := by
  simp only [stcMode, rdF, h]

theorem stcSelect_same (h : chooseSource s = s.stc.src) : stcSelect s = s := by
  simp only [stcSelect]
  exact if_pos h

/-- In free run no source is selected (R312). -/
theorem stcSelect_freeRun (hm : stcMode s = 0) (hsrc : s.stc.src = 0) : stcSelect s = s := by
  refine stcSelect_same ?_
  simp only [chooseSource, bestSource, hm, true_or, if_true, hsrc]

section
variable {n : Nat} (hp : prioList s = [n, 0, 0, 0]) (hsrc : s.stc.src = n) (h0 : n ≠ 0)
include hp hsrc h0

/-- The first source of the list stays selected while it is qualified (R319). -/
theorem stcSelect_first (hm : stcMode s = 1) (h4 : n < 4) (hq : (tsrc s n).qual = true) : stcSelect s = s := by
  have hqual : srcQual s n = true := by simp only [srcQual, if_neg h0, if_neg (Nat.ne_of_lt h4), if_pos h4, hq]
  refine stcSelect_same ?_
  simp [chooseSource, hm, hsrc, hqual, hp, Nat.ne_of_lt h4]

/-- With no second source in the list nothing is compared (R320). -/
theorem crossCheck_alone : crossCheck s = s := by
  have halt : altSource s = 0 := by simp [altSource, hp, hsrc, srcQual, h0]
  simp only [crossCheck, halt, true_or, if_true]

end

/-! ### An accepted edge (R310, R311, R313) -/

/-- The source of an accepted edge: the row of edges that it makes, its qualification and its phase. -/
def acceptedSrc (s : State) (n sub : Nat) (c : Int) : TSrc :=
  let x := tsrc s n
  let next := match x.lastEdge with
    | some l => decide ((c - l - secU).natAbs ≤ ppsWindow s)
    | none => false
  let run := if next then x.run + 1 else 1
  let q := x.qual || decide (lockCount s ≤ run)
  { x with
    lastEdge := some c, seenAt := s.now + sub, run := run, bad := 0, out := [], qual := q
    qualAt := if q && !x.qual then s.now + sub else x.qualAt, phase := phase16 c }

/-- The state with it, where the fault of a PPS input that is qualified has ended. -/
def accepted (s : State) (n sub : Nat) (c : Int) : State :=
  let t := setTsrc s n (acceptedSrc s n sub c)
  if n = 1 ∧ (acceptedSrc s n sub c).qual then condEnd t pgSTC 1
  else if n = 2 ∧ (acceptedSrc s n sub c).qual then condEnd t pgSTC 2 else t

theorem accepted_pps {n : Nat} (hn : n = 1 ∨ n = 2) (sub : Nat) (c : Int) :
    accepted s n sub c = if (acceptedSrc s n sub c).qual then condEnd (setTsrc s n (acceptedSrc s n sub c)) pgSTC n
      else setTsrc s n (acceptedSrc s n sub c) := by
  obtain rfl | rfl := hn
  · simp [accepted]
  · simp [accepted]

/-- An accepted edge changes the sources and one register, ERR_LIVE. -/
theorem accepted_frame (s : State) (n sub : Nat) (c : Int) : accepted s n sub c = { s with
    regs := (accepted s n sub c).regs, stc := (setTsrc s n (acceptedSrc s n sub c)).stc } := by
  rw [accepted]
  split
  · rw [setTsrc_frame]; rfl
  · split
    · rw [setTsrc_frame]; rfl
    · rw [setTsrc_frame]

theorem rd_accepted (n sub : Nat) (c : Int) {q o : Nat} (ho : o < 0x1000) (h : q ≠ pgSTC ∨ o ≠ 0x014) :
    rd (accepted s n sub c) q o = rd s q o := by
  rw [accepted]
  split
  · rw [rd_condEnd_other _ _ _ _ ho h, rd_setTsrc]
  · split
    · rw [rd_condEnd_other _ _ _ _ ho h, rd_setTsrc]
    · exact rd_setTsrc _ _ _ _ _

@[simp] theorem tsrc_accepted (n sub : Nat) (c : Int) : tsrc (accepted s n sub c) n = acceptedSrc s n sub c := by
  have h : tsrc (accepted s n sub c) n = tsrc (setTsrc s n (acceptedSrc s n sub c)) n := by
    rw [accepted_frame]
    rfl
  rw [h, tsrc_setTsrc]

/-- What the edge of the selected source brings, after the cross-check (R313, R325). -/
def edgeServed (s : State) (c : Int) : State :=
  match s.stc.setEdge with
  | some sec => setAtEdge s sec c
  | none => discipline s c

theorem acceptEdge_eq (s : State) (n sub : Nat) (c : Int) : acceptEdge s n sub c =
    if (stcSelect (accepted s n sub c)).stc.src ≠ n then stcSelect (accepted s n sub c)
    else edgeServed (crossCheck (stcSelect (accepted s n sub c))) c := rfl

/-- An edge of the selected source, with nothing to compare and no time waiting, disciplines the counter. -/
theorem acceptEdge_selected {n sub : Nat} {c : Int} (hsel : stcSelect (accepted s n sub c) = accepted s n sub c)
    (hcross : crossCheck (accepted s n sub c) = accepted s n sub c) (hsrc : (accepted s n sub c).stc.src = n)
    (hset : (accepted s n sub c).stc.setEdge = none) : acceptEdge s n sub c = discipline (accepted s n sub c) c := by
  rw [acceptEdge_eq, hsel, if_neg (not_not.2 hsrc), hcross, edgeServed, hset]

/-- A long pulse of a source that is not qualified, or in its window, is accepted (R310, R311). -/
theorem pulseEdge_accepts {n sub : Nat} {c : Int} (h : (tsrc s n).qual = false ∨ inWindow s (tsrc s n) c = true) :
    pulseEdge s n sub c true = acceptEdge s n sub c := by
  have hin : ((tsrc s n).qual && !inWindow s (tsrc s n) c) = false := by
    obtain h | h := h <;> simp [h]
  simp [pulseEdge, hin]

theorem inWindow_congr {t : State} (h : rd t pgSTC 0x098 = rd s pgSTC 0x098) (x : TSrc) (c : Int) :
    inWindow t x c = inWindow s x c := by
  have hw : ppsWindow t = ppsWindow s := by simp only [ppsWindow, rdF, h]
  rw [inWindow, hw, inWindow]

/-- In free run an edge of a source is accepted, and no more (R312). -/
theorem acceptEdge_freeRun {n : Nat} (hn : n ≠ 0) (hm : stcMode s = 0) (hsrc : s.stc.src = 0) (sub : Nat) (c : Int) :
    acceptEdge s n sub c = accepted s n sub c := by
  have hmode : stcMode (accepted s n sub c) = 0 := (stcMode_congr (rd_accepted _ _ _ (by omega) (by omega))).trans hm
  have hsrc' : (accepted s n sub c).stc.src = 0 := by
    rw [accepted_frame, setTsrc_frame]
    exact hsrc
  have hsel := stcSelect_freeRun hmode hsrc'
  rw [acceptEdge_eq, hsel, if_pos (by rw [hsrc']; exact hn.symm)]

/-! ### Changes of registers and of the counter -/

theorem stc_trans {t u : State} (h : t = { s with regs := t.regs, stc := t.stc }) (g : u = { t with regs := u.regs, stc := u.stc }) :
    u = { s with regs := u.regs, stc := u.stc } := by
  rw [g, h]

/-! ### The discipline (R312 to R316) -/

/-- An error below UNLOCK_THR keeps LOCKED (R314). -/
theorem lockStep_locked {e : Int} (hst : s.stc.st = .locked) (he : e.natAbs ≤ unlockThr s) :
    lockStep s e = { s with stc := { s.stc with unlockRun := 0 } } := by
  simp only [lockStep, hst]
  exact if_neg (Nat.not_lt.2 he)

/-- What an alignment by `d` leaves, after the phase `v` of its edge has been noted. -/
theorem align_noted (s : State) (v : W32) (d : Int) :
    let t := align { wr s pgSTC 0x0A8 v with stc := { s.stc with unlockRun := 0 } } d
    t.stc.cnt = moved d s.stc.cnt ∧ rd t pgSTC 0x0A8 = v ∧ t.stc.st = s.stc.st ∧ t.stc.src = s.stc.src ∧
      t = { s with regs := t.regs, stc := t.stc } :=
  ⟨rfl, rd_wr_same s _ _ _, rfl, rfl, rfl⟩

/-- A locked counter in mode 1 is aligned with an edge whose error is within SLEW_LIMIT (R312, R315). -/
theorem discipline_aligns {c : Int} (hm : stcMode s = 1) (hst : s.stc.st = .locked) (ho : s.clk.onIntOsc = false)
    (hd : s.stc.disagree = false) (hu : (phase16 c).natAbs ≤ unlockThr s) (hl : (phase16 c).natAbs ≤ slewLimit s) :
    discipline s c = align { wr s pgSTC 0x0A8 (satReg (phase16 c)) with stc := { s.stc with unlockRun := 0 } } (-(phaseErr c)) := by
  have hr {o : Nat} (h : o < 0x0A8) : rd (wr s pgSTC 0x0A8 (satReg (phase16 c))) pgSTC o = rd s pgSTC o :=
    rd_wr_apart (by omega) (by omega) (by omega)
  have hmode : stcMode { wr s pgSTC 0x0A8 (satReg (phase16 c)) with stc := { s.stc with unlockRun := 0 } } = 1 :=
    (stcMode_congr (hr (by omega))).trans hm
  have hlim : slewLimit { wr s pgSTC 0x0A8 (satReg (phase16 c)) with stc := { s.stc with unlockRun := 0 } } = slewLimit s :=
    congrArg (fun x => bits x 0 20 * 16) (hr (show 0x094 < 0x0A8 by omega))
  have hthr : unlockThr (wr s pgSTC 0x0A8 (satReg (phase16 c))) = unlockThr s :=
    congrArg (fun x => bits x 16 16 * 16) (hr (show 0x090 < 0x0A8 by omega))
  have hstep := lockStep_locked (s := wr s pgSTC 0x0A8 (satReg (phase16 c))) (e := phase16 c) hst (hthr ▸ hu)
  have hosc : (wr s pgSTC 0x0A8 (satReg (phase16 c))).clk.onIntOsc = false := ho
  simp only [discipline]
  rw [← phase16, hosc, if_neg Bool.false_ne_true, hstep]
  refine (if_neg (by simp [hd])).trans ?_
  rw [wr_stc, hmode]
  exact if_pos (hlim ▸ hl)

/-! ### Pulses on the PPS inputs (R309 to R311) -/

/-- The state in which an edge's swing is noted. -/
def swung (s : State) (e : PpsEdge) : State := setTsrc s (e.input + 1) { tsrc s (e.input + 1) with swing := e.swing }

/-- An edge of the active direction on a PPS input. -/
theorem execPpsEdge_active {e : PpsEdge} (hm : curMode s ≠ .off) (hi : e.input < 2) (hr : e.rising ≠ rdB s pgSTC 0x098 e.input) :
    execPpsEdge e s = .next (pulseEdge (swung s e) (e.input + 1) e.sub (cntAt (swung s e) e.sub)
      (decide (rdF (swung s e) pgSTC 0x098 8 8 ≤ e.width))) := by
  rw [execPpsEdge, if_neg (not_or.2 ⟨hm, not_or.2 ⟨Nat.not_le.2 hi, hr⟩⟩)]
  rfl

@[simp] theorem tsrc_swung (e : PpsEdge) : tsrc (swung s e) (e.input + 1) = { tsrc s (e.input + 1) with swing := e.swing } :=
  tsrc_setTsrc _ _ _

theorem swung_frame (s : State) (e : PpsEdge) : swung s e = { s with stc := { s.stc with
    pps0 := (swung s e).stc.pps0, pps1 := (swung s e).stc.pps1, irig := (swung s e).stc.irig } } := setTsrc_frame _ _ _

@[simp] theorem rd_swung (e : PpsEdge) (p o : Nat) : rd (swung s e) p o = rd s p o := rd_setTsrc _ _ _ _ _

/-- A long pulse of a source that is not qualified, or in its window. -/
theorem execPpsEdge_accepts {e : PpsEdge} (hm : curMode s ≠ .off) (hi : e.input < 2) (hr : e.rising ≠ rdB s pgSTC 0x098 e.input)
    (hw : rdF s pgSTC 0x098 8 8 ≤ e.width)
    (h : (tsrc s (e.input + 1)).qual = false ∨ inWindow s (tsrc s (e.input + 1)) (cntAt s e.sub) = true) :
    execPpsEdge e s = .next (acceptEdge (swung s e) (e.input + 1) e.sub (cntAt s e.sub)) := by
  have hwide : decide (rdF (swung s e) pgSTC 0x098 8 8 ≤ e.width) = true := decide_eq_true (by rwa [rdF, rd_swung])
  have hcnt : cntAt (swung s e) e.sub = cntAt s e.sub := cntAt_setTsrc _ _ _ _
  rw [execPpsEdge_active hm hi hr, hwide, hcnt, pulseEdge_accepts]
  rw [tsrc_swung, inWindow_congr (rd_swung _ _ _)]
  exact h

/-- The first edge of a source makes a row of one (R311). -/
theorem acceptedSrc_first {n : Nat} (hq : (tsrc s n).qual = false) (hl : (tsrc s n).lastEdge = none) (sub : Nat) (c : Int) :
    acceptedSrc s n sub c = { tsrc s n with
      lastEdge := some c, seenAt := s.now + sub, run := 1, bad := 0, out := [], qual := decide (lockCount s ≤ 1)
      qualAt := if lockCount s ≤ 1 then s.now + sub else (tsrc s n).qualAt, phase := phase16 c } := by
  simp [acceptedSrc, hq, hl]

/-- In free run the first edge of a PPS input is accepted and counted (R311, R312). -/
theorem acceptEdge_first {n : Nat} (hn : n = 1 ∨ n = 2) (hm : stcMode s = 0) (hsrc : s.stc.src = 0) (hq : (tsrc s n).qual = false)
    (hl : (tsrc s n).lastEdge = none) (sub : Nat) (c : Int) : acceptEdge s n sub c =
      let t := setTsrc s n { tsrc s n with
        lastEdge := some c, seenAt := s.now + sub, run := 1, bad := 0, out := [], qual := decide (lockCount s ≤ 1)
        qualAt := if lockCount s ≤ 1 then s.now + sub else (tsrc s n).qualAt, phase := phase16 c }
      if lockCount s ≤ 1 then condEnd t pgSTC n else t := by
  rw [acceptEdge_freeRun (by omega) hm hsrc, accepted_pps hn, acceptedSrc_first hq hl]
  simp only [decide_eq_true_eq]

theorem acceptedSrc_qualified {n : Nat} (hq : (tsrc s n).qual = true) (sub : Nat) (c : Int) :
    (acceptedSrc s n sub c).qual = true := by simp [acceptedSrc, hq]

/-- A missing edge of a source that is not qualified is counted (R311). -/
theorem badEdge_unqualified {n : Nat} (hq : (tsrc s n).qual = false) :
    badEdge s n = setTsrc s n { tsrc s n with bad := (tsrc s n).bad + 1, run := 0 } := by simp [badEdge, hq]

theorem execPpsEdgeMissed_due {i : Nat} {l : Int} (hi : i < 2) (hl : (tsrc s (i + 1)).lastEdge = some l)
    (ht : l + ((tsrc s (i + 1)).bad + 1) * secU + ppsWindow s ≤ s.stc.cnt + s.stc.incr) :
    execPpsEdgeMissed i s = .next (badEdge s (i + 1)) := by
  rw [execPpsEdgeMissed, if_neg (Nat.not_le.2 hi)]
  simp only [hl]
  rw [if_pos ht]

/-! ### A locked counter (R312, R319) -/

/-- The counter is locked in mode 1 to source n, the one source of its list, and no time waits for an edge. -/
structure LockedTo (s : State) (n : Nat) : Prop where
  mode : stcMode s = 1
  src : s.stc.src = n
  prio : prioList s = [n, 0, 0, 0]
  st : s.stc.st = .locked
  osc : s.clk.onIntOsc = false
  disagree : s.stc.disagree = false
  setEdge : s.stc.setEdge = none
  qual : (tsrc s n).qual = true

theorem LockedTo.setTsrc {n : Nat} (h : LockedTo s n) {x : TSrc} (hq : x.qual = true) : LockedTo (setTsrc s n x) n where
  mode := (stcMode_congr (rd_setTsrc _ _ _ _ _)).trans h.mode
  src := by rw [setTsrc_frame]; exact h.src
  prio := by simpa only [prioList, rdF, rd_setTsrc] using h.prio
  st := by rw [setTsrc_frame]; exact h.st
  osc := by rw [setTsrc_clk]; exact h.osc
  disagree := by rw [setTsrc_frame]; exact h.disagree
  setEdge := by rw [setTsrc_frame]; exact h.setEdge
  qual := by rw [tsrc_setTsrc]; exact hq

theorem LockedTo.condEnd {n : Nat} (h : LockedTo s n) (m : Nat) : LockedTo (condEnd s pgSTC m) n where
  mode := (stcMode_congr (rd_condEnd_other _ _ _ _ (by omega) (by omega))).trans h.mode
  src := h.src
  prio := by simpa only [prioList, rdF, rd_condEnd_other pgSTC m pgSTC 0x088 (by omega) (by omega)] using h.prio
  st := h.st
  osc := h.osc
  disagree := h.disagree
  setEdge := h.setEdge
  qual := h.qual

/-- An edge of the source that a counter is locked to, within SLEW_LIMIT: the counter is aligned with it. -/
theorem acceptEdge_locked {n : Nat} (h : LockedTo s n) (hn : n = 1 ∨ n = 2) (sub : Nat) {c : Int}
    (hu : (phase16 c).natAbs ≤ unlockThr s) (hl : (phase16 c).natAbs ≤ slewLimit s) :
    let t := acceptEdge s n sub c
    t.stc.cnt = moved (-(phaseErr c)) s.stc.cnt ∧ rd t pgSTC 0x0A8 = satReg (phase16 c) ∧ t.stc.st = .locked ∧ t.stc.src = n ∧
      t = { s with regs := t.regs, stc := t.stc } := by
  have hq := acceptedSrc_qualified h.qual sub c
  have ha : LockedTo (accepted s n sub c) n := by
    rw [accepted_pps hn, if_pos hq]
    exact (h.setTsrc hq).condEnd n
  have hrd {o : Nat} (ho : o < 0x1000) (h' : o ≠ 0x014) : rd (accepted s n sub c) pgSTC o = rd s pgSTC o :=
    rd_accepted _ _ _ ho (.inr h')
  have hthr : unlockThr (accepted s n sub c) = unlockThr s := congrArg (fun x => bits x 16 16 * 16) (hrd (o := 0x090) (by omega) (by omega))
  have hlim : slewLimit (accepted s n sub c) = slewLimit s := congrArg (fun x => bits x 0 20 * 16) (hrd (o := 0x094) (by omega) (by omega))
  have hsel := stcSelect_first ha.prio ha.src (by omega) ha.mode (by omega) ha.qual
  have hcross := crossCheck_alone ha.prio ha.src (by omega)
  rw [acceptEdge_selected hsel hcross ha.src ha.setEdge, discipline_aligns ha.mode ha.st ha.osc ha.disagree (hthr ▸ hu) (hlim ▸ hl)]
  obtain ⟨hcnt, hphase, hst, hsrc, hframe⟩ := align_noted (accepted s n sub c) (satReg (phase16 c)) (-(phaseErr c))
  refine ⟨hcnt.trans ?_, hphase, hst.trans ha.st, hsrc.trans ha.src, stc_trans ?_ hframe⟩
  · rw [accepted_frame, setTsrc_frame]
  · rw [accepted_frame]

/-! ### IRIG-B (R323, R324, R333) -/

/-- The state in which a frame that follows the one before it has been decoded: its time, and the end of the decoder's fault. -/
def irigDecoded (s : State) (f : IrigFrame) : State :=
  let s1 := { s with stc := { s.stc with irigPrev := some (irigSeconds s f).toNat } }
  let s2 := condEnd (wr (wr s1 pgSTC 0x0F8 (BitVec.ofInt 32 (irigSeconds s f))) pgSTC 0x0FC
    (setBit (f.cf &&& 0x07FFFFFF) 31)) pgSTC 6
  { s2 with stc := { s2.stc with irigAt := s2.now + f.sub } }

/-- The comparison of its seconds `t` with those of the counter at its reference edge `c` (R324), on the state `u` after that edge. -/
def irigCompared (s u : State) (t : Int) (c : Nat) : State :=
  if rdB s pgSTC 0x080 4 && decide (t ≠ (secOf c : Int)) then
    if s.stc.irigLoad then irigLoadAt { u with stc := { u.stc with irigLoad := false, irigDiff := 0 } } t.toNat (c - s.stc.cnt)
    else { u with stc := { u.stc with irigDiff := s.stc.irigDiff + 1, irigLoad := decide (2 ≤ s.stc.irigDiff + 1) } }
  else { u with stc := { u.stc with irigDiff := 0, irigLoad := false } }

section
variable {f : IrigFrame} (hm : curMode s ≠ .off) (hon : rdB s pgSTC 0x0F0 0 = true) (hmk : f.markersOk = true)
  (hdg : f.digitsOk = true)
include hm hon hmk hdg

/-- The first good frame is kept for the next to be compared with (log entry 140). -/
theorem execIrigFrame_first (hs : f.second < 60) (hp : s.stc.irigPrev = none) : execIrigFrame f s =
    .next { s with stc := { s.stc with irigPrev := some (irigSeconds s f).toNat } } := by
  simp [execIrigFrame, hm, hon, hmk, hdg, hs, hp]

/-- A good frame that is a second on from the one before it is valid. -/
theorem execIrigFrame_next {p : Nat} (hs : f.second < 60 ∨ (f.second = 60 ∧ rdB s pgSTC 0x0DC 16 = true))
    (hp : s.stc.irigPrev = some p) (ht : irigSeconds s f = (p : Int) + 1) : execIrigFrame f s =
      .next (irigCompared (irigDecoded s f) (pulseEdge (irigDecoded s f) 3 f.sub (cntAt s f.sub) true) (irigSeconds s f)
        (cntAt s f.sub)) := by
  have hsane : (f.markersOk && f.digitsOk && (decide (f.second < 60) || (decide (f.second = 60) && rdB s pgSTC 0x0DC 16))) = true := by
    simpa [hmk, hdg] using hs
  have hok : decide (irigSeconds s f = (p : Int) + 1) = true := decide_eq_true ht
  simp only [execIrigFrame, hsane, hp, hok]
  rw [if_neg (by simp [hm, hon])]
  rfl

end

/-- A long pulse outside the window of a qualified source is accepted where two before it fell so, else rejected (R310). -/
theorem pulseEdge_outside {n : Nat} {c : Int} (h : ((tsrc s n).qual && !inWindow s (tsrc s n) c) = true) (sub : Nat) :
    pulseEdge s n sub c true = acceptEdge s n sub c ∨
      pulseEdge s n sub c true = rejected (setTsrc s n { tsrc s n with out := c :: (tsrc s n).out }) n := by
  simp only [pulseEdge, h, if_true]
  exact ite_eq_or_eq _ _ _

/-- In free run the edge of a valid frame is noted, and no more. -/
theorem pulseEdge_irig_freeRun (hm : stcMode s = 0) (hsrc : s.stc.src = 0) (sub : Nat) (c : Int) :
    ∃ x, pulseEdge s 3 sub c true = { s with stc := { s.stc with irig := x } } ∧
      (s.stc.irig.qual = false ∨ inWindow s s.stc.irig c = true → x.lastEdge = some c ∧ x.phase = phase16 c) := by
  have haccept : acceptEdge s 3 sub c = _ := acceptEdge_freeRun (by omega) hm hsrc sub c
  by_cases hin : (tsrc s 3).qual = false ∨ inWindow s (tsrc s 3) c = true
  · exact ⟨acceptedSrc s 3 sub c, (pulseEdge_accepts hin).trans haccept, fun _ => ⟨rfl, rfl⟩⟩
  · have hout : ((tsrc s 3).qual && !inWindow s (tsrc s 3) c) = true := by simpa [not_or] using hin
    obtain h | h := pulseEdge_outside hout sub
    · exact ⟨acceptedSrc s 3 sub c, h.trans haccept, fun g => absurd g hin⟩
    · exact ⟨_, h, fun g => absurd g hin⟩

theorem irigDecoded_stc {f : IrigFrame} {p : Nat} (ht : irigSeconds s f = (p : Int) + 1) :
    (irigDecoded s f).stc = { s.stc with irigPrev := some (p + 1), irigAt := s.now + f.sub } := by
  have hprev : (irigSeconds s f).toNat = p + 1 := by omega
  rw [← hprev]
  rfl

theorem rd_irigDecoded_other (f : IrigFrame) {q o : Nat} (ho : o < 0x1000)
    (h : q ≠ pgSTC ∨ (o ≠ 0x014 ∧ o ≠ 0x0F8 ∧ o ≠ 0x0FC)) : rd (irigDecoded s f) q o = rd s q o := by
  change rd (condEnd _ pgSTC 6) q o = rd s q o
  rw [rd_condEnd_other _ _ _ _ ho (by omega), rd_wr_apart (by omega) ho (by omega), rd_wr_apart (by omega) ho (by omega)]
  rfl

/-- The registers that a valid frame writes: its seconds, its control functions, and the end of the decoder's fault. -/
theorem rd_irigDecoded (f : IrigFrame) : rd (irigDecoded s f) pgSTC 0x0F8 = BitVec.ofInt 32 (irigSeconds s f) ∧
    rd (irigDecoded s f) pgSTC 0x0FC = setBit (f.cf &&& 0x07FFFFFF) 31 ∧ rdB (irigDecoded s f) pgSTC 0x014 6 = false := by
  refine ⟨?_, ?_, rdB_condEnd_live (s := wr _ _ _ _) _ _ (by omega)⟩
  · change rd (condEnd _ pgSTC 6) pgSTC 0x0F8 = _
    rw [rd_condEnd_other _ _ _ _ (by omega) (by omega), rd_wr_apart (by omega) (by omega) (by omega), rd_wr_same]
  · change rd (condEnd _ pgSTC 6) pgSTC 0x0FC = _
    rw [rd_condEnd_other _ _ _ _ (by omega) (by omega), rd_wr_same]

theorem dueBy_now {d : Nat} (h : d ≤ s.now) : dueBy s d = true := decide_eq_true (Nat.le_add_right_of_le h)

theorem execIrigTimeout_due (h : s.stc.irigAt + 2000 * msN ≤ s.now) : execIrigTimeout s = .next (
    let t := if rdB s pgSTC 0x0F0 0 then condErr s pgSTC 6 else s
    if s.stc.irig.qual then disqualify t 3 else t) := by
  have hstc : (if rdB s pgSTC 0x0F0 0 then condErr s pgSTC 6 else s).stc = s.stc := ite_stc _ (condErr_stc _ _ _ _ _) rfl
  rw [execIrigTimeout, if_pos (dueBy_now h)]
  simp only [hstc]

/-! ### PTP (R314, R318, R333) -/

/-- The state in which an offset has been written and PTP is qualified. -/
def ptpWritten (s : State) (v : W32) : State := { wr s pgSTC 0x0B0 v with
  stc := { s.stc with ptpAt := s.now, ptpQual := true, ptpQualAt := if s.stc.ptpQual then s.stc.ptpQualAt else s.now } }

/-- An offset while PTP is not selected. -/
theorem execStcPtpOffsetWrite_unselected (hm : curMode s ≠ .off) {v : W32} (h : (stcSelect (ptpWritten s v)).stc.src ≠ 4) :
    execStcPtpOffsetWrite v s = .next (stcSelect (ptpWritten s v)) := by
  rw [execStcPtpOffsetWrite, if_neg hm]
  exact congrArg _ (if_neg h)

theorem execPtpLate_due (h : s.stc.ptpAt + 2000 * msN ≤ s.now) : execPtpLate s = .next (stcSelect
    { (if 4 ∈ prioList s then raiseIrq s pgSTC 5 else s) with stc := { s.stc with ptpQual := false, ptpAt := s.now } }) := by
  rw [execPtpLate, if_pos (dueBy_now h)]
  by_cases h4 : 4 ∈ prioList s
  · simp only [if_pos h4]
    rfl
  · simp only [if_neg h4]

/-! ### Holdover (R321) -/

/-- The estimate beyond its limit leaves free run, whose error stands (R321, R322). -/
theorem execHoldoverExpired_over (hst : s.stc.st = .holdover) (ho : s.clk.onIntOsc = false)
    (hl : rdF s pgSTC 0x09C 16 16 * 10 * 1600000000000 < rdF s pgSTC 0x09C 0 16 * (s.now - s.stc.holdAt)) :
    execHoldoverExpired s = .next (
      let u := stcEnter (wr s pgSTC 0x0A0 (w32 (holdEst s))) .freeRun
      let t := raiseErr { u with stc := { u.stc with expired := true } } pgSTC 5
      if rdB t pgSTC 0x080 3 then t else { t with stc := { t.stc with ppsOut := false } }) := by
  rw [execHoldoverExpired, if_pos ⟨hst, by simp [ho], decide_eq_true hl⟩]

end Sys2Proof.Machine

namespace Sys2Proof
open Machine

/-- Settles O31, one clause for each command. That the first good IRIG frame is kept and gives no time is the choice of log entry 140. -/
theorem timeInputsDisciplineTheCounter : Obligations.TimeInputsDisciplineTheCounter := by
  intro s hm
  refine ⟨fun e hi hr hw => ⟨fun hmode hsrc hq hl => ?_, fun l hmode hsrc hprio hst ho hd hset hq _ hin hu hl => ?_⟩,
    fun i l hi hl ht hq => ?_, fun f hon hmk hdg hs hp => execIrigFrame_first hm hon hmk hdg hs hp,
    fun f p hon hmk hdg hs hp ht hmode hsrc hcmp => ?_, fun hon hd hq => ?_, fun v hmode hsrc => ?_, fun hmode hsrc hd => ?_,
    fun hst ho hl => execHoldoverExpired_over hst ho hl⟩
  · refine (execPpsEdge_accepts hm hi hr hw (.inl hq)).trans ?_
    have hmode' : stcMode (swung s e) = 0 := (stcMode_congr (rd_swung _ _ _)).trans hmode
    have hsrc' : (swung s e).stc.src = 0 := by rw [swung_frame]; exact hsrc
    have hlock : lockCount (swung s e) = lockCount s := by simp only [lockCount, rdF, rd_swung]
    have hnow : (swung s e).now = s.now := setTsrc_now _ _ _
    rw [acceptEdge_first (by omega) hmode' hsrc' (by rw [tsrc_swung]; exact hq) (by rw [tsrc_swung]; exact hl), tsrc_swung, hlock, hnow,
      swung, setTsrc_setTsrc]
  · have hto : LockedTo (swung s e) (e.input + 1) := LockedTo.setTsrc ⟨hmode, hsrc, hprio, hst, ho, hd, hset, hq⟩ hq
    have hu' : (phase16 (cntAt s e.sub)).natAbs ≤ unlockThr (swung s e) := by simpa only [unlockThr, rdF, rd_swung] using hu
    have hl' : (phase16 (cntAt s e.sub)).natAbs ≤ slewLimit (swung s e) := by simpa only [slewLimit, rdF, rd_swung] using hl
    obtain ⟨hcnt, hphase, hst', hsrc', hframe⟩ := acceptEdge_locked hto (by omega) e.sub hu' hl'
    refine ⟨_, execPpsEdge_accepts hm hi hr hw (.inr hin), hcnt.trans ?_, hphase, hst', hsrc', stc_trans ?_ hframe⟩
    · rw [swung_frame]
    · rw [swung_frame]
  · exact (execPpsEdgeMissed_due hi hl ht).trans (congrArg _ (badEdge_unqualified hq))
  · intro c
    obtain ⟨h0F8, h0FC, h014⟩ := rd_irigDecoded (s := s) f
    have hother {q o : Nat} (ho : o < 0x1000) (h : q ≠ pgSTC ∨ (o ≠ 0x014 ∧ o ≠ 0x0F8 ∧ o ≠ 0x0FC)) :
        rd (irigDecoded s f) q o = rd s q o := rd_irigDecoded_other f ho h
    have hcmp' : rdB (irigDecoded s f) pgSTC 0x080 4 = false := by rw [rdB, hother (by omega) (by omega)]; exact hcmp
    have hmode' : stcMode (irigDecoded s f) = 0 := (stcMode_congr (hother (by omega) (by omega))).trans hmode
    obtain ⟨x, hedge, hx⟩ := pulseEdge_irig_freeRun (s := irigDecoded s f) hmode' hsrc f.sub c
    have hexec := execIrigFrame_next hm hon hmk hdg hs hp ht
    rw [hedge, irigCompared, hcmp', Bool.false_and, if_neg Bool.false_ne_true] at hexec
    refine ⟨_, hexec, ?_⟩
    simp only [irigDecoded_stc ht]
    refine ⟨ht ▸ h0F8, h0FC, h014, fun h => hx (h.imp_right fun g => ?_), trivial, ?_, fun q o ho h => hother ho h⟩
    · exact (inWindow_congr (hother (by omega) (by omega)) _ _).trans g
    · exact stc_trans (t := irigDecoded s f) rfl rfl
  · refine (execIrigTimeout_due hd).trans ?_
    rw [hon, hq]
    rfl
  · have hsel : stcSelect (ptpWritten s v) = ptpWritten s v :=
      stcSelect_freeRun ((stcMode_congr (rd_wr_apart (by omega) (by omega) (by omega))).trans hmode) hsrc
    refine (execStcPtpOffsetWrite_unselected hm ?_).trans (congrArg _ hsel)
    rw [hsel]
    exact fun h => absurd (hsrc.symm.trans h) (by omega)
  · refine (execPtpLate_due hd).trans (congrArg _ (stcSelect_freeRun ?_ hsrc))
    refine (stcMode_congr ?_).trans hmode
    by_cases h4 : 4 ∈ prioList s
    · rw [if_pos h4]
      exact rd_raiseIrq_other _ _ _ _ (by omega) (by omega)
    · rw [if_neg h4]
      rfl

end Sys2Proof
end

section
/-!
SUPPORT. What the commands of the station time have done when they have run, in every state (R303 to R334): an edge of the always-on
clock with the units' own checks, and what an edge of any source leaves of the IRIG decoder.
-/

namespace Sys2Proof.Machine
variable {s : State}

/-! ### The units' own checks (R572, R589) -/

/-- An error that has arisen stays in ERR_STATUS as another arises (R9). -/
theorem rdB_raiseErr_keeps {p n : Nat} (hn : n < 32) (h : rdB s p 0x010 n = true) (q m sub : Nat) :
    rdB (raiseErr s q m sub) p 0x010 n = true := by
  by_cases hq : p = q
  · subst hq
    rw [rdB_raiseErr _ _ _ _ _ _ _ hn, h, Bool.true_or]
  · rw [rdB_raiseErr_other _ _ _ _ _ _ _ _ _ (by omega) (.inl hq), h]

/-- A unit's own check reports an error, or nothing; the Selvedge's asserts FAULT_N too. -/
theorem selfCheck_cases (s : State) (e : ErrObs) : selfCheck s e = s ∨ selfCheck s e = raiseErr s e.page e.bit e.sub ∨
    selfCheck s e = fnAssert (raiseErr s e.page e.bit e.sub) := by
  unfold selfCheck
  split
  · split
    · exact .inr (ite_eq_or_eq _ _ _).symm
    · exact .inl rfl
  · exact .inl rfl

theorem selfCheck_now (s : State) (e : ErrObs) : (selfCheck s e).now = s.now := by
  obtain h | h | h := selfCheck_cases s e <;> rw [h]
  · exact raiseErr_now _ _ _ _ _ _ _
  · exact raiseErr_now _ _ _ _ _ _ _

theorem selfCheck_stc (s : State) (e : ErrObs) : (selfCheck s e).stc = s.stc := by
  obtain h | h | h := selfCheck_cases s e <;> rw [h]
  · exact raiseErr_stc _ _ _ _ _ _ _
  · exact raiseErr_stc _ _ _ _ _ _ _

theorem rdB_selfCheck_keeps {p n : Nat} (hn : n < 32) (e : ErrObs) (h : rdB s p 0x010 n = true) :
    rdB (selfCheck s e) p 0x010 n = true := by
  obtain g | g | g := selfCheck_cases s e <;> rw [g]
  · exact h
  · exact rdB_raiseErr_keeps hn h _ _ _
  · exact rdB_raiseErr_keeps hn h _ _ _

/-! ### An edge of the always-on clock -/

theorem pulseOver_kept (s : State) : (pulseOver s).now = s.now ∧ (pulseOver s).stc.cnt = s.stc.cnt := by
  unfold pulseOver
  split <;> exact ⟨rfl, rfl⟩

theorem calibrate_kept (s : State) (ok : Bool) : (calibrate s ok).now = s.now ∧ (calibrate s ok).stc.cnt = s.stc.cnt := by
  rw [calibrate_eq]
  split
  · exact ⟨rfl, rfl⟩
  · split
    · exact ⟨rfl, rfl⟩
    · simp

/-- With no time waiting an edge advances the clock and the counter, and tells a checker that disagrees (R303, R589). -/
theorem execRefInEdge_advances (hm : curMode s ≠ .off) (hn : s.stc.setNow = none) (hb : s.stc.stepBy = none) (o : EdgeObs) :
    ∃ t, execRefInEdge o s = .next t ∧ t.now = s.now + clkPeriod s / 2 ^ 28 ∧ t.stc.cnt = s.stc.cnt + s.stc.incr ∧
      (o.agree = false → rdB t pgSELV 0x010 4 = true) := by
  refine ⟨_, execRefInEdge_free hm hn hb o, ?_⟩
  generalize hu : calibrate (takeIncr (pulseOver (advanced s))) o.calOk = u
  have hnow : u.now = s.now + clkPeriod s / 2 ^ 28 := by
    rw [← hu, (calibrate_kept _ _).1]
    exact (pulseOver_kept _).1
  have hcnt : u.stc.cnt = s.stc.cnt + s.stc.incr := by
    rw [← hu, (calibrate_kept _ _).2]
    exact (pulseOver_kept _).2
  have hchecked : (advanceChecked u o.agree).now = u.now ∧ (advanceChecked u o.agree).stc = u.stc := by
    unfold advanceChecked
    split <;> simp
  refine ⟨?_, ?_, fun ha => ?_⟩
  · rw [foldl_part (·.now) selfCheck_now, hchecked.1, hnow]
  · rw [foldl_stc selfCheck_stc, hchecked.2, hcnt]
  · refine List.foldlRecOn (motive := fun x => rdB x pgSELV 0x010 4 = true) _ _ ?_ fun x hx e _ => rdB_selfCheck_keeps (by omega) e hx
    rw [advanceChecked, ha, if_neg Bool.false_ne_true, rdB_raiseErr _ _ _ _ _ _ _ (by omega)]
    exact Bool.or_true _

/-! ### What an edge of a source leaves of the IRIG decoder (R323) -/

/-- The last frame of the IRIG decoder and the instant of the last valid one. -/
def irigSeen (s : State) : Option Nat × Nat := (s.stc.irigPrev, s.stc.irigAt)

theorem irigSeen_congr {t : State} (h : t.stc = s.stc) : irigSeen t = irigSeen s := by rw [irigSeen, h, irigSeen]

/-- Neither branch of a choice touches the decoder. -/
theorem irigSeen_ite {t u : State} {x : Option Nat × Nat} (c : Prop) [Decidable c] (h : irigSeen t = x) (g : irigSeen u = x) :
    irigSeen (if c then t else u) = x := by
  split
  · exact h
  · exact g

theorem irigSeen_stcEnter (s : State) (st : StcState) : irigSeen (stcEnter s st) = irigSeen s := by
  unfold stcEnter
  refine irigSeen_ite _ rfl ?_
  rw [irigSeen_congr (triggerEvent_stc _ _ _)]
  refine irigSeen_ite _ ?_ (irigSeen_ite _ rfl (irigSeen_ite _ rfl rfl))
  refine irigSeen_ite _ ?_ ?_
  all_goals exact irigSeen_ite _ rfl (irigSeen_ite _ rfl rfl)

theorem irigSeen_stcSelect (s : State) : irigSeen (stcSelect s) = irigSeen s := by
  unfold stcSelect
  refine irigSeen_ite _ rfl (irigSeen_ite _ ?_ ?_)
  · split
    · exact (irigSeen_congr (raiseErr_stc _ _ _ _ _ _ _)).trans (irigSeen_stcEnter _ _)
    · exact irigSeen_stcEnter _ _
    · exact irigSeen_stcEnter _ _
    · rfl
  · have hs : irigSeen (if s.stc.src ≠ 0 then raiseIrq { s with stc := { s.stc with
        src := chooseSource s, lockRun := 0, crossBad := 0, crossGood := 0 } } pgSTC 2 else { s with stc := { s.stc with
        src := chooseSource s, lockRun := 0, crossBad := 0, crossGood := 0 } }) = irigSeen s := irigSeen_ite _ rfl rfl
    dsimp only
    split
    · exact irigSeen_ite _ hs ((irigSeen_stcEnter _ _).trans hs)
    · exact irigSeen_ite _ hs ((irigSeen_stcEnter _ _).trans hs)
    · exact irigSeen_ite _ hs ((irigSeen_stcEnter _ _).trans hs)
    · exact hs

theorem irigSeen_crossCheck (s : State) : irigSeen (crossCheck s) = irigSeen s := by
  have herr (u : State) : irigSeen (condErr u pgSTC 3) = irigSeen u := irigSeen_congr (condErr_stc _ _ _ _ _)
  unfold crossCheck
  refine irigSeen_ite _ rfl (irigSeen_ite _ (irigSeen_ite _ ?_ rfl) (irigSeen_ite _ ?_ rfl))
  · exact irigSeen_ite _ (herr _) ((irigSeen_stcEnter _ _).trans (herr _))
  · exact irigSeen_ite _ (irigSeen_stcEnter _ _) rfl

theorem irigSeen_lockStep (s : State) (e : Int) : irigSeen (lockStep s e) = irigSeen s := by
  unfold lockStep
  split
  · exact irigSeen_ite _ (irigSeen_ite _ (irigSeen_stcEnter _ _) rfl) rfl
  · exact irigSeen_ite _ (irigSeen_ite _ (irigSeen_stcEnter _ _) rfl) rfl
  · rfl

theorem irigSeen_discipline (s : State) (c : Int) : irigSeen (discipline s c) = irigSeen s := by
  have hs (e : Int) (v : W32) : irigSeen (if (wr s pgSTC 0x0A8 v).clk.onIntOsc then wr s pgSTC 0x0A8 v else
      lockStep (wr s pgSTC 0x0A8 v) e) = irigSeen s := irigSeen_ite _ rfl (irigSeen_lockStep _ _)
  unfold discipline
  refine irigSeen_ite _ (hs _ _) ?_
  split
  · exact irigSeen_ite _ (hs _ _) (hs _ _)
  · exact irigSeen_ite _ (hs _ _) (irigSeen_ite _ (irigSeen_ite _ (hs _ _) (hs _ _)) (hs _ _))
  · exact hs _ _

theorem irigSeen_accepted (n sub : Nat) (c : Int) : irigSeen (accepted s n sub c) = irigSeen s := by
  rw [accepted_frame, setTsrc_frame]
  rfl

theorem irigSeen_acceptEdge (n sub : Nat) (c : Int) : irigSeen (acceptEdge s n sub c) = irigSeen s := by
  have hsel : irigSeen (stcSelect (accepted s n sub c)) = irigSeen s := (irigSeen_stcSelect _).trans (irigSeen_accepted _ _ _)
  have hserved (u : State) : irigSeen (edgeServed u c) = irigSeen u := by
    unfold edgeServed
    split
    · rfl
    · exact irigSeen_discipline _ _
  rw [acceptEdge_eq]
  exact irigSeen_ite _ hsel ((hserved _).trans ((irigSeen_crossCheck _).trans hsel))

/-- An IRIG edge is accepted or rejected, and neither touches what the decoder has seen. -/
theorem irigSeen_irigEdge (sub : Nat) (c : Int) : irigSeen (pulseEdge s 3 sub c true) = irigSeen s := by
  by_cases hin : (tsrc s 3).qual = false ∨ inWindow s (tsrc s 3) c = true
  · rw [pulseEdge_accepts hin, irigSeen_acceptEdge]
  · have hout : ((tsrc s 3).qual && !inWindow s (tsrc s 3) c) = true := by simpa [not_or] using hin
    obtain h | h := pulseEdge_outside hout sub <;> rw [h]
    · exact irigSeen_acceptEdge _ _ _
    · rfl

theorem irigSeen_irigCompared (u : State) (t : Int) (c : Nat) : irigSeen (irigCompared s u t c) = irigSeen u := by
  unfold irigCompared
  refine irigSeen_ite _ (irigSeen_ite _ ?_ rfl) rfl
  exact irigSeen_ite _ rfl rfl

/-- A valid frame is kept with the instant of its reference edge. -/
theorem execIrigFrame_seen {f : IrigFrame} {p : Nat} (hm : curMode s ≠ .off) (hon : rdB s pgSTC 0x0F0 0 = true)
    (hmk : f.markersOk = true) (hdg : f.digitsOk = true) (hs : f.second < 60 ∨ (f.second = 60 ∧ rdB s pgSTC 0x0DC 16 = true))
    (hp : s.stc.irigPrev = some p) (ht : irigSeconds s f = (p : Int) + 1) :
    ∃ t, execIrigFrame f s = .next t ∧ t.stc.irigPrev = some (p + 1) ∧ t.stc.irigAt = s.now + f.sub := by
  refine ⟨_, execIrigFrame_next hm hon hmk hdg hs hp ht, Prod.mk.inj ?_⟩
  change irigSeen _ = _
  rw [irigSeen_irigCompared, irigSeen_irigEdge, irigSeen, irigDecoded_stc ht]

/-! ### The leap second, and what shows the counter (R306, R326) -/

theorem rd_stcSnap_ns (s : State) (v w x y : W32) :
    rd (wr (wr (wr (wr s pgSTC 0x0CC v) pgSTC 0x0D0 w) pgSTC 0x0D4 x) pgSTC 0x0D8 y) pgSTC 0x0D4 = x := by
  rw [rd_wr_apart (by omega) (by omega) (by omega), rd_wr_same]

theorem stcSnap_stc (s : State) (v w x y : W32) :
    (wr (wr (wr (wr s pgSTC 0x0CC v) pgSTC 0x0D0 w) pgSTC 0x0D4 x) pgSTC 0x0D8 y).stc = s.stc := rfl

/-- The leap second ends its flag and raises its interrupt. -/
theorem leapApplied (s : State) (n : Nat) : rdB (raiseIrq (wr s pgSTC 0x0DC (w32 (n % 65536))) pgSTC 4) pgSTC 0x024 4 = true ∧
    rdB (raiseIrq (wr s pgSTC 0x0DC (w32 (n % 65536))) pgSTC 4) pgSTC 0x0DC 16 = false := by
  refine ⟨rdB_raiseIrq_same _ _ (by omega), ?_⟩
  have hn : n % 65536 < 65536 := Nat.mod_lt _ (by omega)
  rw [rdB_raiseIrq_other _ _ _ _ _ (by omega) (by omega), rdB_wr_same, bit, BitVec.toNat_ofNat, Nat.mod_eq_of_lt (by omega),
    Nat.div_eq_of_lt (by omega)]
  rfl

end Sys2Proof.Machine
end

section
/-!
SUPPORT. Pillow memory and its leases as their commands leave them (R424 to R431, R436, R438, R534, R535).
-/

namespace Sys2Proof.Machine
variable {s : State}

/-! ### Scrubbing (R424, R425) -/

theorem scrubPos_setScrub (s : State) (key v p : Nat) : scrubPos (setScrub s key v) p = if p = key then v else scrubPos s p := by
  simp [scrubPos, setScrub]

/-- A pass that begins leaves the position (R424). -/
theorem scrubPos_scrubBegin (s : State) (p : Nat) : scrubPos (scrubBegin s p) p = scrubPos s p := by
  rw [scrubBegin, scrubPos_setScrub, if_neg (by omega)]
  rfl

theorem codeRead_clean {p a : Nat} (h : p * 2 ^ 16 + a ∉ s.mem.codeBad) (source : Nat) :
    codeRead s p a source .clean = (some (codeGet s p a), s) := by
  simp only [codeRead, if_neg h]

section
variable {p : Nat} (hp : p < 16) (hpow : pagePowered s (pgPIL p) = true)
include hp hpow

theorem execPilCntClr_powered : execPilCntClr p s =
    .next (wr (wr (wr (wr s (pgPIL p) 0x090 0) (pgPIL p) 0x094 0) (pgPIL p) 0x098 0) (pgPIL p) 0x09C 0) := by
  rw [execPilCntClr, if_neg (Nat.not_le.2 hp), if_neg (by simp [hpow])]
  rfl

theorem execPilOwnQuery_powered (v : W32) : execPilOwnQuery p v s = .next (wr s (pgPIL p) 0x0A8 (w32 (bits v 0 14))) := by
  rw [execPilOwnQuery, if_neg (Nat.not_le.2 hp), if_neg (by simp [hpow])]

theorem execScrubNow_powered : execScrubNow p s = .next (scrubBegin (setScrub s p (scrubPos s p / 2 ^ 16 * 2 ^ 16)) p) := by
  rw [execScrubNow, if_neg (Nat.not_le.2 hp), if_neg (by simp [hpow])]

variable (hen : rdB s (pgPIL p) 0x080 0 = true)
include hen

/-- Words that read clean are left as they are, and the scrubber goes on to the next offset, or to the next pass. -/
theorem execScrubRead_clean {es : List Ecc} (hbank : ∀ k < 8, es.getD k .clean = .clean ∧
      bankAddr p k (scrubPos s p % 2 ^ 15) ∉ s.mem.bankBad) (h0 : p * 2 ^ 16 + 2 * (scrubPos s p % 2 ^ 15) ∉ s.mem.codeBad)
    (h1 : p * 2 ^ 16 + (2 * (scrubPos s p % 2 ^ 15) + 1) ∉ s.mem.codeBad) : execScrubRead p es .clean .clean s = .next (
      if scrubPos s p % 2 ^ 15 + 1 < 2 ^ 15 then setScrub s p (scrubPos s p + 1)
      else raiseIrq (scrubBegin (setScrub s p ((scrubPos s p / 2 ^ 16 + 1) % 2 ^ 16 * 2 ^ 16)) p) (pgPIL p) 0) := by
  have hbanks : (List.range 8).foldl (fun u k => if bankPwr u p k = .on then
      (bankRead u (bankAddr p k (scrubPos s p % 2 ^ 15)) 2 (es.getD k .clean)).2 else u) s = s := by
    refine List.foldlRecOn (motive := (· = s)) _ _ rfl fun u hu k hk => ?_
    obtain ⟨hes, hgood⟩ := hbank k (List.mem_range.1 hk)
    rw [hu, hes, bankRead_clean _ hgood]
    exact ite_self _
  have hcode : (if p ∈ s.mem.codeRetain then s else (codeRead (codeRead s p (2 * (scrubPos s p % 2 ^ 15)) 2 .clean).2 p
      (2 * (scrubPos s p % 2 ^ 15) + 1) 2 .clean).2) = s := by
    rw [codeRead_clean h0, codeRead_clean h1]
    exact ite_self _
  rw [execScrubRead, if_neg (not_or.2 ⟨Nat.not_le.2 hp, by simp [hpow, hen]⟩)]
  simp only [hbanks, hcode]

theorem execScrubLate_due (hd : SMap.get s.mem.scrub 0 (16 + p) + scrubPeriod s p ≤ s.now) : execScrubLate p s =
    .next (raiseErr (setScrub { s with mem := { s.mem with
      scrubLate := if p ∈ s.mem.scrubLate then s.mem.scrubLate else p :: s.mem.scrubLate } } (16 + p)
      (SMap.get s.mem.scrub 0 (16 + p) + scrubPeriod s p)) (pgPIL p) 3 8 [fabricUnit p]) := by
  simp only [execScrubLate]
  rw [if_neg (not_or.2 ⟨Nat.not_le.2 hp, by simp [hpow, hen, dueBy_now hd]⟩)]

end

/-! ### Bank states (R426, R438) -/

theorem bankPwr_setBankPwr (s : State) (p k : Nat) (v : BankPwr) : bankPwr (setBankPwr s p k v) p k = v := by
  simp [bankPwr, setBankPwr]

theorem execBankFillDone_waking {p k : Nat} (hp : p < 16) (hk : k < 8) (h : bankPwr s p k = .waking) :
    execBankFillDone p k s = .next (setBankPwr s p k .on) := by
  rw [execBankFillDone, if_pos ⟨h, hp, hk⟩]

theorem execWakeFail_waking {p k : Nat} (hp : p < 16) (hk : k < 8) (h : bankPwr s p k = .waking) (hl : p * 9 + k ∉ s.pwr.wakeLate) :
    execWakeFail p (some k) s = .next (raiseErr
      { s with pwr := { s.pwr with wakeLate := (p * 9 + k) :: s.pwr.wakeLate } } (pgPIL p) 5 k [bankUnit p k]) := by
  have hw : wakes s p k = true := by simp [wakes, hk, h]
  simp only [execWakeFail, Option.getD_some]
  rw [if_neg (by simp [hw, hl]; omega), if_neg (Nat.ne_of_lt hk)]

/-! ### Leases and the aperture (R429 to R431, R534, R535) -/

theorem leaseOf_setLease (s : State) (p k : Nat) (v : LeaseSt) : leaseOf (setLease s p k v) p k = v := by
  simp [leaseOf, setLease]

section
variable {p k : Nat} (hp : p < 16) (hk : k < 5)
include hp

theorem execLeaseGranted_free (hl : leaseOf s p k = .pending) (hf : ∀ i < 2048, ownOf s p (k * 2048 + i) = 0) :
    execLeaseGranted p k s = .next (raiseIrq (setLease (ownSet (bankOn s p k) p (k * 2048) 2048 3) p k .leased) (pgPIL p) 1) := by
  have hall : ((List.range 2048).all fun i => decide (ownOf s p (k * 2048 + i) = 0)) = true :=
    List.all_eq_true.2 fun i hi => decide_eq_true (hf i (List.mem_range.1 hi))
  simp only [execLeaseGranted]
  rw [if_neg]
  rintro (h | h | h)
  · omega
  · exact h hl
  · simp [hall] at h

theorem execLeaseReleased_filled (hl : leaseOf s p k = .releasing) : execLeaseReleased p k s =
    .next (raiseIrq (roomReturns (setLease (ownSet s p (k * 2048) 2048 0) p k .free)) (pgPIL p) 1) := by
  rw [execLeaseReleased, if_neg]
  rintro (h | h)
  · omega
  · exact h hl

include hk

/-- The release of a leased bank fills it (R431). -/
theorem execSe1LeaseWrite_releases {v : W32} (hpow : pagePowered s (pgSE1 p) = true) (ho : lockOpen s .lease = true)
    (hl : leaseOf s p k = .leased) (hv : bits v 0 2 = 0) : execSe1LeaseWrite p k v s = .next (setLease
      (bankFill (wr s (pgSE1 p) (0x080 + 4 * k) (v &&& 0xF3)) (bankAddr p k 0) 32768) p k .releasing) := by
  have hplace : ¬ (16 ≤ p ∨ 5 ≤ k) := by omega
  simp [execSe1LeaseWrite, hplace, hpow, ho, hl, hv]

end

/-- The host writes a word of the bank it has selected and holds (R535). -/
theorem execSe1ApertureAccess_writes {p k off : Nat} (ha : off % 4 = 0) (hoff : off < 0x20000)
    (hp : bits (rd s pgSE1C 0x080) 0 4 = p) (hk : bits (rd s pgSE1C 0x080) 4 3 = k) (hl : leaseOf s p k = .leased)
    (hreq : rdF s (pgSE1 p) (0x080 + 4 * k) 0 2 = 1) (hpow : pagePowered s pgSE1C = true) (v : W32) (e : Ecc) :
    execSe1ApertureAccess ⟨off, 4⟩ (some v) e s = .next (bankSet s (bankAddr p k (off / 4)) (TWord.nat v)) := by
  have hmine : (decide (leaseOf s p k = .leased) && decide (bits (leaseReg s p k) 0 2 = 1) && pagePowered s pgSE1C) = true := by
    rw [hpow, hl, show bits (leaseReg s p k) 0 2 = 1 from hreq]
    rfl
  have hword : off / 4 % 32768 = off / 4 := Nat.mod_eq_of_lt (by omega)
  simp only [execSe1ApertureAccess, hp, hk, hmine, hword]
  exact congrArg _ (if_neg (by omega))

end Sys2Proof.Machine
end

section
/-!
SUPPORT. The rings of the host, the record store and the DRAM channel as their commands leave them (R20, R536 to R571).
-/

namespace Sys2Proof.Machine
variable {s : State}

/-- A command that no rule turns away. -/
theorem next_of_not {c : Prop} [Decidable c] {t u : State} (h : ¬ c) :
    (.next (if c then t else u) : Host.Outcome State Fault Refusal) = .next u := congrArg _ (if_neg h)

/-! ### Rings and the host's sleep (R536 to R543, R561) -/

@[simp] theorem eicEdge_hif (s : State) (n : Nat) : (eicEdge s n).hif = s.hif := by
  unfold eicEdge
  dsimp only
  split
  · rfl
  · split
    · split <;> rfl
    · rfl

@[simp] theorem cmdRing_setCmd (s : State) (n m : Nat) (r : Ring) : cmdRing (setCmd s n r) m = if m = n then r else cmdRing s m := by
  simp [cmdRing, setCmd]

theorem execHifCmdDoorbell_head {n : Nat} (hm : curMode s ≠ .off) (hn : n < 64) (v : W32) :
    ∃ t, execHifCmdDoorbell n v s = .next t ∧ (cmdRing t n).head = bits v 0 12 := by
  refine ⟨_, execHifCmdDoorbell_rings hm hn v, ?_⟩
  have hring : (cmdRing (setCmd s n { cmdRing s n with head := bits v 0 12 }) n).head = bits v 0 12 := by
    rw [cmdRing_setCmd, if_pos rfl]
  dsimp only
  split
  · rw [cmdRing, eicEdge_hif]
    exact hring
  · exact hring

/-- MSI writes leave, or are still held; nothing else changes (R543). -/
theorem msiFlush_frame (s : State) : msiFlush s =
    { s with hif := { s.hif with msiSent := (msiFlush s).hif.msiSent, msiHeld := (msiFlush s).hif.msiHeld } } := by
  unfold msiFlush
  split <;> rfl

/-- A signal clears the ring's count and stops its timer (R541). -/
theorem cplRing_hifSignal (s : State) (n : Nat) : cplRing (hifSignal s n) n = { cplRing s n with count := 0, timer := none } := by
  have hset : cplRing (setCpl s n { cplRing s n with count := 0, timer := none }) n =
      { cplRing s n with count := 0, timer := none } := by rw [cplRing_setCpl, if_pos rfl]
  have hflush (u : State) : cplRing (msiFlush u) n = cplRing u n := by
    rw [msiFlush_frame]
    rfl
  have hmsi (u : State) (b : Bool) (l : List (Nat × W32)) :
      cplRing (if b then msiFlush { u with hif := { u.hif with msiHeld := l } } else u) n = cplRing u n := by
    split
    · exact hflush _
    · rfl
  have hwake (u : State) : cplRing (if u.hif.hostSleep then { u with hif := { u.hif with hostWake := true } } else u) n =
      cplRing u n := by
    split <;> rfl
  exact (hwake _).trans ((hmsi _ _ _).trans hset)

/-- A host that wakes: what was held leaves as soon as its clock runs (R543). -/
theorem execHostSleepFall_wakes (s : State) : ∃ t, execHostSleepFall s = .next t ∧ t.hif.hostSleep = false ∧
    t.hif.hostWake = false ∧ (s.hif.hostClock = true → t.hif.msiHeld = []) := by
  refine ⟨_, rfl, ?_, ?_, fun hc => ?_⟩
  · rw [msiFlush_frame]
  · rw [msiFlush_frame]
  · rw [msiFlush_awake (s := { s with hif := { s.hif with hostSleep := false, hostWake := false } }) rfl hc]

/-- With nothing held, stalled or waiting, the return of the clock leaves the held MSI writes to a host that is awake (R20, R544). -/
theorem execHostClockReturn_runs (hh : s.hif.held = []) (hst : s.hif.stalled = none) (hd : s.hif.dma = []) :
    ∃ t, execHostClockReturn s = .next t ∧ t.hif.hostClock = true ∧ (s.hif.hostSleep = false → t.hif.msiHeld = []) := by
  have hdr : drainHeld { s with hif := { s.hif with hostClock := true } } = { s with hif := { s.hif with hostClock := true } } :=
    drainHeld_nothing hh
  have hstalled : (msiFlush { s with hif := { s.hif with hostClock := true } }).hif.stalled = none := by
    rw [msiFlush_frame]
    exact hst
  have hdma : (msiFlush { s with hif := { s.hif with hostClock := true } }).hif.dma = [] := by
    rw [msiFlush_frame]
    exact hd
  refine ⟨{ msiFlush { s with hif := { s.hif with hostClock := true } } with
    hif := { (msiFlush { s with hif := { s.hif with hostClock := true } }).hif with dma := [] } }, ?_, ?_, fun hs => ?_⟩
  · rw [execHostClockReturn, hdr]
    simp only [hstalled, hdma]
    rfl
  · rw [msiFlush_frame]
  · rw [msiFlush_awake (s := { s with hif := { s.hif with hostClock := true } }) hs rfl]

theorem execHifCntClr_powered (hm : curMode s ≠ .off) : execHifCntClr s = .next (wr s pgHIF 0x0BC 0) := by
  rw [execHifCntClr, if_neg hm]

/-- A ring that is disabled and stays so takes any size in range (R561). -/
theorem execHifRingCfgWrite_disabled {v : W32} (hm : curMode s ≠ .off) (hlo : 4 ≤ bits v 0 4) (hhi : bits v 0 4 ≤ 12)
    (he : (selRing s).en = false) (hv : bit v 4 = false) :
    execHifRingCfgWrite v s = .next (setSelRing s { selRing s with cfg := w32 (v.toNat % 2 ^ 26) }) := by
  have hsize := bits_w32_mod (v := v) (n := 26) (lo := 0) (w := 4) (by omega) (by omega)
  have hen := bit_w32_mod (v := v) (n := 26) (i := 4) (by omega) (by omega)
  have hrange : ¬ (bits v 0 4 < 4 ∨ 12 < bits v 0 4) := by omega
  simp only [execHifRingCfgWrite, if_neg hm, hsize, hen, he, hv]
  rw [if_neg (by simpa using hrange)]
  rfl

/-! ### The record store (R545 to R551, R565) -/

theorem freeWords_frame (n : Nat) (s : State) : (freeWords n s).2 = { s with freeCtr := s.freeCtr + n } := by
  induction n generalizing s with
  | zero => rfl
  | succ n ih =>
    refine (ih (free32 s).2).trans ?_
    rw [Nat.add_comm n, ← Nat.add_assoc]
    rfl

theorem nvrCheck_kept (s : State) : (nvrCheck s).nvr.queue = s.nvr.queue ∧ (nvrCheck s).nvr.head = s.nvr.head ∧
    (nvrCheck s).nvr.seq = s.nvr.seq ∧ (nvrCheck s).regs = s.regs := by
  unfold nvrCheck
  split <;> exact ⟨rfl, rfl, rfl, rfl⟩

/-- What a commit has when the record has been read back: a slot that does not read equal is free and is an error. -/
def recordVerified (s : State) (ok : Bool) : State := if ok then s else raiseErr (freeWords 8 s).2 pgNVR 0

theorem recordVerified_kept (s : State) (ok : Bool) : (recordVerified s ok).nvr = s.nvr ∧
    (∀ q o n, o < 0x1000 → o ≠ 0x010 → rdB (recordVerified s ok) q o n = rdB s q o n) ∧
    (ok = false → rdB (recordVerified s ok) pgNVR 0x010 0 = true) := by
  cases ok
  · simp only [recordVerified, freeWords_frame, Bool.false_eq_true, if_false]
    refine ⟨by simp, fun q o n ho h => ?_, fun _ => ?_⟩
    · rw [rdB_raiseErr_other _ _ _ _ _ _ _ _ _ ho (.inr h)]
      rfl
    · rw [rdB_raiseErr _ _ _ _ _ _ _ (by omega)]
      exact Bool.or_true _
  · exact ⟨rfl, fun _ _ _ _ _ => rfl, fun h => absurd h (by simp)⟩

theorem spill_off (h : rdB s pgNVR 0x080 0 = false) (seq : W32) (ws : List W32) : spill s seq ws = s := by
  rw [spill, if_pos (by simp [h])]

theorem urgentPost_off (h : rdB s pgHIF 0x080 0 = false) (kind : Nat) (ws : List W32) : urgentPost s kind ws = s :=
  if_pos (by simp [show bit (rd s pgHIF 0x080) 0 = false from h])

/-- The state in which the words `put` stand in the next slot of `u` and the record that `s` had at the head of its queue is gone. -/
def recordStored (s u : State) (put : List W32) (rest : List Soe) : State :=
  let s2 := setSlot u s.nvr.head put
  { s2 with nvr := { s2.nvr with
    queue := rest, head := (s.nvr.head + 1) % nvrSlots, seq := s.nvr.seq + 1
    wraps := if (s.nvr.head + 1) % nvrSlots = 0 then s.nvr.wraps + 1 else s.nvr.wraps, sinceCheck := s.nvr.sinceCheck + 1 } }

/-- A commit where neither spilling nor posting is on (R549). -/
theorem execNvrRecordCommit_stored {r : Soe} {rest : List Soe} (hm : curMode s ≠ .off) (hq : s.nvr.queue = r :: rest)
    (hr : s.nvr.ready = true) (hp : rdB s pgHIF 0x080 0 = false) (hs : rdB s pgNVR 0x080 0 = false)
    (ho : unitOff s ⟨RUnit.nvr.cls, 0, 0⟩ = false) (ok : Bool) : ∃ put, execNvrRecordCommit ok s =
      .next (raiseIrq (nvrCheck (recordStored s (recordVerified s ok) put rest)) pgNVR 0) := by
  obtain ⟨hnvr, hkept, -⟩ := recordVerified_kept s ok
  have hrun : ¬ (curMode s = .off ∨ s.nvr.ready = false ∨ unitOff s ⟨RUnit.nvr.cls, 0, 0⟩ = true) := by simp [hm, hr, ho]
  have hoff (put : List W32) (seq : W32) (ws : List W32) (kind : Nat) :
      urgentPost (spill (raiseIrq (nvrCheck (recordStored s (recordVerified s ok) put rest)) pgNVR 0) seq ws) kind ws =
        raiseIrq (nvrCheck (recordStored s (recordVerified s ok) put rest)) pgNVR 0 := by
    have hbit (q : Nat) (h : rdB s q 0x080 0 = false) :
        rdB (raiseIrq (nvrCheck (recordStored s (recordVerified s ok) put rest)) pgNVR 0) q 0x080 0 = false := by
      rw [rdB_raiseIrq_other _ _ _ _ _ (by omega) (by omega), rdB_congr (nvrCheck_kept _).2.2.2, ← h]
      exact hkept q 0x080 0 (by omega) (by omega)
    rw [spill_off (hbit _ hs), urgentPost_off (hbit _ hp)]
  rw [execNvrRecordCommit, hq]
  cases ok
  · exact ⟨(freeWords 8 s).1, congrArg _ ((if_neg hrun).trans (hoff _ _ _ _))⟩
  · exact ⟨_, congrArg _ ((if_neg hrun).trans (hoff _ _ _ _))⟩

/-- The record at the head of the queue goes to the next slot with the next SEQ (R546, R549). -/
theorem execNvrRecordCommit_commits {r : Soe} {rest : List Soe} (hm : curMode s ≠ .off) (hq : s.nvr.queue = r :: rest)
    (hr : s.nvr.ready = true) (hp : rdB s pgHIF 0x080 0 = false) (hs : rdB s pgNVR 0x080 0 = false)
    (ho : unitOff s ⟨RUnit.nvr.cls, 0, 0⟩ = false) (ok : Bool) :
    ∃ t, execNvrRecordCommit ok s = .next t ∧ t.nvr.queue = rest ∧ t.nvr.head = (s.nvr.head + 1) % nvrSlots ∧
      t.nvr.seq = s.nvr.seq + 1 ∧ (ok = false → rdB t pgNVR 0x010 0 = true) := by
  obtain ⟨put, hexec⟩ := execNvrRecordCommit_stored hm hq hr hp hs ho ok
  obtain ⟨hqueue, hhead, hseq, hregs⟩ := nvrCheck_kept (recordStored s (recordVerified s ok) put rest)
  refine ⟨_, hexec, hqueue, hhead, hseq, fun hbad => ?_⟩
  rw [rdB_raiseIrq_other _ _ _ _ _ (by omega) (by omega), rdB_congr hregs]
  exact (recordVerified_kept s ok).2.2 hbad

/-- The state the scan leaves, from the next checkpoint and from what it found: where it stopped, the next number, how many
records follow the checkpoint, and whether one is missing (R548, R567). -/
def scanned (s : State) (k : Nat) : Nat × Nat × Nat × Bool → State
  | (h, q, n, gap) =>
    let s1 := { s with nvr := { s.nvr with
      ready := true, head := h, seq := w32 (q + s.nvr.carry), carry := 0, nextCheck := k, sinceCheck := n } }
    if gap then raiseErr s1 pgNVR 1 else s1

theorem scanned_ready (k : Nat) (x : Nat × Nat × Nat × Bool) : (scanned s k x).nvr.ready = true ∧
    (scanned s k x).nvr.carry = 0 ∧ (scanned s k x).nvr.ring = s.nvr.ring := by
  obtain ⟨h, q, n, gap⟩ := x
  cases gap <;> simp [scanned]

section
variable (hm : curMode s ≠ .off)
include hm

theorem execNvrScanDone_eq_scanned (hr : s.nvr.ready = false) : ∃ k x, execNvrScanDone s = .next (scanned s k x) := by
  unfold execNvrScanDone
  -- the scan's fuel stays behind a variable, so that no step of this proof unrolls it
  generalize nvrScan s nvrSlots = scan, newestCheck s.nvr.checkpoints = c
  rw [if_neg (by simp [hm, hr])]
  obtain _ | ⟨i, v⟩ := c
  · exact ⟨0, scan 0 0 0 false, rfl⟩
  · exact ⟨(i + 1) % 256, scan (v.getD 0 0 % nvrSlots) (v.getD 1 0) 0 false, rfl⟩

/-- The scan makes the store ready and leaves its slots (R548, R549). -/
theorem execNvrScanDone_ready (hr : s.nvr.ready = false) :
    ∃ t, execNvrScanDone s = .next t ∧ t.nvr.ready = true ∧ t.nvr.carry = 0 ∧ t.nvr.ring = s.nvr.ring := by
  obtain ⟨k, x, h⟩ := execNvrScanDone_eq_scanned hm hr
  exact ⟨_, h, scanned_ready k x⟩

theorem execNvrPost_queued (who : Who) (hq : s.nvr.queue.length < 1024) :
    ∃ t, execNvrPost who s = .next t ∧ t.nvr.queue.length = s.nvr.queue.length + 1 ∧ t.nvr.postFull = false := by
  refine ⟨_, (next_of_not hm).trans (next_of_not (Nat.not_le.2 hq)), ?_, rfl⟩
  rw [List.length_append, List.length_singleton]

theorem execNvrDiWrite_written : ∃ t, execNvrDiWrite s = .next t ∧ SMap.get t.nvr.di (List.replicate 8 0) (rdF s pgNVR 0x0E0 0 12) =
    (List.range 8).map fun i => rd s pgNVR (0x0E4 + 4 * i) := by
  refine ⟨_, next_of_not hm, ?_⟩
  simp only [SMap.get_set, if_true]

theorem execNvrRdIdxWrite_starts (v : W32) :
    ∃ t, execNvrRdIdxWrite v s = .next t ∧ t.nvr.rdBusy = true ∧ rd t pgNVR 0x090 = w32 (bits v 0 19) :=
  ⟨_, next_of_not hm, rfl, rd_wr_same _ _ _ _⟩

theorem execNvrReadCopyDone_shows (hb : s.nvr.rdBusy = true) : ∃ t, execNvrReadCopyDone s = .next t ∧ t.nvr.rdBusy = false ∧
    t.nvr.rdData = nvrSlot s (rdF s pgNVR 0x090 0 19) :=
  ⟨_, next_of_not (by simp [hm, hb]), rfl, rfl⟩

/-- The index of the entry is kept, and the eight words of the entry change no other register (R565). -/
theorem execNvrDiSelWrite_selects (v : W32) :
    ∃ t, execNvrDiSelWrite v s = .next t ∧ rd t pgNVR 0x0E0 = w32 (bits v 0 12) ∧ t.nvr = s.nvr := by
  refine ⟨_, next_of_not hm, ?_, foldl_part (·.nvr) (fun u i => wr_nvr u _ _ _) _ _⟩
  exact (foldl_part (rd · pgNVR 0x0E0) (fun u i => rd_wr_other _ _ _ _ _ _ (by simp only [rkey]; omega)) _ _).trans (rd_wr_same _ _ _ _)

end

/-! ### The DRAM channel (R554 to R559, R569 to R571) -/

section
variable (hp : pagePowered s pgDRA = true)
include hp

theorem execDraTrnGo_runs {v : W32} (ho : lockOpen s .bootSvc = true) : ∃ t, execDraTrnGo v s = .next t ∧
    rd t pgDRA 0x0C0 = v &&& 0x1033F ∧ (bit v 16 = true → s.dra.st = .training → t.dra.training = true) := by
  refine ⟨_, next_of_not (by simp [hp, ho]), ?_⟩
  dsimp only
  split
  · refine ⟨?_, fun _ _ => rfl⟩
    rw [rd_wr_apart (by omega) (by omega) (by omega)]
    exact rd_wr_same s _ _ _
  · next h => exact ⟨rd_wr_same _ _ _ _, fun h1 h2 => absurd ⟨h1, h2⟩ h⟩

theorem execTrainDone_ready (ht : s.dra.st = .training) (hmask : masksOk s = true) :
    ∃ t, execTrainDone s = .next t ∧ t.dra.st = .ready ∧ t.regs = s.regs :=
  ⟨_, (next_of_not (by simp [hp])).trans ((next_of_not (not_not.2 ht)).trans (next_of_not (by simp [hmask]))), rfl, rfl⟩

theorem execTrainFail_failed (ht : s.dra.st = .training) : execTrainFail s = .next (channelFailed s) := by
  rw [execTrainFail, if_neg (by simp [hp]), if_neg (not_not.2 ht)]

theorem execRetrain_trains (hm : curMode s = .service) (ho : s.dra.st ≠ .off) :
    ∃ t, execRetrain s = .next t ∧ t.dra.st = .training ∧ t.dra.mem = s.dra.mem :=
  ⟨_, (next_of_not (by simp [hp])).trans (next_of_not (by simp [hm, ho])), rfl, rfl⟩

theorem execDraCntClr_clears :
    ∃ t, execDraCntClr s = .next t ∧ rd t pgDRA 0x0CC = 0 ∧ rd t pgDRA 0x0D0 = 0 ∧ rd t pgDRA 0x0D8 = 0 ∧ t.dra = s.dra := by
  refine ⟨_, next_of_not (by simp [hp]), ?_, ?_, rd_wr_same _ _ _ _, rfl⟩
  · rw [rd_wr_apart (by omega) (by omega) (by omega), rd_wr_apart (by omega) (by omega) (by omega), rd_wr_same]
  · rw [rd_wr_apart (by omega) (by omega) (by omega), rd_wr_same]

variable (hon : rdB s pgDRA 0x080 0 = true)
include hon

theorem draOn_inUse : draOn s = true := by rw [draOn, hp, hon, Bool.and_true]

theorem execDraTrnPatternDone_done (pass : Bool) (n : Nat) (ht : s.dra.training = true) :
    ∃ t, execDraTrnPatternDone pass n s = .next t ∧ t.dra.training = false ∧ rdB t pgDRA 0x024 0 = true :=
  ⟨_, next_of_not (by simp [draOn_inUse hp hon, ht]), rfl, rdB_raiseIrq_same _ _ (by omega)⟩

theorem execDramError_corrected (a : Nat) (hr : s.dra.st = .ready) :
    ∃ t, execDramError a .corrected s = .next t ∧ rdB t pgDRA 0x010 0 = true ∧ t.dra = s.dra := by
  refine ⟨_, next_of_not (by simp [draOn_inUse hp hon, hr]), ?_, by simp⟩
  rw [rdB_raiseErr _ _ _ _ _ _ _ (by omega)]
  exact Bool.or_true _

theorem execDraSpareCopyDone_done (hc : s.dra.migrating = true) :
    ∃ t, execDraSpareCopyDone s = .next t ∧ t.dra.migrating = false ∧ rdB t pgDRA 0x024 1 = true :=
  ⟨_, next_of_not (by simp [draOn_inUse hp hon, hc]), rfl, rdB_raiseIrq_same _ _ (by omega)⟩

theorem execDraSelfRefreshEnter_idle (he : rdB s pgDRA 0x080 1 = true) (hr : s.dra.st = .ready) (hc : s.dra.migrating = false)
    (hi : s.dra.idleFrom + rdF s pgDRA 0x080 8 8 * usN ≤ s.now) :
    ∃ t, execDraSelfRefreshEnter s = .next t ∧ t.dra.sr = true ∧ t.regs = s.regs := by
  have hdue : dueBy s (s.dra.idleFrom + srIdle s) = true := dueBy_now hi
  exact ⟨_, next_of_not (by simp [draOn_inUse hp hon, he, hr, hc, hdue]), rfl, rfl⟩

theorem execDraSelfRefreshExit_exits : ∃ t, execDraSelfRefreshExit s = .next t ∧ t.dra.sr = false ∧ t.regs = s.regs :=
  ⟨_, next_of_not (by simp [draOn_inUse hp hon]), rfl, rfl⟩

end

end Sys2Proof.Machine
end

section
/-!
SUPPORT. The statement that the commands of time, rings, records and the channel complete, and what the last of them leave.
-/

namespace Sys2Proof.Machine
variable {s : State}

/-! ### Time (R306, R316, R317, R321, R323, R326, R333) -/

section
variable (hm : curMode s ≠ .off)
include hm

theorem execStcSnap_shows (sub : Nat) : ∃ t, execStcSnap sub s = .next t ∧ rd t pgSTC 0x0D4 = w32 (nsOf (cntAt s sub)) ∧
    t.stc = s.stc :=
  ⟨_, execStcSnap_powered hm sub, rd_stcSnap_ns _ _ _ _ _, stcSnap_stc _ _ _ _ _⟩

/-- A correction within SLEW_LIMIT is slewed, and one beyond it waits as a step. -/
theorem execStcAdjWrite_moves (h : stcMode s = 0 ∨ stcMode s = 3) (v : W32) : ∃ t, execStcAdjWrite v s = .next t ∧
    (v.toInt.natAbs * 16 ≤ slewLimit s → t.stc.adjLeft = s.stc.adjLeft + v.toInt * nsU ∧ t.stc.stepBy = s.stc.stepBy) ∧
    (slewLimit s < v.toInt.natAbs * 16 → t.stc.stepBy = some (s.stc.stepBy.getD 0 + v.toInt * nsU) ∧
      t.stc.adjLeft = s.stc.adjLeft) := by
  refine ⟨_, execStcAdjWrite_asked hm (by omega) (by omega) v, fun hle => ?_, fun hlt => ?_⟩
  · rw [if_neg (Nat.not_lt.2 hle)]
    exact ⟨rfl, rfl⟩
  · rw [if_pos hlt]
    exact ⟨rfl, rfl⟩

theorem execPpsOutPulse_starts (hon : ppsOutOn s = true)
    (hc : (phaseErr (s.stc.cnt + (BitVec.ofNat 16 (rdF s pgSTC 0x100 16 16)).toInt * nsU)).natAbs ≤ s.stc.incr) :
    ∃ t, execPpsOutPulse s = .next t ∧ t.stc.ppsOut = true ∧ t.regs = s.regs :=
  ⟨_, execPpsOutPulse_due hm hon hc, rfl, rfl⟩

theorem execIrigFrame_keeps {f : IrigFrame} (hon : rdB s pgSTC 0x0F0 0 = true) (hmk : f.markersOk = true) (hdg : f.digitsOk = true)
    (hs : f.second < 60) (hp : s.stc.irigPrev = none) :
    ∃ t, execIrigFrame f s = .next t ∧ t.stc.irigPrev = some (irigSeconds s f).toNat :=
  ⟨_, execIrigFrame_first hm hon hmk hdg hs hp, rfl⟩

end

theorem execIrigTimeout_disqualifies (h : s.stc.irigAt + 2000 * msN ≤ s.now) (hq : s.stc.irig.qual = true) :
    execIrigTimeout s = .next (disqualify (if rdB s pgSTC 0x0F0 0 then condErr s pgSTC 6 else s) 3) :=
  (execIrigTimeout_due h).trans (congrArg _ (if_pos hq))

/-- PTP that falls silent without a place in the list of sources tells nobody. -/
theorem execPtpLate_unlisted (h : s.stc.ptpAt + 2000 * msN ≤ s.now) (h4 : 4 ∉ prioList s) :
    execPtpLate s = .next (stcSelect { s with stc := { s.stc with ptpQual := false, ptpAt := s.now } }) := by
  rw [execPtpLate_due h, if_neg h4]

theorem execLeapApply_applied (hs : secOf s.stc.cnt = rdF s pgSTC 0x0E4 0 16 * 2 ^ 32 + (rd s pgSTC 0x0E0).toNat)
    (hf : rdB s pgSTC 0x0DC 16 = true ∨ rdB s pgSTC 0x0DC 17 = true) :
    ∃ t, execLeapApply s = .next t ∧ rdB t pgSTC 0x024 4 = true ∧ rdB t pgSTC 0x0DC 16 = false ∧ t.stc = s.stc :=
  have ⟨hirq, hflag⟩ := leapApplied s _
  ⟨_, execLeapApply_due hs hf, hirq, hflag, rfl⟩

/-- The pulse output stays driven in free run where bit 3 of the control register asks so (R327). -/
theorem execHoldoverExpired_drives (hst : s.stc.st = .holdover) (ho : s.clk.onIntOsc = false)
    (hl : rdF s pgSTC 0x09C 16 16 * 10 * 1600000000000 < rdF s pgSTC 0x09C 0 16 * (s.now - s.stc.holdAt))
    (hpps : rdB (stcEnter (wr s pgSTC 0x0A0 (w32 (holdEst s))) .freeRun) pgSTC 0x080 3 = true) :
    let u := stcEnter (wr s pgSTC 0x0A0 (w32 (holdEst s))) .freeRun
    execHoldoverExpired s = .next (raiseErr { u with stc := { u.stc with expired := true } } pgSTC 5) := by
  intro u
  have hkept : rdB (raiseErr { u with stc := { u.stc with expired := true } } pgSTC 5) pgSTC 0x080 3 = true := by
    rw [rdB_raiseErr_other _ _ _ _ _ _ _ _ _ (by omega) (by omega)]
    exact hpps
  exact (execHoldoverExpired_over hst ho hl).trans (congrArg _ (if_pos hkept))

/-! ### Pillows (R424, R425, R431, R438, R534) -/

section
variable {p : Nat} (hp : p < 16) (hpow : pagePowered s (pgPIL p) = true)
include hp hpow

theorem execPilCntClr_clears :
    ∃ t, execPilCntClr p s = .next t ∧ rd t (pgPIL p) 0x090 = 0 ∧ rd t (pgPIL p) 0x09C = 0 ∧ t.mem = s.mem := by
  refine ⟨_, execPilCntClr_powered hp hpow, ?_, rd_wr_same _ _ _ _, rfl⟩
  rw [rd_wr_apart (by omega) (by omega) (by omega), rd_wr_apart (by omega) (by omega) (by omega),
    rd_wr_apart (by omega) (by omega) (by omega), rd_wr_same]

/-- The pass starts again at the first word. -/
theorem execScrubNow_restarts : ∃ t, execScrubNow p s = .next t ∧ scrubPos t p % 2 ^ 16 = 0 ∧ t.regs = s.regs := by
  refine ⟨_, execScrubNow_powered hp hpow, ?_, rfl⟩
  rw [scrubPos_scrubBegin, scrubPos_setScrub, if_pos rfl, Nat.mul_mod_left]

theorem execPilOwnQuery_selects (v : W32) :
    ∃ t, execPilOwnQuery p v s = .next t ∧ rd t (pgPIL p) 0x0A8 = w32 (bits v 0 14) ∧ t.mem = s.mem :=
  ⟨_, execPilOwnQuery_powered hp hpow v, rd_wr_same _ _ _ _, rfl⟩

variable (hen : rdB s (pgPIL p) 0x080 0 = true)
include hen

theorem execScrubRead_advances (hbank : s.mem.bankBad = []) (hcode : s.mem.codeBad = []) (hlast : scrubPos s p % 2 ^ 15 + 1 < 2 ^ 15) :
    ∃ t, execScrubRead p [] .clean .clean s = .next t ∧ scrubPos t p = scrubPos s p + 1 := by
  refine ⟨_, execScrubRead_clean hp hpow hen (fun k _ => ⟨rfl, ?_⟩) ?_ ?_, ?_⟩
  · rw [hbank]
    exact List.not_mem_nil
  · rw [hcode]
    exact List.not_mem_nil
  · rw [hcode]
    exact List.not_mem_nil
  · rw [if_pos hlast, scrubPos_setScrub, if_pos rfl]

theorem execScrubLate_raises (hd : SMap.get s.mem.scrub 0 (16 + p) + scrubPeriod s p ≤ s.now) :
    ∃ t, execScrubLate p s = .next t ∧ rdB t (pgPIL p) 0x010 3 = true := by
  refine ⟨_, execScrubLate_due hp hpow hen hd, ?_⟩
  rw [rdB_raiseErr _ _ _ _ _ _ _ (by omega)]
  exact Bool.or_true _

end

section
variable {p k : Nat} (hp : p < 16)
include hp

theorem execBankFillDone_on (hk : k < 8) (h : bankPwr s p k = .waking) :
    ∃ t, execBankFillDone p k s = .next t ∧ bankPwr t p k = .on :=
  ⟨_, execBankFillDone_waking hp hk h, bankPwr_setBankPwr _ _ _ _⟩

theorem execWakeFail_raises (hk : k < 8) (h : bankPwr s p k = .waking) (hl : p * 9 + k ∉ s.pwr.wakeLate) :
    ∃ t, execWakeFail p (some k) s = .next t ∧ rdB t (pgPIL p) 0x010 5 = true ∧ bankPwr t p k = .waking := by
  refine ⟨_, execWakeFail_waking hp hk h hl, ?_, ?_⟩
  · rw [rdB_raiseErr _ _ _ _ _ _ _ (by omega)]
    exact Bool.or_true _
  · rw [bankPwr, raiseErr_mem]
    exact h

theorem execLeaseGranted_leases (hl : leaseOf s p k = .pending) (hf : ∀ i < 2048, ownOf s p (k * 2048 + i) = 0) :
    ∃ t, execLeaseGranted p k s = .next t ∧ leaseOf t p k = .leased := by
  have hirq (u : State) (q n : Nat) : leaseOf (raiseIrq u q n) p k = leaseOf u p k := rfl
  refine ⟨_, execLeaseGranted_free hp hl hf, ?_⟩
  rw [hirq, leaseOf_setLease]

end

theorem execSe1ApertureAccess_stores {p k off : Nat} (ha : off % 4 = 0) (hoff : off < 0x20000)
    (hp : bits (rd s pgSE1C 0x080) 0 4 = p) (hk : bits (rd s pgSE1C 0x080) 4 3 = k) (hl : leaseOf s p k = .leased)
    (hreq : rdF s (pgSE1 p) (0x080 + 4 * k) 0 2 = 1) (hpow : pagePowered s pgSE1C = true) (v : W32) (e : Ecc) :
    ∃ t, execSe1ApertureAccess ⟨off, 4⟩ (some v) e s = .next t ∧ bankGet t (bankAddr p k (off / 4)) = TWord.nat v := by
  refine ⟨_, execSe1ApertureAccess_writes ha hoff hp hk hl hreq hpow v e, ?_⟩
  rw [bankGet_bankSet, if_pos rfl]

/-! ### Rings (R541) -/

theorem execHifModTimer_signals {n d : Nat} (hn : n < 64) (ht : (cplRing s n).timer = some d) (hd : d ≤ s.now) :
    ∃ t, execHifModTimer n s = .next t ∧ (cplRing t n).timer = none ∧ (cplRing t n).count = 0 := by
  refine ⟨_, execHifModTimer_expired hn ht hd, ?_⟩
  rw [cplRing_hifSignal]
  exact ⟨rfl, rfl⟩

end Sys2Proof.Machine

namespace Sys2Proof
open Machine

/-- Settles O60, one clause for each command. That the first good IRIG frame is only kept is the choice of log entry 140, and that the
host's clock stops with its sleep as the operand says is that of log entry 56. -/
theorem timeRingRecordAndChannelCommandsComplete : Obligations.TimeRingRecordAndChannelCommandsComplete := by
  intro s
  refine ⟨fun hm => ?time, fun p hp hpow => ?pillow, fun p hp k hk hw => ?banks, fun p hp k hk => ?leases, fun hm => ?host,
    fun hp => ?channel⟩
  case time =>
    refine ⟨fun o hn hb => execRefInEdge_advances hm hn hb o, execStcSnap_shows hm, execStcCntClr_powered hm, rfl,
      fun v h => execStcAdjWrite_moves hm h v,
      fun h => ⟨⟨_, execStcSetNow_inRange hm h, rfl⟩, ⟨_, execStcSetAtEdge_inRange hm h, rfl⟩⟩,
      execRefInLost_onRef hm, execRefInReturn_onIntOsc hm, fun e hi hr => execPpsEdge_active hm hi hr,
      fun v h => execStcPtpOffsetWrite_unselected hm h, execPpsOutPulse_starts hm,
      fun f => execIrigFrame_keeps hm, fun f p => execIrigFrame_seen hm, execIrigTimeout_disqualifies, execPtpLate_unlisted,
      execLeapApply_applied, execHoldoverExpired_drives, fun i l => execPpsEdgeMissed_due⟩
  case pillow =>
    exact ⟨execPilCntClr_clears hp hpow, execScrubNow_restarts hp hpow, execPilOwnQuery_selects hp hpow,
      fun hen => ⟨execScrubRead_advances hp hpow hen, execScrubLate_raises hp hpow hen⟩⟩
  case banks => exact ⟨execBankFillDone_on hp hk hw, execWakeFail_raises hp hk hw⟩
  case leases =>
    exact ⟨fun v hpow ho hl hv => ⟨_, execSe1LeaseWrite_releases hp hk hpow ho hl hv, leaseOf_setLease _ _ _ _⟩,
      execLeaseGranted_leases hp, execLeaseReleased_filled hp, fun off v e ha hoff hsel hbank hl hreq hpow =>
        execSe1ApertureAccess_stores ha hoff hsel hbank hl hreq hpow v e⟩
  case host =>
    exact ⟨fun n v hn => execHifCmdDoorbell_head hm hn v, fun v b hg hs => execHifPost_go hm hg hs,
      fun n d => execHifModTimer_signals, fun b => ⟨_, rfl, rfl, rfl⟩, execHostSleepFall_wakes s, execHostClockReturn_runs,
      ⟨_, execHifCntClr_powered hm, rd_wr_same _ _ _ _, rfl⟩, fun v => execHifRingCfgWrite_disabled hm, execNvrScanDone_ready hm,
      fun r rest b hq hr hp hs ho => execNvrRecordCommit_commits hm hq hr hp hs ho b, execNvrPost_queued hm, execNvrDiWrite_written hm,
      ⟨_, next_of_not hm, rfl, rfl⟩, execNvrRdIdxWrite_starts hm, execNvrReadCopyDone_shows hm, execNvrDiSelWrite_selects hm⟩
  case channel =>
    exact ⟨fun v => execDraTrnGo_runs hp, execTrainDone_ready hp, execTrainFail_failed hp, execRetrain_trains hp,
      execDraCntClr_clears hp, fun hon => ⟨execDraTrnPatternDone_done hp hon, execDramError_corrected hp hon,
        execDraSpareCopyDone_done hp hon, execDraSelfRefreshEnter_idle hp hon, execDraSelfRefreshExit_exits hp hon⟩⟩

end Sys2Proof
end

section
/-!
SUPPORT. The Whorl's lines and bobbins, the strand commands and the wake of a core (R13, R343, R344, R346 to R359, R366 to R372, R522,
R615): what each command does where its premises hold, and the statement that they complete.
-/

namespace Sys2Proof.Machine
variable {s : State}

/-! ### Tick lines (R13, R349 to R352) -/

/-- A window that has ended closes its tick. -/
theorem execWindowClose_ended {o : CloseObs} (hn : o.line < 8) (hr : (tline s o.line).running = true) (hm : tlMode s o.line = 1)
    (hw : (tline s o.line).nominal + tlWindow s o.line ≤ cntAt s o.sub) : execWindowClose o s =
      .next (guardAll (nextTick (closeTick s o.line (cntAt s o.sub) true o.agree o.inBound) o.line (cntAt s o.sub))) :=
  next_of_not (by simp [Nat.not_le.2 hn, hr, hm, hw])

/-- A tracking line whose nominal instant is reached ticks. -/
theorem execTrackingTick_due {n sub : Nat} {ok : Bool} (hn : n < 8) (hr : (tline s n).running = true) (hm : tlMode s n = 2)
    (hd : (tline s n).nominal ≤ cntAt s sub) : execTrackingTick n ⟨sub, ok⟩ s = .next (
      let t := closeTick s n (cntAt s sub) false true ok
      let l := tline t n
      guardAll (trkEstimate (setLine t n { l with
        tick := (l.tick + 1) % 2 ^ 17, nominal := l.nominal + l.period, lastClose := cntAt s sub }) n)) :=
  next_of_not (by simp [Nat.not_le.2 hn, hr, hm, Nat.not_lt.2 hd])

/-! ### Starts and preemption (R352 to R354) -/

/-- An idle bobbin with no switch under way loads the first READY ply that its mode lets start. -/
theorem execStrandStart_loads {b i j k : Nat} {x : Strand} {p : Ply} {e : Env} {t : State} (hb : b < 256)
    (hidle : (core s b).pstate = .idle) (hon : domSt s b = .on) (hhalt : (core s b).haltReq ≠ .pending) (hsw : (core s b).switch = none)
    (hfirst : firstReady s b = some (i, j)) (hx : strand s i = some x) (hp : ply? s i j = some p) (hk : p.slot = some k)
    (hpart : partnerSwitching s b i = false) (he : e.seq.fetches = []) (hload : loadOn s b ⟨i, j, k⟩ [] p.side e = (none, t)) :
    execStrandStart b true e s = .next t := by
  have hgo : ¬ (256 ≤ b ∨ (core s b).pstate ≠ .idle ∨ domSt s b ≠ .on ∨ (core s b).haltReq = .pending) := by
    simp [Nat.not_le.2 hb, hidle, hon, hhalt]
  simp only [execStrandStart, if_neg hgo, hsw, Option.isSome_none, hfirst, hx, hp, hk, hpart, Bool.false_eq_true, if_false, if_true,
    sequencer_plain _ _ _ _ _ he, hload]

/-- A strand of class M or B in its own code gives its bobbin up to a READY one of class P or C. -/
theorem execStrandPreempt_leaves {b : Nat} {o : OnCore} {x : Strand} {e : Env} (hb : b < 256) (hrun : (core s b).pstate = .strand)
    (ho : (core s b).strand = some o) (hx : strand s o.idx = some x) (hcls : 2 ≤ dCls x.decl)
    (hurgent : ∃ f ∈ readyOn s b, ∃ y, strand s f.1 = some y ∧ dCls y.decl < 2) (hset : (core s b).pset = false)
    (hdelay : (core s b).delay = none) (hpart : partnerSwitching s b o.idx = false) (he : e.seq.fetches = []) :
    execStrandPreempt ⟨b, e⟩ s = .next (leaveWith s b o ⟨false, true, .ready, none, true⟩ e) := by
  simp only [execStrandPreempt, ho, hx, hrun, hset, hdelay, hpart, Nat.not_le.2 hb, Nat.not_lt.2 hcls, ne_eq, not_true_eq_false,
    false_or, Bool.false_or, Bool.or_false, sequencer_plain _ _ _ _ _ he]
  obtain ⟨f, hf, y, hy, hlt⟩ := hurgent
  refine next_of_not ?_
  rw [Bool.not_eq_true', Bool.not_eq_false]
  exact List.any_eq_true.2 ⟨f, hf, by simp only [hy, decide_eq_true hlt]⟩

/-! ### Overruns and faults (R343, R355 to R357) -/

section
variable {b : Nat} {o : OnCore} {e : Env} (hb : b < 256) (ho : (core s b).strand = some o)
include hb ho

/-- The handler of BUDGET deals with its strand by the overrun policy. -/
theorem execBudgetExhausted_overrun (hrun : (core s b).pstate = .strand) (hh : budgetHandler (core s b) = true) :
    execBudgetExhausted ⟨b, e⟩ s = .next (overrun s b o) := by
  simp only [execBudgetExhausted, if_pos hb, budgetStep, hh, hrun, decide_true, Bool.and_self, if_true, ho]

/-- A used budget is BUDGET at a recognition point: the same step as for an asynchronous exception that stands. -/
theorem execBudgetExhausted_raises (hh : budgetHandler (core s b) = false) (hp : (core s b).budgetPend = true)
    (hr : canRecognise (core s b) = true) : execBudgetExhausted ⟨b, e⟩ s =
      .next (enter (modCore s b fun x => { x with budgetPend := false, budgetOver := true }) b e 13 0 0 false) := by
  have hsame : execBudgetExhausted ⟨b, e⟩ s = execExceptionEntry b e s := by
    rw [execBudgetExhausted, execExceptionEntry, if_pos hb, if_pos hb]
  exact hsame.trans (execExceptionEntry_budget hb hp hr (by rw [ho]; rfl) hh)

end

theorem land_strand (k : Core) (l : Landing) : (land k l).strand = k.strand := by
  cases l with
  | entry p i w => cases p <;> rfl
  | _ => rfl

/-- A drain point leaves the strand on its core. -/
theorem drain_strand (k : Core) : (drain k).strand = k.strand :=
  List.foldlRecOn k.flight (motive := fun u : Core => u.strand = k.strand) (fun u f => land u f.land) rfl
    fun u h f _ => (land_strand u f.land).trans h

theorem strand_setStrand_same (i : Nat) (x : Option Strand) : strand (setStrand s i x) i = x := by
  simp only [strand, setStrand, SMap.get_set, if_true]

theorem strand_modStrand_same {i : Nat} {x : Strand} (f : Strand → Strand) (h : strand s i = some x) :
    strand (modStrand s i f) i = some (f x) := by
  simp only [modStrand, h, strand_setStrand_same]

/-- An exception at U whose frame is open is reported with its vector, and its strand leaves in FAULTED. -/
theorem execStrandFaultReport_faults {b : Nat} {o : OnCore} {x : Strand} {fi st link : W32} {cells : List W32} (hb : b < 256)
    (ho : (core s b).strand = some o) (hx : strand (saveU s b (drain (core s b)) o) o.idx = some x)
    (hf : openFrame (drain (core s b)) = some (fi, st, link, cells)) (hlo : 1 ≤ bits fi 0 10) (hhi : bits fi 0 10 ≤ 11) :
    execStrandFaultReport b s = .next (
      let v := bits fi 0 10
      let t := soe (modStrand (saveU s b (drain (core s b)) o) o.idx fun x => { x with vector := v }) 9 RUnit.whrl.cls v
        (TWord.nat 0).tag (w32 (bits fi 12 4 + bits link 0 16 * 2 ^ 16)) x.id
      afterLeave (plyLeaves (setCore t b (wdogReload t
        (leaveCore (closeFrame (drain (core s b)))))) o.idx o.ply .faulted) b o.idx) := by
  have hgo : ¬ (256 ≤ b ∨ bits fi 0 10 = 0 ∨ 11 < bits fi 0 10) := by omega
  have hstrand : (drain (core s b)).strand = some o := (drain_strand _).trans ho
  simp only [execStrandFaultReport, hstrand, hf, if_neg hgo, strand_modStrand_same _ hx]

/-! ### Timers and timeouts (R344, R359) -/

/-- A whole multiple of the period that has not been taken yet triggers the strand. -/
theorem execTimerTrigger_due {i : Nat} {x : Strand} (hx : strand s i = some x) (ht : dTrig x.decl = 2) :
    let per := max 1 (dPeriod x.decl) * 1000 * nsU
    let m := (s.stc.cnt + s.stc.incr) / per * per
    s.stc.cnt ≤ m → m ≠ x.timerAt →
      execTimerTrigger i s = .next (trigger (modStrand s i fun y => { y with timerAt := m }) i) := by
  intro per m hle hne
  have hper : 0 < per := Nat.mul_pos (Nat.mul_pos (Nat.lt_of_lt_of_le Nat.one_pos (Nat.le_max_left _ _)) (by decide)) (by decide)
  have hgo : ¬ (dTrig x.decl ≠ 2 ∨ m + per ≤ s.stc.cnt ∨ m < s.stc.cnt ∨ m = x.timerAt) := by omega
  simp only [execTimerTrigger, hx]
  exact next_of_not hgo

theorem modStrand_congr {i : Nat} {f g : Strand → Strand} (h : ∀ x, strand s i = some x → f x = g x) :
    modStrand s i f = modStrand s i g := by
  cases hx : strand s i with
  | none => simp only [modStrand, hx]
  | some x => simp only [modStrand, hx, h x hx]

/-- Where the millisecond that ends their WAIT is reached, plies that are resident are READY. -/
theorem execWaitTimeout_ready {i n : Nat} {x : Strand} (hx : strand s i = some x)
    (hp : ∀ p ∈ x.plies, p.st = .waiting ∧ p.waitFor = some (.msAt n) ∧ p.slot.isSome = true) (hn : n ≤ s.stc.cnt + s.stc.incr) :
    execWaitTimeout i s = .next (modStrand s i fun x => { x with plies := x.plies.map fun p => { p with st := .ready } }) := by
  refine congrArg Host.Outcome.next (modStrand_congr fun y hy => ?_)
  obtain rfl : x = y := Option.some.inj (hx.symm.trans hy)
  refine congrArg (fun ps => { x with plies := ps }) (List.map_congr_left fun p hmem => ?_)
  obtain ⟨hst, hwait, hslot⟩ := hp p hmem
  simp only [hst, hwait, if_neg (Nat.not_lt.2 hn), hslot, if_true]

/-! ### Strand commands (R337, R369, R370) -/

section
variable (hready : WhrlReady s)
include hready

/-- The Whorl takes a command when it is ready for one. -/
theorem scmd_ready (body : Nat → State → State) : scmd s body = body (scmdIdx s) s := by
  obtain ⟨hpow, hbusy, hcode, hsafe⟩ := hready
  simp only [scmd, hpow, hbusy, hsafe, Nat.not_lt.2 hcode, Bool.not_true, Bool.false_eq_true, or_self, if_false]

/-- A good record of a class that the mode admits is read and its strand created. -/
theorem execWhrlCreate_creates {segs : List SegReq} {t : State} (hclk : s.hif.hostClock = true)
    (hcls : classRefused s (dCls (dramWords s ((rd s pgDRA 0x0A4).toNat * 2 ^ 20 + 32 * scmdIdx s) 8)) true = false)
    (hc : createStrand s (scmdIdx s) segs none = (2, t)) : execWhrlCreate segs none s = .next (scmdEnd t (scmdIdx s) 2) := by
  simp only [execWhrlCreate, scmd_ready hready, hifDma, hclk, if_true, createNow, hcls, hc, Bool.and_false, Bool.false_eq_true, if_false]

end

/-- A command that needs every ply in a state it is legal from, and finds them so, acts. -/
theorem scmdAll_acts {i : Nat} {x : Strand} {limited : Bool} {legal : Ply → Bool} (act : State → State) (hx : strand s i = some x)
    (hl : ∀ p ∈ x.plies, legal p = true) (hc : limited = true → classRefused s (dCls x.decl) false = false) :
    scmdAll s i limited legal act = scmdEnd (act s) i 2 := by
  have hcls : (limited && classRefused s (dCls x.decl) false) = false := by
    cases limited with
    | false => rfl
    | true => exact hc rfl
  simp only [scmdAll, hx, List.all_eq_true.2 hl, hcls, Bool.not_true, Bool.false_eq_true, if_false]

/-- What a command that changes each ply by `f` leaves (R369): the strand's moves have ended, and one with no ply left is FREE. -/
def pliesChanged (s : State) (i : Nat) (f : Ply → Ply) : State :=
  sendOrphans (freeIfGone (modStrand (abortMigs s i) i fun y => { y with plies := y.plies.map f }) i) i

/-- A command that acts on each ply from whose state it is legal, so that `f` says what becomes of a ply, ends at once where no ply has
to reach a drain point first. -/
theorem scmdPlies_acts {i op : Nat} {x : Strand} {creating : Bool} {legal : Ply → Bool} {act f : Ply → Ply} (hx : strand s i = some x)
    (hl : ∃ p ∈ x.plies, legal p = true) (hc : classRefused s (dCls x.decl) creating = false)
    (hf : ∀ p, f p = if !legal p then p else if p.st = .running then { p with atDrain := some op } else act p)
    (hd : ∀ y, strand (pliesChanged s i f) i = some y → ∀ p ∈ y.plies, p.atDrain = none) :
    scmdPlies s i op creating legal act = scmdEnd (pliesChanged s i f) i 2 := by
  obtain rfl : f = _ := funext hf
  simp only [scmdPlies, hx, List.any_eq_true.2 hl, hc, Bool.not_true, Bool.false_eq_true, if_false]
  split
  next y hy =>
    have hnone : (y.plies.any fun p => p.atDrain.isSome) = false :=
      List.any_eq_false.2 fun p hp => by rw [hd y hy p hp]; exact Bool.false_ne_true
    exact if_neg (by rw [hnone]; exact Bool.false_ne_true)
  next => rfl

section
variable (hready : WhrlReady s) {x : Strand} (hx : strand s (scmdIdx s) = some x)
include hready hx

/-- A SUSPENDED strand is STAGED or PARKED again, and messages that came meanwhile trigger it. -/
theorem execWhrlResume_suspended (hp : ∀ p ∈ x.plies, p.st = .suspended) : execWhrlResume s = .next (
    let i := scmdIdx s
    let t := modStrand s i fun y => { y with plies := y.plies.map fun p =>
      { p with st := if p.slot.isSome then .staged else .parked } }
    scmdEnd (msgTrigger { t with prck := { t.prck with capSusp := t.prck.capSusp.filter (· ≠ i) } } i false) i 2) :=
  congrArg Host.Outcome.next ((scmd_ready hready _).trans (scmdAll_acts _ hx (fun p h => decide_eq_true (hp p h)) nofun))

/-- A strand that is SUSPENDED or FAULTED starts over in SUSPENDED. -/
theorem execWhrlReset_stopped (hp : ∀ p ∈ x.plies, p.st = .suspended ∨ p.st = .faulted)
    (hc : classRefused s (dCls x.decl) false = false) : execWhrlReset s = .next (
      let i := scmdIdx s
      let n := match strand (abortMigs s i) i with | some y => y.plies.length | none => 0
      let t := (List.range n).foldl (fun v j => ctxReset v i j) (abortMigs s i)
      scmdEnd (modStrand t i fun y => { y with
        vector := 0, plies := y.plies.map fun p => { p with st := .suspended } }) i 2) :=
  congrArg Host.Outcome.next ((scmd_ready hready _).trans (scmdAll_acts _ hx (fun p h => decide_eq_true (hp p h)) fun _ => hc))

/-- A strand with a ply that is neither FREE nor FAULTED is SUSPENDED. -/
theorem execWhrlSuspend_suspends {t : State} (hc : classRefused s (dCls x.decl) false = false)
    (hl : ∃ p ∈ x.plies, p.st ≠ .free ∧ p.st ≠ .faulted)
    (ht : t = pliesChanged s (scmdIdx s) fun p => if p.st = .free ∨ p.st = .faulted then p
      else if p.st = .running then { p with atDrain := some 2 } else { p with st := .suspended })
    (hd : ∀ y, strand t (scmdIdx s) = some y → ∀ p ∈ y.plies, p.atDrain = none) :
    execWhrlSuspend s = .next (scmdEnd t (scmdIdx s) 2) := by
  subst ht
  refine congrArg Host.Outcome.next ((scmd_ready hready _).trans (scmdPlies_acts hx ?_ hc (fun p => ?_) hd))
  · exact hl.imp fun p h => ⟨h.1, decide_eq_true h.2⟩
  · simp [or_iff_not_imp_left]

/-- A strand with a ply that is not FREE is freed. -/
theorem execWhrlFree_frees {t : State} (hc : classRefused s (dCls x.decl) true = false) (hl : ∃ p ∈ x.plies, p.st ≠ .free)
    (ht : t = pliesChanged s (scmdIdx s) fun p => if p.st = .free then p
      else if p.st = .running then { p with atDrain := some 5 } else { p with st := .free })
    (hd : ∀ y, strand t (scmdIdx s) = some y → ∀ p ∈ y.plies, p.atDrain = none) :
    execWhrlFree s = .next (scmdEnd t (scmdIdx s) 2) := by
  subst ht
  refine congrArg Host.Outcome.next ((scmd_ready hready _).trans (scmdPlies_acts hx ?_ hc (fun p => ?_) hd))
  · exact hl.imp fun p h => ⟨h.1, decide_eq_true h.2⟩
  · simp

/-- The FAULTED plies of a strand are SUSPENDED, and with the last of them its vector goes. -/
theorem execWhrlClear_clears {t : State} (hc : classRefused s (dCls x.decl) false = false) (hl : ∃ p ∈ x.plies, p.st = .faulted)
    (ht : t = pliesChanged s (scmdIdx s) fun p => if p.st = .faulted then { p with st := .suspended } else p)
    (hd : ∀ y, strand t (scmdIdx s) = some y → ∀ p ∈ y.plies, p.atDrain = none) :
    execWhrlClear s = .next (modStrand (scmdEnd t (scmdIdx s) 2) (scmdIdx s) fun y =>
      if (y.plies.any fun p => decide (p.st = .faulted)) then y else { y with vector := 0 }) := by
  subst ht
  refine congrArg Host.Outcome.next ((scmd_ready hready _).trans
    (congrArg (modStrand · (scmdIdx s) _) (scmdPlies_acts hx ?_ hc (fun p => ?_) hd)))
  · exact hl.imp fun p h => ⟨h.1, decide_eq_true h.2⟩
  · by_cases h : p.st = .faulted <;> simp [h]

end

/-- The counters and maxima of the page and RESYNC are cleared (R372). -/
theorem execWhrlCntClr_powered (hpow : pagePowered s pgWHRL = true) : execWhrlCntClr s = .next (
    let t := (List.range 8).foldl (fun u n => [0x20, 0x24, 0x28, 0x2C, 0x30, 0x34].foldl (fun v o => wr v pgWHRL (tlOff n o) 0)
      (wrF u pgWHRL (tlOff n 0x1C) 16 16 0)) s
    { wrF (wr t pgWHRL 0x09C 0) pgWHRL 0x0A0 16 13 0 with
      whrl := { (wrF (wr t pgWHRL 0x09C 0) pgWHRL 0x0A0 16 13 0).whrl with resync := false } }) :=
  next_of_not (by simp [hpow])

/-! ### The wake of a core (R522, R615) -/

section
variable {c : Nat} {p : Nat × Nat} (hpres : presented s (eicTarget c) = some p) (hwake : rdB s (pgEICT (eicTarget c)) 0x088 1 = true)
include hpres hwake

/-- A core that sleeps where it stands goes on. -/
theorem execCoreWake_idle (hc : c ≤ 256) (hidle : (core s c).pstate = .idle) : execCoreWake c s =
    .next (modCore s c fun k => { k with pstate := if c = spindle then .strand else .system }) := by
  have hsleep : asleep s c = true := by simp [asleep, hidle]
  refine (next_of_not ?_).trans (next_of_not ?_)
  · simp [hsleep, hpres, hwake, Nat.not_le.2 (Nat.lt_succ_of_le hc)]
  · simp [hidle]

/-- A bobbin that is power-gated powers up. -/
theorem execCoreWake_gated (hc : c < 256) (hoff : (core s c).pstate = .off) (hdom : domSt s c = .off) (hrun : (curMode s).runs = true) :
    execCoreWake c s = .next (domOn s c) := by
  have hsleep : asleep s c = true := by simp [asleep, hoff, hdom, hrun, Nat.ne_of_lt hc]
  refine (next_of_not ?_).trans (congrArg _ (if_pos hoff))
  simp [hsleep, hpres, hwake]
  omega

end

theorem countUp_doms (d : Nat) : (countUp s d).pwr.doms = s.pwr.doms := by
  unfold countUp
  dsimp only
  split <;> rfl

/-- A bobbin that powers up starts anew. -/
theorem domOn_bob {b : Nat} (hb : b < 256) (h : domSt s b ≠ .on) :
    domOn s b = setCore (countUp (setDom s b .on) b) b Core.bobStart := by
  have hfab : ¬ (384 ≤ b ∧ b < 400 ∧ domSt s b = .off) := by omega
  simp only [domOn, if_neg h, if_neg hfab, if_pos hb]

theorem domSt_domOn_bob {b : Nat} (hb : b < 256) (h : domSt s b ≠ .on) : domSt (domOn s b) b = .on := by
  rw [domOn_bob hb h, domSt, setCore_pwr, countUp_doms]
  simp only [setDom, SMap.get_set, if_true]

end Sys2Proof.Machine

namespace Sys2Proof
open Machine

/-- Settles O51, command by command. That the runtime applies a strand's overrun policy at the next BUDGET_EXHAUSTED, while the frame of
handler 13 is open, is the choice of log entry 72; that a strand whose exception has entered the gate table is FAULTED by the report
that follows is that of log entry 98. -/
theorem whorlCommandsComplete : Obligations.WhorlCommandsComplete := by
  intro s
  refine ⟨fun o => execWindowClose_ended, fun n sub ok => execTrackingTick_due,
    fun b i j x p k e hb hidle hon hhalt hsw hfirst hx hp hk hpart he t hload =>
      execStrandStart_loads hb hidle hon hhalt hsw hfirst hx hp hk hpart he.1 hload,
    fun b o x e hb hrun ho hx hcls hurgent hset hdelay hpart he =>
      execStrandPreempt_leaves hb hrun ho hx hcls hurgent hset hdelay hpart he.1,
    fun b o e hb ho hrun => ⟨execBudgetExhausted_overrun hb ho hrun, execBudgetExhausted_raises hb ho⟩,
    fun b o x fi st link cells => execStrandFaultReport_faults,
    fun i x => execTimerTrigger_due, fun i x n => execWaitTimeout_ready, fun hready => ?commands,
    execWhrlCntClr_powered, fun c e hc hidle hpres hwake => execCoreWake_idle hpres hwake hc hidle, ?gated⟩
  case commands =>
    exact ⟨fun segs t => execWhrlCreate_creates hready, fun x hx =>
      ⟨execWhrlResume_suspended hready hx, execWhrlReset_stopped hready hx,
        fun hc => ⟨fun t => execWhrlSuspend_suspends hready hx hc, fun t => execWhrlClear_clears hready hx hc⟩,
        fun hc t => execWhrlFree_frees hready hx hc⟩⟩
  case gated =>
    intro c e hc hoff hdom hrun hpres hwake
    have htarget : eicTarget c = c + 1 := if_neg (Nat.ne_of_lt hc)
    have hnot : domSt s c ≠ .on := by rw [hdom]; exact nofun
    rw [← htarget] at hpres hwake
    exact ⟨_, execCoreWake_gated hpres hwake hc hoff hdom hrun, by rw [domOn_bob hc hnot, core_setCore_same], domSt_domOn_bob hc hnot⟩

end Sys2Proof
end

section
/-!
SUPPORT. The Pricking unit's events and commands (R375 to R408, R460, R559, R611): what each does where its premises hold, and the
statement that they complete.
-/

namespace Sys2Proof.Machine
variable {s : State}

/-! ### The loop and its exclusions (R375, R382 to R385) -/

/-- The state that a sample of the loop has noted, before anything is moved: the inputs of the pillows and which of them act. -/
def sampleNoted (s : State) (obs : List PilSample) : State :=
  let ps := (List.range 16).filterMap fun p => (obs[p]?).map fun o => (p, o)
  let t := ps.foldl (fun u e => { u with prck := { u.prck with
    util := SMap.set u.prck.util 0 e.1 e.2.util, temp := SMap.set u.prck.temp 0 e.1 e.2.temp
    head := SMap.set u.prck.head 0 e.1 e.2.head } }) s
  ps.foldl (fun u e => (List.range 3).foldl (fun v i => loopInput v e.1 i e.2) u) t

/-- The end of a sample: wants that wait are served, and each pillow's FLOOR is set. -/
def sampleEnded (s : State) : State :=
  (List.range 16).foldl setFloor { serveWants s with prck := { (serveWants s).prck with judged := true } }

section
variable {obs : List PilSample} (hpow : pagePowered s pgPRCK = true) (hauto : rdB (sampleNoted s obs) pgPRCK 0x080 0 = false)
  (hconsol : rdB (sampleNoted s obs) pgPRCK 0x080 4 = false)
include hpow hauto hconsol

/-- With AUTO and CONSOL off a sample moves what firmware has asked for and nothing more. -/
theorem execPrckLoopSample_noted (asked : List (Nat × Nat)) : execPrckLoopSample ⟨obs, asked⟩ s = .next (sampleEnded
    (asked.foldl (fun u e => if (migOf u e.1 e.2).isSome then u else want u e.1 e.2 8) (sampleNoted s obs))) := by
  unfold sampleNoted at hauto hconsol
  simp only [execPrckLoopSample, hpow, hauto, hconsol, Bool.not_true, Bool.not_false, Bool.false_eq_true, if_true, if_false]
  rfl

/-- A ply that no move has under way is wanted at firmware's request. -/
theorem execPrckLoopSample_asked {i j : Nat} (hfree : migOf (sampleNoted s obs) i j = none) :
    execPrckLoopSample ⟨obs, [(i, j)]⟩ s = .next (sampleEnded (want (sampleNoted s obs) i j 8)) := by
  rw [execPrckLoopSample_noted hpow hauto hconsol]
  exact congrArg (fun u => Host.Outcome.next (sampleEnded u)) (if_neg (by simp [hfree]))

end

/-- The exclusion `v` in force: no wanted move leaves a pillow for it that it lets in (R385). -/
def excludedNow (s : State) (v : W32) : State :=
  let t := wr s pgPRCK 0x094 (w32 (bits v 0 16))
  { t with prck := { t.prck with wants := t.prck.wants.filter fun w =>
    !(decide (w.reason = 7) && (match ply? t w.idx w.ply with | some q => !excluded t (pilOf q.bob) | none => true)) } }

/-- A set that leaves pillows enough is taken, and with AUTO on its pillows' work is moved away. -/
theorem execPrckExcludeWrite_taken {v : W32} (hpow : pagePowered s pgPRCK = true)
    (hroom : pillowsNeeded s ≤ eligible s (w32 (bits v 0 16))) : execPrckExcludeWrite v s = .next (
      if rdB (excludedNow s v) pgPRCK 0x080 0 then
        serveWants (roomReturns ((List.range 16).foldl (fun u p => if excluded u p then moveAway u p 7 else u) (excludedNow s v)))
      else roomReturns (excludedNow s v)) :=
  (next_of_not (by simp [hpow])).trans (next_of_not (Nat.not_lt.2 hroom))

/-! ### Moves (R391, R392, R611) -/

/-- A copy that finds every word readable meets nothing. -/
theorem moveMeets_clean {m : Mig} (h : ∀ a ∈ moveReads s m, a ∉ s.mem.bankBad) : moveMeets s m .clean = (false, s) := by
  have hnone : (moveReads s m).find? (fun a => decide (a ∈ s.mem.bankBad)) = none :=
    List.find?_eq_none.2 fun a ha => by simpa using h a ha
  simp [moveMeets, hnone]

/-- A clean copy whose plies stand still commits, once the target's pillow runs at its FLOOR. -/
theorem execMigrationCopyDone_commits {i j : Nat} {m : Mig} {q : Ply} (hm : migOf s i j = some m) (hcopy : m.copying = true)
    (hfast : pilFloor s (pilOf m.dst) ≤ pilFreq s (pilOf m.dst)) (hclk : s.hif.hostClock = true)
    (hq : ply? s i (m.rebuildFrom.getD j) = some q) (hstill : moveStill s m = true)
    (hread : ∀ a ∈ moveReads s m, a ∉ s.mem.bankBad) :
    execMigrationCopyDone i j .clean s = .next (decideNow (commitMig s m false) i) := by
  simp [execMigrationCopyDone, hm, hcopy, Nat.not_lt.2 hfast, hclk, hq, hstill, moveMeets_clean hread]

/-! ### Staging (R366 to R368, R394, R395, R559) -/

section
variable {i : Nat} {x : Strand} {p : Ply} (hx : strand s i = some x) (hp : ply? s i 0 = some p) (hst : p.st = .parked)
include hx hp hst

/-- The image of a parked strand that is due is fetched where PARK_BW has room for it. -/
theorem execStageStart_fetches {t : State} (hdra : s.dra.st = .ready) (hclk : s.hif.hostClock = true)
    (hdue : stageDue s x p = true ∨ p.staging = true) (hbw : parkBandwidth s (stageAhead s i x p) = (true, t)) :
    execStageStart i s = .next (modPly (draTouch t) i 0 fun q => { q with staging := true }) := by
  have hwant : (stageDue s x p || p.staging || comesBack s i x p) = true := by simp [hdue]
  simp only [execStageStart, hx, hp, hbw]
  exact next_of_not (by simp [hst, hdra, hclk, hwant])

/-- A good image takes a free slot of its pillow, and what came meanwhile triggers its strand. -/
theorem execStageComplete_staged {k : Nat} {q : Ply} (hsg : p.staging = true) (hslot : p.slot = none) (hmerged : p.merged = false)
    (hclk : s.hif.hostClock = true) (hgood : s.dra.poison = []) (hk : freeSlot s (pilOf p.bob) = some k) :
    let ws := (List.range 64).map fun j => ctxGet s i p j
    let t := modPly s i 0 fun q => { q with slot := some k, staging := false, merged := false, st := if q.st = .parked then .staged else q.st }
    let u := { t with prck := { t.prck with staged := t.now :: t.prck.staged.filter fun n => decide (t.now < n + 1000 * msN) } }
    imageRefused ws x.id = false → ply? u i 0 = some q → execStageComplete i s =
      .next (msgTrigger (prckLogNow (drainOverflow (ctxSetList u i q 0 ws) i) 5 10 i 0 q.bob q.bob 64) i false) := by
  intro ws t u himg hq
  have hwait : p.st ≠ .waiting := by rw [hst]; exact nofun
  simp only [execStageComplete, hx, hp, hk]
  refine (next_of_not (by simp [hsg, hslot, hclk])).trans ((next_of_not (by simp [hgood, ws, himg])).trans ?_)
  simp only [t, u] at hq
  simp only [hmerged, hq, Bool.false_eq_true, false_and, if_false, if_neg hwait]
  rfl

end

/-! ### The rota (R396 to R399) -/

/-- The end of a step of unit `i` of `n`: the sequence moves on as `set'` notes it, and with its last unit the round ends (R396, R399). -/
def rotaMoved (s : State) (mine : RotaUnit → Bool) (i n : Nat) (set' : Nat → State → State) : State :=
  if i + 1 = n then rotaRound (set' ((i + 1) % n) s) mine else set' ((i + 1) % n) s

/-- With no unit under proof and none skipped by the round before, a step takes its sequence's own unit. -/
theorem rotaStep_own (hproof : s.prck.proving = []) (hretry : s.prck.retry = []) (mine : RotaUnit → Bool) (own : RotaUnit)
    (i n : Nat) (set' : Nat → State → State) : rotaStep s mine own i n set' = rotaMoved (rotaBegin s own) mine i n set' := by
  have hkeep : rotaGiveUp s mine = s := by simp [rotaGiveUp, hproof]
  have hown : rotaNext s mine own = (own, true, s) := by simp [rotaNext, hretry]
  simp only [rotaStep, hkeep, hown, rotaMoved, true_and, if_true]

/-- PROOF_LATE and the mark of a rota that is behind are all that a late proof leaves (R399). -/
theorem proofLate_frame (s : State) (page : Nat) (u : UnitId) : proofLate s page u =
    { s with regs := (proofLate s page u).regs
             selv := { s.selv with occ := (proofLate s page u).selv.occ }
             prck := { s.prck with behind := (proofLate s page u).prck.behind } } := by
  unfold proofLate
  split
  · rw [raiseErr_frame]
  · rfl

theorem rdB_proofLate_other (s : State) (page : Nat) (u : UnitId) (q o n : Nat) (ho : o < 0x1000) (h : o ≠ 0x010) :
    rdB (proofLate s page u) q o n = rdB s q o n := by
  unfold proofLate
  split
  · exact rdB_raiseErr_other _ _ _ _ _ _ _ _ _ ho (.inr h)
  · rfl

theorem rotaUnit_at'_unit (s t : State) (r : RotaUnit) : (r.at' t).1 = (r.at' s).1 := by cases r <;> rfl

/-- Whether a bobbin takes placements does not hang on a late proof. -/
theorem bobOk_proofLate (s : State) (page : Nat) (u : UnitId) (b : Nat) : bobOk (proofLate s page u) b = bobOk s b := by
  have hen (q : Nat) : rdB (proofLate s page u) q 0x008 0 = rdB s q 0x008 0 :=
    rdB_proofLate_other s page u q 0x008 0 (by omega) (by omega)
  have hunit (w : UnitId) : unitRec (proofLate s page u) w = unitRec s w := by rw [proofLate_frame]; rfl
  have htest (w : UnitId) : unitTested (proofLate s page u) w = unitTested s w := by rw [proofLate_frame]; rfl
  have hcore : core (proofLate s page u) b = core s b := by rw [proofLate_frame]; rfl
  have hproving : (proofLate s page u).prck.proving = s.prck.proving := by rw [proofLate_frame]
  have hdrains : (proofLate s page u).dbg.drains = s.dbg.drains := by rw [proofLate_frame]
  simp only [bobOk, hen, hunit, htest, hcore, hproving, hdrains]

/-- A unit is as free after a late proof as it was before. -/
theorem rotaFree_proofLate (s : State) (page : Nat) (u : UnitId) (r : RotaUnit) : rotaFree (proofLate s page u) r = rotaFree s r := by
  have htests : (proofLate s page u).selv.tests = s.selv.tests := by rw [proofLate_frame]
  have hproving : (proofLate s page u).prck.proving = s.prck.proving := by rw [proofLate_frame]
  simp only [rotaFree, unitTested, rotaUnit_at'_unit s, htests, hproving, bobOk_proofLate]

/-- A unit is marked as under proof. -/
def rotaTaken (s : State) (r : RotaUnit) : State := { s with prck := { s.prck with proving := s.prck.proving ++ [r] } }

/-- What a step asks for its unit: a lane waits for its test, another unit is vacated for it (R397, R398). -/
def rotaAsks (s : State) : RotaUnit → State
  | .bobbin b => askTest (vacate (prckLogUnit s 7 4 b) (bobUnit b) 4) (bobUnit b) .rota []
  | .bank p k => askTest (vacate (prckLogUnit s 7 4 0) (bankUnit p k) 4) (bankUnit p k) .rota []
  | .lane k => askTest s (laneUnit k) .rota []

section
variable {r : RotaUnit} {w : UnitId} {page : Nat} {on : Bool} (hat : r.at' s = (w, page, on))
include hat

/-- A unit that is not on, or that the rota does not include, is passed over (R691). -/
theorem rotaBegin_passes (hin : (on && rotaIn s page w) = false) : rotaBegin s r = s := by simp [rotaBegin, hat, hin]

variable (hin : (on && rotaIn s page w) = true)
include hin

/-- A unit that is not free is skipped (R399). -/
theorem rotaBegin_skips (hfree : rotaFree (proofLate s page w) r = false) :
    rotaBegin s r = rotaSkip (proofLate s page w) r := by
  rw [rotaFree_proofLate] at hfree
  simp only [rotaBegin, hat, hin, hfree, Bool.not_true, Bool.not_false, Bool.false_eq_true, if_true, if_false]

/-- A unit that is free is marked, and waits for its test. -/
theorem rotaBegin_takes (hfree : rotaFree (proofLate s page w) r = true) :
    rotaBegin s r = rotaAsks (rotaTaken (proofLate s page w) r) r := by
  rw [rotaFree_proofLate] at hfree
  simp only [rotaBegin, hat, hin, hfree, Bool.not_true, Bool.false_eq_true, if_false]
  cases r <;> cases hat <;> rfl

end

/-- The three ends of a step that leaves `next` of what it does with its unit: the unit is passed over, skipped or taken. -/
theorem rotaBegin_cases {e : Host.Outcome State Fault Refusal} {next : State → State} {r : RotaUnit} {w : UnitId} {page : Nat}
    {on : Bool} {u t : State} (he : e = .next (next (rotaBegin s r))) (hat : r.at' s = (w, page, on)) (hu : proofLate s page w = u)
    (ht : rotaAsks (rotaTaken u r) r = t) :
    ((on && rotaIn s page w) = false → e = .next (next s)) ∧
    ((on && rotaIn s page w) = true → rotaFree u r = false → e = .next (next (rotaSkip u r))) ∧
    ((on && rotaIn s page w) = true → rotaFree u r = true → e = .next (next t)) := by
  subst hu ht
  exact ⟨fun hin => he.trans (by rw [rotaBegin_passes hat hin]), fun hin hfree => he.trans (by rw [rotaBegin_skips hat hin hfree]),
    fun hin hfree => he.trans (by rw [rotaBegin_takes hat hin hfree])⟩

/-- What a bobbin's, a bank's and a lane's step of `s` leaves beside its unit, whose state is `v`. -/
def rotaBobbinMoved (s v : State) : State := rotaMoved v RotaUnit.isBob s.prck.rotaB 256 fun n u =>
  { u with prck := { u.prck with rotaB := n, rotaBAt := s.now } }
def rotaBankMoved (s v : State) : State := rotaMoved v RotaUnit.isBank s.prck.rotaK 128 fun n u =>
  { u with prck := { u.prck with rotaK := n, rotaKAt := s.now } }
def rotaLaneMoved (s v : State) : State := rotaMoved v RotaUnit.isLane s.prck.rotaL 96 fun n u =>
  { u with prck := { u.prck with rotaL := n, rotaLAt := s.now } }

section
variable (hproof : s.prck.proving = []) (hretry : s.prck.retry = [])
include hproof hretry

theorem execRotaBobbinStep_due (hdue : rotaDue s s.prck.rotaBAt 256 = true) : execRotaBobbinStep s =
    .next (rotaBobbinMoved s (rotaBegin s (.bobbin (16 * (s.prck.rotaB % 16) + s.prck.rotaB / 16)))) :=
  (next_of_not (by simp [hdue])).trans (congrArg _ (rotaStep_own hproof hretry ..))

/-- No bobbin's step runs in the bank's pillow, so the bank's does not wait. -/
theorem execRotaBankStep_due (hdue : rotaDue s s.prck.rotaKAt 128 = true) : execRotaBankStep s =
    .next (rotaBankMoved s (rotaBegin s (.bank (s.prck.rotaK % 16) (s.prck.rotaK / 16)))) :=
  (next_of_not (by simp [hdue, hproof])).trans (congrArg _ (rotaStep_own hproof hretry ..))

theorem execRotaLaneStep_due (hdue : rotaDue s s.prck.rotaLAt 96 = true) : execRotaLaneStep s =
    .next (rotaLaneMoved s (rotaBegin s (.lane s.prck.rotaL))) :=
  (next_of_not (by simp [hdue])).trans (congrArg _ (rotaStep_own hproof hretry ..))

end

/-! ### Heartbeats and shadows (R403 to R405, R408, R460) -/

/-- The tick that a heartbeat names is marked as heard; what was missed stays counted. -/
def tickHeard (s : State) (f : TickHb) : State :=
  let key := f.h.src * 8 + f.line % 8
  { s with prck := { s.prck with
    heard := SMap.set s.prck.heard ⟨none, 0⟩ key ⟨some f.tick, (SMap.get s.prck.heard ⟨none, 0⟩ key).missed⟩ } }

section
variable {f : TickHb} {t : State} (hrx : interRx s f.h = (true, t)) (hon : rdB t pgPRCK 0x080 3 = true) (hlo : 5 ≤ f.mode)
  (hhi : f.mode < 10)
include hrx hon hlo hhi

/-- A heartbeat of an engine that runs strands marks its tick. -/
theorem execTickHeartbeatRx_heard (hnone : f.entries = []) : execTickHeartbeatRx f s = .next (tickHeard t f) := by
  have hlive : ¬ (f.mode < 5 ∨ 10 ≤ f.mode) := by omega
  simp [execTickHeartbeatRx, hrx, hon, hlive, hnone, tickHeard]

/-- The entry of a strand of this engine that says it is handed back hands back one that has yielded. -/
theorem execTickHeartbeatRx_handsBack {id v : W32} {x : Strand} (hone : f.entries = [(id, v)])
    (hmine : idEngine id = t.glb.engineNum) (hx : strand t (idIndex id) = some x) (hid : x.id = id) (hback : bit v 1 = true) :
    execTickHeartbeatRx f s =
      .next (modStrand (tickHeard t f) (idIndex id) fun y => { y with handback := y.yielded }) := by
  have hlive : ¬ (f.mode < 5 ∨ 10 ≤ f.mode) := by omega
  have hstrand : strand (tickHeard t f) (idIndex id) = some x := hx
  unfold tickHeard at hstrand ⊢
  simp [execTickHeartbeatRx, hrx, hon, hlive, hone, hmine, hstrand, hid, hback]

end

section
variable {x : Strand} (hpow : pagePowered s pgPRCK = true) (hx : strand s (rdF s pgPRCK 0x0A8 0 21) = some x)
  (hshadow : x.shadowOf.isSome = true)
include hpow hx hshadow

/-- A shadow that has taken over announces its hand-back. -/
theorem execHandBack_announces (htaken : x.taken = true) : execHandBack s =
    .next (modStrand s (rdF s pgPRCK 0x0A8 0 21) fun y => { y with handback := true }) := by
  simp [execHandBack, hpow, hx, hshadow, htaken]

/-- A shadow is freed, and leaves the directory. -/
theorem execShadowDrop_frees : execShadowDrop s = .next (
    let t := freeStrand s (rdF s pgPRCK 0x0A8 0 21)
    { t with prck := { t.prck with
      dir := t.prck.dir.filter fun d => decide (d.shadow ≠ x.id), dirGen := (t.prck.dirGen + 1) % 2 ^ 32 } }) := by
  simp [execShadowDrop, hpow, hx, hshadow]

end

/-- The counts of the page and LOG_LOST are cleared. -/
theorem execPrckCntClr_powered (hpow : pagePowered s pgPRCK = true) :
    execPrckCntClr s = .next (wrF (wr (wr s pgPRCK 0x0C4 0) pgPRCK 0x0C8 0) pgPRCK 0x0B8 16 16 0) :=
  next_of_not (by simp [hpow])

end Sys2Proof.Machine

namespace Sys2Proof
open Machine

/-- Settles O52, command by command; of each rota's step by whether its unit is passed over, skipped or taken (`rotaBegin_cases`). That a
migration that firmware requests is served within the loop's sample is the choice of log entry 146, and that what a round has skipped
comes before the sequence's own unit in the next is that of log entry 163. -/
theorem prickingCommandsComplete : Obligations.PrickingCommandsComplete := by
  intro s
  refine ⟨fun obs hpow => ?loop, fun i j m q => execMigrationCopyDone_commits,
    fun i x p t hx hp hst hdra hclk => execStageStart_fetches hx hp hst hdra hclk,
    fun i x p k hx hp hst hsg hslot hmerged hclk hgood hk => ?stage, ?rota, fun v hpow hroom => ?exclude,
    fun f t hrx hon hlo hhi => ?heartbeat,
    fun x hpow hx hshadow => ⟨execHandBack_announces hpow hx hshadow, execShadowDrop_frees hpow hx hshadow⟩,
    execPrckCntClr_powered⟩
  case loop =>
    exact fun hauto hconsol => ⟨execPrckLoopSample_noted hpow hauto hconsol [],
      fun i j => execPrckLoopSample_asked hpow hauto hconsol⟩
  case stage => exact fun himg q => execStageComplete_staged hx hp hst hsg hslot hmerged hclk hgood hk himg
  case rota =>
    intro ended taken hproof hretry
    refine ⟨?bobbin, ?bank, ?lane⟩
    case bobbin =>
      intro hdue b r u step
      exact rotaBegin_cases (next := step) (r := r) (u := u) (execRotaBobbinStep_due hproof hretry hdue) rfl rfl rfl
    case bank =>
      intro hdue p k r on u step
      exact rotaBegin_cases (next := step) (r := r) (u := u) (execRotaBankStep_due hproof hretry hdue) rfl rfl rfl
    case lane =>
      intro hdue k r on u step
      exact rotaBegin_cases (next := step) (r := r) (u := u) (execRotaLaneStep_due hproof hretry hdue) rfl rfl rfl
  case exclude =>
    exact ⟨fun hauto => (execPrckExcludeWrite_taken hpow hroom).trans (next_of_not (by rw [Bool.not_eq_true]; exact hauto)),
      fun hauto => (execPrckExcludeWrite_taken hpow hroom).trans (congrArg _ (if_pos hauto))⟩
  case heartbeat =>
    exact ⟨execTickHeartbeatRx_heard hrx hon hlo hhi, fun id v x => execTickHeartbeatRx_handsBack hrx hon hlo hhi⟩

end Sys2Proof
end

section
/-!
SUPPORT. Pillow memory and its leases (R9, R424 to R426, R429 to R431, R436, R438, R534, R535): a code memory that wakes late, the
request for a bank, the aperture without a lease; and the statements that rest on them.
-/

namespace Sys2Proof.Machine
variable {s : State}

/-! ### Code memory that wakes (R428, R438) -/

/-- Code memory, bank number 8 to WAKE_FAIL, is reported as late against the pillow's fabric. -/
theorem execWakeFail_code {p : Nat} (hp : p < 16) (hret : p ∈ s.mem.codeRetain) (hdom : domSt s (384 + p) = .changing)
    (hl : p * 9 + 8 ∉ s.pwr.wakeLate) : execWakeFail p none s = .next (raiseErr
      { s with pwr := { s.pwr with wakeLate := (p * 9 + 8) :: s.pwr.wakeLate } } (pgPIL p) 5 8 [fabricUnit p]) := by
  have hw : wakes s p 8 = true := by simp [wakes, hret, hdom]
  simp only [execWakeFail, Option.getD_none]
  exact next_of_not (by simp [hw, hl, hp])

/-! ### Leases (R430, R431) -/

section
variable {p k : Nat} {v : W32} (hp : p < 16) (hk : k < 5) (hpow : pagePowered s (pgSE1 p) = true) (ho : lockOpen s .lease = true)
include hp hk hpow ho

/-- A request for a free bank, by the host or a bobbin, waits until the bank is empty. -/
theorem execSe1LeaseWrite_requests (hl : leaseOf s p k = .free) (hv : bits v 0 2 = 1 ∨ bits v 0 2 = 2) :
    execSe1LeaseWrite p k v s =
      .next (vacateBank (setLease (wr s (pgSE1 p) (0x080 + 4 * k) (v &&& 0xF3)) p k .pending) p k 8) := by
  have hplace : ¬ (16 ≤ p ∨ 5 ≤ k) := by omega
  rcases hv with hv | hv <;> simp [execSe1LeaseWrite, hplace, hpow, ho, hl, hv]

/-- While a lease is on its way to its next state it takes no other. -/
theorem execSe1LeaseWrite_busy (hl : leaseOf s p k = .pending ∨ leaseOf s p k = .releasing) :
    execSe1LeaseWrite p k v s = .next (warnEvent s (pgSE1 p)) :=
  (next_of_not (by omega)).trans ((next_of_not (by simp [hpow, ho])).trans (congrArg _ (if_pos hl)))

end

/-! ### The aperture (R534, R535) -/

/-- R4, R534: an access that is no aligned word of the window. -/
theorem execSe1ApertureAccess_misplaced {off size : Nat} (h : size ≠ 4 ∨ off % 4 ≠ 0 ∨ 0x20000 ≤ off) (w : Option W32) (e : Ecc) :
    execSe1ApertureAccess ⟨off, size⟩ w e s = .next { s with lastAccess := .busError } :=
  congrArg _ (if_pos h)

section
variable {p k off : Nat} (ha : off % 4 = 0) (hoff : off < 0x20000) (hp : bits (rd s pgSE1C 0x080) 0 4 = p)
  (hk : bits (rd s pgSE1C 0x080) 4 3 = k)
include ha hoff hp hk

/-- The host reads a word of the bank it has selected and holds. -/
theorem execSe1ApertureAccess_reads (hl : leaseOf s p k = .leased) (hreq : rdF s (pgSE1 p) (0x080 + 4 * k) 0 2 = 1)
    (hpow : pagePowered s pgSE1C = true) (hgood : bankAddr p k (off / 4) ∉ s.mem.bankBad) :
    execSe1ApertureAccess ⟨off, 4⟩ none .clean s =
      .next { s with lastAccess := .data (bankGet s (bankAddr p k (off / 4))).pay } := by
  have hmine : (decide (leaseOf s p k = .leased) && decide (bits (leaseReg s p k) 0 2 = 1) && pagePowered s pgSE1C) = true := by
    rw [hpow, hl, show bits (leaseReg s p k) 0 2 = 1 from hreq]
    rfl
  have hword : off / 4 % 32768 = off / 4 := Nat.mod_eq_of_lt (by omega)
  simp only [execSe1ApertureAccess, hp, hk, hmine, hword, bankRead_clean 3 hgood]
  exact congrArg _ (if_neg (by omega))

variable (hl : leaseOf s p k ≠ .leased)
include hl

/-- A bank that is not leased reads 0. -/
theorem execSe1ApertureAccess_readsZero (e : Ecc) :
    execSe1ApertureAccess ⟨off, 4⟩ none e s = .next { s with lastAccess := .data 0 } := by
  simp only [execSe1ApertureAccess, hp, hk, hl, decide_false, Bool.false_and]
  exact congrArg _ (if_neg (by omega))

/-- A write of a bank that is not leased is a warning event. -/
theorem execSe1ApertureAccess_warns (v : W32) (e : Ecc) :
    execSe1ApertureAccess ⟨off, 4⟩ (some v) e s = .next (warnEvent s pgSE1C) := by
  simp only [execSe1ApertureAccess, hp, hk, hl, decide_false, Bool.false_and]
  exact congrArg _ (if_neg (by omega))

end

end Sys2Proof.Machine

namespace Sys2Proof
open Machine

/-- Settles O32, command by command; a pass that begins is `scrubBegin`. -/
theorem pillowMemoryCommands : Obligations.PillowMemoryCommands := by
  intro s p hp hpow
  refine ⟨execPilCntClr_powered hp hpow, execPilOwnQuery_powered hp hpow, execScrubNow_powered hp hpow, ?read, ?late, ?bank,
    execWakeFail_code hp⟩
  case read =>
    rintro es _ hen rfl hbank h0 h1
    exact execScrubRead_clean hp hpow hen hbank h0 h1
  case late =>
    rintro _ hen rfl hdue
    exact execScrubLate_due hp hpow hen hdue
  case bank => exact fun k hk hw => ⟨execBankFillDone_waking hp hk hw, execWakeFail_waking hp hk hw⟩

/-- Settles O33: the writes of a lease by its state, its grant and its return, and the aperture with a lease, without one and out of
place. -/
theorem banksAreLeasedToTheHost : Obligations.BanksAreLeasedToTheHost := by
  intro s p k hp hk
  refine ⟨fun v hpow ho => ?write, execLeaseGranted_free hp, execLeaseReleased_filled hp, fun off e ha hoff hsel hbank => ?aperture,
    fun off size w e h => execSe1ApertureAccess_misplaced h w e⟩
  case write =>
    exact ⟨execSe1LeaseWrite_requests hp hk hpow ho, execSe1LeaseWrite_releases hp hk hpow ho, execSe1LeaseWrite_busy hp hk hpow ho⟩
  case aperture =>
    exact ⟨fun hl hreq hpow => ⟨fun v => execSe1ApertureAccess_writes ha hoff hsel hbank hl hreq hpow v e,
        execSe1ApertureAccess_reads ha hoff hsel hbank hl hreq hpow⟩,
      fun hl => ⟨execSe1ApertureAccess_readsZero ha hoff hsel hbank hl e,
        fun v => execSe1ApertureAccess_warns ha hoff hsel hbank hl v e⟩⟩

end Sys2Proof
end

section
/-!
SUPPORT. Lanes and their frames (R363 to R366, R440 to R470, R474 to R481): what each of their commands does where its premises hold,
and the statement that they complete.
-/

namespace Sys2Proof.Machine
variable {s : State}

/-! ### A lane that is written -/

@[simp] theorem lane_modLane (s : State) (k : Nat) (f : Lane → Lane) : lane (modLane s k f) k = f (lane s k) := by
  simp [lane, modLane, setLane]

/-- What a lane sends of itself does not touch its count of valid frames. -/
@[simp] theorem c37Good_lineSends (s : State) (k : Nat) : (lane (lineSends s k) k).c37Good = (lane s k).c37Good := by
  simp [lineSends]

/-! ### Signal and LINK (R440, R442, R443) -/

theorem swingLost_iff (o : SwingObs) :
    swingLost s o = true ↔ laneMode s o.lane = 3 ∨ o.swing < losMin s o.lane ∧ 10000 ≤ o.held := by
  simp [swingLost]

theorem swingBack_iff (o : SwingObs) :
    swingBack s o = true ↔ laneMode s o.lane = 3 ∨ losMin s o.lane + 20 < o.swing ∧ 100000 ≤ o.held := by
  simp [swingBack]

/-- A swing that is large enough, or low for too short a time, is no loss. -/
theorem execLaneSignalLoss_kept {o : SwingObs} (b : Bool) (hmode : laneMode s o.lane ≠ 3)
    (hkept : losMin s o.lane ≤ o.swing ∨ o.held < 10000) : execLaneSignalLoss o b s = .next s := by
  have hseen : swingLost s o = false := Bool.eq_false_iff.2 fun h => by
    have := (swingLost_iff o).1 h
    omega
  exact congrArg _ (if_pos (.inr hseen))

/-- A swing that is too small, or large for too short a time, brings no signal. -/
theorem execLaneSignalRestore_still {o : SwingObs} (hmode : laneMode s o.lane ≠ 3)
    (hstill : o.swing ≤ losMin s o.lane + 20 ∨ o.held < 100000) : execLaneSignalRestore o s = .next s := by
  have hseen : swingBack s o = false := Bool.eq_false_iff.2 fun h => by
    have := (swingBack_iff o).1 h
    omega
  exact congrArg _ (if_pos (.inr hseen))

section
variable {o : SwingObs} (hon : laneOn s o.lane = true)
include hon

theorem execLaneSignalLoss_lost (b : Bool) (hlost : laneMode s o.lane = 3 ∨ o.swing < losMin s o.lane ∧ 10000 ≤ o.held) :
    execLaneSignalLoss o b s = .next (condErr (linkFalls (modLane s o.lane fun l => { l with signal := false }) o.lane
      (b && (lane s o.lane).link)) (pgLANE o.lane) 0) :=
  next_of_not (by simp [hon, (swingLost_iff o).2 hlost])

theorem execLaneSignalRestore_back
    (hback : laneMode s o.lane = 3 ∨ losMin s o.lane + 20 < o.swing ∧ 100000 ≤ o.held) : execLaneSignalRestore o s =
      .next (condEnd (lineSends (modLane s o.lane fun l => { l with signal := true }) o.lane) (pgLANE o.lane) 0) :=
  next_of_not (by simp [hon, (swingBack_iff o).2 hback])

end

theorem execLaneLinkDown_falls {o : LinkFall} (hon : laneOn s o.lane = true) (b : Bool) : execLaneLinkDown o b s = .next (linkFalls
    (modLane s o.lane fun l => { l with fefRx := o.farFault && decide (laneMode s o.lane = 1) }) o.lane (b && (lane s o.lane).link)) :=
  next_of_not (by simp [hon])

section
variable {k : Nat} (hon : laneOn s k = true)
include hon

/-- LINK comes up where there is signal, unless auto-negotiation finds a partner of half duplex only. -/
theorem execLaneLinkUp_up {an half : Bool} (hmode : laneMode s k ≠ 3) (hsig : (lane s k).signal = true)
    (han : (decide (laneMode s k = 2) && portB s (pgLANE k) 0x080 7) = an) (hduplex : (an && half) = false) :
    execLaneLinkUp k half s = .next (setLink (modLane s k fun l => { l with anDone := an, fefRx := false }) k true) := by
  subst han
  exact next_of_not (by rw [hon, hsig, hduplex]; simp [hmode])

/-! ### Symbols and the eye (R442, R470) -/

/-- The state that has counted a symbol error of lane k. -/
def symbolCounted (s : State) (k : Nat) : State := modLane (laneCount s k 0x0C4) k fun x => { x with symAt := some s.now }

/-- The symbol errors of lane k in the millisecond before now. -/
def recentSymbols (s : State) (k : Nat) : List Nat := (lane s k).symTimes.filter fun n => decide (s.now < n + msN)

theorem execLaneSymbolError_on : execLaneSymbolError k s = .next (
    let t := symbolCounted s k
    if 16 ≤ (recentSymbols t k).length then raiseErr (setLane t k { lane t k with symTimes := [] }) (pgLANE k) 4
    else setLane t k { lane t k with symTimes := t.now :: recentSymbols t k }) := by
  refine (next_of_not (by simp [hon])).trans (congrArg _ (if_congr ?_ rfl rfl))
  exact Nat.lt_succ_iff

end

/-- What the millisecond's eye leaves in its lane, with n measurements in a row at the end of the equaliser's range. -/
def eyeSeen (s : State) (e : EyeMeas) (n : Nat) (locked : Bool) : State := modLane s e.lane fun l => { l with
  ctle := e.ctle, dfe := e.dfe.take 5, thresh := e.swing / 2, eyeV := e.eyeV, eyeH := e.eyeH, eqEnd := n, eqLocked := locked
  eyeLowAt := if e.eyeV ≤ rdF s (pgLANE e.lane) 0x094 8 8 then some s.now else l.eyeLowAt }

section
variable {e : EyeMeas} (hon : laneOn s e.lane = true) (hmode : laneMode s e.lane ≠ 3)
include hon hmode

theorem execLaneEyeMeasure_locked (hend : e.atEnd = false) :
    execLaneEyeMeasure e s = .next (condEnd (eyeSeen s e 0 true) (pgLANE e.lane) 1) := by
  refine (next_of_not (by simp [hon, hmode])).trans ?_
  simp only [hend, Bool.false_eq_true, if_false]
  rfl

/-- At the end of its range the equaliser is not locked, and the tenth measurement there in a row is an error. -/
theorem execLaneEyeMeasure_atEnd (hend : e.atEnd = true) : execLaneEyeMeasure e s = .next (
    let t := eyeSeen s e ((lane s e.lane).eqEnd + 1) false
    if 9 ≤ (lane s e.lane).eqEnd then condErr t (pgLANE e.lane) 1 else t) := by
  refine (next_of_not (by simp [hon, hmode])).trans (congrArg _ ?_)
  simp only [hend, if_true]
  exact if_congr Nat.succ_le_succ_iff rfl rfl

end

/-! ### C37.94 (R440, R443, R470) -/

section
variable {f : C37Frame} (hon : laneOn s f.lane = true) (hmode : laneMode s f.lane = 3) (haway : laneAway s f.lane = false)
include hon hmode haway

theorem execC3794FrameRx_invalid (hvalid : f.valid = false) :
    execC3794FrameRx f s = .next (lineSends (modLane s f.lane fun l => { l with c37Good := 0 }) f.lane) :=
  (next_of_not (by simp [hon, hmode, haway])).trans (congrArg _ (if_pos (by simp [hvalid])))

/-- The first valid frame after an invalid one gives no LINK yet; one with the lane's N and without RDI is no alarm. -/
theorem execC3794FrameRx_first (hvalid : f.valid = true) (hrdi : f.rdi = false) (hgood : (lane s f.lane).c37Good = 0)
    (hn : f.n = portF s (pgLANE f.lane) 0x080 3 4) : execC3794FrameRx f s = .next (condEnd (lineSends (modLane s f.lane fun l =>
      { l with c37Good := 1, rdi := false, nRx := f.n }) f.lane) (pgLANE f.lane) 6) := by
  have hseen : modLane s f.lane (fun l => { l with c37Good := l.c37Good + 1, rdi := f.rdi, nRx := f.n }) =
      modLane s f.lane fun l => { l with c37Good := 1, rdi := false, nRx := f.n } := by simp [modLane, hgood, hrdi]
  have hport : portF (lineSends (modLane s f.lane fun l => { l with c37Good := 1, rdi := false, nRx := f.n }) f.lane)
      (pgLANE f.lane) 0x080 3 4 = f.n := hn.symm
  refine (next_of_not (by simp [hon, hmode, haway])).trans ((next_of_not (by simp [hvalid])).trans ?_)
  simp only [hseen]
  simp [hport, hrdi]

end

/-! ### What a lane sends (R453, R455, R457, R458) -/

/-- The state that has noted now as the time of a pair's last supervision frames. -/
def supNoted (s : State) (pair : Nat) : State :=
  { s with fport := { s.fport with supAt := SMap.set s.fport.supAt none pair (some s.now) } }

theorem execSupervisionFrameTx_early {pair : Nat} (hdue : supDue s pair = false) : execSupervisionFrameTx pair s = .next s :=
  congrArg _ (if_pos (.inr (.inr (.inr hdue))))

section
variable {k : Nat} (hon : laneOn s k = true)
include hon

/-- A pair whose supervision frames are due sends them, of a length within R444. -/
theorem execSupervisionFrameTx_due (hred : laneRed s k ≠ 0) (heven : k % 2 = 0) (hk : k < 96) (hdue : supDue s (k / 2) = true) :
    let v := (free32 (supNoted s (k / 2))).2
    ∃ len, 64 ≤ len ∧ len ≤ 1536 ∧ execSupervisionFrameTx (k / 2) s =
      .next (laneSend v k ⟨3, len, .supervision, some (supHead v k), none, .none, s.now, false⟩) := by
  have hpair : 2 * (k / 2) = k := by omega
  have hgo : ¬ (48 ≤ k / 2 ∨ (!laneOn s k) = true ∨ laneRed s k = 0 ∨ supDue s (k / 2) = false) := by
    simp only [hon, hred, hdue, Bool.not_true, Bool.false_eq_true, Bool.true_eq_false, or_false]
    omega
  refine ⟨64 + (free32 (supNoted s (k / 2))).1.toNat % 1473, by omega, by omega, ?_⟩
  rw [execSupervisionFrameTx, hpair]
  exact next_of_not hgo

/-- What is queued first leaves a lane that is free and has no guard, a forwarded PTP event message with its residence time. -/
theorem execFrameTxStart_forwarded {sub : Nat} {f : TxFrame} {bytes : List Byte} (hmode : laneMode s k ≠ 3)
    (hlink : (lane s k).link = true) (haway : laneAway s k = false) (hfree : (lane s k).busyUntil ≤ s.now + sub)
    (hfirst : firstFrame (lane (guardUpdate s k) k) = some f) (hshut : (lane (guardUpdate s k) k).guardOpen = false)
    (hnone : nextGuard (guardUpdate s k) k = none) (hbody : f.body = .forwarded bytes) :
    execFrameTxStart k sub s = .next (
      let t := guardUpdate s k
      modLane (laneCount (setLane t k { lane t k with
        tx := dropFrame f (lane t k).tx, lastTx := some f
        busyUntil := s.now + sub + frameTime t k (f.len + 12) }) k 0x0C8) k fun x =>
          { x with lastTx := some { f with body := .forwarded (resided bytes (s.now + sub - f.at')) } }) := by
  refine (next_of_not (by simp [hon, hmode, hlink, haway, hfree])).trans ?_
  simp [hfirst, hshut, hnone, hbody]

/-- A tick of a line that GUARD_MASK names opens the guard, in the place of the line's tick before. -/
theorem execLaneGuardOpen_opens {n : Nat} (hn : n < 8) (hmask : rdB s (pgLANE k) 0x090 n = true) (hrun : (tline s n).running = true)
    (hdue : (tline s n).nominal ≤ s.stc.cnt + s.stc.incr) : execLaneGuardOpen k n s = .next (modLane s k fun x => { x with
      guardOpen := true
      guardTl := (x.guardTl.filter fun e => decide (e % 8 ≠ n)) ++ [n + 8 * (tline s n).tick] }) :=
  congrArg _ (if_pos ⟨hon, hn, hmask, hrun, hdue⟩)

end

/-! ### Frames that pass the checks (R446 to R449, R456, R461) -/

/-- A frame that passes the checks is handled by its class. -/
theorem rxFrame_passed {f : Frame} {t : State} (hrx : rxChecks s f = (true, t)) : rxFrame s f = rxClass t f := by
  simp [rxFrame, hrx]

/-- What a sampled-value frame does to a subscription that it matches (R474, R481). -/
def svReaches (f : SvFrame) (s : State) (p : Nat × SvSub) : State :=
  if simOk s f.sim p.2.sim then f.asdus.foldl (fun v a => svAsdu v p.1 f.sim a) s
  else if f.sim then setSv s p.1 { p.2 with stat := statUp p.2.stat 4 1 }
  else s

section
variable {f : SvFrame} {t : State} (hrx : rxChecks (snagFire s (pgLANE f.f.lane) [1]).2 f.f = (true, t))
  (hclass : frameClass t f.f = .sv) (hagree : f.agree = true) (hlen : f.asdus.length ≤ 8)
  (hauth : authNeeded t f.f.lane ((svHits t f).map (·.2.entry)) = false)
include hrx hclass hagree hlen hauth

theorem execSvFrameRx_passed :
    execSvFrameRx f s = .next ((svHits t f).foldl (svReaches f) (rxGood t f.f.lane)) := by
  simp only [execSvFrameRx, hrx, hclass, hauth, hagree, Nat.not_lt.2 hlen, not_true, Bool.not_true, Bool.false_and,
    Bool.false_eq_true, ne_eq, if_false]
  rfl

/-- A sampled-value frame that matches no subscription is counted. -/
theorem execSvFrameRx_unmatched (hhits : svHits t f = []) : execSvFrameRx f s = .next (rxGood t f.f.lane) := by
  rw [execSvFrameRx_passed hrx hclass hagree hlen hauth, hhits, List.foldl_nil]

/-- A subscription that takes the frame takes each of its ASDUs. -/
theorem execSvFrameRx_matched {i : Nat} {x : SvSub} (hsim : simOk (rxGood t f.f.lane) f.sim x.sim = true)
    (hhits : svHits t f = [(i, x)]) :
    execSvFrameRx f s = .next (f.asdus.foldl (fun v a => svAsdu v i f.sim a) (rxGood t f.f.lane)) := by
  rw [execSvFrameRx_passed hrx hclass hagree hlen hauth, hhits]
  exact congrArg _ (if_pos hsim)

end

/-- A GOOSE frame reaches every subscription that it matches. -/
theorem execGooseFrameRx_passed {f : GooseFrame} {t : State} (hrx : rxChecks (snagFire s (pgLANE f.f.lane) [1]).2 f.f = (true, t))
    (hclass : frameClass t f.f = .goose) (hagree : f.agree = true)
    (hauth : authNeeded t f.f.lane ((goHits t f).map (·.2.entry)) = false) :
    execGooseFrameRx f s = .next ((goHits t f).foldl (fun u p => goFrame u p.1 f) (rxGood t f.f.lane)) := by
  simp [execGooseFrameRx, hrx, hclass, hagree, hauth]

section
variable {f : Frame} {t : State} (hrx : rxChecks s f = (true, t))
include hrx

theorem execPtpFrameRx_passed (hclass : frameClass t f = .ptp) : execPtpFrameRx f s = .next (rxPtp t f) := by
  rw [execPtpFrameRx, rxFrame_passed hrx, rxClass, hclass]

theorem execOtherFrameRx_passed (hclass : frameClass t f = .other) : execOtherFrameRx f s = .next (rxOther t f) := by
  rw [execOtherFrameRx, rxFrame_passed hrx, rxClass, hclass]

theorem execSupervisionFrameRx_passed (hclass : frameClass t f = .supervision) (hred : laneRed t f.lane ≠ 0) :
    execSupervisionFrameRx f s = .next (rxGood t f.lane) := by
  rw [execSupervisionFrameRx, rxFrame_passed hrx, rxClass, hclass]
  exact congrArg _ (if_pos hred)

end

/-- An event message of a lane with PTP_EN is stamped, and RX_EXT taken off its time. -/
theorem rxPtp_stamped {f : Frame} (hevent : ptpEvent f.bytes = true) (hen : ptpOn (rxGood s f.lane) f.lane = true) : rxPtp s f =
    let u := rxGood s f.lane
    let c := cntAt u f.sub - rdF u (pgLANE f.lane) 0x0A4 0 16 * nsU
    fwqPut u f.lane f.len (some (secOf c % 2 ^ 32, nsOf c)) (ptpRxBytes u f.lane f.bytes) f.busErr :=
  if_pos (by rw [hevent, hen, Bool.and_true])

theorem rxPtp_general {f : Frame} (hevent : ptpEvent f.bytes = false) :
    rxPtp s f = fwqPut (rxGood s f.lane) f.lane f.len none f.bytes f.busErr :=
  if_neg (by simp [hevent])

theorem rxOther_passedOn {f : Frame} (hpause : isPause f = false)
    (hen : portB (laneCount s f.lane 0x0C0) (pgPG (f.lane / 8)) 0x080 0 = true) :
    rxOther s f = fwqPut (laneCount s f.lane 0x0C0) f.lane f.len none f.bytes f.busErr :=
  if_pos (by rw [hpause, hen, Bool.not_false, Bool.and_true])

/-- A PAUSE frame, or any while the group passes none on, is only counted. -/
theorem rxOther_counted {f : Frame}
    (h : isPause f = true ∨ portB (laneCount s f.lane 0x0C0) (pgPG (f.lane / 8)) 0x080 0 = false) :
    rxOther s f = laneCount s f.lane 0x0C0 := by
  refine if_neg ?_
  obtain h | h := h <;> simp [h]

/-! ### Messages between engines (R363 to R366, R460) -/

section
variable {m : InterMsg} {t : State} {x : Strand} (hrx : interRx s m.h = (true, t)) (hx : strand t (idIndex m.dest) = some x)
  (hid : x.id = m.dest)
include hrx hx hid

theorem execInterEngineMessageRx_delivered (hroom : destRoom t x = true) : execInterEngineMessageRx m s =
    .next (deliver t (idIndex m.dest) ⟨m.sender, m.containers.map TWord.ofContainer⟩) := by
  simp [execInterEngineMessageRx, hrx, hx, hid, hroom]

theorem execInterEngineMessageRx_dropped (hfull : destRoom t x = false) :
    execInterEngineMessageRx m s = .next (msgDropped t) := by
  simp [execInterEngineMessageRx, hrx, hx, hid, hfull]

end

/-! ### Rings, counts and values that lapse (R461, R466, R468, R480) -/

theorem execPgFwqTxHeadWrite_fetches {g : Nat} {v : W32} {busErr : Bool} (hg : g < 12) (hpow : pagePowered s (pgPG g) = true)
    (hclk : s.hif.hostClock = true) : execPgFwqTxHeadWrite g v busErr s =
      .next (fwqFetch (wr s (pgPG g) 0x0A8 (w32 (bits v 0 5))) g (rdF s (pgPG g) 0x0A8 0 5)
        ((bits v 0 5 + 32 - rdF s (pgPG g) 0x0A8 0 5) % 32) busErr) :=
  (next_of_not (Nat.not_le.2 hg)).trans ((next_of_not (by simp [hpow])).trans (congrArg _ (if_pos hclk)))

section
variable {k : Nat} (hk : k < 96) (hpow : pagePowered s (pgLANE k) = true)
include hk hpow

theorem execLaneCntClr_powered :
    execLaneCntClr k s = .next ((List.range 11).foldl (fun u i => wr u (pgLANE k) (0x0A8 + 4 * i) 0) s) :=
  (next_of_not (Nat.not_le.2 hk)).trans (next_of_not (by simp [hpow]))

theorem execEqRestart_service (hmode : curMode s = .service) : execEqRestart k s =
    .next (condEnd (modLane s k fun l => { l with eqLocked := false, eqEnd := 0 }) (pgLANE k) 1) :=
  (next_of_not (Nat.not_le.2 hk)).trans ((next_of_not (by simp [hpow])).trans (congrArg _ (if_pos hmode)))

end

/-- Values whose time allowed to live has passed are written again with VAL invalid. -/
theorem execGooseTalExpiry_due {i n : Nat} {x : GoSub} (hx : SMap.get s.pio.goose none i = some x) (htal : x.tal = some n)
    (hdue : dueBy s n = true) : execGooseTalExpiry i s =
      .next (areaWrite s i { x with tal := none, force := true, stat := statUp x.stat 5 1 }
        (x.vals.map fun w => { w with q := { w.q with val := .invalid } })) := by
  simp [execGooseTalExpiry, hx, htal, hdue]

end Sys2Proof.Machine

namespace Sys2Proof
open Machine

/-- Settles O53, command by command. That a supervision frame has the VID of PG_INTER_CFG and priority 7 is the choice of log entry 181,
and its length that of log entry 23; that a received far-end fault indication takes LINK down is the reading of log entry 183, and that
a PAUSE frame is known by its EtherType that of log entry 27. -/
theorem laneCommandsComplete : Obligations.LaneCommandsComplete := by
  intro s
  refine ⟨fun k hon => ⟨?signal, ?linkDown, ?linkUp, ?negotiated, ?symbols, ?eye, ?c37, ?supervise, ?send, ?guard⟩, ?sv,
    fun f t hrx hclass hagree hauth => execGooseFrameRx_passed hrx hclass hagree hauth, ?ptp, ?message,
    fun f t hrx hclass hred => execSupervisionFrameRx_passed hrx hclass hred, ?other, fun p n => rfl,
    fun g v busErr hg hpow hclk => execPgFwqTxHeadWrite_fetches hg hpow hclk,
    fun k hk hpow => ⟨execLaneCntClr_powered hk hpow, execEqRestart_service hk hpow⟩,
    fun i x n hx htal hdue => execGooseTalExpiry_due hx htal hdue⟩
  case signal =>
    rintro o b rfl
    exact ⟨execLaneSignalLoss_lost hon b, execLaneSignalLoss_kept b, execLaneSignalRestore_back hon,
      execLaneSignalRestore_still⟩
  case linkDown =>
    rintro o b rfl
    exact execLaneLinkDown_falls hon b
  case linkUp =>
    intro hmode hsig hplain b
    have han : (decide (laneMode s k = 2) && portB s (pgLANE k) 0x080 7) = false := by
      obtain h | h := hplain <;> simp [h]
    exact execLaneLinkUp_up hon hmode hsig han rfl
  case negotiated =>
    intro hmode hsig hen
    exact execLaneLinkUp_up hon (by omega) hsig (by simp [hmode, hen]) rfl
  case symbols =>
    exact ⟨fun hfew => (execLaneSymbolError_on hon).trans (next_of_not (Nat.not_le.2 hfew)),
      fun hmany => (execLaneSymbolError_on hon).trans (congrArg _ (if_pos hmany))⟩
  case eye =>
    rintro e rfl hmode
    exact ⟨execLaneEyeMeasure_locked hon hmode,
      fun hend hfew => (execLaneEyeMeasure_atEnd hon hmode hend).trans (next_of_not (Nat.not_le.2 hfew)),
      fun hend hmany => (execLaneEyeMeasure_atEnd hon hmode hend).trans (congrArg _ (if_pos hmany))⟩
  case c37 =>
    rintro hmode haway f rfl
    exact ⟨execC3794FrameRx_invalid hon hmode haway, execC3794FrameRx_first hon hmode haway⟩
  case supervise =>
    exact fun hred heven hk => ⟨execSupervisionFrameTx_due hon hred heven hk, execSupervisionFrameTx_early⟩
  case send =>
    exact fun sub f bytes hmode hlink haway hfree => execFrameTxStart_forwarded hon hmode hlink haway hfree
  case guard => exact fun n => execLaneGuardOpen_opens hon
  case sv =>
    intro f t hrx hclass hagree hlen hsim hauth
    exact ⟨execSvFrameRx_unmatched hrx hclass hagree hlen hauth, fun i x hhits =>
      execSvFrameRx_matched hrx hclass hagree hlen hauth (hsim (i, x) (by simp [hhits])) hhits⟩
  case ptp =>
    intro f t hrx hclass
    have hrun := execPtpFrameRx_passed hrx hclass
    exact ⟨fun hevent hen => hrun.trans (congrArg _ (rxPtp_stamped hevent hen)),
      fun hevent => hrun.trans (congrArg _ (rxPtp_general hevent))⟩
  case message =>
    exact fun m t x hrx hx hid =>
      ⟨execInterEngineMessageRx_delivered hrx hx hid, execInterEngineMessageRx_dropped hrx hx hid⟩
  case other =>
    intro f t hrx hclass
    have hrun := execOtherFrameRx_passed hrx hclass
    exact ⟨fun hpause hen => hrun.trans (congrArg _ (rxOther_passedOn hpause hen)),
      fun h => hrun.trans (congrArg _ (rxOther_counted h))⟩

end Sys2Proof
end

section
namespace Sys2Proof.Machine

/-! ## What a step may do to the queue and the fuses

`lasting` is the queue and the fuses but for the two fields that may go back, the state in force and the torn blow. Each
function of the model keeps it, but for the four commands that fuse; a lemma per function says so, in the order of the model's
files, and each follows from those of the functions it calls. `Onward` is what a step may do, and `onward_exec` says it of every
row of the opcode table. -/

/-! ### What lasts through a step -/

/-- The queue, and of the fuses all but the state in force and a torn blow. -/
def lasting (s : State) : List Instr × Fuses := (s.pending, { s.fuses with state := .develop, torn := false })

theorem lasting_congr {s t : State} (h : t.pending = s.pending) (g : t.fuses = s.fuses) : lasting t = lasting s := by
  simp [lasting, h, g]

@[simp] theorem lasting_mk (s : State) (freeCtr : Nat) (lastAccess : BusResp) (regs : SMap W32) (now : Nat) (glb : Glb)
    (mode : ModeSt) (pwr : Pwr) (clk : Clk) (selv : Selv) (eic : Eic) (whrl : Whrl) (prck : Prck) (stc : Stc) (pio : Pio)
    (hif : Hif) (dra : Dra) (nvr : Nvr) (sec : Sec) (dbg : Dbg) (ucs : Ucs) (spn : Spn) (fport : Fport) (mem : Mem) (clb : Clb)
    (cores : SMap Core) (loopCells : List (List Loop)) :
    lasting (State.mk s.pending freeCtr lastAccess regs now glb mode pwr clk selv eic whrl prck stc pio hif dra nvr s.fuses sec
      dbg ucs spn fport mem clb cores loopCells) = lasting s := lasting_congr rfl rfl

@[simp] theorem lasting_ite (c : Prop) [Decidable c] (a b : State) :
    lasting (if c then a else b) = if c then lasting a else lasting b := apply_ite lasting c a b

@[simp] theorem lasting_foldl {α : Type} (g : State → α → State) (h : ∀ u x, lasting (g u x) = lasting u) (l : List α)
    (s : State) :
    lasting (l.foldl g s) = lasting s := by
  induction l generalizing s with
  | nil => rfl
  | cons x l ih => exact (ih (g s x)).trans (h s x)

@[simp] theorem lasting_foldl_snd {α β : Type} (g : β × State → α → β × State) (h : ∀ r x, lasting (g r x).2 = lasting r.2)
    (l : List α) (r : β × State) :
    lasting (l.foldl g r).2 = lasting r.2 := by
  induction l generalizing r with
  | nil => rfl
  | cons x l ih => exact (ih (g r x)).trans (h r x)

theorem lasting_of_eq {α : Type} {r : α × State} {a : α} {t : State} (h : r = (a, t)) : lasting t = lasting r.2 := by rw [h]

/-- An outcome whose state keeps what lasts. -/
def Lasts (s : State) (o : Host.Outcome State Fault Refusal) : Prop := ∀ t, o = .next t → lasting t = lasting s

@[simp] theorem lasts_next (s t : State) : Lasts s (.next t) ↔ lasting t = lasting s := by simp [Lasts]

@[simp] theorem lasts_ite (s : State) (c : Prop) [Decidable c] (a b : Host.Outcome State Fault Refusal) :
    Lasts s (if c then a else b) ↔ if c then Lasts s a else Lasts s b := by split <;> rfl

/-- A word's result whose state keeps what lasts, and whose late effect keeps it too. -/
def ResLasts (s : State) (r : Res) : Prop := lasting r.2 = lasting s ∧ ∀ d, r.1 = .ok d → ∀ u, lasting (d.after u) = lasting u

@[simp] theorem resLasts_error (s u : State) (e : Exc) : ResLasts s (.error e, u) ↔ lasting u = lasting s := by simp [ResLasts]

@[simp] theorem resLasts_ok (s u : State) (d : Done) :
    ResLasts s (.ok d, u) ↔ lasting u = lasting s ∧ ∀ v, lasting (d.after v) = lasting v := by
  simp [ResLasts]

@[simp] theorem resLasts_ite (s : State) (c : Prop) [Decidable c] (a b : Res) :
    ResLasts s (if c then a else b) ↔ if c then ResLasts s a else ResLasts s b := by split <;> rfl

theorem ResLasts.trans {s u : State} {r : Res} (h : lasting u = lasting s) (g : ResLasts u r) : ResLasts s r :=
  ⟨g.1.trans h, g.2⟩

theorem resLasts_of_lasting {s u : State} {r : Res} (h : lasting u = lasting s) :
    ResLasts s r ↔ ResLasts u r := by simp [ResLasts, h]

theorem resLasts_mk {s : State} {x : Except Exc Done} (h : ∀ d, x = .ok d → ∀ u, lasting (d.after u) = lasting u) :
    ResLasts s (x, s) :=
  ⟨rfl, h⟩

theorem lasting_of_eq₂ {α β : Type} {r : α × β × State} {a : α} {b : β} {t : State} (h : r = (a, b, t)) :
    lasting t = lasting r.2.2 := by
  rw [h]

theorem lasting_branch {c : Prop} [Decidable c] {a b s : State} (ha : lasting a = lasting s) (hb : lasting b = lasting s) :
    lasting (if c then a else b) = lasting s := by split <;> assumption

/-! ### What lasts: registers, errors and records -/

@[simp] theorem lasting_wr (s : State) (page : Nat) (off : Nat) (v : W32) : lasting (wr s page off v) = lasting s := by simp [wr]

@[simp] theorem lasting_occur (s : State) (o : Occ) : lasting (occur s o) = lasting s := by simp [occur]

@[simp] theorem lasting_raiseErr (s : State) (page : Nat) (n : Nat) (sub : Nat) (named : List UnitId) (inj : Bool) (warn : Bool) :
    lasting (raiseErr s page n sub named inj warn) = lasting s := by simp [raiseErr]

@[simp] theorem lasting_raiseIrq (s : State) (page : Nat) (n : Nat) :
    lasting (raiseIrq s page n) = lasting s := by simp [raiseIrq]

@[simp] theorem lasting_condErr (s : State) (page : Nat) (n : Nat) (sub : Nat) (named : List UnitId) :
    lasting (condErr s page n sub named) = lasting s := by simp [condErr]

@[simp] theorem lasting_bump (s : State) (page : Nat) (off : Nat) (n : Nat) :
    lasting (bump s page off n) = lasting s := by simp [bump]

@[simp] theorem lasting_bumpWrap (s : State) (page : Nat) (off : Nat) (irq : Nat) :
    lasting (bumpWrap s page off irq) = lasting s := by simp [bumpWrap]

@[simp] theorem lasting_submit (s : State) (r : Soe) : lasting (submit s r) = lasting s := by simp [submit]

@[simp] theorem lasting_soeAt (s : State) (c : Nat) (kind : Nat) (source : Nat) (number : Nat) (tag : Nat) (value : W32)
    (word5 : W32) :
    lasting (soeAt s c kind source number tag value word5) = lasting s := by simp [soeAt]

@[simp] theorem lasting_soe (s : State) (kind : Nat) (source : Nat) (number : Nat) (tag : Nat) (value : W32) (word5 : W32) :
    lasting (soe s kind source number tag value word5) = lasting s := by simp [soe]

@[simp] theorem lasting_freeWord (s : State) : lasting (freeWord s).2 = lasting s := by simp [freeWord]

@[simp] theorem lasting_free32 (s : State) : lasting (free32 s).2 = lasting s := by simp [free32]

@[simp] theorem lasting_wrF (s : State) (page : Nat) (off : Nat) (lo : Nat) (w : Nat) (v : Nat) :
    lasting (wrF s page off lo w v) = lasting s := by simp [wrF]

@[simp] theorem lasting_bumpSat (s : State) (page : Nat) (off : Nat) (lo : Nat) (w : Nat) (n : Nat) :
    lasting (bumpSat s page off lo w n) = lasting s := by simp [bumpSat]

@[simp] theorem lasting_dramSet (s : State) (a : Nat) (b : Byte) : lasting (dramSet s a b) = lasting s := by simp [dramSet]

@[simp] theorem lasting_hostSet (s : State) (a : Nat) (b : Byte) : lasting (hostSet s a b) = lasting s := by simp [hostSet]

@[simp] theorem lasting_physSet (s : State) (a : Nat) (b : Byte) : lasting (physSet s a b) = lasting s := by
  unfold physSet
  split <;> simp

@[simp] theorem lasting_physSetList (s : State) (a : Nat) (l : List Byte) : lasting (physSetList s a l) = lasting s := by
  induction l generalizing s a with
  | nil => rfl
  | cons x l ih => simp [physSetList, ih]

@[simp] theorem lasting_bankSet (s : State) (a : Nat) (w : TWord) : lasting (bankSet s a w) = lasting s := by simp [bankSet]

@[simp] theorem lasting_bankSetList (s : State) (a : Nat) (l : List TWord) : lasting (bankSetList s a l) = lasting s := by
  induction l generalizing s a with
  | nil => rfl
  | cons x l ih => simp [bankSetList, ih]

@[simp] theorem lasting_condEnd (s : State) (page : Nat) (n : Nat) : lasting (condEnd s page n) = lasting s := by simp [condEnd]

@[simp] theorem lasting_warnEvent (s : State) (page : Nat) : lasting (warnEvent s page) = lasting s := by simp [warnEvent]

@[simp] theorem lasting_draTouch (s : State) : lasting (draTouch s) = lasting s := by simp [draTouch]

@[simp] theorem lasting_dramSetList (s : State) (a : Nat) (l : List Byte) : lasting (dramSetList s a l) = lasting s := by
  induction l generalizing s a with
  | nil => rfl
  | cons x l ih => simp [dramSetList, ih]

@[simp] theorem lasting_draPut (s : State) (a : Nat) (bs : List Byte) : lasting (draPut s a bs) = lasting s := by simp [draPut]

@[simp] theorem lasting_countUp (s : State) (d : Nat) : lasting (countUp s d) = lasting s := by simp [countUp]

@[simp] theorem lasting_bankFill (s : State) (a : Nat) (n : Nat) : lasting (bankFill s a n) = lasting s := by simp [bankFill]

@[simp] theorem lasting_setDom (s : State) (d : Nat) (v : Dom) : lasting (setDom s d v) = lasting s := by simp [setDom]

@[simp] theorem lasting_codeZero (s : State) (p : Nat) : lasting (codeZero s p) = lasting s := by simp [codeZero]

@[simp] theorem lasting_setCore (s : State) (c : Nat) (k : Core) : lasting (setCore s c k) = lasting s := by simp [setCore]

@[simp] theorem lasting_dropPages (s : State) (d : Nat) : lasting (dropPages s d) = lasting s := by simp [dropPages]

@[simp] theorem lasting_modCore (s : State) (c : Nat) (f : Core → Core) : lasting (modCore s c f) = lasting s := by simp [modCore]

@[simp] theorem lasting_draWrite (s : State) (a : Nat) (bs : List Byte) :
    lasting (draWrite s a bs) = lasting s := by simp [draWrite]

@[simp] theorem lasting_codeSet (s : State) (p : Nat) (a : Nat) (w : W32) :
    lasting (codeSet s p a w) = lasting s := by simp [codeSet]

@[simp] theorem lasting_codeBroadcast (s : State) (a : Nat) (w : W32) :
    lasting (codeBroadcast s a w) = lasting s := by simp [codeBroadcast]

@[simp] theorem lasting_coherentView (s : State) : lasting (coherentView s) = lasting s := by simp [coherentView]

@[simp] theorem lasting_hostSetList (s : State) (a : Nat) (l : List Byte) : lasting (hostSetList s a l) = lasting s := by
  induction l generalizing s a with
  | nil => rfl
  | cons x l ih => simp [hostSetList, ih]

@[simp] theorem lasting_freeBool (s : State) : lasting (freeBool s).2 = lasting s := by simp [freeBool]

@[simp] theorem lasting_fnAssert (s : State) : lasting (fnAssert s) = lasting s := by simp [fnAssert]

@[simp] theorem lasting_selfCheck (s : State) (e : ErrObs) : lasting (selfCheck s e) = lasting s := by
  unfold selfCheck
  split <;> simp

/-! ### What lasts: the interrupt controller -/

@[simp] theorem lasting_setTgt (s : State) (t : Nat) (x : Tgt) : lasting (setTgt s t x) = lasting s := by simp [setTgt]

@[simp] theorem lasting_privEdges (s : State) (t : Nat) (m : W32) : lasting (privEdges s t m) = lasting s := by simp [privEdges]

@[simp] theorem lasting_privEdge (s : State) (t : Nat) (j : Nat) : lasting (privEdge s t j) = lasting s := by simp [privEdge]

@[simp] theorem lasting_setSrc (s : State) (n : Nat) (x : Src) : lasting (setSrc s n x) = lasting s := by simp [setSrc]

@[simp] theorem lasting_eicEdge (s : State) (n : Nat) : lasting (eicEdge s n) = lasting s := by simp [eicEdge]

@[simp] theorem lasts_execEicSwSet (v : W32) (s : State) : Lasts s (execEicSwSet v s) := by simp [execEicSwSet]

@[simp] theorem lasts_execEicCntClr (s : State) : Lasts s (execEicCntClr s) := by simp [execEicCntClr]

@[simp] theorem lasting_redirNote (s : State) (moved : Bool) : lasting (redirNote s moved) = lasting s := by simp [redirNote]

@[simp] theorem lasting_srcTakes (s : State) (n : Nat) (x : Src) (t : Nat) (prio : Nat) (en : Bool) :
    lasting (srcTakes s n x t prio en) = lasting s := by simp [srcTakes]

@[simp] theorem lasting_deactivate (s : State) (t : Nat) (n : Nat) : lasting (deactivate s t n) = lasting s := by
  unfold deactivate
  dsimp only
  (repeat' split) <;> simp

@[simp] theorem lasting_clearTarget (s : State) (t : Nat) : lasting (clearTarget s t) = lasting s := by simp [clearTarget]

@[simp] theorem lasting_orderFault (s : State) (t : Nat) (n : Nat) :
    lasting (orderFault s t n) = lasting s := by simp [orderFault]

@[simp] theorem lasting_eicComplete (s : State) (t : Nat) (n : Nat) : lasting (eicComplete s t n) = lasting s := by
  unfold eicComplete
  split <;> simp

@[simp] theorem lasts_execEicComplete (target : Nat) (v : W32) (viaPage : Bool) (s : State) :
    Lasts s (execEicComplete target v viaPage s) := by simp [execEicComplete]

@[simp] theorem lasts_execEicTPrivSet (target : Nat) (v : W32) (s : State) :
    Lasts s (execEicTPrivSet target v s) := by simp [execEicTPrivSet]

@[simp] theorem lasts_execEicSrcCfgWrite (v : W32) (s : State) : Lasts s (execEicSrcCfgWrite v s) := by simp [execEicSrcCfgWrite]

@[simp] theorem lasting_redirect (s : State) (t : Nat) : lasting (redirect s t) = lasting s := by simp [redirect]

@[simp] theorem lasting_markClaimed (s : State) (t : Nat) (p : Nat × Nat) :
    lasting (markClaimed s t p) = lasting s := by simp [markClaimed]

@[simp] theorem lasting_eicClaim (s : State) (t : Nat) : lasting (eicClaim s t).2 = lasting s := by
  unfold eicClaim
  (repeat' split) <;> simp

@[simp] theorem lasts_execEicSourceEvent (src : Nat) (edge : Bool) (s : State) :
    Lasts s (execEicSourceEvent src edge s) := by simp [execEicSourceEvent]

@[simp] theorem lasts_execEicClaim (target : Nat) (r : ClaimRead) (s : State) :
    Lasts s (execEicClaim target r s) := by simp [execEicClaim]

@[simp] theorem lasts_execEicTimerExpire (target : Nat) (s : State) : Lasts s (execEicTimerExpire target s) := by
  unfold execEicTimerExpire
  split <;> simp

@[simp] theorem lasting_eicSave (s : State) (t : Nat) : lasting (eicSave s t) = lasting s := by simp [eicSave]

@[simp] theorem lasting_eicRestore (s : State) (t : Nat) (same : Bool) : lasting (eicRestore s t same) = lasting s := by
  unfold eicRestore
  dsimp only
  split <;> simp

@[simp] theorem lasting_timersMove (s : State) (d : ℤ) : lasting (timersMove s d) = lasting s := by simp [timersMove]

/-! ### What lasts: strands -/

@[simp] theorem lasting_setStrand (s : State) (i : Nat) (x : Option Strand) :
    lasting (setStrand s i x) = lasting s := by simp [setStrand]

@[simp] theorem lasting_modStrand (s : State) (i : Nat) (f : Strand → Strand) : lasting (modStrand s i f) = lasting s := by
  unfold modStrand
  split <;> simp

@[simp] theorem lasting_modPly (s : State) (i : Nat) (j : Nat) (f : Ply → Ply) :
    lasting (modPly s i j f) = lasting s := by simp [modPly]

@[simp] theorem lasting_pmcCount (s : State) (c : Nat) (event : Nat) (n : Nat) :
    lasting (pmcCount s c event n) = lasting s := by simp [pmcCount]

@[simp] theorem lasting_traceRec (s : State) (c : Option Nat) (kind : Nat) (pc : Nat) (w1 : W32) :
    lasting (traceRec s c kind pc w1) = lasting s := by simp [traceRec]

@[simp] theorem lasting_ctxSet (s : State) (i : Nat) (p : Ply) (j : Nat) (w : TWord) :
    lasting (ctxSet s i p j w) = lasting s := by
  unfold ctxSet
  split <;> simp

@[simp] theorem lasting_ctxPlace (s : State) (i : Nat) (j : Nat) : lasting (ctxPlace s i j) = lasting s := by
  unfold ctxPlace
  (repeat' split) <;> simp

@[simp] theorem lasting_ctxSetList (s : State) (i : Nat) (p : Ply) (j : Nat) (l : List TWord) :
    lasting (ctxSetList s i p j l) = lasting s := by
  induction l generalizing s j with
  | nil => rfl
  | cons w l ih => simp [ctxSetList, ih]

@[simp] theorem lasting_ctxReset (s : State) (i : Nat) (j : Nat) : lasting (ctxReset s i j) = lasting s := by
  unfold ctxReset
  grind [lasting_modPly, lasting_ctxSetList]

@[simp] theorem lasting_tlTake (s : State) : lasting (tlTake s) = lasting s := by simp [tlTake]

@[simp] theorem lasting_snagFire (s : State) (page : Nat) (kinds : List Nat) : lasting (snagFire s page kinds).2 = lasting s := by
  unfold snagFire
  dsimp only
  (repeat' split) <;> simp

/-! ### What lasts: lanes -/

@[simp] theorem lasting_laneCount (s : State) (k : Nat) (off : Nat) :
    lasting (laneCount s k off) = lasting s := by simp [laneCount]

@[simp] theorem lasting_setLane (s : State) (k : Nat) (x : Lane) : lasting (setLane s k x) = lasting s := by simp [setLane]

@[simp] theorem lasting_modLane (s : State) (k : Nat) (f : Lane → Lane) : lasting (modLane s k f) = lasting s := by simp [modLane]

@[simp] theorem lasting_laneQueue (s : State) (k : Nat) (f : TxFrame) :
    lasting (laneQueue s k f) = lasting s := by simp [laneQueue]

@[simp] theorem lasting_laneSend (s : State) (k : Nat) (f : TxFrame) : lasting (laneSend s k f) = lasting s := by simp [laneSend]

@[simp] theorem lasting_lineSends (s : State) (k : Nat) : lasting (lineSends s k) = lasting s := by simp [lineSends]

@[simp] theorem lasting_portTake (s : State) : lasting (portTake s) = lasting s := by simp [portTake]

@[simp] theorem lasting_nextSeq (s : State) (dst : Nat) : lasting (nextSeq s dst).2 = lasting s := by simp [nextSeq]

@[simp] theorem lasting_interSend (s : State) (type : Nat) (dst : Nat) (len : Nat) (b : InterBody) :
    lasting (interSend s type dst len b) = lasting s := by
  unfold interSend
  dsimp only
  split <;> simp

@[simp] theorem lasting_guardUpdate (s : State) (k : Nat) : lasting (guardUpdate s k) = lasting s := by simp [guardUpdate]

@[simp] theorem lasting_guardAll (s : State) : lasting (guardAll s) = lasting s := by simp [guardAll]

/-! ### What lasts: trips and outputs -/

@[simp] theorem lasting_setPub (s : State) (slot : Nat) (x : Pub) : lasting (setPub s slot x) = lasting s := by simp [setPub]

@[simp] theorem lasting_plyMismatch (s : State) (idx : Nat) (number : Nat) (odd : List Nat) (w : TWord) :
    lasting (plyMismatch s idx number odd w) = lasting s := by
  unfold plyMismatch
  split <;> simp

@[simp] theorem lasting_pubSend (s : State) (x : Pub) (b : TxBody) : lasting (pubSend s x b) = lasting s := by simp [pubSend]

@[simp] theorem lasting_pubFrame (s : State) (slot : Nat) (x : Pub) (im : List TWord) (tick : Nat) (sub : Nat) :
    lasting (pubFrame s slot x im tick sub) = lasting s := by simp [pubFrame]

@[simp] theorem lasting_pubJudge (s : State) (slot : Nat) (x : Pub) (y : Strand) (closed : Bool) (agree : Bool) (sub : Nat) :
    lasting (pubJudge s slot x y closed agree sub) = lasting s := by
  unfold pubJudge
  dsimp only
  (repeat' split) <;> simp

@[simp] theorem lasting_pubClose (s : State) (slot : Nat) (agree : Bool) : lasting (pubClose s slot agree) = lasting s := by
  unfold pubClose
  (repeat' split) <;> simp

@[simp] theorem lasting_pubRelease (s : State) (slot : Nat) : lasting (pubRelease s slot) = lasting s := by
  unfold pubRelease
  dsimp only
  split <;> simp

@[simp] theorem lasting_elapsed (s : State) : lasting (elapsed s).2 = lasting s := by simp [elapsed]

@[simp] theorem lasting_setOut (s : State) (n : Nat) (o : Out) : lasting (setOut s n o) = lasting s := by simp [setOut]

@[simp] theorem lasting_dropGroup (s : State) (n : Nat) (k : Nat) : lasting (dropGroup s n k) = lasting s := by simp [dropGroup]

@[simp] theorem lasting_putGroup (s : State) (n : Nat) (g : Group) : lasting (putGroup s n g) = lasting s := by simp [putGroup]

@[simp] theorem lasting_tripSoe (s : State) (n : Nat) (sub : Nat) (kind : Nat) (w : TWord) :
    lasting (tripSoe s n sub kind w) = lasting s := by simp [tripSoe]

@[simp] theorem lasting_drivePin (s : State) (n : Nat) (sub : Nat) (op : Bool) (cmd : Option TWord) :
    lasting (drivePin s n sub op cmd) = lasting s := by
  unfold drivePin
  split <;> simp

@[simp] theorem lasting_driveOrDefer (s : State) (n : Nat) (sub : Nat) (op : Bool) (cmd : TWord) :
    lasting (driveOrDefer s n sub op cmd) = lasting s := by simp [driveOrDefer]

@[simp] theorem lasting_tripDiffer (s : State) (n : Nat) (sub : Nat) (idx : Nat) (odd : List Nat) (c : TWord) (agree : Bool) :
    lasting (tripDiffer s n sub idx odd c agree) = lasting s := by
  unfold tripDiffer
  dsimp only
  (repeat' split) <;> simp

@[simp] theorem lasting_closeGroup (s : State) (n : Nat) (g : Group) :
    lasting (closeGroup s n g) = lasting s := by simp [closeGroup]

@[simp] theorem lasting_tripAct (s : State) (n : Nat) (sub : Nat) (c : TWord) :
    lasting (tripAct s n sub c) = lasting s := by simp [tripAct]

@[simp] theorem lasting_tripMatch (s : State) (n : Nat) (sub : Nat) (c : TWord) (agree : Bool) :
    lasting (tripMatch s n sub c agree) = lasting s := by simp [tripMatch]

@[simp] theorem lasting_groupStep (s : State) (idx : Nat) (n : Nat) (sub : Nat) (x : Strand) (g : Group) (closed : Bool)
    (agree : Bool) :
    lasting (groupStep s idx n sub x g closed agree) = lasting s := by
  unfold groupStep
  dsimp only
  split <;> simp

@[simp] theorem lasting_groupClose (s : State) (n : Nat) (k : Nat) (sub : Nat) (agree : Bool) :
    lasting (groupClose s n k sub agree) = lasting s := by
  unfold groupClose
  (repeat' split) <;> simp

@[simp] theorem lasting_outRelease (s : State) (n : Nat) : lasting (outRelease s n) = lasting s := by
  unfold outRelease
  dsimp only
  (repeat' split) <;> simp

@[simp] theorem lasting_tripMode (s : State) (m : Mode) : lasting (tripMode s m) = lasting s := by
  simp only [tripMode]
  rw [lasting_foldl]
  · simp
  · intro u n
    split <;> (try split) <;> simp

@[simp] theorem lasting_tripSet (s : State) (idx : Nat) (j : Nat) (n : Nat) (sub : Nat) (w : TWord) (agree : Bool) :
    lasting (tripSet s idx j n sub w agree) = lasting s := by
  unfold tripSet
  dsimp only
  (repeat' split) <;> simp

@[simp] theorem lasting_pubCommit (s : State) (idx : Nat) (j : Nat) (slot : Nat) (sub : Nat) (agree : Bool) :
    lasting (pubCommit s idx j slot sub agree) = lasting s := by
  unfold pubCommit
  split <;> simp

@[simp] theorem lasting_pubWrite (s : State) (idx : Nat) (j : Nat) (slot : Nat) (m : Nat) (w : TWord) :
    lasting (pubWrite s idx j slot m w) = lasting s := by
  unfold pubWrite
  split <;> simp

@[simp] theorem lasting_pubDrain (s : State) (idx : Nat) (j : Nat) (agree : Bool) :
    lasting (pubDrain s idx j agree) = lasting s := by
  unfold pubDrain
  split <;> simp

/-! ### What lasts: the end of an output and a publication -/

@[simp] theorem lasting_logWrite (s : State) (r : LogRec) : lasting (logWrite s r) = lasting s := by simp [logWrite]

@[simp] theorem lasting_prckLog (s : State) (r : LogRec) : lasting (prckLog s r) = lasting s := by simp [prckLog]

@[simp] theorem lasting_prckLogNow (s : State) (kind : Nat) (reason : Nat) (idx : Nat) (j : Nat) (src : Nat) (dst : Nat)
    (words : Nat) :
    lasting (prckLogNow s kind reason idx j src dst words) = lasting s := by simp [prckLogNow]

@[simp] theorem lasting_abortMig (s : State) (m : Mig) : lasting (abortMig s m) = lasting s := by simp [abortMig]

@[simp] theorem lasting_abortMigs (s : State) (idx : Nat) : lasting (abortMigs s idx) = lasting s := by simp [abortMigs]

@[simp] theorem lasting_sendCompare (s : State) (idx : Nat) (n : Nat) (closed : Bool) :
    lasting (sendCompare s idx n closed) = lasting s := by
  unfold sendCompare
  dsimp only
  (repeat' split) <;> simp

@[simp] theorem lasting_closeSends (s : State) (idx : Nat) : lasting (closeSends s idx) = lasting s := by
  unfold closeSends
  split <;> simp

@[simp] theorem lasting_msgDropped (s : State) : lasting (msgDropped s) = lasting s := by simp [msgDropped]

@[simp] theorem lasting_queueMsg (s : State) (idx : Nat) (j : Nat) (m : Msg) : lasting (queueMsg s idx j m) = lasting s := by
  unfold queueMsg
  dsimp only
  (repeat' split) <;> simp

@[simp] theorem lasting_appendHeld (s : State) (idx : Nat) : lasting (appendHeld s idx) = lasting s := by
  unfold appendHeld
  split <;> simp

@[simp] theorem lasting_release (s : State) (idx : Nat) (tick : Nat) (deadline : Nat) :
    lasting (release s idx tick deadline) = lasting s := by
  unfold release
  dsimp only
  (repeat' split) <;> simp

@[simp] theorem lasting_trigger (s : State) (idx : Nat) : lasting (trigger s idx) = lasting s := by
  unfold trigger
  split <;> simp

@[simp] theorem lasting_triggerEvent (s : State) (kind : Nat) (source : Nat) :
    lasting (triggerEvent s kind source) = lasting s := by simp [triggerEvent]

@[simp] theorem lasting_msgTrigger (s : State) (idx : Nat) (drain : Bool) : lasting (msgTrigger s idx drain) = lasting s := by
  unfold msgTrigger
  (repeat' split) <;> simp

@[simp] theorem lasting_setLine (s : State) (n : Nat) (x : Line) : lasting (setLine s n x) = lasting s := by simp [setLine]

@[simp] theorem lasting_waitWakes (s : State) (idx : Nat) : lasting (waitWakes s idx) = lasting s := by
  unfold waitWakes
  split <;> simp

@[simp] theorem lasting_ovfPut (s : State) (idx : Nat) (m : Msg) : lasting (ovfPut s idx m) = lasting s := by
  unfold ovfPut
  dsimp only
  split <;> simp

@[simp] theorem lasting_deliver (s : State) (idx : Nat) (m : Msg) : lasting (deliver s idx m) = lasting s := by
  unfold deliver
  dsimp only
  (repeat' split) <;> simp

@[simp] theorem lasting_sendNow (s : State) (dest : W32) (m : Msg) : lasting (sendNow s dest m).2 = lasting s := by
  unfold sendNow
  (repeat' split) <;> simp

@[simp] theorem lasting_sendOne (s : State) (dest : W32) (m : Msg) : lasting (sendOne s dest m).2 = lasting s := by
  unfold sendOne
  grind [lasting_sendNow, lasting_msgDropped]

@[simp] theorem lasting_sendOrphans (s : State) (idx : Nat) : lasting (sendOrphans s idx) = lasting s := by
  unfold sendOrphans
  split <;> simp

@[simp] theorem lasting_stuckEnd (s : State) : lasting (stuckEnd s) = lasting s := by simp [stuckEnd]

@[simp] theorem lasting_msgRelease (s : State) (b : Nat) : lasting (msgRelease s b) = lasting s := by simp [msgRelease]

@[simp] theorem lasting_afterYield (s : State) (idx : Nat) : lasting (afterYield s idx) = lasting s := by
  unfold afterYield
  split <;> simp

@[simp] theorem lasting_sendPly (s : State) (idx : Nat) (j : Nat) (x : Strand) (dest : W32) (words : List TWord) :
    lasting (sendPly s idx j x dest words).2 = lasting s := by
  unfold sendPly
  grind [lasting_sendOne, lasting_modStrand, lasting_modPly, lasting_sendCompare]

@[simp] theorem lasting_drainOverflow (s : State) (idx : Nat) :
    lasting (drainOverflow s idx) = lasting s := by simp [drainOverflow]

/-! ### What lasts: the time base -/

@[simp] theorem lasting_takeIncr (s : State) : lasting (takeIncr s) = lasting s := by simp [takeIncr]

@[simp] theorem lasts_execRefInLost (s : State) : Lasts s (execRefInLost s) := by simp [execRefInLost]

@[simp] theorem lasting_stcEnter (s : State) (st : StcState) : lasting (stcEnter s st) = lasting s := by simp [stcEnter]

@[simp] theorem lasting_stcResume (s : State) : lasting (stcResume s) = lasting s := by
  unfold stcResume
  split <;> simp

@[simp] theorem lasts_execRefInReturn (s : State) : Lasts s (execRefInReturn s) := by simp [execRefInReturn]

@[simp] theorem lasting_askStep (s : State) (d : ℤ) : lasting (askStep s d) = lasting s := by simp [askStep]

@[simp] theorem lasts_execStcAdjWrite (v : W32) (s : State) : Lasts s (execStcAdjWrite v s) := by simp [execStcAdjWrite]

@[simp] theorem lasts_execStcSetNow (s : State) : Lasts s (execStcSetNow s) := by simp [execStcSetNow]

@[simp] theorem lasts_execStcSetAtEdge (s : State) : Lasts s (execStcSetAtEdge s) := by simp [execStcSetAtEdge]

@[simp] theorem lasts_execStcSnap (sub : Nat) (s : State) : Lasts s (execStcSnap sub s) := by simp [execStcSnap]

@[simp] theorem lasts_execStcCntClr (s : State) : Lasts s (execStcCntClr s) := by simp [execStcCntClr]

@[simp] theorem lasting_stcSelect (s : State) : lasting (stcSelect s) = lasting s := by
  unfold stcSelect
  dsimp only
  (repeat' split) <;> simp

@[simp] theorem lasting_irigCfg (s : State) (was : Bool) (now' : Bool) :
    lasting (irigCfg s was now') = lasting s := by simp [irigCfg]

@[simp] theorem lasting_crossCheck (s : State) : lasting (crossCheck s) = lasting s := by
  unfold crossCheck
  dsimp only
  split <;> simp [↓lasting_mk, ↓lasting_ite]

@[simp] theorem lasting_lockStep (s : State) (e : ℤ) : lasting (lockStep s e) = lasting s := by
  unfold lockStep
  split <;> simp

@[simp] theorem lasts_execStcPtpOffsetWrite (v : W32) (s : State) : Lasts s (execStcPtpOffsetWrite v s) := by
  unfold execStcPtpOffsetWrite
  dsimp only
  (repeat' split) <;> simp

@[simp] theorem lasting_setTsrc (s : State) (n : Nat) (x : TSrc) : lasting (setTsrc s n x) = lasting s := by
  unfold setTsrc
  split <;> simp

@[simp] theorem lasting_setAtEdge (s : State) (sec : Nat) (c : ℤ) : lasting (setAtEdge s sec c) = lasting s := by simp [setAtEdge]

@[simp] theorem lasting_align (s : State) (d : ℤ) : lasting (align s d) = lasting s := by simp [align]

@[simp] theorem lasting_discipline (s : State) (c : ℤ) : lasting (discipline s c) = lasting s := by
  unfold discipline
  dsimp only
  (repeat' split) <;> simp

@[simp] theorem lasting_acceptEdge (s : State) (n : Nat) (sub : Nat) (c : ℤ) : lasting (acceptEdge s n sub c) = lasting s := by
  unfold acceptEdge
  dsimp only
  (repeat' split) <;> simp

@[simp] theorem lasting_rejected (s : State) (n : Nat) : lasting (rejected s n) = lasting s := by simp [rejected]

@[simp] theorem lasting_disqualify (s : State) (n : Nat) : lasting (disqualify s n) = lasting s := by simp [disqualify]

@[simp] theorem lasting_badEdge (s : State) (n : Nat) : lasting (badEdge s n) = lasting s := by simp [badEdge]

@[simp] theorem lasting_pulseEdge (s : State) (n : Nat) (sub : Nat) (c : ℤ) (long : Bool) :
    lasting (pulseEdge s n sub c long) = lasting s := by simp [pulseEdge]

@[simp] theorem lasts_execPpsEdge (e : PpsEdge) (s : State) : Lasts s (execPpsEdge e s) := by simp [execPpsEdge]

@[simp] theorem lasts_execPpsEdgeMissed (input : Nat) (s : State) : Lasts s (execPpsEdgeMissed input s) := by
  unfold execPpsEdgeMissed
  (repeat' split) <;> simp

@[simp] theorem lasting_irigLoadAt (s : State) (sec : Nat) (part : Nat) :
    lasting (irigLoadAt s sec part) = lasting s := by simp [irigLoadAt]

@[simp] theorem lasts_execIrigFrame (f : IrigFrame) (s : State) : Lasts s (execIrigFrame f s) := by simp [execIrigFrame]

@[simp] theorem lasts_execIrigTimeout (s : State) : Lasts s (execIrigTimeout s) := by simp [execIrigTimeout]

@[simp] theorem lasts_execPtpLate (s : State) : Lasts s (execPtpLate s) := by simp [execPtpLate]

@[simp] theorem lasts_execSlewDone (s : State) : Lasts s (execSlewDone s) := by simp [execSlewDone]

@[simp] theorem lasts_execHoldoverExpired (s : State) : Lasts s (execHoldoverExpired s) := by simp [execHoldoverExpired]

@[simp] theorem lasts_execLeapApply (s : State) : Lasts s (execLeapApply s) := by simp [execLeapApply]

@[simp] theorem lasts_execPpsOutPulse (s : State) : Lasts s (execPpsOutPulse s) := by simp [execPpsOutPulse]

@[simp] theorem lasting_gotKeep (s : State) (n : Nat) : lasting (gotKeep s n) = lasting s := by simp [gotKeep]

@[simp] theorem lasting_rephase (s : State) (n : Nat) (c : Nat) : lasting (rephase s n c) = lasting s := by simp [rephase]

@[simp] theorem lasting_afterSet (s : State) : lasting (afterSet s) = lasting s := by simp [afterSet]

@[simp] theorem lasting_whorlStep (s : State) (old : Nat) (d : ℤ) : lasting (whorlStep s old d) = lasting s := by simp [whorlStep]

@[simp] theorem lasting_stcStep (s : State) (new : Nat) : lasting (stcStep s new) = lasting s := by simp [stcStep]

@[simp] theorem lasting_loadTime (s : State) : lasting (loadTime s) = lasting s := by
  unfold loadTime
  (repeat' split) <;> simp

@[simp] theorem lasting_calibrate (s : State) (ok : Bool) : lasting (calibrate s ok) = lasting s := by simp [calibrate]

@[simp] theorem lasts_execRefInEdge (o : EdgeObs) (s : State) : Lasts s (execRefInEdge o s) := by simp [execRefInEdge]

/-! ### What lasts: ports -/

@[simp] theorem lasting_hifDma (s : State) (w : DmaWait) (run : State → State) (h : ∀ u, lasting (run u) = lasting u) :
    lasting (hifDma s w run) = lasting s := by
  simp [hifDma, h]

@[simp] theorem lasts_execLaneCntClr (k : Nat) (s : State) : Lasts s (execLaneCntClr k s) := by simp [execLaneCntClr]

@[simp] theorem lasts_execEqRestart (k : Nat) (s : State) : Lasts s (execEqRestart k s) := by simp [execEqRestart]

@[simp] theorem lasting_fwqClose (s : State) (g : Nat) (entry : Nat) :
    lasting (fwqClose s g entry) = lasting s := by simp [fwqClose]

@[simp] theorem lasting_fwqOpenNew (s : State) (g : Nat) (entry : Nat) :
    lasting (fwqOpenNew s g entry).2 = lasting s := by simp [fwqOpenNew]

@[simp] theorem lasting_fwqBus (s : State) (g : Nat) : lasting (fwqBus s g) = lasting s := by simp [fwqBus]

@[simp] theorem lasting_fwqSkip (s : State) (g : Nat) : lasting (fwqSkip s g) = lasting s := by simp [fwqSkip]

@[simp] theorem lasting_fwqDone (s : State) (k : Nat) (entry : Nat) (stamp : Option (Nat × Nat)) :
    lasting (fwqDone s k entry stamp) = lasting s := by
  unfold fwqDone
  split <;> simp

@[simp] theorem lasting_fwqTake (s : State) (g : Nat) (i : Nat) : lasting (fwqTake s g i) = lasting s := by simp [fwqTake]

@[simp] theorem lasting_fwqFetch (s : State) (g : Nat) (h0 : Nat) (n : Nat) (busErr : Bool) :
    lasting (fwqFetch s g h0 n busErr) = lasting s := by simp [fwqFetch]

@[simp] theorem lasts_execPgFwqTxHeadWrite (g : Nat) (v : W32) (busErr : Bool) (s : State) :
    Lasts s (execPgFwqTxHeadWrite g v busErr s) := by simp [execPgFwqTxHeadWrite]

theorem lasting_bufStore {s t : State} {f : Frame} (h : bufStore s f = some t) : lasting t = lasting s := by
  simp only [bufStore] at h
  split at h
  · cases h
  · obtain rfl := Option.some.inj h
    simp

@[simp] theorem lasting_hsrForward (s : State) (f : Frame) : lasting (hsrForward s f) = lasting s := by simp [hsrForward]

@[simp] theorem lasting_dupCheck (s : State) (f : Frame) : lasting (dupCheck s f).2 = lasting s := by
  unfold dupCheck
  dsimp only
  (repeat' split) <;> simp

@[simp] theorem lasting_rxChecks (s : State) (f : Frame) : lasting (rxChecks s f).2 = lasting s := by
  unfold rxChecks
  grind [lasting_laneCount, lasting_bufStore, lasting_raiseIrq, lasting_raiseErr, lasting_hsrForward, lasting_dupCheck]

@[simp] theorem lasting_rxGood (s : State) (k : Nat) : lasting (rxGood s k) = lasting s := by simp [rxGood]

@[simp] theorem lasting_fwqStore (s : State) (k : Nat) (len : Nat) (stamp : Option (Nat × Nat)) (bytes : List Byte)
    (busErr : Bool) :
    lasting (fwqStore s k len stamp bytes busErr) = lasting s := by simp [fwqStore]

@[simp] theorem lasting_fwqPut (s : State) (k : Nat) (len : Nat) (stamp : Option (Nat × Nat)) (bytes : List Byte)
    (busErr : Bool) :
    lasting (fwqPut s k len stamp bytes busErr) = lasting s := by simp [fwqPut]

@[simp] theorem lasting_rxPtp (s : State) (f : Frame) : lasting (rxPtp s f) = lasting s := by simp [rxPtp]

@[simp] theorem lasting_rxOther (s : State) (f : Frame) : lasting (rxOther s f) = lasting s := by simp [rxOther]

@[simp] theorem lasting_rxClass (s : State) (f : Frame) : lasting (rxClass s f) = lasting s := by
  unfold rxClass
  split <;> simp

@[simp] theorem lasting_authFail (s : State) (k : Nat) : lasting (authFail s k) = lasting s := by simp [authFail]

@[simp] theorem lasting_interRx (s : State) (h : InterFrame) : lasting (interRx s h).2 = lasting s := by
  simp only [interRx]
  (repeat' split) <;> simp

@[simp] theorem lasting_setLink (s : State) (k : Nat) (up : Bool) : lasting (setLink s k up) = lasting s := by simp [setLink]

@[simp] theorem lasting_abortLoopback (s : State) (k : Nat) : lasting (abortLoopback s k) = lasting s := by simp [abortLoopback]

@[simp] theorem lasting_linkFalls (s : State) (k : Nat) (inFrame : Bool) :
    lasting (linkFalls s k inFrame) = lasting s := by simp [linkFalls]

@[simp] theorem lasts_execLaneSignalLoss (o : SwingObs) (inFrame : Bool) (s : State) :
    Lasts s (execLaneSignalLoss o inFrame s) := by simp [execLaneSignalLoss]

@[simp] theorem lasts_execLaneSignalRestore (o : SwingObs) (s : State) :
    Lasts s (execLaneSignalRestore o s) := by simp [execLaneSignalRestore]

@[simp] theorem lasts_execLaneLinkUp (k : Nat) (halfDuplexOnly : Bool) (s : State) :
    Lasts s (execLaneLinkUp k halfDuplexOnly s) := by simp [execLaneLinkUp]

@[simp] theorem lasts_execLaneEyeMeasure (e : EyeMeas) (s : State) :
    Lasts s (execLaneEyeMeasure e s) := by simp [execLaneEyeMeasure]

@[simp] theorem lasting_rxFrame (s : State) (f : Frame) : lasting (rxFrame s f) = lasting s := by simp [rxFrame]

@[simp] theorem lasts_execPtpFrameRx (f : Frame) (s : State) : Lasts s (execPtpFrameRx f s) := by simp [execPtpFrameRx]

@[simp] theorem lasts_execInterEngineMessageRx (m : InterMsg) (s : State) : Lasts s (execInterEngineMessageRx m s) := by
  simp only [execInterEngineMessageRx]
  (repeat' split) <;> simp

@[simp] theorem lasts_execSupervisionFrameRx (f : Frame) (s : State) :
    Lasts s (execSupervisionFrameRx f s) := by simp [execSupervisionFrameRx]

@[simp] theorem lasts_execOtherFrameRx (f : Frame) (s : State) : Lasts s (execOtherFrameRx f s) := by simp [execOtherFrameRx]

@[simp] theorem lasts_execC3794FrameRx (f : C37Frame) (s : State) : Lasts s (execC3794FrameRx f s) := by simp [execC3794FrameRx]

@[simp] theorem lasts_execDupEntryExpire (pair : Nat) (src : Nat) (s : State) :
    Lasts s (execDupEntryExpire pair src s) := by simp [execDupEntryExpire]

@[simp] theorem lasts_execSupervisionFrameTx (pair : Nat) (s : State) :
    Lasts s (execSupervisionFrameTx pair s) := by simp [execSupervisionFrameTx]

@[simp] theorem lasting_fwqSent (s : State) (k : Nat) (sub : Nat) (f : TxFrame) (bytes : List Byte) (entry : Nat)
    (serial : Nat) (oneStep : Bool) (rxNs : Nat) :
    lasting (fwqSent s k sub f bytes entry serial oneStep rxNs) = lasting s := by simp [fwqSent]

@[simp] theorem lasts_execFrameTxStart (k : Nat) (sub : Nat) (s : State) : Lasts s (execFrameTxStart k sub s) := by
  simp only [execFrameTxStart]
  (repeat' split) <;> simp

@[simp] theorem lasts_execLaneGuardOpen (k : Nat) (line : Nat) (s : State) :
    Lasts s (execLaneGuardOpen k line s) := by simp [execLaneGuardOpen]

@[simp] theorem lasts_execLaneLinkDown (o : LinkFall) (inFrame : Bool) (s : State) :
    Lasts s (execLaneLinkDown o inFrame s) := by simp [execLaneLinkDown]

@[simp] theorem lasts_execLaneSymbolError (k : Nat) (s : State) :
    Lasts s (execLaneSymbolError k s) := by simp [execLaneSymbolError]

/-! ### What lasts: subscriptions -/

@[simp] theorem lasting_setSv (s : State) (i : Nat) (x : SvSub) : lasting (setSv s i x) = lasting s := by simp [setSv]

@[simp] theorem lasting_setGo (s : State) (i : Nat) (x : GoSub) : lasting (setGo s i x) = lasting s := by simp [setGo]

@[simp] theorem lasting_routeSet (s : State) (ps : List Nat) (off : Nat) (w : TWord) :
    lasting (routeSet s ps off w) = lasting s := by simp [routeSet]

@[simp] theorem lasting_areaWrite (s : State) (i : Nat) (x : GoSub) (vals : List TWord) :
    lasting (areaWrite s i x vals) = lasting s := by simp [areaWrite]

@[simp] theorem lasts_execBioCntClr (s : State) : Lasts s (execBioCntClr s) := by simp [execBioCntClr]

@[simp] theorem lasts_execTripCntClr (s : State) : Lasts s (execTripCntClr s) := by simp [execTripCntClr]

@[simp] theorem lasts_execRbClr (levels : W32) (s : State) : Lasts s (execRbClr levels s) := by simp [execRbClr]

@[simp] theorem lasting_svAsdu (s : State) (i : Nat) (sim : Bool) (a : Asdu) : lasting (svAsdu s i sim a) = lasting s := by
  unfold svAsdu
  split <;> simp

@[simp] theorem lasts_execSvFrameRx (f : SvFrame) (s : State) : Lasts s (execSvFrameRx f s) := by simp [execSvFrameRx]

@[simp] theorem lasting_goFrame (s : State) (i : Nat) (f : GooseFrame) : lasting (goFrame s i f) = lasting s := by
  unfold goFrame
  dsimp only
  (repeat' split) <;> simp

@[simp] theorem lasts_execGooseFrameRx (f : GooseFrame) (s : State) : Lasts s (execGooseFrameRx f s) := by simp [execGooseFrameRx]

@[simp] theorem lasts_execGooseTalExpiry (sub : Nat) (s : State) : Lasts s (execGooseTalExpiry sub s) := by
  unfold execGooseTalExpiry
  (repeat' split) <;> simp

@[simp] theorem lasts_execPubCompareClose (slot : Nat) (agree : Bool) (s : State) :
    Lasts s (execPubCompareClose slot agree s) := by
  unfold execPubCompareClose
  split <;> simp

@[simp] theorem lasts_execGooseRetransmit (slot : Nat) (s : State) : Lasts s (execGooseRetransmit slot s) := by
  unfold execGooseRetransmit
  (repeat' split) <;> simp

@[simp] theorem lasting_statusPut (base : Nat) (l : List (Nat × List W32)) (s : State) :
    lasting (statusPut base l s) = lasting s := by simp [statusPut]

@[simp] theorem lasts_execStatusRecordWrite (s : State) : Lasts s (execStatusRecordWrite s) := by simp [execStatusRecordWrite]

@[simp] theorem lasts_execTripVoteClose (n : Nat) (k : Nat) (agree : Bool) (s : State) :
    Lasts s (execTripVoteClose n k agree s) := by
  unfold execTripVoteClose
  split <;> simp

@[simp] theorem lasts_execTripDeferredReset (n : Nat) (s : State) : Lasts s (execTripDeferredReset n s) := by
  unfold execTripDeferredReset
  split <;> simp

@[simp] theorem lasts_execTripReadbackFault (n : Nat) (level : Bool) (s : State) :
    Lasts s (execTripReadbackFault n level s) := by simp [execTripReadbackFault]

@[simp] theorem lasting_setBin (s : State) (n : Nat) (x : Bin) : lasting (setBin s n x) = lasting s := by simp [setBin]

@[simp] theorem lasting_binCount (s : State) : lasting (binCount s) = lasting s := by simp [binCount]

@[simp] theorem lasting_binAreas (s : State) (n : Nat) : lasting (binAreas s n) = lasting s := by
  refine lasting_foldl _ (fun u p => ?_) _ _
  split <;> simp

@[simp] theorem lasting_bioAreas (s : State) : lasting (bioAreas s) = lasting s := by simp [bioAreas]

@[simp] theorem lasting_binReport (s : State) (n : Nat) (level : Bool) (sec : Nat) (ns : Nat) (tval : Nat) (der : Bool) :
    lasting (binReport s n level sec ns tval der) = lasting s := by simp [binReport]

@[simp] theorem lasting_binChange (s : State) (n : Nat) (level : Bool) (sec : Nat) (ns : Nat) (tval : Nat) :
    lasting (binChange s n level sec ns tval) = lasting s := by simp [binChange]

@[simp] theorem lasting_binEnables (old new : State) : lasting (binEnables old new) = lasting new := by
  simp [binEnables]

@[simp] theorem lasts_execBiEdge (n : Nat) (level : Bool) (sub : Nat) (s : State) :
    Lasts s (execBiEdge n level sub s) := by simp [execBiEdge]

@[simp] theorem lasts_execBiChange (n : Nat) (s : State) : Lasts s (execBiChange n s) := by
  simp only [execBiChange]
  (repeat' split) <;> simp

@[simp] theorem lasts_execBiChatterRelease (n : Nat) (sub : Nat) (s : State) :
    Lasts s (execBiChatterRelease n sub s) := by simp [execBiChatterRelease]

/-! ### What lasts: pillows -/

@[simp] theorem lasting_dedLatch (s : State) (p : Nat) (addr : Nat) (source : Nat) :
    lasting (dedLatch s p addr source) = lasting s := by simp [dedLatch]

@[simp] theorem lasting_dedReport (s : State) (addr : Nat) (source : Nat) :
    lasting (dedReport s addr source) = lasting s := by simp [dedReport]

@[simp] theorem lasting_bankDed (s : State) (addr : Nat) (source : Nat) :
    lasting (bankDed s addr source) = lasting s := by simp [bankDed]

@[simp] theorem lasting_secCount (s : State) (p : Nat) (k : Nat) : lasting (secCount s p k) = lasting s := by simp [secCount]

@[simp] theorem lasting_bankRead (s : State) (addr : Nat) (source : Nat) (ecc : Ecc) :
    lasting (bankRead s addr source ecc).2 = lasting s := by
  unfold bankRead
  dsimp only
  (repeat' split) <;> simp

@[simp] theorem lasting_slotRead (s : State) (p : Nat) (slot : Nat) (source : Nat) (ecc : Ecc) :
    lasting (slotRead s p slot source ecc).2 = lasting s := by
  unfold slotRead
  dsimp only
  (repeat' split) <;> simp

@[simp] theorem lasting_parkBandwidth (s : State) (ahead : Nat) : lasting (parkBandwidth s ahead).2 = lasting s := by
  unfold parkBandwidth
  dsimp only
  (repeat' split) <;> simp

@[simp] theorem lasting_bankOn (s : State) (p : Nat) (k : Nat) : lasting (bankOn s p k) = lasting s := by simp [bankOn]

@[simp] theorem lasting_ownSet (s : State) (p : Nat) (b : Nat) (n : Nat) (v : Nat) :
    lasting (ownSet s p b n v) = lasting s := by simp [ownSet]

@[simp] theorem lasting_assign (s : State) (p : Nat) (g : Seg) (v : Nat) :
    lasting (assign s p g v) = lasting s := by simp [assign]

@[simp] theorem lasting_reserve (s : State) (p : Nat) (slot : Nat) (segs : List Seg) (take : List Seg) :
    lasting (reserve s p slot segs take) = lasting s := by simp [reserve]

@[simp] theorem lasting_setFloor (s : State) (p : Nat) : lasting (setFloor s p) = lasting s := by simp [setFloor]

@[simp] theorem lasting_copyStart (s : State) (idx : Nat) : lasting (copyStart s idx) = lasting s := by simp [copyStart]

@[simp] theorem lasting_decide' (s : State) (w : Want) : lasting (decide' s w) = lasting s := by
  unfold decide'
  dsimp only
  (repeat' split) <;> simp

@[simp] theorem lasting_decideWants (s : State) (idx : Nat) (now : Want → Bool) :
    lasting (decideWants s idx now) = lasting s := by simp [decideWants]

@[simp] theorem lasting_decideNow (s : State) (idx : Nat) : lasting (decideNow s idx) = lasting s := by simp [decideNow]

@[simp] theorem lasting_abortUnit (s : State) (u : UnitId) : lasting (abortUnit s u) = lasting s := by simp [abortUnit]

@[simp] theorem lasting_want (s : State) (idx : Nat) (j : Nat) (reason : Nat) : lasting (want s idx j reason) = lasting s := by
  unfold want
  split <;> simp

@[simp] theorem lasting_vacateBob (s : State) (b : Nat) (reason : Nat) :
    lasting (vacateBob s b reason) = lasting s := by simp [vacateBob]

@[simp] theorem lasting_vacateBank (s : State) (p : Nat) (k : Nat) (reason : Nat) :
    lasting (vacateBank s p k reason) = lasting s := by simp [vacateBank]

@[simp] theorem lasting_vacate (s : State) (u : UnitId) (reason : Nat) :
    lasting (vacate s u reason) = lasting s := by simp [vacate]

@[simp] theorem lasting_dirSet (s : State) (e : DirEnt) : lasting (dirSet s e) = lasting s := by simp [dirSet]

@[simp] theorem lasting_rampUp (s : State) (p : Nat) : lasting (rampUp s p) = lasting s := by simp [rampUp]

@[simp] theorem lasting_askTest (s : State) (u : UnitId) (cause : TestCause) (codes : List (Nat × W32)) :
    lasting (askTest s u cause codes) = lasting s := by simp [askTest]

@[simp] theorem lasting_unassign (s : State) (p : Nat) (g : Seg) : lasting (unassign s p g) = lasting s := by simp [unassign]

@[simp] theorem lasts_execHandBack (s : State) : Lasts s (execHandBack s) := by
  unfold execHandBack
  dsimp only
  (repeat' split) <;> simp

@[simp] theorem lasts_execPrckCntClr (s : State) : Lasts s (execPrckCntClr s) := by simp [execPrckCntClr]

@[simp] theorem lasting_startRebuild (s : State) (idx : Nat) (j : Nat) :
    lasting (startRebuild s idx j) = lasting s := by simp [startRebuild]

@[simp] theorem lasting_moveAllowed (s : State) : lasting (moveAllowed s).2 = lasting s := by
  unfold moveAllowed
  dsimp only
  (repeat' split) <;> simp

@[simp] theorem lasting_moveAway (s : State) (p : Nat) (reason : Nat) : lasting (moveAway s p reason) = lasting s := by
  unfold moveAway
  grind [lasting_moveAllowed, lasting_want]

@[simp] theorem lasting_ctxCompare (s : State) (idx : Nat) : lasting (ctxCompare s idx) = lasting s := by
  simp only [ctxCompare]
  (repeat' split) <;> simp

@[simp] theorem lasting_dirState (s : State) (shadow : W32) (st : DirState) : lasting (dirState s shadow st) = lasting s := by
  unfold dirState
  split <;> simp

@[simp] theorem lasting_decideStrand (s : State) (idx : Nat) : lasting (decideStrand s idx) = lasting s := by simp [decideStrand]

@[simp] theorem lasting_loopInput (s : State) (p : Nat) (i : Nat) (o : PilSample) :
    lasting (loopInput s p i o) = lasting s := by simp [loopInput]

@[simp] theorem lasting_moveMeets (s : State) (m : Mig) (ecc : Ecc) : lasting (moveMeets s m ecc).2 = lasting s := by
  unfold moveMeets
  dsimp only
  (repeat' split) <;> simp

@[simp] theorem lasting_bankCopy (s : State) (src : Nat) (dst : Nat) :
    lasting (bankCopy s src dst) = lasting s := by simp [bankCopy]

@[simp] theorem lasting_copySegs (s : State) (p : Nat) (q : Nat) (gs : List Seg) :
    lasting (copySegs s p q gs) = lasting s := by simp [copySegs]

@[simp] theorem lasting_badContext (s : State) (old : State) (from' : Option Nat) (p : Nat) (q : Nat) (slot : Nat) :
    lasting (badContext s old from' p q slot) = lasting s := by
  unfold badContext
  split <;> simp

@[simp] theorem lasting_commitMig (s : State) (m : Mig) (ded : Bool) : lasting (commitMig s m ded) = lasting s := by
  simp only [commitMig]
  (repeat' split) <;> simp

@[simp] theorem lasts_execMigrationCopyDone (idx : Nat) (ply : Nat) (ecc : Ecc) (s : State) :
    Lasts s (execMigrationCopyDone idx ply ecc s) := by
  simp only [execMigrationCopyDone]
  (repeat' split) <;> simp

@[simp] theorem lasts_execStageComplete (idx : Nat) (s : State) : Lasts s (execStageComplete idx s) := by
  simp only [execStageComplete]
  (repeat' split) <;> simp

@[simp] theorem lasting_rotaSkip (s : State) (r : RotaUnit) : lasting (rotaSkip s r) = lasting s := by simp [rotaSkip]

@[simp] theorem lasting_rotaGiveUp (s : State) (mine : RotaUnit → Bool) :
    lasting (rotaGiveUp s mine) = lasting s := by simp [rotaGiveUp]

@[simp] theorem lasting_rotaNext (s : State) (mine : RotaUnit → Bool) (own : RotaUnit) :
    lasting (rotaNext s mine own).2.2 = lasting s := by
  unfold rotaNext
  split <;> simp

@[simp] theorem lasting_proofLate (s : State) (page : Nat) (u : UnitId) :
    lasting (proofLate s page u) = lasting s := by simp [proofLate]

@[simp] theorem lasting_prckLogUnit (s : State) (kind : Nat) (reason : Nat) (src : Nat) :
    lasting (prckLogUnit s kind reason src) = lasting s := by simp [prckLogUnit]

@[simp] theorem lasting_rotaBegin (s : State) (r : RotaUnit) : lasting (rotaBegin s r) = lasting s := by
  unfold rotaBegin
  (repeat' split) <;> simp

@[simp] theorem lasting_rotaRound (s : State) (mine : RotaUnit → Bool) :
    lasting (rotaRound s mine) = lasting s := by simp [rotaRound]

@[simp] theorem lasting_rotaStep (s : State) (mine : RotaUnit → Bool) (own : RotaUnit) (i n : Nat) (set' : Nat → State → State)
    (h : ∀ m u, lasting (set' m u) = lasting u) : lasting (rotaStep s mine own i n set') = lasting s := by
  simp [rotaStep, h]

@[simp] theorem lasting_dirPrimary (s : State) (primary : W32) (st : DirState) :
    lasting (dirPrimary s primary st) = lasting s := by
  unfold dirPrimary
  split <;> simp

@[simp] theorem lasting_parkStrand (s : State) (idx reason : Nat) : lasting (parkStrand s idx reason) = lasting s := by
  unfold parkStrand
  (repeat' split)
  all_goals grind [lasting_slotRead, lasting_modPly, lasting_parkBandwidth, lasting_draPut, lasting_prckLogNow, lasting_of_eq]

@[simp] theorem lasting_capSuspend (s : State) (idx : Nat) : lasting (capSuspend s idx) = lasting s := by
  unfold capSuspend
  split <;> simp

@[simp] theorem lasting_roomReturns (s : State) : lasting (roomReturns s) = lasting s := by
  simp only [roomReturns]
  rw [lasting_foldl]
  · simp [-List.foldl_reverse]
  · intro u i
    split <;> simp

@[simp] theorem lasting_makeRoom (s : State) (p : Nat) (rate : Option Nat) : lasting (makeRoom s p rate) = lasting s := by
  unfold makeRoom
  grind [lasting_parkStrand]

theorem placeSegs_cons (s : State) (places : List (Nat × Nat)) (keep : List Seg) (r : SegReq) (rs : List SegReq) :
    placeSegs s places keep (r :: rs) = (findSeg s (places.map fun e => pilOf e.1) keep r.bank r.len).bind fun g =>
      (placeSegs (places.foldl (fun u e => assign u (pilOf e.1) g (1 + 4 * e.2)) s) places keep rs).map fun e => (g :: e.1, e.2)
        := by
  delta placeSegs placeSegs._f
  generalize findSeg = find
  dsimp only
  cases find s (places.map fun e => pilOf e.1) keep r.bank r.len <;> rfl

theorem lasting_placeSegs {s t : State} {places : List (Nat × Nat)} {keep gs : List Seg} {rs : List SegReq}
    (h : placeSegs s places keep rs = some (gs, t)) : lasting t = lasting s := by
  induction rs generalizing s gs with
  | nil =>
    obtain ⟨_, rfl⟩ := Prod.mk.inj (Option.some.inj h)
    rfl
  | cons r rs ih =>
    rw [placeSegs_cons] at h
    obtain ⟨g, _, h⟩ := Option.bind_eq_some_iff.mp h
    obtain ⟨⟨x, u⟩, hu, he⟩ := Option.map_eq_some_iff.mp h
    obtain ⟨_, rfl⟩ := Prod.mk.inj he
    exact (ih hu).trans (by simp)

@[simp] theorem lasting_joinRings (s : State) (idx : Nat) (bobs : List Nat) : lasting (joinRings s idx bobs) = lasting s := by
  simp only [joinRings]
  split
  · simp
  · rw [lasting_foldl]
    · simp
    · intro u e
      split <;> simp

@[simp] theorem lasting_createStrand (s : State) (idx : Nat) (segs : List SegReq) (shadowOf : Option W32) :
    lasting (createStrand s idx segs shadowOf).2 = lasting s := by
  unfold createStrand
  dsimp only
  generalize choosePlies _ _ _ _ _ _ = c
  have room (r : Option Nat) (bobs : List Nat) : lasting (bobs.foldl (fun u b => makeRoom u (pilOf b) r) s) = lasting s := by simp
  split_ifs
  all_goals try rfl
  all_goals
    cases c with
    | none => rfl
    | some bobs =>
      dsimp only
      split
      · rfl
      · rename_i h
        have := (lasting_placeSegs h).trans (room _ _)
        cases shadowOf <;> simp [this]

@[simp] theorem lasting_freeStrand (s : State) (idx : Nat) : lasting (freeStrand s idx) = lasting s := by
  unfold freeStrand
  split <;> simp

@[simp] theorem lasting_shortage (s : State) (w : Want) : lasting (shortage s w) = lasting s := by
  unfold shortage
  split
  · rfl
  · generalize hp : (strandIdx s).foldl _ s = parked
    have hs : lasting parked = lasting s := by
      rw [← hp, lasting_foldl]
      intro u i
      split
      · rfl
      · split <;> simp
    dsimp only
    split
    · simp [hs]
    · split <;> simp [hs]

@[simp] theorem lasting_serveWants (s : State) : lasting (serveWants s) = lasting s := by simp [serveWants]

@[simp] theorem lasts_execShadowDrop (s : State) : Lasts s (execShadowDrop s) := by
  simp only [execShadowDrop]
  (repeat' split) <;> simp

@[simp] theorem lasts_execPrckExcludeWrite (v : W32) (s : State) :
    Lasts s (execPrckExcludeWrite v s) := by simp [execPrckExcludeWrite]

@[simp] theorem lasts_execPrckLoopSample (o : LoopObs) (s : State) : Lasts s (execPrckLoopSample o s) := by
  simp only [execPrckLoopSample]
  (repeat' split) <;> simp

@[simp] theorem lasts_execRotaBobbinStep (s : State) : Lasts s (execRotaBobbinStep s) := by simp [execRotaBobbinStep]

@[simp] theorem lasts_execRotaBankStep (s : State) : Lasts s (execRotaBankStep s) := by simp [execRotaBankStep]

@[simp] theorem lasts_execRotaLaneStep (s : State) : Lasts s (execRotaLaneStep s) := by simp [execRotaLaneStep]

@[simp] theorem lasts_execStageStart (idx : Nat) (s : State) : Lasts s (execStageStart idx s) := by
  refine (lasts_next ..).2 ?_
  split
  · split
    · rfl
    · split <;> rename_i h <;> simp [lasting_of_eq h]
  · rfl

@[simp] theorem lasts_execTickHeartbeatRx (f : TickHb) (s : State) : Lasts s (execTickHeartbeatRx f s) := by
  refine (lasts_next ..).2 ?_
  dsimp only
  split
  · simp
  refine (lasting_foldl _ (fun u e => ?_) _ _).trans (by simp)
  split
  · split
    · split_ifs <;> simp
    · rfl
  · refine lasting_foldl _ (fun v i => ?_) _ _
    split
    · split <;> simp
    · rfl

/-! ### What lasts: contexts -/

@[simp] theorem lasting_clbComplete (s : State) : lasting (clbComplete s) = lasting s := by simp [clbComplete]

@[simp] theorem lasting_clbAck (s : State) (b : Nat) : lasting (clbAck s b) = lasting s := by simp [clbAck]

@[simp] theorem lasting_loopCellsOf (s : State) (ls : List Loop) : lasting (loopCellsOf s ls).2 = lasting s := by
  unfold loopCellsOf
  (repeat' split) <;> simp

@[simp] theorem lasting_loopsOf (s : State) (a : W32) (b : W32) (c : W32) : lasting (loopsOf s a b c).2 = lasting s := by
  unfold loopsOf
  dsimp only
  (repeat' split) <;> simp

@[simp] theorem lasting_saveWords (s : State) (idx : Nat) (j : Nat) (i : Nat) (ws : List TWord) (side : Side) (pre : Bool) :
    lasting (saveWords s idx j i ws side pre) = lasting s := by
  unfold saveWords
  split <;> simp

@[simp] theorem lasting_saveImage (s : State) (idx : Nat) (j : Nat) (k : Core) (resume : Nat) (slot : Option Nat)
    (status : W32) (cells : List W32) (pre : Bool) :
    lasting (saveImage s idx j k resume slot status cells pre) = lasting s := by simp [saveImage]

@[simp] theorem lasting_liveWords (s : State) (b : Nat) (k : Core) (pre : Bool) :
    lasting (liveWords s b k pre).2 = lasting s := by simp [liveWords]

@[simp] theorem lasting_saveLive (s : State) (b : Nat) (k : Core) (o : OnCore) (pre : Bool) :
    lasting (saveLive s b k o pre) = lasting s := by simp [saveLive]

@[simp] theorem lasting_loadImage (s : State) (k : Core) (o : OnCore) (p : Ply) (budget : Nat) (pClass : Bool)
    (early : List TWord) :
    lasting (loadImage s k o p budget pClass early).2 = lasting s := by simp [loadImage]

/-! ### What lasts: the wheel -/

@[simp] theorem lasting_stopLines (s : State) : lasting (stopLines s) = lasting s := by simp [stopLines]

@[simp] theorem lasting_startLine (s : State) (n : Nat) : lasting (startLine s n) = lasting s := by simp [startLine]

@[simp] theorem lasting_startLines (s : State) : lasting (startLines s) = lasting s := by simp [startLines]

@[simp] theorem lasting_bobOff (s : State) (b : Nat) : lasting (bobOff s b) = lasting s := by simp [bobOff]

@[simp] theorem lasting_retainPil (s : State) (p : Nat) : lasting (retainPil s p) = lasting s := by simp [retainPil]

@[simp] theorem lasting_scmdEnd (s : State) (idx : Nat) (result : Nat) :
    lasting (scmdEnd s idx result) = lasting s := by simp [scmdEnd]

@[simp] theorem lasting_scmdRefuse (s : State) (result : Nat) : lasting (scmdRefuse s result) = lasting s := by simp [scmdRefuse]

@[simp] theorem lasting_scmd (s : State) (body : Nat → State → State) (h : ∀ n u, lasting (body n u) = lasting u) :
    lasting (scmd s body) = lasting s := by
  simp [scmd, h]

@[simp] theorem lasting_scmdAll (s : State) (idx : Nat) (limited : Bool) (legal : Ply → Bool) (act : State → State)
    (h : ∀ u, lasting (act u) = lasting u) : lasting (scmdAll s idx limited legal act) = lasting s := by
  unfold scmdAll
  split <;> simp [h]

@[simp] theorem lasts_execWhrlResume (s : State) : Lasts s (execWhrlResume s) := by simp [execWhrlResume]

@[simp] theorem lasts_execWhrlCntClr (s : State) : Lasts s (execWhrlCntClr s) := by simp [execWhrlCntClr]

@[simp] theorem lasting_leaveBob (s : State) (b : Nat) : lasting (leaveBob s b) = lasting s := by simp [leaveBob]

@[simp] theorem lasting_saveU (s : State) (b : Nat) (k : Core) (o : OnCore) : lasting (saveU s b k o) = lasting s := by
  unfold saveU
  split <;> simp

@[simp] theorem lasting_nextTick (s : State) (n : Nat) (c : Nat) : lasting (nextTick s n c) = lasting s := by simp [nextTick]

@[simp] theorem lasting_noteClose (s : State) (n : Nat) (nominal : Nat) (c : Nat) :
    lasting (noteClose s n nominal c) = lasting s := by simp [noteClose]

@[simp] theorem lasting_placeAll (s : State) (idx : Nat) : lasting (placeAll s idx) = lasting s := by
  unfold placeAll
  split <;> simp

@[simp] theorem lasting_handBacks (s : State) (n : Nat) : lasting (handBacks s n) = lasting s := by simp [handBacks]

@[simp] theorem lasting_takeOver (s : State) (idx : Nat) : lasting (takeOver s idx) = lasting s := by
  unfold takeOver
  dsimp only
  split <;> simp

@[simp] theorem lasting_hbClose (s : State) (n : Nat) (k : Nat) : lasting (hbClose s n k) = lasting s := by simp [hbClose]

@[simp] theorem lasting_missRelease (s : State) (n : Nat) (idx : Nat) (x : Strand) :
    lasting (missRelease s n idx x) = lasting s := by simp [missRelease]

@[simp] theorem lasting_closeStrand (s : State) (n : Nat) (k : Nat) (nominal : Nat) (idx : Nat) :
    lasting (closeStrand s n k nominal idx) = lasting s := by
  unfold closeStrand
  split <;> simp

@[simp] theorem lasting_closeStrands (s : State) (n : Nat) (k : Nat) (nominal : Nat) :
    lasting (closeStrands s n k nominal) = lasting s := by simp [closeStrands]

@[simp] theorem lasting_releaseBound (s : State) (ok : Bool) : lasting (releaseBound s ok) = lasting s := by simp [releaseBound]

@[simp] theorem lasting_sendHb (s : State) (n : Nat) (k : Nat) : lasting (sendHb s n k) = lasting s := by simp [sendHb]

@[simp] theorem lasting_trkEstimate (s : State) (n : Nat) : lasting (trkEstimate s n) = lasting s := by
  unfold trkEstimate
  split <;> simp

@[simp] theorem lasts_execTimerTrigger (idx : Nat) (s : State) : Lasts s (execTimerTrigger idx s) := by
  unfold execTimerTrigger
  split <;> simp

@[simp] theorem lasts_execWaitTimeout (idx : Nat) (s : State) : Lasts s (execWaitTimeout idx s) := by simp [execWaitTimeout]

@[simp] theorem lasting_createNow (s : State) (idx : Nat) (segs : List SegReq) (shadow : Option W32) :
    lasting (createNow s idx segs shadow) = lasting s := by simp [createNow]

@[simp] theorem lasting_freeIfGone (s : State) (idx : Nat) : lasting (freeIfGone s idx) = lasting s := by
  unfold freeIfGone
  split <;> simp

@[simp] theorem lasting_scmdPlies (s : State) (idx : Nat) (op : Nat) (creating : Bool) (legal : Ply → Bool) (act : Ply → Ply) :
    lasting (scmdPlies s idx op creating legal act) = lasting s := by
  simp only [scmdPlies]
  (repeat' split) <;> simp

@[simp] theorem lasting_afterLeave (s : State) (b : Nat) (idx : Nat) : lasting (afterLeave s b idx) = lasting s := by
  unfold afterLeave
  grind [lasting_copyStart, lasting_parkStrand, lasting_retainPil, lasting_guardAll, lasting_msgRelease, lasting_afterYield,
    lasting_waitWakes]

@[simp] theorem lasting_plyLeaves (s : State) (idx : Nat) (j : Nat) (st : SState) :
    lasting (plyLeaves s idx j st) = lasting s := by
  unfold plyLeaves
  split <;> simp

@[simp] theorem lasting_overrun (s : State) (b : Nat) (o : OnCore) : lasting (overrun s b o) = lasting s := by
  unfold overrun
  grind [lasting_leaveBob, lasting_raiseIrq, lasting_bump, lasting_raiseErr, lasting_modPly, lasting_ctxSetList, lasting_saveU,
    lasting_setCore, lasting_afterLeave, lasting_plyLeaves]

@[simp] theorem lasting_absentFill (s : State) (n k : Nat) : lasting (absentFill s n k) = lasting s := by
  refine lasting_foldl _ (fun u e => ?_) _ _
  split
  · rfl
  · split_ifs
    · rfl
    · simp
    · simp only [lasting_bump]
      refine lasting_foldl _ (fun v r => ?_) _ _
      split <;> simp

@[simp] theorem lasting_closeTick (s : State) (n : Nat) (c : Nat) (fill : Bool) (agree : Bool) (ok : Bool) :
    lasting (closeTick s n c fill agree ok) = lasting s := by simp [closeTick]

theorem lasting_drainLeave {s t : State} {b : Nat} (h : drainLeave s b = some t) : lasting t = lasting s := by
  unfold drainLeave at h
  dsimp only at h
  split at h
  · cases h
  · split at h
    · cases h
    · split at h
      · cases h
      · obtain rfl := Option.some.inj h
        simp

@[simp] theorem lasting_drainDone (s : State) (b : Nat) : lasting (drainDone s b) = lasting s := by
  unfold drainDone
  cases h : drainLeave s b with
  | none => rfl
  | some t => exact lasting_drainLeave h

@[simp] theorem lasts_execWhrlCreate (segs : List SegReq) (shadow : Option W32) (s : State) :
    Lasts s (execWhrlCreate segs shadow s) := by simp [execWhrlCreate]

@[simp] theorem lasts_execWhrlSuspend (s : State) : Lasts s (execWhrlSuspend s) := by simp [execWhrlSuspend]

@[simp] theorem lasts_execWhrlFree (s : State) : Lasts s (execWhrlFree s) := by simp [execWhrlFree]

@[simp] theorem lasts_execWhrlClear (s : State) : Lasts s (execWhrlClear s) := by simp [execWhrlClear]

@[simp] theorem lasts_execWindowClose (o : CloseObs) (s : State) : Lasts s (execWindowClose o s) := by simp [execWindowClose]

@[simp] theorem lasts_execTrackingTick (line : Nat) (o : TickObs) (s : State) :
    Lasts s (execTrackingTick line o s) := by simp [execTrackingTick]

@[simp] theorem lasts_execStrandFaultReport (bob : Nat) (s : State) : Lasts s (execStrandFaultReport bob s) := by
  simp only [execStrandFaultReport]
  (repeat' split) <;> simp

@[simp] theorem lasts_execWhrlReset (s : State) : Lasts s (execWhrlReset s) := by
  unfold execWhrlReset
  rw [lasts_next]
  refine lasting_scmd _ _ fun n u => lasting_scmdAll _ _ _ _ _ fun v => ?_
  rw [lasting_modStrand, lasting_foldl]
  · simp
  · simp

/-! ### What lasts: memories -/

@[simp] theorem lasting_setScrub (s : State) (key : Nat) (v : Nat) : lasting (setScrub s key v) = lasting s := by simp [setScrub]

@[simp] theorem lasting_setBankPwr (s : State) (p : Nat) (k : Nat) (v : BankPwr) :
    lasting (setBankPwr s p k v) = lasting s := by simp [setBankPwr]

@[simp] theorem lasts_execPilCntClr (pil : Nat) (s : State) : Lasts s (execPilCntClr pil s) := by simp [execPilCntClr]

@[simp] theorem lasting_scrubBegin (s : State) (p : Nat) : lasting (scrubBegin s p) = lasting s := by simp [scrubBegin]

@[simp] theorem lasts_execScrubNow (pil : Nat) (s : State) : Lasts s (execScrubNow pil s) := by simp [execScrubNow]

@[simp] theorem lasts_execPilOwnQuery (pil : Nat) (v : W32) (s : State) :
    Lasts s (execPilOwnQuery pil v s) := by simp [execPilOwnQuery]

@[simp] theorem lasting_setLease (s : State) (p : Nat) (k : Nat) (v : LeaseSt) :
    lasting (setLease s p k v) = lasting s := by simp [setLease]

@[simp] theorem lasts_execSe1LeaseWrite (pil : Nat) (k : Nat) (v : W32) (s : State) : Lasts s (execSe1LeaseWrite pil k v s) := by
  unfold execSe1LeaseWrite
  (repeat' split) <;> simp

@[simp] theorem lasting_codeDed (s : State) (p : Nat) (a : Nat) (source : Nat) :
    lasting (codeDed s p a source) = lasting s := by simp [codeDed]

@[simp] theorem lasting_codeRead (s : State) (p : Nat) (a : Nat) (source : Nat) (ecc : Ecc) :
    lasting (codeRead s p a source ecc).2 = lasting s := by
  unfold codeRead
  dsimp only
  (repeat' split) <;> simp

@[simp] theorem lasts_execScrubRead (pil : Nat) (eccs : List Ecc) (codeEcc : Ecc) (codeEcc2 : Ecc) (s : State) :
    Lasts s (execScrubRead pil eccs codeEcc codeEcc2 s) := by simp [execScrubRead]

@[simp] theorem lasts_execScrubLate (pil : Nat) (s : State) : Lasts s (execScrubLate pil s) := by simp [execScrubLate]

@[simp] theorem lasts_execBankFillDone (pil : Nat) (bank : Nat) (s : State) :
    Lasts s (execBankFillDone pil bank s) := by simp [execBankFillDone]

@[simp] theorem lasts_execLeaseGranted (pil : Nat) (k : Nat) (s : State) :
    Lasts s (execLeaseGranted pil k s) := by simp [execLeaseGranted]

@[simp] theorem lasts_execWakeFail (pil : Nat) (bank : Option Nat) (s : State) :
    Lasts s (execWakeFail pil bank s) := by simp [execWakeFail]

@[simp] theorem lasts_execLeaseReleased (pil : Nat) (k : Nat) (s : State) :
    Lasts s (execLeaseReleased pil k s) := by simp [execLeaseReleased]

@[simp] theorem lasts_execSe1ApertureAccess (place : BusPlace) (wr? : Option W32) (ecc : Ecc) (s : State) :
    Lasts s (execSe1ApertureAccess place wr? ecc s) := by
  unfold execSe1ApertureAccess
  rw [lasts_next]
  dsimp only
  split
  · simp
  · split
    · split <;> simp
    · split
      · simp
      · split <;> rename_i h <;> simp [lasting_of_eq h]

/-! ### What lasts: power -/

@[simp] theorem lasting_noPower (s : State) : lasting (noPower s) = lasting s := rfl

@[simp] theorem lasts_execAlwaysOnPowerLoss (s : State) : Lasts s (execAlwaysOnPowerLoss s) := by simp [execAlwaysOnPowerLoss]

@[simp] theorem lasting_poisonLine (s : State) (line : Nat) : lasting (poisonLine s line) = lasting s := by
  unfold poisonLine
  split <;> simp

@[simp] theorem lasting_declareDead (s : State) : lasting (declareDead s) = lasting s := by simp [declareDead]

@[simp] theorem lasting_powerDownAll (s : State) : lasting (powerDownAll s) = lasting s := by simp [powerDownAll]

@[simp] theorem lasting_fabricUp (s : State) (p : Nat) : lasting (fabricUp s p) = lasting s := by simp [fabricUp]

@[simp] theorem lasting_domOn (s : State) (d : Nat) : lasting (domOn s d) = lasting s := by simp [domOn]

@[simp] theorem lasting_wipe (s : State) (ok : Bool) : lasting (wipe s ok) = lasting s := by simp [wipe]

@[simp] theorem lasting_pgOff (s : State) (g : Nat) : lasting (pgOff s g) = lasting s := by simp [pgOff]

@[simp] theorem lasting_bankOff (s : State) (p : Nat) (k : Nat) : lasting (bankOff s p k) = lasting s := by simp [bankOff]

@[simp] theorem lasts_execPwrCntClr (s : State) : Lasts s (execPwrCntClr s) := by simp [execPwrCntClr]

@[simp] theorem lasts_execClkSpnCfgWrite (v : W32) (s : State) : Lasts s (execClkSpnCfgWrite v s) := by simp [execClkSpnCfgWrite]

@[simp] theorem lasting_lockUp (s : State) (c : Nat) : lasting (lockUp s c) = lasting s := by simp [lockUp]

@[simp] theorem lasting_curePoison (s : State) (line : Nat) : lasting (curePoison s line) = lasting s := by
  unfold curePoison
  split <;> simp

@[simp] theorem lasts_execDomainPowerUp (d : Nat) (s : State) : Lasts s (execDomainPowerUp d s) := by simp [execDomainPowerUp]

@[simp] theorem lasts_execDomainTimeout (d : Nat) (s : State) : Lasts s (execDomainTimeout d s) := by simp [execDomainTimeout]

@[simp] theorem lasts_execBobPowerGate (bob : Nat) (s : State) : Lasts s (execBobPowerGate bob s) := by simp [execBobPowerGate]

@[simp] theorem lasts_execBobPgWake (bob : Nat) (s : State) : Lasts s (execBobPgWake bob s) := by simp [execBobPgWake]

@[simp] theorem lasts_execPillowVfUpdate (o : VfObs) (s : State) :
    Lasts s (execPillowVfUpdate o s) := by simp [execPillowVfUpdate]

@[simp] theorem lasting_condSet (s : State) (page : Nat) (n : Nat) (on : Bool) :
    lasting (condSet s page n on) = lasting s := by simp [condSet]

@[simp] theorem lasts_execEnvExcursion (e : EnvEvent) (s : State) : Lasts s (execEnvExcursion e s) := by
  unfold execEnvExcursion
  (repeat' split) <;> simp

@[simp] theorem lasts_execClkMonitor (pll : Pll) (ratio : Nat) (intOsc : Nat) (s : State) :
    Lasts s (execClkMonitor pll ratio intOsc s) := by simp [execClkMonitor]

@[simp] theorem lasts_execPllUnlock (pll : Pll) (s : State) : Lasts s (execPllUnlock pll s) := by
  unfold execPllUnlock
  (repeat' split) <;> simp

@[simp] theorem lasts_execStepTimeout (o : StepObs) (s : State) : Lasts s (execStepTimeout o s) := by simp [execStepTimeout]

@[simp] theorem lasts_execAlwaysOnPowerUp (ref : BitVec 2) (s : State) : Lasts s (execAlwaysOnPowerUp ref s) := by
  unfold execAlwaysOnPowerUp
  rw [lasts_next]
  split
  · rfl
  · split
    · simp only [lasting_wr, lasting_raiseErr]; rfl
    · exact (lasting_mk ..).trans (lasting_noPower s)

/-! ### What lasts: modes -/

@[simp] theorem lasting_notePhase (s : State) : lasting (notePhase s) = lasting s := by
  unfold notePhase
  split <;> simp

@[simp] theorem lasting_tripTake (s : State) : lasting (tripTake s) = lasting s := by simp [tripTake]

@[simp] theorem lasting_leaveService (s : State) : lasting (leaveService s) = lasting s := by simp [leaveService]

@[simp] theorem lasting_leaveTest (s : State) : lasting (leaveTest s) = lasting s := by simp [leaveTest]

@[simp] theorem lasting_faultSoe (s : State) (number : Nat) (code : W32) :
    lasting (faultSoe s number code) = lasting s := by simp [faultSoe]

@[simp] theorem lasting_abortTests (s : State) : lasting (abortTests s) = lasting s := by simp [abortTests]

@[simp] theorem lasting_modeEnter (s : State) (m : Mode) (auto : Bool) : lasting (modeEnter s m auto) = lasting s := by
  unfold modeEnter
  split <;> simp

@[simp] theorem lasting_enterSafe (s : State) (code : W32) : lasting (enterSafe s code) = lasting s := by
  unfold enterSafe
  split <;> simp

@[simp] theorem lasting_latchSafe (s : State) (code : W32) : lasting (latchSafe s code) = lasting s := by simp [latchSafe]

@[simp] theorem lasting_cfgDomains (s : State) : lasting (cfgDomains s) = lasting s := by simp [cfgDomains]

@[simp] theorem lasting_cfgTrim (s : State) : lasting (cfgTrim s) = lasting s := by simp [cfgTrim]

@[simp] theorem lasting_enterConfigure (s : State) (auto : Bool) :
    lasting (enterConfigure s auto) = lasting s := by simp [enterConfigure]

@[simp] theorem lasting_retainAll (s : State) : lasting (retainAll s) = lasting s := by simp [retainAll]

@[simp] theorem lasting_wakePil (s : State) (p : Nat) : lasting (wakePil s p) = lasting s := by simp [wakePil]

@[simp] theorem lasting_degradedCheck (s : State) : lasting (degradedCheck s) = lasting s := by simp [degradedCheck]

@[simp] theorem lasting_fnArmed (s : State) : lasting (fnArmed s) = lasting s := by simp [fnArmed]

@[simp] theorem lasting_banksOn (s : State) : lasting (banksOn s) = lasting s := by simp [banksOn]

@[simp] theorem lasting_wakeScrub (s : State) (p : Nat) : lasting (wakeScrub s p) = lasting s := by simp [wakeScrub]

@[simp] theorem lasting_bobsOn (s : State) (wakeOnly : Bool) : lasting (bobsOn s wakeOnly) = lasting s := by
  unfold bobsOn
  split
  · rfl
  · refine lasting_foldl _ (fun u i => ?_) _ _
    split <;> simp

@[simp] theorem lasting_wakeFill (s : State) (p : Nat) : lasting (wakeFill s p) = lasting s := by
  unfold wakeFill
  refine (lasting_foldl _ (fun u e => ?_) _ _).trans (by simp)
  split
  · rfl
  · split
    · rfl
    · refine lasting_foldl _ (fun v r => ?_) _ _
      split <;> simp

/-! ### What lasts: images -/

@[simp] theorem lasting_startUp (s : State) (old : Mode) : lasting (startUp s old) = lasting s := by simp [startUp]

@[simp] theorem lasting_imgFail (s : State) (r : Nat) : lasting (imgFail s r) = lasting s := by simp [imgFail]

@[simp] theorem lasting_spnStart (s : State) : lasting (spnStart s) = lasting s := by simp [spnStart]

@[simp] theorem lasting_enterProof (s : State) (auto : Bool) : lasting (enterProof s auto) = lasting s := by simp [enterProof]

@[simp] theorem lasting_marSync (s : State) : lasting (marSync s) = lasting s := by simp [marSync]

@[simp] theorem lasting_trySlot (s0 : State) (slot : Nat) (a : Nat) (lock : Bool) :
    lasting (trySlot s0 slot a lock).2 = lasting s0 := by
  simp only [trySlot]
  (repeat' split) <;> simp

@[simp] theorem lasting_secureBoot (s : State) (o : BootObs) : lasting (secureBoot s o) = lasting s := by simp [secureBoot]

@[simp] theorem lasting_enterBoot (s : State) (o : BootObs) (auto : Bool) : lasting (enterBoot s o auto) = lasting s := by
  simp only [enterBoot]
  generalize ht : [400, 401, 415, 416].foldl domOn (modeEnter s .boot auto) = t
  have : lasting t = lasting s := by simp [← ht]
  split <;> simp only [lasting_secureBoot, lasting_latchSafe, lasting_startUp, lasting_wipe]
  all_goals exact this

/-! ### What lasts: the Selvedge -/

@[simp] theorem lasting_fnSettle (s : State) : lasting (fnSettle s) = lasting s := by simp [fnSettle]

@[simp] theorem lasts_execSelvTestReq (s : State) : Lasts s (execSelvTestReq s) := by simp [execSelvTestReq]

@[simp] theorem lasting_setUnitRec (s : State) (u : UnitId) (r : UnitRec) :
    lasting (setUnitRec s u r) = lasting s := by simp [setUnitRec]

@[simp] theorem lasts_execFnRelease (s : State) : Lasts s (execFnRelease s) := by simp [execFnRelease]

@[simp] theorem lasts_execSelvCntClr (s : State) : Lasts s (execSelvCntClr s) := by simp [execSelvCntClr]

@[simp] theorem lasting_wdogSync (s : State) : lasting (wdogSync s) = lasting s := by
  unfold wdogSync
  split <;> simp

@[simp] theorem lasting_resetLocked (s : State) (b : Nat) : lasting (resetLocked s b) = lasting s := by
  unfold resetLocked
  split <;> simp

@[simp] theorem lasting_lastCode (s : State) (code : W32) (number : Nat) :
    lasting (lastCode s code number) = lasting s := by simp [lastCode]

@[simp] theorem lasting_summarise (s : State) (cls : Nat) (inst : Nat) :
    lasting (summarise s cls inst) = lasting s := by simp [summarise]

@[simp] theorem lasting_testFor (s : State) (safe : Bool) (number : Nat) (code : W32) (u : UnitId) :
    lasting (testFor s safe number code u) = lasting s := by simp [testFor]

@[simp] theorem lasts_execDegradedExit (s : State) : Lasts s (execDegradedExit s) := by simp [execDegradedExit]

@[simp] theorem lasting_proofMark (s : State) (u : UnitId) (o : Nat) :
    lasting (proofMark s u o) = lasting s := by simp [proofMark]

@[simp] theorem lasting_takeOut (s : State) (u : UnitId) : lasting (takeOut s u) = lasting s := by simp [takeOut]

@[simp] theorem lasts_execSelvTestStart (s : State) : Lasts s (execSelvTestStart s) := by
  unfold execSelvTestStart
  (repeat' split) <;> simp

@[simp] theorem lasting_rotaNote (s : State) (u : UnitId) (passed : Bool) : lasting (rotaNote s u passed) = lasting s := by
  unfold rotaNote
  dsimp only
  split <;> simp

@[simp] theorem lasting_bringBack (s : State) (u : UnitId) (o : TestObs) :
    lasting (bringBack s u o) = lasting s := by simp [bringBack]

@[simp] theorem lasts_execFaultNWidthEnd (s : State) : Lasts s (execFaultNWidthEnd s) := by simp [execFaultNWidthEnd]

@[simp] theorem lasts_execEngineWdogPre (s : State) : Lasts s (execEngineWdogPre s) := by simp [execEngineWdogPre]

@[simp] theorem lasts_execEngineWdogExpire (s : State) : Lasts s (execEngineWdogExpire s) := by simp [execEngineWdogExpire]

@[simp] theorem lasts_execChkSelfTest (o : ChkObs) (s : State) : Lasts s (execChkSelfTest o s) := by simp [execChkSelfTest]

@[simp] theorem lasting_faultLatch (s : State) (cls inst number : Nat) (code : W32) (safe : Bool) :
    lasting (faultLatch s cls inst number code safe) = lasting s := by
  unfold faultLatch
  split <;> simp only [lasting_enterSafe, lasting_fnAssert, lasting_mk, lasting_raiseIrq, lasting_summarise, lasting_lastCode,
    lasting_faultSoe]

@[simp] theorem lasting_retire (s : State) (u : UnitId) (code : W32) : lasting (retire s u code) = lasting s := by simp [retire]

@[simp] theorem lasting_endTest (s : State) (t : Test) (o : TestObs) : lasting (endTest s t o) = lasting s := by simp [endTest]

@[simp] theorem lasts_execSelvWdogKick (v : W32) (s : State) : Lasts s (execSelvWdogKick v s) := by simp [execSelvWdogKick]

@[simp] theorem lasts_execUnretire (s : State) : Lasts s (execUnretire s) := by simp [execUnretire]

@[simp] theorem lasts_execErrorLatch (s : State) : Lasts s (execErrorLatch s) := by
  simp only [execErrorLatch]
  (repeat' split) <;> simp

@[simp] theorem lasts_execSelvTestDone (u : Nat) (o : TestObs) (s : State) : Lasts s (execSelvTestDone u o s) := by
  unfold execSelvTestDone
  split <;> simp

@[simp] theorem lasts_execSelvTestTimeout (u : Nat) (s : State) : Lasts s (execSelvTestTimeout u s) := by
  unfold execSelvTestTimeout
  split <;> simp

@[simp] theorem lasts_execSafeExit (o : BootObs) (s : State) : Lasts s (execSafeExit o s) := by
  simp only [execSafeExit]
  (repeat' split) <;> simp

/-! ### What lasts: arming -/

@[simp] theorem lasting_unloadTables (s : State) : lasting (unloadTables s) = lasting s := by simp [unloadTables]

@[simp] theorem lasting_loadAll (f : State → Nat → List W32 → Option State)
    (h : ∀ s n ws t, f s n ws = some t → lasting t = lasting s)
    (l : List (Nat × List W32)) (s : State) : lasting (loadAll f l s).1 = lasting s := by
  induction l generalizing s with
  | nil => rfl
  | cons e l ih =>
    simp only [loadAll]
    split
    · rfl
    · rename_i t ht
      exact (ih t).trans (h _ _ _ _ ht)

@[simp] theorem lasting_ownOutputs (s : State) : lasting (ownOutputs s) = lasting s := by simp [ownOutputs]

@[simp] theorem lasting_loadPub (s : State) (slot : Nat) (e : List W32) :
    lasting (loadPub s slot e) = lasting s := by simp [loadPub]

@[simp] theorem lasting_createAll (decls : List StrandDecl) (l : List Nat) (s : State) :
    lasting (createAll decls l s).1 = lasting s := by
  induction l generalizing s with
  | nil => rfl
  | cons i l ih =>
    simp only [createAll]
    split
    · exact ih s
    · split <;> split <;> simp [ih]

@[simp] theorem lasting_tellCons (s : State) (cons : List W32) (off : Nat) : lasting (tellCons s cons off) = lasting s := by
  refine lasting_foldl _ (fun u c => ?_) _ _
  split
  · rfl
  · split <;> simp

theorem ringPlace_eq (s : State) (cons : List W32) (len : Nat) : ringPlace s cons len =
    (firstSome (fun b => findSeg s (routeOfCons s cons) [] b (max 1 len)) (List.range 5)).map fun g =>
      (g.bank * 32768 + g.off, (routeOfCons s cons).foldl (fun u p => assign u p g 2) s) := rfl

theorem lasting_ringPlace {s t : State} {cons : List W32} {len n : Nat} (h : ringPlace s cons len = some (n, t)) :
    lasting t = lasting s := by
  rw [ringPlace_eq] at h
  obtain ⟨g, _, hg⟩ := Option.map_eq_some_iff.mp h
  obtain ⟨_, rfl⟩ := Prod.mk.inj hg
  simp

@[simp] theorem lasting_takeNumber (s : State) : lasting (takeNumber s) = lasting s := by
  simp only [takeNumber, lasting_mk]
  rw [lasting_foldl]
  · simp
  · intro u i
    split <;> simp

theorem lasting_loadSv {s t : State} {i : Nat} {e : List W32} (h : loadSv s i e = some t) : lasting t = lasting s := by
  unfold loadSv at h
  dsimp only at h
  obtain ⟨⟨n, u⟩, hr, rfl⟩ := Option.map_eq_some_iff.mp h
  simp [lasting_ringPlace hr]

theorem lasting_loadGo {s t : State} {i : Nat} {e : List W32} (h : loadGo s i e = some t) : lasting t = lasting s := by
  unfold loadGo at h
  dsimp only at h
  obtain ⟨⟨n, u⟩, hr, rfl⟩ := Option.map_eq_some_iff.mp h
  simp [lasting_ringPlace hr]

theorem lasting_arm {s t : State} {decls : List StrandDecl} (h : arm s decls = .inr t) : lasting t = lasting s := by
  unfold arm at h
  generalize (List.range 8).find? (badLine s) = a, (List.range 96).find? (badLane (portTake s)) = b,
    (List.range 7).find? (badRegion s) = d, badTable s decls = e at h
  obtain _ | _ := a
  case some => cases h
  obtain _ | _ := b
  case some => cases h
  obtain _ | _ := d
  case some => cases h
  obtain _ | _ := e
  case some => cases h
  dsimp only at h
  split at h
  · cases h
  rename_i s1 h1
  split at h
  · cases h
  split at h
  · cases h
  rename_i s2 h2
  split at h
  · cases h
  rename_i s3 h3
  obtain rfl := Sum.inr.inj h
  have e1 := lasting_createAll decls (dirStrands s) (unloadTables s)
  have e2 := lasting_loadAll loadSv (fun _ _ _ _ => lasting_loadSv) (svTable s) s1
  have e3 := lasting_loadAll loadGo (fun _ _ _ _ => lasting_loadGo) (goTable s) s2
  rw [h1] at e1
  rw [h2] at e2
  rw [h3] at e3
  simp [e3, e2, e1]

/-! ### What lasts: mode commands -/

@[simp] theorem lasting_reject (s : State) (r : Nat) (detail : Nat) (index : Nat) :
    lasting (reject s r detail index) = lasting s := by simp [reject]

@[simp] theorem lasting_modeCmd (s : State) (c : ModeCmd) (legal : List Mode) (body : State → State)
    (h : ∀ u, lasting (body u) = lasting u) : lasting (modeCmd s c legal body) = lasting s := by
  simp [modeCmd, h]

@[simp] theorem lasting_accept (s : State) : lasting (accept s) = lasting s := by simp [accept]

@[simp] theorem lasting_powerDown (s : State) (c : ModeCmd) (body : State → State) (h : ∀ u, lasting (body u) = lasting u) :
    lasting (powerDown s c body) = lasting s := by
  simp [powerDown, h]

@[simp] theorem lasting_enterKeep (s : State) : lasting (enterKeep s) = lasting s := by simp [enterKeep]

@[simp] theorem lasts_execModeCmdKeep (c : ModeCmd) (s : State) : Lasts s (execModeCmdKeep c s) := by simp [execModeCmdKeep]

@[simp] theorem lasts_execModeCmdProof (c : ModeCmd) (s : State) : Lasts s (execModeCmdProof c s) := by simp [execModeCmdProof]

@[simp] theorem lasts_execModeCmdConfigure (c : ModeCmd) (s : State) :
    Lasts s (execModeCmdConfigure c s) := by simp [execModeCmdConfigure]

@[simp] theorem lasting_beginTo (s : State) (m : Mode) : lasting (beginTo s m) = lasting s := by simp [beginTo]

@[simp] theorem lasts_execModeCmdTest (c : ModeCmd) (s : State) : Lasts s (execModeCmdTest c s) := by simp [execModeCmdTest]

@[simp] theorem lasts_execModeCmdBlocked (c : ModeCmd) (s : State) :
    Lasts s (execModeCmdBlocked c s) := by simp [execModeCmdBlocked]

@[simp] theorem lasts_execModeCmdService (c : ModeCmd) (s : State) :
    Lasts s (execModeCmdService c s) := by simp [execModeCmdService]

@[simp] theorem lasting_proofTarget (failed : List StepObs) (s : State) (b : Nat) :
    lasting (proofTarget failed s b) = lasting s := by simp [proofTarget]

@[simp] theorem lasting_proofUnit (failed : List UnitId) (s : State) (u : UnitId) :
    lasting (proofUnit failed s u) = lasting s := by
  unfold proofUnit
  grind [lasting_endTest, lasting_wrF, lasting_proofMark, lasting_retire, lasting_faultLatch]

@[simp] theorem lasting_armNow (s : State) (decls : List StrandDecl) (at' : Nat) : lasting (armNow s decls at') = lasting s := by
  unfold armNow
  split <;> rename_i h
  · simp
  · simp [lasting_arm h]

@[simp] theorem lasts_execModeCmdBoot (c : ModeCmd) (o : BootObs) (s : State) :
    Lasts s (execModeCmdBoot c o s) := by simp [execModeCmdBoot]

@[simp] theorem lasts_execModeCmdArmed (c : ModeCmd) (decls : List StrandDecl) (s : State) :
    Lasts s (execModeCmdArmed c decls s) := by simp [execModeCmdArmed]

@[simp] theorem lasts_execModeCmdRun (c : ModeCmd) (s : State) : Lasts s (execModeCmdRun c s) := by simp [execModeCmdRun]

@[simp] theorem lasts_execProofEnd (failed : List StepObs) (s : State) : Lasts s (execProofEnd failed s) := by simp [execProofEnd]

@[simp] theorem lasts_execModeTransitionDone (s : State) : Lasts s (execModeTransitionDone s) := by
  simp only [execModeTransitionDone]
  (repeat' split) <;> simp

/-! ### What lasts: debug -/

@[simp] theorem lasting_resumePly (s : State) (b : Nat) (e : Nat × Nat) : lasting (resumePly s b e) = lasting s := by
  unfold resumePly
  split <;> simp

@[simp] theorem lasting_resumeCore (s : State) (c : Nat) : lasting (resumeCore s c) = lasting s := by simp [resumeCore]

@[simp] theorem lasting_dropDrains (s : State) (bs : List Nat) : lasting (dropDrains s bs) = lasting s := by simp [dropDrains]

@[simp] theorem lasting_resetLockup (s : State) (c : Nat) : lasting (resetLockup s c) = lasting s := by simp [resetLockup]

@[simp] theorem lasting_rcResult (s : State) (r : Nat) : lasting (rcResult s r) = lasting s := by simp [rcResult]

@[simp] theorem lasting_haltAsk (s : State) (c : Nat) : lasting (haltAsk s c).2 = lasting s := by
  unfold haltAsk
  dsimp only
  (repeat' split) <;> simp

@[simp] theorem lasts_execHalt (s : State) : Lasts s (execHalt s) := by simp [execHalt]

@[simp] theorem lasts_execStep (stepIrq : Bool) (s : State) : Lasts s (execStep stepIrq s) := by simp [execStep]

@[simp] theorem lasts_execResetLockup (s : State) : Lasts s (execResetLockup s) := by simp [execResetLockup]

@[simp] theorem lasting_memBegin (s : State) (write : Bool) : lasting (memBegin s write) = lasting s := by simp [memBegin]

@[simp] theorem lasts_execDbgMemRead (s : State) : Lasts s (execDbgMemRead s) := by simp [execDbgMemRead]

@[simp] theorem lasts_execDbgMemWrite (s : State) : Lasts s (execDbgMemWrite s) := by simp [execDbgMemWrite]

@[simp] theorem lasts_execDbgWdogKick (who : Who) (v : W32) (s : State) :
    Lasts s (execDbgWdogKick who v s) := by simp [execDbgWdogKick]

@[simp] theorem lasts_execTraceClr (s : State) : Lasts s (execTraceClr s) := by simp [execTraceClr]

@[simp] theorem lasting_itemWrite (s : State) (c : Nat) (hi : Bool) (v : W32) :
    lasting (itemWrite s c hi v) = lasting s := by simp [itemWrite]

@[simp] theorem lasts_execDbgCoreWrite (hi : Bool) (v : W32) (s : State) :
    Lasts s (execDbgCoreWrite hi v s) := by simp [execDbgCoreWrite]

@[simp] theorem lasting_abortTo (s : State) (b : Nat) : lasting (abortTo s b) = lasting s := by simp [abortTo]

@[simp] theorem lasting_haltCore (s : State) (c : Nat) (cause : Nat) :
    lasting (haltCore s c cause) = lasting s := by simp [haltCore]

@[simp] theorem lasting_bpTake (s : State) (c : Nat) (kind : Nat) (addr : Nat) :
    lasting (bpTake s c kind addr).2 = lasting s := by
  unfold bpTake
  dsimp only
  (repeat' split) <;> simp

@[simp] theorem lasting_stepDone (s : State) (c : Nat) : lasting (stepDone s c) = lasting s := by
  unfold stepDone
  split <;> simp

@[simp] theorem lasting_storeAborts (s : State) (addr : Nat) : lasting (storeAborts s addr) = lasting s := by simp [storeAborts]

@[simp] theorem lasting_memEnd (s : State) (r : Nat) : lasting (memEnd s r) = lasting s := by simp [memEnd]

@[simp] theorem lasting_memData (s : State) (w : TWord) : lasting (memData s w) = lasting s := by simp [memData]

@[simp] theorem lasts_execCoreWdogPre (core' : Nat) (s : State) : Lasts s (execCoreWdogPre core' s) := by simp [execCoreWdogPre]

@[simp] theorem lasts_execCoreWdogExpire (core' : Nat) (s : State) :
    Lasts s (execCoreWdogExpire core' s) := by simp [execCoreWdogExpire]

@[simp] theorem lasts_execSnagStop (s : State) : Lasts s (execSnagStop s) := by simp [execSnagStop]

@[simp] theorem lasting_levelFall (s : State) (old : Nat) : lasting (levelFall s old) = lasting s := by
  simp only [levelFall]
  (repeat' split) <;> simp

@[simp] theorem lasting_endGrant (s : State) : lasting (endGrant s) = lasting s := by simp [endGrant]

@[simp] theorem lasts_execResume (s : State) : Lasts s (execResume s) := by simp [execResume]

@[simp] theorem lasts_execCancel (s : State) : Lasts s (execCancel s) := by simp [execCancel]

@[simp] theorem lasts_execDbgMemDone (o : MemObs) (s : State) : Lasts s (execDbgMemDone o s) := by
  unfold execDbgMemDone
  refine (lasts_next ..).2 ?_
  dsimp only
  generalize rdF s pgDBG 0x0C0 0 24 = a
  generalize TWord.ofTag (rdF s pgDBG 0x0C8 0 8) (rd s pgDBG 0x0C4) = w
  cases s.dbg.mem with
  | none => rfl
  | some write =>
    dsimp only
    refine lasting_branch ?_ (lasting_branch ?_ (lasting_branch (lasting_memEnd ..)
      (lasting_branch (lasting_memData ..) (lasting_branch ?_ (lasting_memEnd ..)))))
    · refine lasting_branch (lasting_memEnd ..) (lasting_branch (lasting_branch (lasting_memEnd ..) (by simp)) ?_)
      split <;> rename_i h <;> simp [lasting_of_eq h]
    · refine lasting_branch (lasting_branch (by simp) (lasting_memEnd ..))
        (lasting_branch (lasting_memEnd ..) (lasting_memData ..))
    · refine lasting_branch (lasting_memEnd ..) ?_
      split <;> rename_i h <;> simp [lasting_of_eq h]

/-! ### What lasts: security -/

@[simp] theorem lasting_secCmd (s : State) (body : State → State) (h : ∀ u, lasting (body u) = lasting u) :
    lasting (secCmd s body) = lasting s := by
  simp [secCmd, h]

@[simp] theorem lasting_secEnd (s : State) (r : Nat) : lasting (secEnd s r) = lasting s := by simp [secEnd]

@[simp] theorem lasting_copyCheck (s : State) (kind : Nat) (modeOk : Bool) :
    lasting (copyCheck s kind modeOk).2.2 = lasting s := by
  unfold copyCheck
  dsimp only
  (repeat' split) <;> simp

@[simp] theorem lasting_tablesNow (s : State) (modeOk : Bool) : lasting (tablesNow s modeOk) = lasting s := by simp [tablesNow]

@[simp] theorem lasting_codeNow (s : State) (modeOk : Bool) : lasting (codeNow s modeOk) = lasting s := by simp [codeNow]

@[simp] theorem lasting_imageNow (s : State) (kind : Nat) (modeOk : Bool) :
    lasting (imageNow s kind modeOk) = lasting s := by simp [imageNow]

@[simp] theorem lasting_imageCmd (s : State) (kind : Nat) (modeOk : Bool) :
    lasting (imageCmd s kind modeOk) = lasting s := by simp [imageCmd]

@[simp] theorem lasts_execVerifyTables (s : State) : Lasts s (execVerifyTables s) := by simp [execVerifyTables]

@[simp] theorem lasts_execLoadCode (s : State) : Lasts s (execLoadCode s) := by simp [execLoadCode]

@[simp] theorem lasting_freeResult (s : State) : lasting (freeResult s).2 = lasting s := by simp [freeResult]

@[simp] theorem lasts_execChallenge (trngOk : Bool) (s : State) : Lasts s (execChallenge trngOk s) := by simp [execChallenge]

@[simp] theorem lasting_tokenFails (s : State) : lasting (tokenFails s) = lasting s := by simp [tokenFails]

@[simp] theorem lasting_keyEnd (s : State) (r : Nat) (index : Nat) : lasting (keyEnd s r index) = lasting s := by simp [keyEnd]

@[simp] theorem lasts_execKeyLoad (s : State) : Lasts s (execKeyLoad s) := by
  unfold execKeyLoad
  dsimp only
  (repeat' split) <;> simp

@[simp] theorem lasts_execKeyErase (s : State) : Lasts s (execKeyErase s) := by simp [execKeyErase]

@[simp] theorem lasts_execKeyEraseAll (s : State) : Lasts s (execKeyEraseAll s) := by simp [execKeyEraseAll]

@[simp] theorem lasts_execChallengeLapse (s : State) : Lasts s (execChallengeLapse s) := by simp [execChallengeLapse]

@[simp] theorem lasts_execDbgLockoutEnd (s : State) : Lasts s (execDbgLockoutEnd s) := by
  unfold execDbgLockoutEnd
  split <;> simp

@[simp] theorem lasts_execDbgResp (s : State) : Lasts s (execDbgResp s) := by simp [execDbgResp]

@[simp] theorem lasts_execDbgRevoke (s : State) : Lasts s (execDbgRevoke s) := by simp [execDbgRevoke]

@[simp] theorem lasts_execTamperAssert (n : Nat) (stays : Bool) (wipeOk : Bool) (s : State) :
    Lasts s (execTamperAssert n stays wipeOk s) := by simp [execTamperAssert]

@[simp] theorem lasts_execDbgGrantExpire (s : State) : Lasts s (execDbgGrantExpire s) := by
  unfold execDbgGrantExpire
  split <;> simp

@[simp] theorem lasts_execGetId (s : State) : Lasts s (execGetId s) := by
  unfold execGetId
  rw [lasts_next]
  refine lasting_secCmd _ _ fun u => ?_
  split
  · simp
  · rw [lasting_secEnd, lasting_physSetList]

/-! ### What lasts: the host interface -/

@[simp] theorem lasting_cqLost (s : State) : lasting (cqLost s) = lasting s := by simp [cqLost]

@[simp] theorem lasting_setCpl (s : State) (n : Nat) (r : Ring) : lasting (setCpl s n r) = lasting s := by simp [setCpl]

@[simp] theorem lasting_msiFlush (s : State) : lasting (msiFlush s) = lasting s := by simp [msiFlush]

@[simp] theorem lasting_hifSignal (s : State) (n : Nat) : lasting (hifSignal s n) = lasting s := by
  unfold hifSignal
  split <;> simp [↓lasting_mk, ↓lasting_ite]

@[simp] theorem lasting_hifCount (s : State) (n : Nat) (urgent : Bool) :
    lasting (hifCount s n urgent) = lasting s := by simp [hifCount]

@[simp] theorem lasting_hifPut (s : State) (p : Post) (busErr : Bool) : lasting (hifPut s p busErr).2 = lasting s := by
  unfold hifPut
  dsimp only
  split <;> simp

@[simp] theorem lasting_hwPost (s : State) (p : Post) : lasting (hwPost s p) = lasting s := by simp [hwPost]

@[simp] theorem lasting_drainHeld (s : State) : lasting (drainHeld s) = lasting s := by simp [drainHeld]

@[simp] theorem lasting_postEnd (s : State) (r : Nat) : lasting (postEnd s r) = lasting s := by simp [postEnd]

@[simp] theorem lasting_freePost (s : State) : lasting (freePost s) = lasting s := by simp [freePost]

@[simp] theorem lasts_execHifCntClr (s : State) : Lasts s (execHifCntClr s) := by simp [execHifCntClr]

@[simp] theorem lasts_execDraCntClr (s : State) : Lasts s (execDraCntClr s) := by simp [execDraCntClr]

@[simp] theorem lasts_execRetrain (s : State) : Lasts s (execRetrain s) := by simp [execRetrain]

@[simp] theorem lasts_execTrainDone (s : State) : Lasts s (execTrainDone s) := by simp [execTrainDone]

@[simp] theorem lasts_execNvrPost (who : Who) (s : State) : Lasts s (execNvrPost who s) := by simp [execNvrPost]

@[simp] theorem lasts_execNvrDiWrite (s : State) : Lasts s (execNvrDiWrite s) := by simp [execNvrDiWrite]

@[simp] theorem lasts_execNvrCntClr (s : State) : Lasts s (execNvrCntClr s) := by simp [execNvrCntClr]

@[simp] theorem lasting_setCmd (s : State) (n : Nat) (r : Ring) : lasting (setCmd s n r) = lasting s := by simp [setCmd]

@[simp] theorem lasting_setSelRing (s : State) (r : Ring) : lasting (setSelRing s r) = lasting s := by simp [setSelRing]

@[simp] theorem lasts_execHifRingCfgWrite (v : W32) (s : State) :
    Lasts s (execHifRingCfgWrite v s) := by simp [execHifRingCfgWrite]

@[simp] theorem lasts_execHifCmdDoorbell (n : Nat) (head : W32) (s : State) :
    Lasts s (execHifCmdDoorbell n head s) := by simp [execHifCmdDoorbell]

@[simp] theorem lasts_execDraTrnGo (v : W32) (s : State) : Lasts s (execDraTrnGo v s) := by simp [execDraTrnGo]

@[simp] theorem lasts_execNvrRdIdxWrite (v : W32) (s : State) : Lasts s (execNvrRdIdxWrite v s) := by simp [execNvrRdIdxWrite]

@[simp] theorem lasts_execNvrDiSelWrite (v : W32) (s : State) : Lasts s (execNvrDiSelWrite v s) := by simp [execNvrDiSelWrite]

@[simp] theorem lasts_execHifModTimer (n : Nat) (s : State) : Lasts s (execHifModTimer n s) := by
  unfold execHifModTimer
  split <;> simp

@[simp] theorem lasts_execHostSleepFall (s : State) : Lasts s (execHostSleepFall s) := by simp [execHostSleepFall]

@[simp] theorem lasting_freeWords (n : Nat) (s : State) : lasting (freeWords n s).2 = lasting s := by
  induction n generalizing s with
  | zero => rfl
  | succ n ih => simp [freeWords, ih]

@[simp] theorem lasting_setSlot (s : State) (i : Nat) (ws : List W32) : lasting (setSlot s i ws) = lasting s := by simp [setSlot]

@[simp] theorem lasting_nvrCheck (s : State) : lasting (nvrCheck s) = lasting s := by simp [nvrCheck]

@[simp] theorem lasting_urgentPost (s : State) (kind : Nat) (ws : List W32) :
    lasting (urgentPost s kind ws) = lasting s := by simp [urgentPost]

@[simp] theorem lasting_spill (s : State) (seq : W32) (ws : List W32) : lasting (spill s seq ws) = lasting s := by
  unfold spill
  (repeat' split) <;> simp

@[simp] theorem lasts_execNvrRecordCommit (verifyOk : Bool) (s : State) : Lasts s (execNvrRecordCommit verifyOk s) := by
  simp only [execNvrRecordCommit]
  (repeat' split) <;> simp

@[simp] theorem lasts_execNvrReadCopyDone (s : State) : Lasts s (execNvrReadCopyDone s) := by simp [execNvrReadCopyDone]

@[simp] theorem lasts_execDraTrnPatternDone (pass : Bool) (errors : Nat) (s : State) :
    Lasts s (execDraTrnPatternDone pass errors s) := by simp [execDraTrnPatternDone]

@[simp] theorem lasts_execDraSpareCopyDone (s : State) : Lasts s (execDraSpareCopyDone s) := by simp [execDraSpareCopyDone]

@[simp] theorem lasts_execDraSelfRefreshEnter (s : State) :
    Lasts s (execDraSelfRefreshEnter s) := by simp [execDraSelfRefreshEnter]

@[simp] theorem lasts_execDraSelfRefreshExit (s : State) : Lasts s (execDraSelfRefreshExit s) := by simp [execDraSelfRefreshExit]

@[simp] theorem lasts_execHostSleepAssert (clockStops : Bool) (s : State) :
    Lasts s (execHostSleepAssert clockStops s) := by simp [execHostSleepAssert]

@[simp] theorem lasting_channelFailed (s : State) : lasting (channelFailed s) = lasting s := by simp [channelFailed]

@[simp] theorem lasting_rankFails (s : State) (a : Nat) : lasting (rankFails s a) = lasting s := by simp [rankFails]

@[simp] theorem lasting_fwPost (s : State) (p : Post) (busErr : Bool) : lasting (fwPost s p busErr) = lasting s := by
  unfold fwPost
  dsimp only
  split_ifs
  · simp
  · simp
  · simp
  · split <;> rename_i h <;> simp [lasting_of_eq h]

@[simp] theorem lasts_execHifPost (v : W32) (busErr : Bool) (s : State) :
    Lasts s (execHifPost v busErr s) := by simp [execHifPost]

@[simp] theorem lasts_execTrainFail (s : State) : Lasts s (execTrainFail s) := by simp [execTrainFail]

@[simp] theorem lasts_execDramError (addr : Nat) (kind : DramErr) (s : State) : Lasts s (execDramError addr kind s) := by
  simp only [execDramError]
  (repeat' split) <;> simp

@[simp] theorem lasting_scanned (s : State) (k : Nat) (x : Nat × Nat × Nat × Bool) : lasting (scanned s k x) = lasting s := by
  obtain ⟨h, q, n, gap⟩ := x
  cases gap <;> simp [scanned]

@[simp] theorem lasts_execNvrScanDone (s : State) : Lasts s (execNvrScanDone s) := by
  by_cases h : curMode s = .off ∨ s.nvr.ready = true
  · rw [execNvrScanDone, if_pos h, lasts_next]
  · obtain ⟨hm, hr⟩ := not_or.mp h
    obtain ⟨k, x, e⟩ := execNvrScanDone_eq_scanned hm (Bool.not_eq_true _ ▸ hr)
    rw [e, lasts_next, lasting_scanned]

/-! ### What lasts: the global store -/

@[simp] theorem lasting_hdrWrite (s : State) (page : Nat) (whole : Bool) (f : RUnit → Nat → State)
    (h : ∀ u i, lasting (f u i) = lasting s) :
    lasting (hdrWrite s page whole f) = lasting s := by
  unfold hdrWrite
  split <;> simp [h]

@[simp] theorem lasts_execErrInject (page : Nat) (v : W32) (s : State) :
    Lasts s (execErrInject page v s) := by simp [execErrInject]

@[simp] theorem lasts_execIrqSet (page : Nat) (v : W32) (s : State) : Lasts s (execIrqSet page v s) := by simp [execIrqSet]

@[simp] theorem lasts_execRecoveryClr (page : Nat) (v : W32) (s : State) :
    Lasts s (execRecoveryClr page v s) := by simp [execRecoveryClr]

@[simp] theorem lasts_execManagerHeartbeatSend (s : State) :
    Lasts s (execManagerHeartbeatSend s) := by simp [execManagerHeartbeatSend]

@[simp] theorem lasts_execManagerHeartbeatRx (f : MgrHb) (s : State) :
    Lasts s (execManagerHeartbeatRx f s) := by simp [execManagerHeartbeatRx]

@[simp] theorem lasting_managerGap (s : State) : lasting (managerGap s) = lasting s := by simp [managerGap]

@[simp] theorem lasts_execManagerTakeover (s : State) : Lasts s (execManagerTakeover s) := by simp [execManagerTakeover]

@[simp] theorem lasts_execManagerLost (s : State) : Lasts s (execManagerLost s) := by simp [execManagerLost]

@[simp] theorem lasts_execUnitCtrlWrite (page : Nat) (v : W32) (s : State) :
    Lasts s (execUnitCtrlWrite page v s) := by simp [execUnitCtrlWrite]

/-! ### What lasts: the data unit -/

theorem resLasts_checked (s : State) (l : List Check) (d : Done) (h : ∀ u, lasting (d.after u) = lasting u) :
    ResLasts s (checked l d, s) := by
  unfold checked
  split <;> simp [h]

/-! ### What lasts: accesses -/

@[simp] theorem lasting_addWrap (s : State) (page : Nat) (off : Nat) (irq : Nat) (n : Nat) :
    lasting (addWrap s page off irq n) = lasting s := by simp [addWrap]

@[simp] theorem lasting_maxField (s : State) (page : Nat) (off : Nat) (lo : Nat) (w : Nat) (v : Nat) :
    lasting (maxField s page off lo w v) = lasting s := by simp [maxField]

@[simp] theorem lasting_add64 (s : State) (page : Nat) (lo : Nat) (hi : Nat) (irq : Nat) (n : Nat) :
    lasting (add64 s page lo hi irq n) = lasting s := by simp [add64]

@[simp] theorem lasting_spend (s : State) (c : Nat) (n : Nat) : lasting (spend s c n) = lasting s := by simp [spend]

@[simp] theorem lasting_snagWait (s : State) (p : Nat) (kinds : List Nat) (wait : Nat) (limit : Nat) :
    lasting (snagWait s p kinds wait limit).2.2 = lasting s := by
  unfold snagWait
  dsimp only
  (repeat' split) <;> simp

@[simp] theorem lasting_bankStall (s : State) (c : Nat) (a : Nat) (env : Env) : lasting (bankStall s c a env).2 = lasting s := by
  unfold bankStall
  dsimp only
  split <;> simp

@[simp] theorem lasting_writePlace (s : State) (_c : Nat) (k : Core) (pl : Place) (w : TWord) :
    lasting (writePlace s _c k pl w) = lasting s := by
  unfold writePlace
  (repeat' split) <;> simp

@[simp] theorem lasting_accessStall (s : State) (c : Nat) (env : Env) (a : Nat) :
    lasting (accessStall s c env a).2 = lasting s := by
  unfold accessStall
  (repeat' split) <;> simp

@[simp] theorem lasting_accessCheck (s : State) (c : Nat) (k : Core) (env : Env) (x : AccKind) (a : Nat) :
    lasting (accessCheck s c k env x a).2 = lasting s := by
  unfold accessCheck
  split <;> simp

@[simp] theorem lasting_readPlace (s : State) (c : Nat) (pl : Place) (ecc : Ecc) :
    lasting (readPlace s c pl ecc).2 = lasting s := by
  unfold readPlace
  grind [lasting_bankRead, lasting_codeRead]

@[simp] theorem lasting_readSeen (s : State) (c : Nat) (k : Core) (pl : Place) (ecc : Ecc) :
    lasting (readSeen s c k pl ecc).2 = lasting s := by
  unfold readSeen
  split <;> simp

@[simp] theorem lasting_accessSpent (s : State) (c : Nat) (env : Env) (a : Nat) :
    lasting (accessSpent s c env a) = lasting s := by simp [accessSpent]

@[simp] theorem lasting_loadWord (s : State) (c : Nat) (k : Core) (env : Env) (a : Nat) :
    lasting (loadWord s c k env a).2 = lasting s := by
  unfold loadWord
  grind [lasting_accessCheck, lasting_readSeen, lasting_accessSpent]

/-! ### What lasts: coherence -/

@[simp] theorem lasting_l2Set (s : State) (line : Nat) (x : L2Line) : lasting (l2Set s line x) = lasting s := by simp [l2Set]

@[simp] theorem lasting_l1Set (s : State) (line : Nat) (x : Option L1Line) :
    lasting (l1Set s line x) = lasting s := by simp [l1Set]

@[simp] theorem lasting_dropL1 (s : State) (line : Nat) : lasting (dropL1 s line) = lasting s := by simp [dropL1]

@[simp] theorem lasting_answerSnoop (s : State) (line : Nat) (kind : Snoop) : lasting (answerSnoop s line kind) = lasting s := by
  unfold answerSnoop
  dsimp only
  (repeat' split) <;> simp

@[simp] theorem lasting_serveSnoops (s : State) : lasting (serveSnoops s) = lasting s := by simp [serveSnoops]

@[simp] theorem lasting_clearRsv (s : State) : lasting (clearRsv s) = lasting s := by simp [clearRsv]

@[simp] theorem lasting_lateError (s : State) (e : SbEnt) (poison : Bool) :
    lasting (lateError s e poison) = lasting s := by simp [lateError]

@[simp] theorem lasting_pickOne (s : State) (l : List Nat) : lasting (pickOne s l).2 = lasting s := by
  unfold pickOne
  split <;> simp

@[simp] theorem lasting_cleanL1 (s : State) (line : Nat) : lasting (cleanL1 s line) = lasting s := by
  unfold cleanL1
  split <;> simp

@[simp] theorem lasting_l1Put (s : State) (line : Nat) (x : L1Line) : lasting (l1Put s line x) = lasting s := by
  unfold l1Put
  grind [lasting_l1Set, lasting_pickOne, lasting_cleanL1]

@[simp] theorem lasting_writeLine (s : State) (line : Nat) (b : List (Nat × Byte)) :
    lasting (writeLine s line b) = lasting s := by simp [writeLine]

@[simp] theorem lasting_request (s : State) (line : Nat) (own : Bool) :
    lasting (request s line own) = lasting s := by simp [request]

@[simp] theorem lasting_requestMiss (s : State) (line : Nat) (own : Bool) :
    lasting (requestMiss s line own) = lasting s := by simp [requestMiss]

@[simp] theorem lasting_countL2 (s : State) (line : Nat) : lasting (countL2 s line) = lasting s := by simp [countL2]

@[simp] theorem lasting_missL2 (s : State) (line : Nat) (own : Bool) : lasting (missL2 s line own) = lasting s := by simp [missL2]

@[simp] theorem lasting_lineEcc (s : State) (env : Env) (a : Nat) : lasting (lineEcc s env a).2 = lasting s := by
  unfold lineEcc
  (repeat' split) <;> simp

@[simp] theorem lasting_spillMiss (s : State) (line : Nat) : lasting (spillMiss s line) = lasting s := by simp [spillMiss]

@[simp] theorem lasting_spillWrite (s : State) (a : Nat) (b : List Byte) :
    lasting (spillWrite s a b) = lasting s := by simp [spillWrite]

@[simp] theorem lasting_spillOut (s : State) (base : W32) (x : Stk) (lo : Nat) (hi : Nat) :
    lasting (spillOut s base x lo hi) = lasting s := by simp [spillOut]

@[simp] theorem lasting_spillChanged (s : State) (base : W32) (y : Stk) (x : Stk) (n : Nat) :
    lasting (spillChanged s base y x n) = lasting s := by simp [spillChanged]

@[simp] theorem lasting_fillIn (s : State) (base : W32) (x : Stk) (lo : Nat) (hi : Nat) :
    lasting (fillIn s base x lo hi).2 = lasting s := by simp [fillIn]

@[simp] theorem lasting_spillMove (s : State) (base : W32) (y : Stk) (x : Stk) :
    lasting (spillMove s base y x).2 = lasting s := by
  unfold spillMove
  grind [lasting_spillChanged, lasting_spillOut, lasting_fillIn]

@[simp] theorem lasting_pushStore (s : State) (e : SbEnt) : lasting (pushStore s e) = lasting s := by
  unfold pushStore
  split <;> simp

theorem lasting_evict {s t : State} {line : Nat} (h : evict s line = some t) : lasting t = lasting s := by
  simp only [evict] at h
  split at h
  · split at h
    · cases h
    · obtain rfl := Option.some.inj h
      simp
  · obtain rfl := Option.some.inj h
    simp

theorem lasting_drainOne {s t : State} {e : SbEnt} {l : List SbEnt} (h : drainOne s e l = some t) : lasting t = lasting s := by
  unfold drainOne at h
  split at h
  · obtain rfl := Option.some.inj h
    simp
  · split at h
    · obtain rfl := Option.some.inj h
      simp
    · cases h

@[simp] theorem lasting_drainStores (s : State) (n : Nat) : lasting (drainStores s n) = lasting s := by
  induction n generalizing s with
  | zero => rfl
  | succ n ih =>
    simp only [drainStores]
    grind [lasting_drainOne, lasting_missL2]

@[simp] theorem lasting_drainSb (s : State) : lasting (drainSb s) = lasting s := by simp [drainSb]

@[simp] theorem lasting_rsvGone {s : State} (t : State) : lasting (rsvGone s t) = lasting t := by
  simp [rsvGone]

theorem lasting_install {s t : State} {line : Nat} {x : L2Line} (h : install s line x = some t) : lasting t = lasting s := by
  unfold install at h
  grind [lasting_l2Set, lasting_pickOne, lasting_evict, Option.map_eq_some_iff, lasting_of_eq]

@[simp] theorem lasting_spillAt (s : State) (env : Env) (base : W32) (lo hi : Nat) :
    lasting (spillAt s env base lo hi).2 = lasting s := by
  unfold spillAt
  split
  · simp
  · refine lasting_foldl_snd _ (fun r line => ?_) _ _
    obtain ⟨e, u⟩ := r
    cases e <;> simp [apply_ite]

@[simp] theorem lasting_spillMeets (s : State) (env : Env) (base : W32) (d : Nat) (e : Nat) :
    lasting (spillMeets s env base d e).2 = lasting s := by simp [spillMeets]

/-! ### What lasts: the sequencer -/

@[simp] theorem lasting_microBad (s : State) (c : Nat) (a : Nat) : lasting (microBad s c a) = lasting s := by simp [microBad]

@[simp] theorem lasting_microFetch (s : State) (c : Nat) (a : Nat) (ecc : Ecc) :
    lasting (microFetch s c a ecc).2 = lasting s := by
  unfold microFetch
  dsimp only
  (repeat' split) <;> simp

@[simp] theorem lasting_microStep (s : State) (c : Nat) (cond : Bool) (x : MicroCtx) (f : MicroFetch) :
    lasting (microStep s c cond x f).2.2 = lasting s := by
  unfold microStep
  grind [lasting_raiseErr, lasting_microFetch]

@[simp] theorem lasting_microRun (c : Nat) (cond : Bool) (l : List MicroFetch) (x : MicroCtx) (s : State) :
    lasting (microRun c cond l x s).2.2 = lasting s := by
  induction l generalizing x s with
  | nil => rfl
  | cons f l ih =>
    simp only [microRun]
    grind [lasting_microStep]

@[simp] theorem lasting_setMicroCtx (s : State) (c : Nat) (x : MicroCtx) :
    lasting (setMicroCtx s c x) = lasting s := by simp [setMicroCtx]

@[simp] theorem lasting_sequencer (s : State) (c : Nat) (atomic : Bool) (cond : Bool) (r : MicroRun) :
    lasting (sequencer s c atomic cond r).2 = lasting s := by
  unfold sequencer
  split <;> simp

/-! ### What lasts: leaving a handler -/

@[simp] theorem lasting_poolStall (s : State) (c : Nat) (p : Nat) (env : Env) : lasting (poolStall s c p env).2 = lasting s := by
  unfold poolStall
  split <;> simp

@[simp] theorem lasting_takeMsg (s : State) (b : Nat) (k : Core) (n : Nat) (env : Env) :
    lasting (takeMsg s b k n env).2 = lasting s := by
  unfold takeMsg
  grind [lasting_readPlace]

@[simp] theorem lasting_loadRest (s : State) (b : Nat) (o : OnCore) (early : List TWord) (env : Env) :
    lasting (loadRest s b o early env).2 = lasting s := by
  unfold loadRest
  grind [lasting_sequencer, lasting_poolStall, lasting_loadImage, lasting_spend, lasting_takeMsg, lasting_modPly,
    lasting_setCore, lasting_lockUp]

@[simp] theorem lasting_saveRest (s : State) (b : Nat) (o : OnCore) (i : Nat) (ws : List TWord) (side : Side) (x : SaveEnd)
    (ecc : Ecc) :
    lasting (saveRest s b o i ws side x ecc) = lasting s := by simp [saveRest]

@[simp] theorem lasting_saveOn (s : State) (b : Nat) (o : OnCore) (i : Nat) (ws : List TWord) (side : Side) (x : SaveEnd)
    (env : Env) :
    lasting (saveOn s b o i ws side x env) = lasting s := by
  unfold saveOn
  split <;> simp

@[simp] theorem lasting_loadOn (s : State) (b : Nat) (o : OnCore) (early : List TWord) (side : Side) (env : Env) :
    lasting (loadOn s b o early side env).2 = lasting s := by
  unfold loadOn
  grind [lasting_modCore, lasting_slotRead, lasting_plyLeaves, lasting_loadRest]

@[simp] theorem lasting_finishSwitch (s : State) (b : Nat) (env : Env) : lasting (finishSwitch s b env).2 = lasting s := by
  unfold finishSwitch
  grind [lasting_sequencer, lasting_modCore, lasting_lockUp, lasting_saveOn, lasting_loadOn]

@[simp] theorem lasting_leaveWith (s : State) (b : Nat) (o : OnCore) (x : SaveEnd) (env : Env) :
    lasting (leaveWith s b o x env) = lasting s := by simp [leaveWith]

/-! ### What lasts: entries -/

@[simp] theorem lasting_readDesc (s : State) (c : Nat) (n : Nat) (ecc : Ecc) : lasting (readDesc s c n ecc).2 = lasting s := by
  unfold readDesc
  split <;> simp

@[simp] theorem lasting_setRegion (s : State) (key : Nat) (x : Stk) :
    lasting (setRegion s key x) = lasting s := by simp [setRegion]

@[simp] theorem lasting_parkStk (s : State) (base : W32) (which : Nat) (x : Stk) :
    lasting (parkStk s base which x) = lasting s := by simp [parkStk]

@[simp] theorem lasting_switchRegions (s : State) (k : Core) (d : Desc) : lasting (switchRegions s k d).1 = lasting s := by
  simp only [switchRegions]
  (repeat' split) <;> simp

@[simp] theorem lasting_noteSwitch (s : State) (k : Core) (k' : Core) (d : Desc) :
    lasting (noteSwitch s k k' d) = lasting s := by simp [noteSwitch]

@[simp] theorem lasting_writeClaim (s : State) (c : Nat) (claim : Option W32) : lasting (writeClaim s c claim) = lasting s := by
  unfold writeClaim
  split <;> simp

@[simp] theorem lasting_mispredicted (s : State) : lasting (mispredicted s) = lasting s := by simp [mispredicted]

@[simp] theorem lasting_pushRet (s : State) (c : Nat) (a : Nat) : lasting (pushRet s c a) = lasting s := by simp [pushRet]

@[simp] theorem lasting_popRet (s : State) (a : Nat) : lasting (popRet s a).2 = lasting s := by simp [popRet]

@[simp] theorem lasting_predictRet (s : State) (c : Nat) (a : Nat) :
    lasting (predictRet s c a) = lasting s := by simp [predictRet]

@[simp] theorem lasting_gateChecks (s : State) (c : Nat) (k : Core) (n : Nat) (ecc : Ecc) :
    lasting (gateChecks s c k n ecc).2 = lasting s := by
  unfold gateChecks
  dsimp only
  (repeat' split) <;> simp

@[simp] theorem lasting_longStall (s : State) (c : Nat) (n : Nat) : lasting (longStall s c n) = lasting s := by simp [longStall]

@[simp] theorem lasting_gateSwitchBob (s : State) (c : Nat) (k : Core) (n : Nat) (d : Desc) (resume : Nat) :
    lasting (gateSwitchBob s c k n d resume) = lasting s := by simp [gateSwitchBob]

@[simp] theorem lasting_claimFor (s : State) (c : Nat) : lasting (claimFor s c).2 = lasting s := by
  unfold claimFor
  split <;> simp

@[simp] theorem lasting_chained (s : State) (c : Nat) (env : Env) (prio : Nat) (f : Frame') :
    lasting (chained s c env prio f) = lasting s := by
  unfold chained
  dsimp only
  (repeat' split) <;> simp

@[simp] theorem lasting_discardWait (s : State) (c : Nat) : lasting (discardWait s c) = lasting s := by simp [discardWait]

@[simp] theorem lasting_parkMeets (s : State) (env : Env) (base : W32) (limit : W32) (which : Nat) (x : Stk) :
    lasting (parkMeets s env base limit which x).2 = lasting s := by
  unfold parkMeets
  split <;> simp

@[simp] theorem lasting_switchMeets (s : State) (env : Env) (k : Core) (d : Desc) :
    lasting (switchMeets s env k d).2 = lasting s := by
  unfold switchMeets
  grind [lasting_parkMeets]

@[simp] theorem lasting_moveStacks (s : State) (env : Env) (k : Core) (k' : Core) :
    lasting (moveStacks s env k k').2 = lasting s := by
  unfold moveStacks
  grind [lasting_spillMeets, lasting_spillMove]

@[simp] theorem lasting_enterSpn (s : State) (env : Env) (f : FrameInfo) (entry : Nat) (esc : Bool) (loops : List Loop) :
    lasting (enterSpn s env f entry esc loops) = lasting s := by
  unfold enterSpn
  grind [lasting_clearRsv, lasting_readDesc, lasting_lockUp, lasting_loopCellsOf, lasting_switchMeets, lasting_switchRegions,
    lasting_moveStacks, lasting_spend, lasting_setCore, lasting_noteSwitch]

@[simp] theorem lasting_gateSwitchSpn (s : State) (env : Env) (k : Core) (n : Nat) (d : Desc) (resume : Nat) :
    lasting (gateSwitchSpn s env k n d resume) = lasting s := by
  unfold gateSwitchSpn
  grind [lasting_loopCellsOf, lasting_switchMeets, lasting_lockUp, lasting_switchRegions, lasting_moveStacks, lasting_clearRsv,
    lasting_setCore, lasting_noteSwitch]

@[simp] theorem lasting_unparkStk (s : State) (env : Env) (base : W32) (x : Stk) :
    lasting (unparkStk s env base x).2 = lasting s := by
  unfold unparkStk
  grind [lasting_spillAt, lasting_fillIn]

@[simp] theorem lasting_comeBack (s : State) (env : Env) (base : W32) (left : Option Stk) :
    lasting (comeBack s env base left).2 = lasting s := by
  unfold comeBack
  grind [lasting_unparkStk]

theorem lasting_goesHere {s t : State} {c : Nat} (h : goesHere s c = some t) : lasting t = lasting s := by
  unfold goesHere at h
  split at h
  · exact (lasting_drainLeave h).trans (by simp)
  · cases h

@[simp] theorem lasting_enterBob (s : State) (c : Nat) (env : Env) (f : FrameInfo) (entry : Nat) (esc : Bool) (loops : List Loop)
    (claim : Option W32) : lasting (enterBob s c env f entry esc loops claim) = lasting s := by
  unfold enterBob
  dsimp only
  split
  · simp
  · split <;> simp

@[simp] theorem lasting_enter (s : State) (c : Nat) (env : Env) (vec : Nat) (detail : Nat) (faddr : Nat) (sync : Bool)
    (claim : Option W32) :
    lasting (enter s c env vec detail faddr sync claim) = lasting s := by simp [enter]

@[simp] theorem lasting_takeExc (s : State) (c : Nat) (env : Env) (e : Exc) : lasting (takeExc s c env e) = lasting s := by
  unfold takeExc
  grind [lasting_lockUp, lasting_setCore, lasting_modCore, lasting_goesHere, lasting_enter]

@[simp] theorem lasting_gate (s : State) (c : Nat) (env : Env) (n : Nat) (pc : Nat) :
    lasting (gate s c env n pc) = lasting s := by
  unfold gate
  grind [lasting_setCore, lasting_goesHere, lasting_sequencer, lasting_lockUp, lasting_bankStall, lasting_gateChecks,
    lasting_enter, lasting_longStall, lasting_spend, lasting_pushRet, lasting_gateSwitchSpn, lasting_gateSwitchBob]

@[simp] theorem lasting_retStacksSpn (s : State) (env : Env) (k : Core) (f : Frame') :
    lasting (retStacksSpn s env k f).2 = lasting s := by
  unfold retStacksSpn
  split
  · dsimp only
    split
    · rfl
    · split <;> rename_i h
      · simp [lasting_of_eq h]
      · split <;> rename_i h'
        · simp [lasting_of_eq h', lasting_of_eq h]
        · split
          · simp [lasting_of_eq h', lasting_of_eq h]
          · simp only [lasting_moveStacks, lasting_mk, lasting_ite, lasting_setRegion, ite_self, lasting_of_eq h',
            lasting_of_eq h, lasting_comeBack]
  · simp

@[simp] theorem lasting_returned (s : State) (c : Nat) (env : Env) : lasting (returned s c env) = lasting s := by
  unfold returned
  grind [lasting_modCore, lasting_goesHere, lasting_finishSwitch, lasting_takeExc]

@[simp] theorem lasting_retg (s : State) (c : Nat) (env : Env) : lasting (retg s c env).2 = lasting s := by
  unfold retg
  grind [lasting_retStacksSpn, lasting_chained, lasting_loopsOf, lasting_setCore, lasting_traceRec, lasting_clearRsv,
    lasting_longStall, lasting_spend, lasting_predictRet, lasting_warnEvent, lasting_returned]

@[simp] theorem lasting_takeBudget (s : State) (b : Nat) (env : Env) :
    lasting (takeBudget s b env) = lasting s := by simp [takeBudget]

@[simp] theorem lasting_budgetStep (s : State) (b : Nat) (env : Env) : lasting (budgetStep s b env) = lasting s := by
  unfold budgetStep
  grind [lasting_overrun, lasting_takeBudget]

@[simp] theorem lasting_takeLate (s : State) (env : Env) : lasting (takeLate s env) = lasting s := by simp [takeLate]

@[simp] theorem lasts_execExceptionEntry (c : Nat) (env : Env) (s : State) :
    Lasts s (execExceptionEntry c env s) := by simp [execExceptionEntry]

@[simp] theorem lasts_execBudgetExhausted (o : BudgetObs) (s : State) :
    Lasts s (execBudgetExhausted o s) := by simp [execBudgetExhausted]

@[simp] theorem lasts_execInterruptEntry (c : Nat) (env : Env) (s : State) : Lasts s (execInterruptEntry c env s) := by
  refine (lasts_next ..).2 (lasting_branch rfl ?_)
  cases admitted s c (sampledMask c (core s c)) with
  | none => rfl
  | some x =>
    cases hg : goesHere s c with
    | some u => exact lasting_goesHere hg
    | none => simp

/-! ### What lasts: words that issue -/

@[simp] theorem lasting_l1iPut (s : State) (line : Nat) : lasting (l1iPut s line) = lasting s := by simp [l1iPut]

@[simp] theorem lasting_fetchStall (s : State) (c : Nat) (n : Nat) :
    lasting (fetchStall s c n) = lasting s := by simp [fetchStall]

@[simp] theorem lasting_fetchCache (s : State) (c : Nat) (k : Core) (env : Env) :
    lasting (fetchCache s c k env).2.2 = lasting s := by
  unfold fetchCache
  dsimp only
  (repeat' split) <;> simp

@[simp] theorem lasting_fetchBob (s : State) (c : Nat) (k : Core) (env : Env) : lasting (fetchBob s c k env).2.2 = lasting s := by
  unfold fetchBob
  (repeat' split) <;> simp

@[simp] theorem lasting_commitStore (s : State) (c : Nat) (k : Core) (st : Option (Place × TWord)) :
    lasting (commitStore s c k st) = lasting s := by
  unfold commitStore
  (repeat' split) <;> simp

@[simp] theorem lasting_stalls (s : State) (c : Nat) (env : Env) (acc : List (Bool × Nat)) :
    lasting (stalls s c env acc).2 = lasting s := by simp [stalls]

@[simp] theorem lasting_predict (s : State) (d : Done) (link : Nat) (env : Env) : lasting (predict s d link env) = lasting s := by
  unfold predict
  split <;> simp

@[simp] theorem lasting_countWord (s : State) (c : Nat) (d : Done) (link : Nat) (env : Env) :
    lasting (countWord s c d link env) = lasting s := by simp [countWord]

@[simp] theorem lasting_dataBreaks (s : State) (c : Nat) (acc : List (Bool × Nat)) :
    lasting (dataBreaks s c acc) = lasting s := by simp [dataBreaks]

@[simp] theorem lasting_loadChecked (s : State) (c : Nat) (k : Core) (env : Env) (a : Nat) :
    lasting (loadChecked s c k env a).2 = lasting s := by
  unfold loadChecked
  grind [lasting_loadWord, lasting_accessSpent]

@[simp] theorem lasting_loadOp (s : State) (c : Nat) (k : Core) (env : Env) (pre : Check) (pop : Nat) (a : Nat) :
    lasting (loadOp s c k env pre pop a).2 = lasting s := by
  unfold loadOp
  grind [lasting_loadChecked]

@[simp] theorem lasting_storeOp (s : State) (c : Nat) (k : Core) (env : Env) (pre : Check) (pop : Nat) (a : Nat) (w : TWord) :
    lasting (storeOp s c k env pre pop a w).2 = lasting s := by
  unfold storeOp
  grind [lasting_accessCheck]

@[simp] theorem resLasts_foretold {s : State} {r : Res} (w : LWord) (p : Pred) (h : ResLasts s r) :
    ResLasts s (foretold w p r) := by
  unfold foretold
  split
  · simpa using h
  · exact h

@[simp] theorem lasting_fetchSpn (s : State) (k : Core) (env : Env) : lasting (fetchSpn s k env).2 = lasting s := by
  unfold fetchSpn
  dsimp only
  generalize hs : (if env.fetch = .parity then _ else s) = s1
  have e : lasting s1 = lasting s := by
    rw [← hs]
    split <;> simp
  split_ifs <;> (try split) <;> simp [e]

@[simp] theorem lasting_depthSpill (s : State) (c : Nat) (k : Core) (k' : Core) (env : Env) :
    lasting (depthSpill s c k k' env).2 = lasting s := by
  unfold depthSpill
  split <;> simp

@[simp] theorem lasting_deepOp (s : State) (c : Nat) (k : Core) (env : Env) (n : Nat) (op : Core → Except Exc AEff) :
    lasting (deepOp s c k env n op).2 = lasting s := by
  unfold deepOp
  grind [lasting_spillAt, lasting_fillIn]

@[simp] theorem lasting_opA (s : State) (c : Nat) (k : Core) (env : Env) (op : AOp) :
    lasting (opA s c k env op).2 = lasting s := by
  unfold opA
  grind [lasting_loadOp, lasting_storeOp, lasting_deepOp]

@[simp] theorem resLasts_conditioned (cond : Cond) (early slot : Bool) (snap : CondSnap) (k : Core) {s : State} {r : Res}
    (h : ResLasts s r) :
    ResLasts s (conditioned cond early slot snap k s r) := by
  unfold conditioned
  dsimp only
  split
  · simp
  · split_ifs <;> simp [h]

@[simp] theorem resLasts_routine (c : Nat) (env : Env) (atomic : Bool) {body : State → Core → Res}
    (h : ∀ u k, ResLasts u (body u k)) (s : State)
    (k : Core) : ResLasts s (routine c env atomic body s k) := by
  unfold routine
  split
  · rename_i g; simp [lasting_of_eq g]
  · rename_i g; simp [lasting_of_eq g]
  · rename_i g
    exact .trans (by simp [lasting_of_eq g]) (h _ k)

theorem resLasts_paired (c : Nat) (cond : Cond) (ca cb : Bool) (a : AOp) (b : BOp) (env : Env) (s : State) (k : Core) :
    ResLasts s (paired c cond ca cb a b env s k) := by
  unfold paired
  dsimp only
  split
  · simp
  split <;> rename_i h
  · simp [lasting_of_eq h, apply_ite Prod.snd, apply_ite lasting]
  · simp [lasting_of_eq h, apply_ite Prod.snd, apply_ite lasting]
  split <;> rename_i g
  · simp [lasting_of_eq g, lasting_of_eq h, apply_ite Prod.snd, apply_ite lasting]
  split <;> simp [lasting_of_eq g, lasting_of_eq h, apply_ite Prod.snd, apply_ite lasting]

theorem lasting_commit (s : State) (c : Nat) (env : Env) (k : Core) {d : Done} (wait : Nat)
    (h : ∀ u, lasting (d.after u) = lasting u) :
    lasting (commit s c env k d wait) = lasting s := by
  unfold commit
  dsimp only
  generalize (flowOn c d.k d.flow).2 = g
  cases d.flow with
  | branch taken t b call => cases taken <;> cases g <;> simp [h]
  | _ => cases g <;> simp [h]

theorem lasting_settle (s : State) (c : Nat) (env : Env) (k : Core) (spent : Nat) {r : Res} {u : State} (h : ResLasts u r) :
    lasting (settle s c env k spent r) = lasting u := by
  obtain ⟨hs, ha⟩ := h
  unfold settle
  split
  · simpa using hs
  · have ha' := ha _ rfl
    split
    · simpa using hs
    · split <;> rename_i g
      · simpa [lasting_of_eq g] using hs
      · dsimp only
        simp only [apply_ite lasting, lasting_rsvGone, ite_self]
        rw [lasting_commit _ _ _ _ _ (by exact ha'), lasting_of_eq g]
        simpa using hs

theorem lasting_runWord (s : State) (c : Nat) (env : Env) {body : State → Core → CondSnap → Res}
    (h : ∀ u k p, ResLasts u (body u k p)) :
    lasting (runWord s c env body) = lasting s := by
  unfold runWord
  dsimp only
  split
  · rfl
  generalize hb : (if (core s c).bpPass then (false, s) else bpTake s c 1 (core s c).pc) = b
  have eb : lasting b.2 = lasting s := by
    rw [← hb]
    split <;> simp
  split
  · exact eb
  generalize hd : (if c = spindle then drainSb b.2 else b.2) = t
  have et : lasting t = lasting s := by
    rw [← hd]
    split <;> simp [eb]
  generalize hf : (if c = spindle then _ else _ : Fetched × Nat × State) = f
  have ef : lasting f.2.2 = lasting s := by
    rw [← hf]
    split
    · simp [et]
    · split <;> rename_i g
      · simp [lasting_of_eq₂ g, et]
      · simp [lasting_of_eq₂ g, et]
  split
  · simp [ef]
  · exact ef
  · rw [lasting_settle _ _ _ _ _ (h _ _ _)]
    split <;> simp [ef]

@[simp] theorem lasting_runPaired (c : Nat) (cond : Cond) (ca cb : Bool) (a : AOp) (b : BOp) (env : Env) (s : State) :
    lasting (runPaired c cond ca cb a b env s) = lasting s := lasting_runWord _ _ _ fun _ _ _ => resLasts_paired ..

@[simp] theorem lasting_runA (a : AOp) (w : AWord) (s : State) : lasting (runA a w s) = lasting s := lasting_runPaired ..

@[simp] theorem lasting_runLong (w : LWord) {body : State → Core → Res} (h : ∀ u k, ResLasts u (body u k)) (s : State) :
    lasting (runLong w body s) = lasting s :=
  lasting_runWord _ _ _ fun u k _ => resLasts_conditioned _ _ _ _ _ (h u k)

@[simp] theorem lasting_runB (b : BOp) (w : BWord) (s : State) : lasting (runB b w s) = lasting s := lasting_runPaired ..

@[simp] theorem lasting_runSlot (early : Bool) (w : LWord) {body : State → Core → Res} (h : ∀ u k, ResLasts u (body u k))
    (s : State) :
    lasting (runSlot early w body s) = lasting s := by
  refine lasting_runWord _ _ _ fun u k _ => resLasts_conditioned _ _ _ _ _ ?_
  split
  · simp
  · exact h u k

@[simp] theorem lasting_runBranch (w : LWord) {body : State → Core → Res} (h : ∀ u k, ResLasts u (body u k)) (s : State) :
    lasting (runBranch w body s) = lasting s := lasting_runSlot _ _ h s

/-! ### What lasts: long words -/

@[simp] theorem lasting_clearLbe (s : State) : lasting (clearLbe s) = lasting s := by simp [clearLbe]

@[simp] theorem lasting_bankSpent (s : State) (c : Nat) (a : Nat) (env : Env) :
    lasting (bankSpent s c a env) = lasting s := by simp [bankSpent]

@[simp] theorem lasting_atomicRead (s : State) (c : Nat) (k : Core) (env : Env) (a : Nat) :
    lasting (atomicRead s c k env a).2 = lasting s := by
  unfold atomicRead
  grind [lasting_accessCheck, lasting_readPlace, lasting_accessSpent]

@[simp] theorem lasting_ctlValue (s : State) (c : Nat) (k : Core) (n : Nat) : lasting (ctlValue s c k n).2 = lasting s := by
  unfold ctlValue
  dsimp only
  split <;> simp

@[simp] theorem aDone_after (c : Nat) (k : Core) (o : AOut) (s : State) : (aDone c k o).after s = s := rfl

theorem resLasts_effDone (s : State) (c : Nat) (k : Core) (r : Except Exc AEff × State) (h : lasting r.2 = lasting s) :
    ResLasts s (effDone c k r) := by
  unfold effDone
  split <;> simpa using h

@[simp] theorem resLasts_stlRes (c : Nat) (n : Nat) (env : Env) (s : State) (k : Core) : ResLasts s (stlRes c n env s k) := by
  simp only [stlRes]
  (repeat' split) <;> simp

@[simp] theorem lasting_ctlSpn (n : Nat) (v : W32) (s : State) : lasting (ctlSpn n v s) = lasting s := by
  unfold ctlSpn
  split <;> simp

@[simp] theorem resLasts_ctlWrRes (c : Nat) (n : Nat) (s : State) (k : Core) : ResLasts s (ctlWrRes c n s k) := by
  simp only [ctlWrRes]
  (repeat' split) <;> simp

@[simp] theorem resLasts_ataddRes (c : Nat) (env : Env) (s : State) (k : Core) : ResLasts s (ataddRes c env s k) := by
  unfold ataddRes
  dsimp only
  split
  · simp
  · split <;> rename_i h
    · simp [lasting_of_eq h]
    · split <;> simp [lasting_of_eq h]

@[simp] theorem resLasts_litRes (c : Nat) (w : TWord) (s : State) (k : Core) : ResLasts s (litRes c w s k) :=
  resLasts_checked _ _ _ fun _ => rfl

@[simp] theorem resLasts_ldlRes (c n : Nat) (env : Env) (s : State) (k : Core) : ResLasts s (ldlRes c n env s k) := by
  unfold ldlRes
  split
  · simp
  · split_ifs
    · simp
    · split <;> rename_i h
      · simp [lasting_of_eq h]
      · split <;> simp [lasting_of_eq h]

@[simp] theorem resLasts_atswpRes (c : Nat) (env : Env) (s : State) (k : Core) : ResLasts s (atswpRes c env s k) := by
  unfold atswpRes
  dsimp only
  split
  · simp
  · split <;> rename_i h
    · simp [lasting_of_eq h]
    · split <;> simp [lasting_of_eq h]

@[simp] theorem resLasts_ctlRdRes (c : Nat) (n : Nat) (s : State) (k : Core) : ResLasts s (ctlRdRes c n s k) := by
  unfold ctlRdRes
  split <;> simp

@[simp] theorem resLasts_litHRes (c : Nat) (v : BitVec 10) (s : State) (k : Core) : ResLasts s (litHRes c v s k) :=
  resLasts_checked _ _ _ fun _ => rfl

@[simp] theorem lasts_execLitI (w : LWord) (v : BitVec 22) (s : State) : Lasts s (execLitI w v s) := by simp [execLitI]

@[simp] theorem lasts_execLitN (w : LWord) (v : BitVec 22) (s : State) : Lasts s (execLitN w v s) := by simp [execLitN]

@[simp] theorem lasts_execLitH (w : LWord) (v : BitVec 10) (s : State) : Lasts s (execLitH w v s) := by simp [execLitH]

@[simp] theorem lasts_execLitF (w : LWord) (v : BitVec 22) (s : State) : Lasts s (execLitF w v s) := by simp [execLitF]

@[simp] theorem lasts_execLitX (w : LWord) (v : BitVec 22) (s : State) : Lasts s (execLitX w v s) := by simp [execLitX]

@[simp] theorem lasts_execLitA (w : LWord) (v : BitVec 22) (s : State) : Lasts s (execLitA w v s) := by simp [execLitA]

@[simp] theorem lasts_execLdl (w : LWord) (n : BitVec 5) (s : State) : Lasts s (execLdl w n s) := by simp [execLdl]

@[simp] theorem lasts_execStl (w : LWord) (n : BitVec 5) (s : State) : Lasts s (execStl w n s) := by simp [execStl]

@[simp] theorem lasts_execAtadd (w : LWord) (s : State) : Lasts s (execAtadd w s) := by simp [execAtadd]

@[simp] theorem lasts_execAtswp (w : LWord) (s : State) : Lasts s (execAtswp w s) := by simp [execAtswp]

@[simp] theorem lasts_execCtlRd (w : LWord) (n : BitVec 12) (s : State) : Lasts s (execCtlRd w n s) := by simp [execCtlRd]

@[simp] theorem lasts_execCtlWr (w : LWord) (n : BitVec 12) (s : State) : Lasts s (execCtlWr w n s) := by simp [execCtlWr]

@[simp] theorem lasts_execLdG (w : LWord) (a : BitVec 22) (s : State) : Lasts s (execLdG w a s) :=
  (lasts_next ..).2 (lasting_runLong w (fun _ _ => resLasts_effDone _ _ _ _ (by simp)) s)

@[simp] theorem lasts_execStG (w : LWord) (a : BitVec 22) (s : State) : Lasts s (execStG w a s) :=
  (lasts_next ..).2 (lasting_runLong w (fun _ _ => resLasts_effDone _ _ _ _ (by simp)) s)

/-! ### What lasts: control words -/

@[simp] theorem lasts_execClbAck (bob : Nat) (s : State) : Lasts s (execClbAck bob s) := by simp [execClbAck]

@[simp] theorem loopDone_after (c : Nat) (k : Core) (dist len count : Nat) (tos : Bool) (s : State) :
    (loopDone c k dist len count tos).after s = s := rfl

@[simp] theorem resLasts_brRes (c : Nat) (off : BitVec 22) (s : State) (k : Core) : ResLasts s (brRes c off s k) := by
  unfold brRes
  cases relTarget c k off <;> simp [Except.map]

@[simp] theorem resLasts_callRes (c : Nat) (off : BitVec 22) (s : State) (k : Core) : ResLasts s (callRes c off s k) := by
  unfold callRes
  dsimp only
  split
  · simp
  · cases relTarget c k off <;> simp [Except.map]

@[simp] theorem resLasts_retRes (c : Nat) (s : State) (k : Core) : ResLasts s (retRes c s k) :=
  resLasts_checked _ _ _ fun _ => rfl

@[simp] theorem resLasts_indirectRes (c : Nat) (call : Bool) (s : State) (k : Core) : ResLasts s (indirectRes c call s k) :=
  resLasts_checked _ _ _ fun _ => rfl

@[simp] theorem resLasts_retgRes (c : Nat) (env : Env) (s : State) (k : Core) : ResLasts s (retgRes c env s k) := by
  unfold retgRes
  dsimp only
  split <;> rename_i h
  · simp [lasting_of_eq h]
  · simp

@[simp] theorem resLasts_loopRes (c dist len : Nat) (s : State) (k : Core) : ResLasts s (loopRes c dist len s k) :=
  resLasts_checked _ _ _ fun _ => rfl

@[simp] theorem lasts_execBr (w : LWord) (off : BitVec 22) (s : State) : Lasts s (execBr w off s) := by simp [execBr]

@[simp] theorem lasts_execCall (w : LWord) (off : BitVec 22) (s : State) : Lasts s (execCall w off s) := by simp [execCall]

@[simp] theorem lasts_execRet (w : LWord) (s : State) : Lasts s (execRet w s) := by simp [execRet]

@[simp] theorem lasts_execJmpT (w : LWord) (s : State) : Lasts s (execJmpT w s) := by simp [execJmpT]

@[simp] theorem lasts_execCallT (w : LWord) (s : State) : Lasts s (execCallT w s) := by simp [execCallT]

@[simp] theorem lasts_execGate (w : LWord) (n : BitVec 10) (s : State) : Lasts s (execGate w n s) := by simp [execGate]

@[simp] theorem lasts_execLoop (w : LWord) (dist : BitVec 6) (len : BitVec 16) (s : State) :
    Lasts s (execLoop w dist len s) := by simp [execLoop]

@[simp] theorem lasts_execLoopI (w : LWord) (dist : BitVec 6) (count : BitVec 10) (len : BitVec 6) (s : State) :
    Lasts s (execLoopI w dist count len s) :=
  (lasts_next ..).2 (lasting_runLong w (fun _ _ => resLasts_checked _ _ _ fun _ => rfl) s)

@[simp] theorem lasts_execRetg (w : LWord) (s : State) : Lasts s (execRetg w s) := by
  refine (lasts_next ..).2 (lasting_runWord _ _ _ fun u k p => resLasts_conditioned _ _ _ _ _ ?_)
  split <;> simp

@[simp] theorem lasts_execIllegalInstruction (w : LWord) (form : IllegalForm) (s : State) :
    Lasts s (execIllegalInstruction w form s) :=
  (lasts_next ..).2 (lasting_runWord _ _ _ fun u k p => by simp)

/-! ### What lasts: words of strands -/

@[simp] theorem lasting_sendStall (s : State) (c : Nat) (dest : W32) (env : Env) :
    lasting (sendStall s c dest env).2 = lasting s := by simp [sendStall]

@[simp] theorem lasting_sendFrom (s : State) (k : Core) (dest : W32) (words : List TWord) :
    lasting (sendFrom s k dest words).2 = lasting s := by
  unfold sendFrom
  grind [lasting_sendPly, lasting_sendNow, lasting_free32]

@[simp] theorem lasting_pushStatus (s : State) (c : Nat) (st : Nat) (q : Qual) :
    lasting (pushStatus s c st q) = lasting s := by simp [pushStatus]

@[simp] theorem resLasts_sendRes (c : Nat) (n : Nat) (env : Env) (s : State) (k : Core) : ResLasts s (sendRes c n env s k) := by
  simp only [sendRes]
  (repeat' split) <;> simp

@[simp] theorem lasting_yieldRuntime (s : State) (b : Nat) (pc : Nat) : lasting (yieldRuntime s b pc) = lasting s := by
  unfold yieldRuntime
  grind [lasting_retainPil, lasting_clbAck, lasting_msgRelease, lasting_setCore, lasting_saveU, lasting_soe, lasting_modStrand,
    lasting_afterLeave, lasting_plyLeaves]

@[simp] theorem awaitPartner_after (s : State) (c : Nat) (o : OnCore) (k : Core) (d : Done)
    (h : ∀ u, lasting (d.after u) = lasting u) (u : State) :
    lasting ((awaitPartner s c o k d).after u) = lasting u := by
  unfold awaitPartner
  split
  · rfl
  · exact h u

@[simp] theorem resLasts_yieldRes (c : Nat) (env : Env) (s : State) (k : Core) : ResLasts s (yieldRes c env s k) := by
  unfold yieldRes
  split
  · simp
  · dsimp only
    split <;> simp

@[simp] theorem resLasts_tripSetRes (c : Nat) (n : Nat) (env : Env) (s : State) (k : Core) :
    ResLasts s (tripSetRes c n env s k) := by
  simp only [tripSetRes]
  (repeat' split) <;> simp

@[simp] theorem resLasts_pubWrRes (c : Nat) (slot : Nat) (m : Nat) (env : Env) (s : State) (k : Core) :
    ResLasts s (pubWrRes c slot m env s k) := by
  simp only [pubWrRes]
  (repeat' split) <;> simp

@[simp] theorem resLasts_waitRes (c n : Nat) (env : Env) (s : State) (k : Core) : ResLasts s (waitRes c n env s k) := by
  unfold waitRes
  split
  · simp
  · dsimp only
    split
    · simp
    · split
      · split
        · split <;> rename_i h <;> simp [lasting_of_eq h]
        · split <;> simp
      · simp

@[simp] theorem lasts_execTripSet (w : LWord) (n : BitVec 5) (s : State) : Lasts s (execTripSet w n s) := by simp [execTripSet]

@[simp] theorem lasts_execPubWr (w : LWord) (slot : BitVec 10) (m : BitVec 12) (s : State) :
    Lasts s (execPubWr w slot m s) := by simp [execPubWr]

@[simp] theorem lasts_execSend (w : LWord) (n : BitVec 3) (s : State) : Lasts s (execSend w n s) := by simp [execSend]

@[simp] theorem lasts_execWait (w : LWord) (n : BitVec 22) (s : State) : Lasts s (execWait w n s) := by simp [execWait]

@[simp] theorem lasts_execYield (w : LWord) (s : State) : Lasts s (execYield w s) := by simp [execYield]

@[simp] theorem lasts_execStrandStart (bob : Nat) (inBound : Bool) (env : Env) (s : State) :
    Lasts s (execStrandStart bob inBound env s) := by
  refine (lasts_next ..).2 ?_
  split
  · rfl
  split
  · split <;> rename_i h <;> simp [lasting_of_eq h]
  split
  · rfl
  split
  · split
    · rfl
    split
    · rfl
    have hs : lasting (if inBound then s else raiseErr s pgWHRL 3) = lasting s := by simp
    split <;> rename_i h
    · simp [lasting_of_eq h]
    · simp [lasting_of_eq h]
    · split <;> rename_i g <;> simp [lasting_of_eq g, lasting_of_eq h]
  · rfl

@[simp] theorem lasts_execStrandPreempt (p : PreemptObs) (s : State) : Lasts s (execStrandPreempt p s) := by
  refine (lasts_next ..).2 ?_
  dsimp only
  split
  · rfl
  split
  · rfl
  split_ifs
  · rfl
  split <;> rename_i h <;> simp [lasting_of_eq h]

/-! ### What lasts: block words -/

@[simp] theorem lasting_blkCopy (s : State) (c : Nat) (k : Core) (env : Env) (src : Nat) (dst : Nat) :
    lasting (blkCopy s c k env src dst).2 = lasting s := by
  unfold blkCopy
  grind [lasting_accessCheck, lasting_readPlace, lasting_accessSpent, lasting_writePlace]

@[simp] theorem lasting_blkElem (op : BlkOp) (s : State) (c : Nat) (k : Core) (env : Env) (ws : List TWord) :
    lasting (blkElem op s c k env ws).2 = lasting s := by
  unfold blkElem
  split
  · split <;> rename_i h <;> simp [lasting_of_eq h]
  · dsimp only
    split <;> rename_i h <;> simp [lasting_of_eq h]
  · split <;> rename_i h <;> simp [lasting_of_eq h]
  · split <;> rename_i h
    · simp [lasting_of_eq h]
    · split <;> rename_i h'
      · simp [lasting_of_eq h, lasting_of_eq h']
      · split <;> simp [lasting_of_eq h, lasting_of_eq h']
  · rfl

@[simp] theorem lasting_blkRun (op : BlkOp) (c : Nat) (k : Core) (env : Env) (n : Nat) (s : State) (ws : List TWord)
    (acc : List (Bool × Nat)) (i : Nat) : lasting (blkRun op c k env n s ws acc i).2.1 = lasting s := by
  induction n generalizing s ws acc i with
  | zero => rfl
  | succ n ih =>
    simp only [blkRun]
    split <;> rename_i h
    · simp [lasting_of_eq h]
    · simp [lasting_of_eq h, ih]

@[simp] theorem resLasts_blkRefuse (op : BlkOp) (s : State) (c : Nat) (k : Core) (env : Env) (ws : List TWord) (n : Nat) :
    ResLasts s (blkRefuse op s c k env ws n) := by
  unfold blkRefuse
  split
  · simp
  · split <;> rename_i h
    · split <;> simp [lasting_of_eq h]
    · simp

@[simp] theorem resLasts_blkRes (op : BlkOp) (c : Nat) (env : Env) (s : State) (k : Core) : ResLasts s (blkRes op c env s k) := by
  unfold blkRes
  dsimp only
  generalize hr : blkRun op c k env _ s _ [] 0 = r
  have hl : lasting r.2.1 = lasting s := by rw [← hr]; simp
  split
  · simp
  · split
    · simp
    · split
      · simpa using hl
      · split
        · simpa using hl
        · split <;> rename_i g <;> simpa [lasting_of_eq g] using hl

@[simp] theorem lasting_runBlk (op : BlkOp) (w : LWord) (s : State) : lasting (runBlk op w s) = lasting s :=
  lasting_runLong _ (fun _ _ => resLasts_routine _ _ _ (fun _ _ => resLasts_blkRes ..) _ _) _

@[simp] theorem lasts_execMoveBlk (w : LWord) (s : State) : Lasts s (execMoveBlk w s) := by simp [execMoveBlk]

@[simp] theorem lasts_execFillBlk (w : LWord) (s : State) : Lasts s (execFillBlk w s) := by simp [execFillBlk]

@[simp] theorem lasts_execBrevBlk (w : LWord) (s : State) : Lasts s (execBrevBlk w s) := by simp [execBrevBlk]

@[simp] theorem lasts_execCrcBlk (w : LWord) (s : State) : Lasts s (execCrcBlk w s) := by simp [execCrcBlk]

/-! ### What lasts: double precision -/

@[simp] theorem resLasts_f64Res (c n : Nat) (ok : List Ty) (cycles : Nat) (fl : FFlags) (push : List TWord) (flags : Option Flags)
    (s : State) (k : Core) : ResLasts s (f64Res c n ok cycles fl push flags s k) :=
  resLasts_checked _ _ _ fun _ => rfl

@[simp] theorem resLasts_f64Arith (c : Nat) (n : Nat) (cycles : Nat) (op : Core → Nat × FFlags) (s : State) (k : Core) :
    ResLasts s (f64Arith c n cycles op s k) := by simp [f64Arith]

@[simp] theorem resLasts_dCmpRes (c : Nat) (s : State) (k : Core) : ResLasts s (dCmpRes c s k) := by simp [dCmpRes]

@[simp] theorem resLasts_cvtFdRes (c : Nat) (s : State) (k : Core) : ResLasts s (cvtFdRes c s k) := by simp [cvtFdRes]

@[simp] theorem resLasts_cvtDfRes (c : Nat) (s : State) (k : Core) : ResLasts s (cvtDfRes c s k) := by simp [cvtDfRes]

@[simp] theorem resLasts_cvtIdRes (c : Nat) (s : State) (k : Core) : ResLasts s (cvtIdRes c s k) := by simp [cvtIdRes]

@[simp] theorem resLasts_cvtDiRes (c : Nat) (s : State) (k : Core) : ResLasts s (cvtDiRes c s k) := by simp [cvtDiRes]

@[simp] theorem lasting_runSpn (w : LWord) {body : State → Core → Res} (h : ∀ u k, ResLasts u (body u k)) (s : State) :
    lasting (runSpn w body s) = lasting s := by
  refine lasting_runWord _ _ _ fun u k _ => ?_
  split
  · simp
  · exact resLasts_conditioned _ _ _ _ _ (h u k)

@[simp] theorem lasts_execDAdd (w : LWord) (s : State) : Lasts s (execDAdd w s) := by simp [execDAdd]

@[simp] theorem lasts_execDSub (w : LWord) (s : State) : Lasts s (execDSub w s) := by simp [execDSub]

@[simp] theorem lasts_execDMul (w : LWord) (s : State) : Lasts s (execDMul w s) := by simp [execDMul]

@[simp] theorem lasts_execDFma (w : LWord) (s : State) : Lasts s (execDFma w s) := by simp [execDFma]

@[simp] theorem lasts_execDDiv (w : LWord) (s : State) : Lasts s (execDDiv w s) := by simp [execDDiv]

@[simp] theorem lasts_execDSqrt (w : LWord) (s : State) : Lasts s (execDSqrt w s) := by simp [execDSqrt]

@[simp] theorem lasts_execDCmp (w : LWord) (s : State) : Lasts s (execDCmp w s) := by simp [execDCmp]

@[simp] theorem lasts_execCvtFd (w : LWord) (s : State) : Lasts s (execCvtFd w s) := by simp [execCvtFd]

@[simp] theorem lasts_execCvtDf (w : LWord) (s : State) : Lasts s (execCvtDf w s) := by simp [execCvtDf]

@[simp] theorem lasts_execCvtId (w : LWord) (s : State) : Lasts s (execCvtId w s) := by simp [execCvtId]

@[simp] theorem lasts_execCvtDi (w : LWord) (s : State) : Lasts s (execCvtDi w s) := by simp [execCvtDi]

/-! ### What lasts: the spindle -/

@[simp] theorem lasting_cohAnswered (s : State) : lasting (cohAnswered s) = lasting s := by simp [cohAnswered]

@[simp] theorem lasts_execPwrDisconnect (s : State) : Lasts s (execPwrDisconnect s) := by simp [execPwrDisconnect]

@[simp] theorem lasts_execSpnCntClr (s : State) : Lasts s (execSpnCntClr s) := by simp [execSpnCntClr]

@[simp] theorem lasts_execSpnLbeClr (s : State) : Lasts s (execSpnLbeClr s) := by simp [execSpnLbeClr]

@[simp] theorem lasting_windowRead (s : State) (k : Core) (env : Env) (a : Nat) :
    lasting (windowRead s k env a).2 = lasting s := by
  unfold windowRead
  grind [lasting_readPlace, lasting_accessSpent]

@[simp] theorem lasting_awaitLine (s : State) (line : Nat) (pk : PendKind) :
    lasting (awaitLine s line pk) = lasting s := by simp [awaitLine]

@[simp] theorem lasting_readWb (s : State) (env : Env) (line : Nat) (own : Bool) (pk : PendKind) :
    lasting (readWb s env line own pk).2 = lasting s := by
  unfold readWb
  grind [lasting_bumpWrap, lasting_lineEcc, lasting_l1Set, lasting_l1Put, lasting_awaitLine, lasting_missL2]

@[simp] theorem lasting_freeBytes (s : State) (n : Nat) : lasting (freeBytes s n).2 = lasting s := by simp [freeBytes]

@[simp] theorem lasting_readPart (s : State) (env : Env) (p : Nat × Nat) (own : Bool) (pk : PendKind) :
    lasting (readPart s env p own pk).2 = lasting s := by
  unfold readPart
  grind [lasting_readWb, lasting_raiseErr, lasting_freeBytes]

@[simp] theorem lasting_storeMeets (env : Env) (l : List (Nat × Nat)) (s : State) :
    lasting (storeMeets env l s).2 = lasting s := by
  induction l generalizing s with
  | nil => rfl
  | cons p l ih =>
    simp only [storeMeets]
    grind [lasting_lineEcc]

@[simp] theorem lasting_dcInvAct (s : State) (line : Nat) : lasting (dcInvAct s line).2 = lasting s := by
  unfold dcInvAct
  split <;> simp

@[simp] theorem lasting_dcCinvAct (s : State) (line : Nat) : lasting (dcCinvAct s line).2 = lasting s := by
  unfold dcCinvAct
  split <;> simp

@[simp] theorem lasting_dcZeroAct (s : State) (line : Nat) : lasting (dcZeroAct s line).2 = lasting s := by
  unfold dcZeroAct
  grind [lasting_l1Put, lasting_l2Set, lasting_curePoison, lasting_awaitLine, lasting_missL2]

@[simp] theorem lasting_l2CleanAct (s : State) (line : Nat) : lasting (l2CleanAct s line).2 = lasting s := by
  unfold l2CleanAct
  split <;> simp

@[simp] theorem lasting_l2CinvAct (s : State) (line : Nat) : lasting (l2CinvAct s line).2 = lasting s := by
  unfold l2CinvAct
  grind [lasting_evict]

@[simp] theorem lasting_clbStart (s : State) : lasting (clbStart s) = lasting s := by simp [clbStart]

@[simp] theorem lasting_spnSleep (s : State) : lasting (spnSleep s) = lasting s := by simp [spnSleep]

@[simp] theorem lasts_execLateBusError (e : StoreErr) (s : State) : Lasts s (execLateBusError e s) := by
  unfold execLateBusError
  split <;> simp

@[simp] theorem lasts_execSpindleLockstepMismatch (s : State) :
    Lasts s (execSpindleLockstepMismatch s) := by simp [execSpindleLockstepMismatch]

@[simp] theorem lasts_execSnoopRx (line : Nat) (kind : Snoop) (s : State) :
    Lasts s (execSnoopRx line kind s) := by simp [execSnoopRx]

@[simp] theorem lasting_failStores (s : State) (line : Nat) : lasting (failStores s line) = lasting s := by simp [failStores]

@[simp] theorem lasting_modReq (s : State) (line : Nat) (f : CohReq → CohReq) :
    lasting (modReq s line f) = lasting s := by simp [modReq]

@[simp] theorem lasts_execCohRetryGrant (line : Nat) (s : State) :
    Lasts s (execCohRetryGrant line s) := by simp [execCohRetryGrant]

@[simp] theorem lasts_execCohTimeout (line : Nat) (s : State) : Lasts s (execCohTimeout line s) := by simp [execCohTimeout]

@[simp] theorem lasts_execRsvSnoopHoldExpire (s : State) : Lasts s (execRsvSnoopHoldExpire s) := by simp [execRsvSnoopHoldExpire]

@[simp] theorem lasting_reconnect (s : State) : lasting (reconnect s) = lasting s := by simp [reconnect]

@[simp] theorem lasts_execDeadAgent (s : State) : Lasts s (execDeadAgent s) := by simp [execDeadAgent]

@[simp] theorem lasts_execCoreWake (c : Nat) (s : State) : Lasts s (execCoreWake c s) := by simp [execCoreWake]

@[simp] theorem lasts_execHaltTaken (core' : Nat) (forced : Bool) (s : State) : Lasts s (execHaltTaken core' forced s) := by
  unfold execHaltTaken
  dsimp only
  split <;> simp

@[simp] theorem lasts_execDirectoryRetry (line : Nat) (s : State) :
    Lasts s (execDirectoryRetry line s) := by simp [execDirectoryRetry]

@[simp] theorem lasting_readParts (s : State) (env : Env) (own : Bool) (pk : PendKind) (l : List (Nat × Nat)) :
    lasting (readParts s env own pk l).2 = lasting s := by
  induction l generalizing s with
  | nil => rfl
  | cons p l ih =>
    simp only [readParts]
    split
    · rename_i u h
      simpa using lasting_of_eq h
    · rename_i u h
      simp [lasting_of_eq h]
    · rename_i u h
      split
      · rename_i h'
        simp [lasting_of_eq h', lasting_of_eq h, ih]
      · simp [lasting_of_eq h, ih]

@[simp] theorem stays_after (k : Core) (s : State) : (stays k).after s = s := rfl

@[simp] theorem resLasts_engRes (need : Level) (drains : Bool) (cycles : Nat) {after : State → State}
    (h : ∀ u, lasting (after u) = lasting u)
    (s : State) (k : Core) : ResLasts s (engRes need drains cycles after s k) := by
  unfold engRes
  split
  · simp
  · split <;> simp [h]

@[simp] theorem resLasts_clbRes (s : State) (k : Core) : ResLasts s (clbRes s k) := by
  unfold clbRes
  split <;> simp

theorem resLasts_hostLoad (s : State) (k : Core) (env : Env) (a n : Nat) (own : Bool) (pk : PendKind)
    (deliver : List Byte → Except Exc Done) (h : ∀ l d, deliver l = .ok d → ∀ u, lasting (d.after u) = lasting u) :
    ResLasts s (hostLoad s k env a n own pk deliver) := by
  unfold hostLoad
  split <;> rename_i g
  · simp [lasting_of_eq g]
  · simp [lasting_of_eq g]
  · exact ⟨by simp [lasting_of_eq g], fun d hd => h _ d hd⟩

@[simp] theorem resLasts_hostStore (c : Nat) (s : State) (k : Core) (a : Nat) (z : Nat) (pop : Nat) (push : List TWord)
    (l : List Byte) :
    ResLasts s (hostStore c s k a z pop push l) := by simp [hostStore]

@[simp] theorem resLasts_stHRes (c : Nat) (z : HSize) (env : Env) (s : State) (k : Core) : ResLasts s (stHRes c z env s k) := by
  unfold stHRes
  dsimp only
  split
  · simp
  · split <;> rename_i h
    · simp [lasting_of_eq h]
    · exact .trans (by simp [lasting_of_eq h]) (resLasts_hostStore ..)

@[simp] theorem resLasts_cacheRes (c : Nat) (env : Env) (sys write reads : Bool) {act : State → Nat → Bool × State}
    (h : ∀ u l, lasting (act u l).2 = lasting u) (s : State) (k : Core) :
    ResLasts s (cacheRes c env sys write reads act s k) := by
  unfold cacheRes
  dsimp only
  generalize hr : (if reads && lineDirty s (argAddr k / 64) then lineEcc s env (argAddr k) else (none, s)) = r
  have hl : lasting r.2 = lasting s := by
    rw [← hr]
    split <;> simp
  split
  · simp
  · split
    · split
      · simpa using hl
      · split <;> rename_i g
        · simpa [lasting_of_eq g, h] using hl
        · simp [h]
    · simp

@[simp] theorem resLasts_rsvStRes (c : Nat) (z : HSize) (env : Env) (s : State) (k : Core) :
    ResLasts s (rsvStRes c z env s k) := by
  unfold rsvStRes
  dsimp only
  split
  · simp
  · split <;> rename_i h
    · simp [lasting_of_eq h]
    · split_ifs <;> simp [lasting_of_eq h]

@[simp] theorem resLasts_ldHRes (c : Nat) (z : HSize) (sx : Bool) (env : Env) (s : State) (k : Core) :
    ResLasts s (ldHRes c z sx env s k) := by
  unfold ldHRes
  dsimp only
  split
  · split
    · simp
    · split <;> rename_i h
      · simp [lasting_of_eq h]
      · split <;> simp [lasting_of_eq h]
  · split
    · simp
    · exact resLasts_hostLoad _ _ _ _ _ _ _ _ fun l d hd u => by cases hd; rfl

@[simp] theorem resLasts_ldTRes (c : Nat) (env : Env) (s : State) (k : Core) : ResLasts s (ldTRes c env s k) := by
  unfold ldTRes
  dsimp only
  split
  · split
    · simp
    · split <;> rename_i h
      · simp [lasting_of_eq h]
      · cases tagCauses k [(.move, _)] <;> simp [lasting_of_eq h]
  · split
    · simp
    · refine resLasts_hostLoad _ _ _ _ _ _ _ _ fun l d hd u => ?_
      split at hd
      · cases hd
      · cases hd; rfl

@[simp] theorem resLasts_stTRes (c : Nat) (env : Env) (s : State) (k : Core) : ResLasts s (stTRes c env s k) := by
  unfold stTRes
  dsimp only
  generalize hm : storeMeets env (hostParts (argAddr k) 8) s = m
  obtain ⟨e, u⟩ := m
  have hu : lasting u = lasting s := by simp [lasting_of_eq hm]
  split
  · split
    · simp
    · split
      · simp
      · exact ⟨rfl, fun d hd u => by cases hd; rfl⟩
  · split
    · simp
    · cases e with
      | none => exact .trans hu (resLasts_hostStore ..)
      | some e => simpa using hu

@[simp] theorem resLasts_rsvLdRes (c : Nat) (z : HSize) (env : Env) (s : State) (k : Core) :
    ResLasts s (rsvLdRes c z env s k) := by
  unfold rsvLdRes
  dsimp only
  split
  · simp
  · split
    · simp
    · refine resLasts_hostLoad _ _ _ _ _ _ _ _ fun l d hd u => ?_
      cases hd
      simp

@[simp] theorem resLasts_pendBody (pk : PendKind) (s : State) (k : Core) : ResLasts s (pendBody pk s k) := by
  cases pk with
  | load z sx => exact resLasts_ldHRes ..
  | loadT => exact resLasts_ldTRes ..
  | rsvLoad z => exact resLasts_rsvLdRes ..
  | zero => exact resLasts_cacheRes _ _ _ _ _ (by simp) _ _

@[simp] theorem lasting_resume (s : State) (line : Nat) (ok : Bool) : lasting (resume s line ok) = lasting s := by
  unfold resume
  split
  · rfl
  · dsimp only
    split_ifs
    · rfl
    · simp
    · exact (lasting_settle _ _ _ _ _ (resLasts_pendBody ..)).trans (by simp)
    · exact (lasting_settle (u := s) _ _ _ _ _ (by simp)).trans (by simp)

@[simp] theorem lasts_execLdH (w : LWord) (z : HSize) (sx : Bool) (s : State) : Lasts s (execLdH w z sx s) := by simp [execLdH]

@[simp] theorem lasts_execStH (w : LWord) (z : HSize) (s : State) : Lasts s (execStH w z s) := by simp [execStH]

@[simp] theorem lasts_execLdT (w : LWord) (s : State) : Lasts s (execLdT w s) := by simp [execLdT]

@[simp] theorem lasts_execStT (w : LWord) (s : State) : Lasts s (execStT w s) := by simp [execStT]

@[simp] theorem lasts_execDcClean (w : LWord) (s : State) : Lasts s (execDcClean w s) := by simp [execDcClean]

@[simp] theorem lasts_execDcInv (w : LWord) (s : State) : Lasts s (execDcInv w s) := by simp [execDcInv]

@[simp] theorem lasts_execDcCinv (w : LWord) (s : State) : Lasts s (execDcCinv w s) := by simp [execDcCinv]

@[simp] theorem lasts_execDcZero (w : LWord) (s : State) : Lasts s (execDcZero w s) := by simp [execDcZero]

@[simp] theorem lasts_execIcInv (w : LWord) (s : State) : Lasts s (execIcInv w s) := by simp [execIcInv]

@[simp] theorem lasts_execDcPf (w : LWord) (s : State) : Lasts s (execDcPf w s) := by simp [execDcPf]

@[simp] theorem lasts_execL2Clean (w : LWord) (s : State) : Lasts s (execL2Clean w s) := by simp [execL2Clean]

@[simp] theorem lasts_execL2Cinv (w : LWord) (s : State) : Lasts s (execL2Cinv w s) := by simp [execL2Cinv]

@[simp] theorem lasts_execFlushI (w : LWord) (s : State) : Lasts s (execFlushI w s) := by simp [execFlushI]

@[simp] theorem lasts_execClb (w : LWord) (s : State) : Lasts s (execClb w s) := by simp [execClb]

@[simp] theorem lasts_execFenceEng (w : LWord) (s : State) : Lasts s (execFenceEng w s) := by simp [execFenceEng]

@[simp] theorem lasts_execWfi (w : LWord) (s : State) : Lasts s (execWfi w s) := by simp [execWfi]

@[simp] theorem lasts_execWipe (w : LWord) (s : State) : Lasts s (execWipe w s) := by simp [execWipe]

@[simp] theorem lasts_execRsvLd (w : LWord) (z : HSize) (s : State) : Lasts s (execRsvLd w z s) := by simp [execRsvLd]

@[simp] theorem lasts_execRsvSt (w : LWord) (z : HSize) (s : State) : Lasts s (execRsvSt w z s) := by simp [execRsvSt]

@[simp] theorem lasts_execCohWritebackAck (line : Nat) (s : State) : Lasts s (execCohWritebackAck line s) := by
  unfold execCohWritebackAck
  split <;> simp

@[simp] theorem lasts_execCohFillArrive (line : Nat) (s : State) : Lasts s (execCohFillArrive line s) := by
  unfold execCohFillArrive
  refine (lasts_next ..).2 ?_
  cases hf : s.spn.reqs.find? fun r => decide (r.line = line) && !r.retried with
  | none => rfl
  | some r =>
    dsimp only
    generalize hz : (match s.spn.pend with | some p => decide (p.line = line ∧ p.kind = PendKind.zero) | none => false) = zero
    refine lasting_branch ?_ ?_
    · cases zero <;> simp
    · cases hi : install _ line _ with
      | none => rfl
      | some u =>
        have hu := lasting_install hi
        cases hp : u.spn.pend <;> cases zero <;> simp_all

/-! ### What lasts: the microcode store -/

@[simp] theorem lasting_ucsEnd (s : State) (result : Nat) : lasting (ucsEnd s result) = lasting s := by simp [ucsEnd]

@[simp] theorem lasting_patchDone (s : State) (spn : Bool) (p : Patch) :
    lasting (patchDone s spn p) = lasting s := by simp [patchDone]

@[simp] theorem lasting_ucsRead (s : State) : lasting (ucsRead s) = lasting s := by
  unfold ucsRead
  dsimp only
  (repeat' split) <;> simp

@[simp] theorem lasts_execUcsLoad (s : State) : Lasts s (execUcsLoad s) := by simp [execUcsLoad]

@[simp] theorem lasts_execUcsEccClr (s : State) : Lasts s (execUcsEccClr s) := by simp [execUcsEccClr]

@[simp] theorem lasts_execBobCntClr (b : Nat) (s : State) : Lasts s (execBobCntClr b s) := by simp [execBobCntClr]

@[simp] theorem lasts_execBobIcInv (b : Nat) (s : State) : Lasts s (execBobIcInv b s) := by simp [execBobIcInv]

@[simp] theorem lasts_execUcsPatchInstall (seq : Nat) (s : State) : Lasts s (execUcsPatchInstall seq s) := by
  unfold execUcsPatchInstall
  split <;> simp

@[simp] theorem lasting_dmaRun (s : State) (w : DmaWait) : lasting (dmaRun s w) = lasting s := by
  cases w <;> simp [dmaRun]

@[simp] theorem lasts_execHostClockReturn (s : State) : Lasts s (execHostClockReturn s) := by
  simp only [execHostClockReturn]
  (repeat' split) <;> simp

/-! ### What lasts: further commands -/

@[simp] theorem lasts_execNop (w : AWord) (s : State) : Lasts s (execNop w s) := by simp [execNop]

@[simp] theorem lasts_execDup (w : AWord) (s : State) : Lasts s (execDup w s) := by simp [execDup]

@[simp] theorem lasts_execDrop (w : AWord) (s : State) : Lasts s (execDrop w s) := by simp [execDrop]

@[simp] theorem lasts_execSwap (w : AWord) (s : State) : Lasts s (execSwap w s) := by simp [execSwap]

@[simp] theorem lasts_execOver (w : AWord) (s : State) : Lasts s (execOver w s) := by simp [execOver]

@[simp] theorem lasts_execRot (w : AWord) (s : State) : Lasts s (execRot w s) := by simp [execRot]

@[simp] theorem lasts_execNip (w : AWord) (s : State) : Lasts s (execNip w s) := by simp [execNip]

@[simp] theorem lasts_execTuck (w : AWord) (s : State) : Lasts s (execTuck w s) := by simp [execTuck]

@[simp] theorem lasts_execTwoDup (w : AWord) (s : State) : Lasts s (execTwoDup w s) := by simp [execTwoDup]

@[simp] theorem lasts_execTwoDrop (w : AWord) (s : State) : Lasts s (execTwoDrop w s) := by simp [execTwoDrop]

@[simp] theorem lasts_execTwoSwap (w : AWord) (s : State) : Lasts s (execTwoSwap w s) := by simp [execTwoSwap]

@[simp] theorem lasts_execTwoOver (w : AWord) (s : State) : Lasts s (execTwoOver w s) := by simp [execTwoOver]

@[simp] theorem lasts_execPick (w : AWord) (n : BitVec 4) (s : State) : Lasts s (execPick w n s) := by simp [execPick]

@[simp] theorem lasts_execRoll (w : AWord) (n : BitVec 4) (s : State) : Lasts s (execRoll w n s) := by simp [execRoll]

@[simp] theorem lasts_execLitS (w : AWord) (v : BitVec 8) (s : State) : Lasts s (execLitS w v s) := by simp [execLitS]

@[simp] theorem lasts_execAnd (w : AWord) (s : State) : Lasts s (execAnd w s) := by simp [execAnd]

@[simp] theorem lasts_execOr (w : AWord) (s : State) : Lasts s (execOr w s) := by simp [execOr]

@[simp] theorem lasts_execXor (w : AWord) (s : State) : Lasts s (execXor w s) := by simp [execXor]

@[simp] theorem lasts_execNot (w : AWord) (s : State) : Lasts s (execNot w s) := by simp [execNot]

@[simp] theorem lasts_execAndn (w : AWord) (s : State) : Lasts s (execAndn w s) := by simp [execAndn]

@[simp] theorem lasts_execPopc (w : AWord) (s : State) : Lasts s (execPopc w s) := by simp [execPopc]

@[simp] theorem lasts_execClz (w : AWord) (s : State) : Lasts s (execClz w s) := by simp [execClz]

@[simp] theorem lasts_execShl (w : AWord) (n : Option (BitVec 5)) (s : State) : Lasts s (execShl w n s) := by simp [execShl]

@[simp] theorem lasts_execShr (w : AWord) (n : Option (BitVec 5)) (s : State) : Lasts s (execShr w n s) := by simp [execShr]

@[simp] theorem lasts_execSar (w : AWord) (n : Option (BitVec 5)) (s : State) : Lasts s (execSar w n s) := by simp [execSar]

@[simp] theorem lasts_execRol (w : AWord) (n : Option (BitVec 5)) (s : State) : Lasts s (execRol w n s) := by simp [execRol]

@[simp] theorem lasts_execAdd (w : AWord) (s : State) : Lasts s (execAdd w s) := by simp [execAdd]

@[simp] theorem lasts_execSub (w : AWord) (s : State) : Lasts s (execSub w s) := by simp [execSub]

@[simp] theorem lasts_execAdc (w : AWord) (s : State) : Lasts s (execAdc w s) := by simp [execAdc]

@[simp] theorem lasts_execSbc (w : AWord) (s : State) : Lasts s (execSbc w s) := by simp [execSbc]

@[simp] theorem lasts_execNeg (w : AWord) (s : State) : Lasts s (execNeg w s) := by simp [execNeg]

@[simp] theorem lasts_execAbs (w : AWord) (s : State) : Lasts s (execAbs w s) := by simp [execAbs]

@[simp] theorem lasts_execCmp (w : AWord) (s : State) : Lasts s (execCmp w s) := by simp [execCmp]

@[simp] theorem lasts_execEq (w : AWord) (s : State) : Lasts s (execEq w s) := by simp [execEq]

@[simp] theorem lasts_execLt (w : AWord) (s : State) : Lasts s (execLt w s) := by simp [execLt]

@[simp] theorem lasts_execUlt (w : AWord) (s : State) : Lasts s (execUlt w s) := by simp [execUlt]

@[simp] theorem lasts_execMin (w : AWord) (s : State) : Lasts s (execMin w s) := by simp [execMin]

@[simp] theorem lasts_execMax (w : AWord) (s : State) : Lasts s (execMax w s) := by simp [execMax]

@[simp] theorem lasts_execUmin (w : AWord) (s : State) : Lasts s (execUmin w s) := by simp [execUmin]

@[simp] theorem lasts_execUmax (w : AWord) (s : State) : Lasts s (execUmax w s) := by simp [execUmax]

@[simp] theorem lasts_execInc (w : AWord) (s : State) : Lasts s (execInc w s) := by simp [execInc]

@[simp] theorem lasts_execDec (w : AWord) (s : State) : Lasts s (execDec w s) := by simp [execDec]

@[simp] theorem lasts_execMul (w : AWord) (s : State) : Lasts s (execMul w s) := by simp [execMul]

@[simp] theorem lasts_execMulwS (w : AWord) (s : State) : Lasts s (execMulwS w s) := by simp [execMulwS]

@[simp] theorem lasts_execMulwU (w : AWord) (s : State) : Lasts s (execMulwU w s) := by simp [execMulwU]

@[simp] theorem lasts_execDiv (w : AWord) (s : State) : Lasts s (execDiv w s) := by simp [execDiv]

@[simp] theorem lasts_execDivu (w : AWord) (s : State) : Lasts s (execDivu w s) := by simp [execDivu]

@[simp] theorem lasts_execRem (w : AWord) (s : State) : Lasts s (execRem w s) := by simp [execRem]

@[simp] theorem lasts_execRemu (w : AWord) (s : State) : Lasts s (execRemu w s) := by simp [execRemu]

@[simp] theorem lasts_execXAdd (w : AWord) (sat : Bool) (s : State) : Lasts s (execXAdd w sat s) := by simp [execXAdd]

@[simp] theorem lasts_execXSub (w : AWord) (sat : Bool) (s : State) : Lasts s (execXSub w sat s) := by simp [execXSub]

@[simp] theorem lasts_execXMul (w : AWord) (sat : Bool) (s : State) : Lasts s (execXMul w sat s) := by simp [execXMul]

@[simp] theorem lasts_execXDiv (w : AWord) (sat : Bool) (s : State) : Lasts s (execXDiv w sat s) := by simp [execXDiv]

@[simp] theorem lasts_execXNeg (w : AWord) (sat : Bool) (s : State) : Lasts s (execXNeg w sat s) := by simp [execXNeg]

@[simp] theorem lasts_execXAbs (w : AWord) (sat : Bool) (s : State) : Lasts s (execXAbs w sat s) := by simp [execXAbs]

@[simp] theorem lasts_execFadd (w : AWord) (s : State) : Lasts s (execFadd w s) := by simp [execFadd]

@[simp] theorem lasts_execFsub (w : AWord) (s : State) : Lasts s (execFsub w s) := by simp [execFsub]

@[simp] theorem lasts_execFmul (w : AWord) (s : State) : Lasts s (execFmul w s) := by simp [execFmul]

@[simp] theorem lasts_execFma (w : AWord) (s : State) : Lasts s (execFma w s) := by simp [execFma]

@[simp] theorem lasts_execFdiv (w : AWord) (s : State) : Lasts s (execFdiv w s) := by simp [execFdiv]

@[simp] theorem lasts_execFsqrt (w : AWord) (s : State) : Lasts s (execFsqrt w s) := by simp [execFsqrt]

@[simp] theorem lasts_execFneg (w : AWord) (s : State) : Lasts s (execFneg w s) := by simp [execFneg]

@[simp] theorem lasts_execFabs (w : AWord) (s : State) : Lasts s (execFabs w s) := by simp [execFabs]

@[simp] theorem lasts_execFmin (w : AWord) (s : State) : Lasts s (execFmin w s) := by simp [execFmin]

@[simp] theorem lasts_execFmax (w : AWord) (s : State) : Lasts s (execFmax w s) := by simp [execFmax]

@[simp] theorem lasts_execFcmp (w : AWord) (s : State) : Lasts s (execFcmp w s) := by simp [execFcmp]

@[simp] theorem lasts_execCvtIf (w : AWord) (s : State) : Lasts s (execCvtIf w s) := by simp [execCvtIf]

@[simp] theorem lasts_execCvtNf (w : AWord) (s : State) : Lasts s (execCvtNf w s) := by simp [execCvtNf]

@[simp] theorem lasts_execCvtFi (w : AWord) (s : State) : Lasts s (execCvtFi w s) := by simp [execCvtFi]

@[simp] theorem lasts_execCvtFn (w : AWord) (s : State) : Lasts s (execCvtFn w s) := by simp [execCvtFn]

@[simp] theorem lasts_execCvtXf (w : AWord) (s : State) : Lasts s (execCvtXf w s) := by simp [execCvtXf]

@[simp] theorem lasts_execCvtFx (w : AWord) (s : State) : Lasts s (execCvtFx w s) := by simp [execCvtFx]

@[simp] theorem lasts_execCvtIx (w : AWord) (s : State) : Lasts s (execCvtIx w s) := by simp [execCvtIx]

@[simp] theorem lasts_execCvtXi (w : AWord) (s : State) : Lasts s (execCvtXi w s) := by simp [execCvtXi]

@[simp] theorem lasts_execAsNat (w : AWord) (s : State) : Lasts s (execAsNat w s) := by simp [execAsNat]

@[simp] theorem lasts_execAsInt (w : AWord) (s : State) : Lasts s (execAsInt w s) := by simp [execAsInt]

@[simp] theorem lasts_execAsFlt (w : AWord) (s : State) : Lasts s (execAsFlt w s) := by simp [execAsFlt]

@[simp] theorem lasts_execAsAdr (w : AWord) (s : State) : Lasts s (execAsAdr w s) := by simp [execAsAdr]

@[simp] theorem lasts_execCrcStep (w : AWord) (s : State) : Lasts s (execCrcStep w s) := by simp [execCrcStep]

@[simp] theorem lasts_execPar (w : AWord) (s : State) : Lasts s (execPar w s) := by simp [execPar]

@[simp] theorem lasts_execBrev (w : AWord) (n : BitVec 5) (s : State) : Lasts s (execBrev w n s) := by simp [execBrev]

@[simp] theorem lasts_execTagRd (w : AWord) (s : State) : Lasts s (execTagRd w s) := by simp [execTagRd]

@[simp] theorem lasts_execTagSet (w : AWord) (s : State) : Lasts s (execTagSet w s) := by simp [execTagSet]

@[simp] theorem lasts_execSel (w : AWord) (s : State) : Lasts s (execSel w s) := by simp [execSel]

@[simp] theorem lasts_execLd (w : AWord) (s : State) : Lasts s (execLd w s) := by simp [execLd]

@[simp] theorem lasts_execSt (w : AWord) (s : State) : Lasts s (execSt w s) := by simp [execSt]

@[simp] theorem lasts_execLdAtA (w : AWord) (d : BitVec 8) (s : State) : Lasts s (execLdAtA w d s) := by simp [execLdAtA]

@[simp] theorem lasts_execStAtA (w : AWord) (d : BitVec 8) (s : State) : Lasts s (execStAtA w d s) := by simp [execStAtA]

@[simp] theorem lasts_execAFetch (w : AWord) (s : State) : Lasts s (execAFetch w s) := by simp [execAFetch]

@[simp] theorem lasts_execRFetch (w : AWord) (s : State) : Lasts s (execRFetch w s) := by simp [execRFetch]

@[simp] theorem lasts_execLcFetch (w : AWord) (s : State) : Lasts s (execLcFetch w s) := by simp [execLcFetch]

@[simp] theorem lasts_execTimNow (w : AWord) (s : State) : Lasts s (execTimNow w s) := by simp [execTimNow]

@[simp] theorem lasts_execTimAddns (w : AWord) (s : State) : Lasts s (execTimAddns w s) := by simp [execTimAddns]

@[simp] theorem lasts_execTimSub (w : AWord) (s : State) : Lasts s (execTimSub w s) := by simp [execTimSub]

@[simp] theorem lasts_execTimCmp (w : AWord) (s : State) : Lasts s (execTimCmp w s) := by simp [execTimCmp]

@[simp] theorem lasts_execRdrop (w : BWord) (s : State) : Lasts s (execRdrop w s) := by simp [execRdrop]

@[simp] theorem lasts_execRdup (w : BWord) (s : State) : Lasts s (execRdup w s) := by simp [execRdup]

@[simp] theorem lasts_execRswap (w : BWord) (s : State) : Lasts s (execRswap w s) := by simp [execRswap]

@[simp] theorem lasts_execRover (w : BWord) (s : State) : Lasts s (execRover w s) := by simp [execRover]

@[simp] theorem lasts_execRpushT (w : BWord) (s : State) : Lasts s (execRpushT w s) := by simp [execRpushT]

@[simp] theorem lasts_execRpushN (w : BWord) (s : State) : Lasts s (execRpushN w s) := by simp [execRpushN]

@[simp] theorem lasts_execAStep (w : BWord) (k : BitVec 9) (s : State) : Lasts s (execAStep w k s) := by simp [execAStep]

@[simp] theorem lasts_execAStepCirc (w : BWord) (k : BitVec 9) (s : State) :
    Lasts s (execAStepCirc w k s) := by simp [execAStepCirc]

@[simp] theorem lasts_execASetTos (w : BWord) (s : State) : Lasts s (execASetTos w s) := by simp [execASetTos]

@[simp] theorem lasts_execAAddTos (w : BWord) (s : State) : Lasts s (execAAddTos w s) := by simp [execAAddTos]

@[simp] theorem lasts_execASetNos (w : BWord) (s : State) : Lasts s (execASetNos w s) := by simp [execASetNos]

@[simp] theorem lasts_execASetRtos (w : BWord) (s : State) : Lasts s (execASetRtos w s) := by simp [execASetRtos]

@[simp] theorem lasts_execLbrk (w : BWord) (s : State) : Lasts s (execLbrk w s) := by simp [execLbrk]

/-! ### What lasts: register writes -/

@[simp] theorem lasting_after (s : State) (o : Host.Outcome State Fault Refusal) (h : Lasts s o) :
    lasting (after s o) = lasting s := by
  cases o with
  | next t => exact h t rfl
  | fault r => rfl
  | refused r => rfl

@[simp] theorem lasting_raiseBits (u : RUnit) (page : Nat) (hw : W32) (s : State) :
    lasting (raiseBits u page hw s) = lasting s := by simp [raiseBits]

@[simp] theorem lasting_snagMark (s : State) : lasting (snagMark s) = lasting s := by simp [snagMark]

@[simp] theorem lasting_bitCmds (v : W32) (s : State) (n : Nat) (fs : List (State → State))
    (h : ∀ f ∈ fs, ∀ u, lasting (f u) = lasting u) :
    lasting (bitCmds v s n fs) = lasting s := by
  induction fs generalizing s n with
  | nil => rfl
  | cons f fs ih =>
    simp only [bitCmds]
    rw [ih _ _ fun g hg => h g (by simp [hg])]
    split
    · exact h f (by simp) s
    · rfl

@[simp] theorem lasting_ringWrite (s : State) (off : Nat) (v : W32) (new : W32) :
    lasting (ringWrite s off v new) = lasting s := by simp [ringWrite]

@[simp] theorem lasting_nowCarried (s t : State) (page : Nat) (u : RUnit) : lasting (nowCarried s t page u) = lasting t := by
  simp [nowCarried]

@[simp] theorem lasting_dbgWrite (s : State) (off : Nat) (v : W32) (new : W32) :
    lasting (dbgWrite s off v new) = lasting s := by simp [dbgWrite]

@[simp] theorem lasting_writeHdr (u : RUnit) (page : Nat) (off : Nat) (v : W32) (hw : W32) (s : State) :
    lasting (writeHdr u page off v hw s) = lasting s := by
  simp only [writeHdr]
  (repeat' split) <;> simp

@[simp] theorem lasting_modeCmdWrite (who : Who) (v : W32) (s : State) : lasting (modeCmdWrite who v s) = lasting s := by
  unfold modeCmdWrite
  split <;> simp

@[simp] theorem lasting_rcCmdWrite (v : W32) (s : State) : lasting (rcCmdWrite v s) = lasting s := by
  unfold rcCmdWrite
  split <;> simp

@[simp] theorem lasting_writeRw (u : RUnit) (page : Nat) (i : Nat) (off : Nat) (v : W32) (new : W32) (s : State) :
    lasting (writeRw u page i off v new s) = lasting s := by
  unfold writeRw
  split <;> simp

@[simp] theorem lasting_scmdWrite (v : W32) (s : State) : lasting (scmdWrite v s) = lasting s := by
  unfold scmdWrite
  split <;> simp

/-! ### The commands that fuse -/

/-- What a step may do to the fuses (R635, R636, R641, R642). -/
def Moves (f g : Fuses) : Prop :=
  (g.fused = f.fused ∨ LcyState.next f.fused g.fused = true) ∧ f.svnFw ≤ g.svnFw ∧ f.svnTbl ≤ g.svnTbl ∧ f.svnCode ≤ g.svnCode ∧
    f.svnUcs ≤ g.svnUcs ∧ (f.killed = true → g.killed = true) ∧ (∀ r, f.ownerRoot = some r → g.ownerRoot = some r) ∧
    (∀ k, f.ktk = some k → g.ktk = some k) ∧ f.devTrips ≤ g.devTrips ∧ (f.devTrips ≤ 16 → g.devTrips ≤ 16)

theorem Moves.refl (f : Fuses) : Moves f f := by simp [Moves]

/-- A state whose queue is that of another, and whose fuses have at most moved on. -/
def Onward (s t : State) : Prop := t.pending = s.pending ∧ Moves s.fuses t.fuses

theorem lasting_eq_iff {s t : State} : lasting t = lasting s ↔ t.pending = s.pending ∧ t.fuses.fused = s.fuses.fused ∧
    t.fuses.devTrips = s.fuses.devTrips ∧ t.fuses.hrkRevoked = s.fuses.hrkRevoked ∧ t.fuses.killed = s.fuses.killed ∧
    t.fuses.ownerRoot = s.fuses.ownerRoot ∧ t.fuses.ktk = s.fuses.ktk ∧ t.fuses.svnFw = s.fuses.svnFw ∧
    t.fuses.svnUcs = s.fuses.svnUcs ∧ t.fuses.svnTbl = s.fuses.svnTbl ∧ t.fuses.svnCode = s.fuses.svnCode := by
  simp [lasting]

theorem Onward.congr {s s' t t' : State} (hs : lasting s' = lasting s) (ht : lasting t' = lasting t) (h : Onward s t) :
    Onward s' t' := by
  rw [lasting_eq_iff] at hs ht
  simpa [Onward, Moves, hs, ht] using h

theorem onward_of_lasting {s t : State} (h : lasting t = lasting s) : Onward s t :=
  .congr rfl h ⟨rfl, .refl _⟩

theorem onward_secCmd {s : State} {body : State → State} (h : Onward s (body s)) : Onward s (secCmd s body) := by
  unfold secCmd
  split_ifs
  · exact onward_of_lasting (by simp)
  · exact onward_of_lasting rfl
  · exact onward_of_lasting (by simp)
  · exact h

/-- A signer's result is 0, 5 or 11 (R639). -/
theorem signerResult_ne_two (s : State) (a : Nat) : signerResult s a ≠ 2 := by
  unfold signerResult
  generalize imgKind s a = kind, LcyState.ofCode? _ = o, List.getD _ 32 0 = b
  dsimp only
  split
  · split_ifs <;> decide
  · split_ifs <;> decide
  · split_ifs <;> decide
  · split_ifs <;> decide
  · cases o with
    | none => simp
    | some t => dsimp only; split_ifs <;> decide
  · split_ifs <;> decide
  · decide

theorem of_ite_eq {α : Type} {c : Prop} [Decidable c] {a b x : α} (h : (if c then a else b) = x) (ha : a ≠ x) : ¬ c ∧ b = x := by
  split at h
  · exact absurd h ha
  · exact ⟨‹_›, h⟩

/-- An image that passes has the kind asked for, and a signer that the life cycle admits. -/
theorem imgCheck_passed {s : State} {a kind : Nat} {m : Bool} (h : imgCheck s a kind m = 2) :
    imgKind s a = kind ∧ signerResult s a = 0 := by
  unfold imgCheck at h
  obtain ⟨-, h⟩ := of_ite_eq h (by decide)
  obtain ⟨-, h⟩ := of_ite_eq h (by decide)
  obtain ⟨hf, h⟩ := of_ite_eq h (by decide)
  obtain ⟨-, h⟩ := of_ite_eq h (by decide)
  obtain ⟨-, h⟩ := of_ite_eq h (by decide)
  obtain ⟨-, h⟩ := of_ite_eq h (by decide)
  obtain ⟨-, h⟩ := of_ite_eq h (by decide)
  obtain ⟨-, h⟩ := of_ite_eq h (by decide)
  obtain ⟨hs, -⟩ := of_ite_eq h (signerResult_ne_two s a)
  simp only [formatOk, Bool.not_eq_true, Bool.not_eq_false', decide_eq_true_eq] at hf
  exact ⟨hf.2.2.1, not_not.mp hs⟩

/-- A fused state that moves on, with a trip counted where `back` says so. -/
theorem moves_transition {f : Fuses} {n : LcyState} {back kill : Bool} (h : LcyState.next f.fused n = true)
    (hb : back = true → f.devTrips < 16) :
    Moves f { f with fused := n, devTrips := if back then f.devTrips + 1 else f.devTrips, killed := f.killed || kill } := by
  refine ⟨.inr h, le_rfl, le_rfl, le_rfl, le_rfl, by simp +contextual, fun _ h => h, fun _ h => h, ?_, ?_⟩
  · dsimp only
    split <;> omega
  · cases back with
    | true => exact fun _ => hb rfl
    | false => exact id

theorem onward_execSvnCommit {s t : State} (h : execSvnCommit s = .next t) : Onward s t := by
  obtain rfl := Host.Outcome.next.inj h
  refine onward_secCmd ?_
  split
  · exact onward_of_lasting (by simp)
  · refine .congr rfl (lasting_secEnd ..) ⟨rfl, ?_⟩
    simp [Moves]

theorem onward_execProvision {s t : State} (h : execProvision s = .next t) : Onward s t := by
  obtain rfl := Host.Outcome.next.inj h
  refine onward_secCmd ?_
  dsimp only
  split
  · exact onward_of_lasting (by simp)
  · rename_i hp
    obtain ⟨hk, hs⟩ := imgCheck_passed (not_not.mp hp)
    simp only [signerResult, hk] at hs
    split at hs
    · rename_i hf
      split
      · exact onward_of_lasting (by simp)
      · refine .congr rfl (lasting_secEnd ..) ⟨rfl, ?_⟩
        simp [Moves, hf]
    · cases hs

theorem lcyLegal_next {s : State} {n : LcyState} {g : Nat} (h : lcyLegal s n g = true) :
    LcyState.next s.fuses.fused n = true := by
  unfold lcyLegal at h
  cases hf : s.fuses.fused <;> cases n <;> simp_all [LcyState.next]

theorem lcyLegal_trips {s : State} {g : Nat} (h : lcyLegal s .manufacture g = true) (hf : s.fuses.fused = .develop) :
    s.fuses.devTrips < 16 := by
  simp only [lcyLegal, hf, decide_eq_true_eq] at h
  exact h.2

theorem onward_execApply {fuseOk wipeOk torn : Bool} {s t : State} (h : execApply fuseOk wipeOk torn s = .next t) :
    Onward s t := by
  obtain rfl := Host.Outcome.next.inj h
  split
  · exact onward_of_lasting (by simp)
  split
  · exact onward_of_lasting rfl
  split
  · exact onward_of_lasting (by simp)
  dsimp only
  split
  · exact onward_of_lasting (by simp)
  rename_i hp
  obtain ⟨hk, hs⟩ := imgCheck_passed (not_not.mp hp)
  generalize hu : endGrant _ = u
  have eu : lasting u = lasting s := by simp [← hu]
  split
  · exact onward_of_lasting eu
  rename_i n hn
  simp only [signerResult, hk, hn] at hs
  split at hs
  · rename_i hl
    split
    · refine onward_of_lasting ((lasting_wr ..).trans ?_)
      exact eu
    split
    · exact onward_of_lasting (by simp [eu])
    · refine .congr eu.symm (by rw [lasting_raiseIrq, lasting_wr]) (?_ : Onward u _)
      have ef : u.fuses.fused = s.fuses.fused := (lasting_eq_iff.mp eu).2.1
      have ed : u.fuses.devTrips = s.fuses.devTrips := (lasting_eq_iff.mp eu).2.2.1
      refine ⟨rfl, moves_transition (ef ▸ lcyLegal_next hl) fun hb => ?_⟩
      obtain ⟨hd, rfl⟩ := of_decide_eq_true hb
      exact ed ▸ lcyLegal_trips hl (ef ▸ hd)
  · cases hs

theorem onward_after {s : State} {o : Host.Outcome State Fault Refusal} (h : ∀ t, o = .next t → Onward s t) :
    Onward s (after s o) := by
  cases o with
  | next t => exact h t rfl
  | fault r => exact onward_of_lasting rfl
  | refused r => exact onward_of_lasting rfl

theorem onward_secCmdWrite (v : W32) (s : State) : Onward s (secCmdWrite v s) := by
  unfold secCmdWrite
  split
  case h_3 => exact onward_after fun _ h => onward_execSvnCommit h
  case h_7 => exact onward_after fun _ h => onward_execProvision h
  all_goals exact onward_of_lasting (by simp)

theorem onward_writeWo (who : Who) (u : RUnit) (i off : Nat) (v : W32) (s : State) : Onward s (writeWo who u i off v s) := by
  unfold writeWo
  dsimp only
  split
  case h_20 => exact onward_secCmdWrite v s
  case h_21 =>
    simp only [bitCmds]
    split
    · exact onward_after fun _ h => onward_execApply h
    · exact onward_of_lasting rfl
  all_goals exact onward_of_lasting (by simp)

theorem onward_writeUnit (who : Who) (u : RUnit) (page i off : Nat) (v hw : W32) (s : State) :
    Onward s (writeUnit who u page i off v hw s) := by
  unfold writeUnit
  split
  · exact onward_of_lasting rfl
  · dsimp only
    split
    · exact onward_of_lasting rfl
    · exact onward_writeWo ..
    · exact onward_of_lasting (by simp)
    · exact onward_of_lasting (by simp)
    · split <;> exact onward_of_lasting (by simp)

theorem onward_execRegisterWrite {w : RegWrite} {s t : State} (h : execRegisterWrite w s = .next t) : Onward s t := by
  obtain rfl := Host.Outcome.next.inj h
  split
  · exact onward_of_lasting rfl
  split
  · exact onward_of_lasting (by simp)
  split
  · exact onward_of_lasting (by simp)
  split
  · exact onward_of_lasting rfl
  dsimp only
  split
  · exact onward_of_lasting (by simp)
  split
  · exact onward_of_lasting (by simp)
  · exact .congr (s' := s) rfl rfl (onward_writeUnit ..)

/-- Every command but the four that fuse leaves the fuses' lasting part, row by row of the opcode table. -/
theorem onward_exec (c : Instr) {s t : State} (h : exec c s = .next t) : Onward s t := by
  cases c with
  | registerWrite => exact onward_execRegisterWrite h
  | svnCommit => exact onward_execSvnCommit h
  | provision => exact onward_execProvision h
  | apply => exact onward_execApply h
  | _ => exact onward_of_lasting ((by simp [exec] : Lasts s _) t h)

/-- A step's effect is its front command's, on the state with the queue's rest. -/
theorem onward_step {s t : State} (h : step s = .next t) : t.pending = s.pending.tail ∧ Moves s.fuses t.fuses := by
  unfold step at h
  split at h
  · obtain rfl := Host.Outcome.next.inj h
    exact ⟨by simp [*], .refl _⟩
  · rename_i hp
    obtain ⟨hq, hm⟩ := onward_exec _ h
    exact ⟨by simp [hp, hq], hm⟩

end Sys2Proof.Machine
end

section
namespace Sys2Proof
open Machine

/-- Settles O39: no command but the one a step takes changes the queue (`onward_exec`). -/
theorem queueStaysWellFormed : Obligations.QueueStaysWellFormed := by
  intro s t hwf h
  obtain ⟨hq, -⟩ := onward_step h
  exact ⟨hq, fun c hc => hwf c (List.mem_of_mem_tail (hq ▸ hc))⟩

/-- Settles O40: the commands that fuse are APPLY, SVN_COMMIT and PROVISION, given as events or by a register write, and each
only moves the fuses on; the torn blow and the state in force are no fuses of the statement. -/
theorem fusesOnlyMoveForward : Obligations.FusesOnlyMoveForward := by
  intro s t h
  exact (onward_step h).2

/-- Settles O37, by the definition of `step`. -/
theorem stepTakesTheFrontCommand : Obligations.StepTakesTheFrontCommand := by
  exact ⟨fun c q s h => by simp [step, h], fun s h => by simp [step, h]⟩
end Sys2Proof
end

section
namespace Sys2Proof
open Machine

/-- Settles O38: at reset every map lists nothing, so each place reads its default. -/
theorem resetHoldsTheSpecifiedState : Obligations.ResetHoldsTheSpecifiedState := by
  refine ⟨rfl, rfl, memory_reset, fun c => ?_, fun p o => rfl, fun a => rfl, rfl, rfl⟩
  have hc : Machine.core State.reset c = Core.reset := rfl
  exact ⟨hc, by rw [hc]; rfl⟩
end Sys2Proof
end

section
namespace Sys2Proof.Machine

section
variable {s : State} {page i : Nat} {u : RUnit} (hpage : pageUnit page = some (u, i))
include hpage

/-- A write of the header reaches a page with power. -/
theorem hdrWrite_powered (hpow : pagePowered s page = true) {whole : Bool} (hwhole : (u.shortHeader && whole) = false)
    (f : RUnit → Nat → State) : hdrWrite s page whole f = f u i := by
  simp [hdrWrite, hpage, hpow, hwhole]

theorem hdrWrite_unpowered (hpow : pagePowered s page = false) {whole : Bool} (hwhole : (u.shortHeader && whole) = false)
    (f : RUnit → Nat → State) : hdrWrite s page whole f = warnEvent s page := by
  simp [hdrWrite, hpage, hpow, hwhole]

end

/-- ERR_INJECT: the errors below `k` whose bit is written arise, one after the other. -/
def injected (page : Nat) (v : W32) (s : State) (k : Nat) : State :=
  (List.range k).foldl (fun t n => if bit v n then raiseErr t page n 0 [] true else t) s

theorem injected_succ (page : Nat) (v : W32) (s : State) (k : Nat) : injected page v s (k + 1) =
    if bit v k then raiseErr (injected page v s k) page k 0 [] true else injected page v s k := by
  simp [injected, List.range_succ]

theorem injected_frame (page : Nat) (v : W32) (s : State) (k : Nat) : injected page v s k =
    { s with regs := (injected page v s k).regs, selv := { s.selv with occ := (injected page v s k).selv.occ } } := by
  induction k with
  | zero => rfl
  | succ k ih =>
    rw [injected_succ]
    split
    · rw [raiseErr_frame, ih]
    · exact ih

theorem rdB_injected (page : Nat) (v : W32) (s : State) (k : Nat) {n : Nat} (hn : n < 32) :
    rdB (injected page v s k) page 0x010 n = (rdB s page 0x010 n || (decide (n < k) && bit v n)) := by
  induction k with
  | zero => simp [injected]
  | succ k ih =>
    rw [injected_succ]
    split
    · rw [rdB_raiseErr _ _ _ _ _ _ _ hn, ih]
      grind
    · rw [ih]
      grind

theorem rd_injected_other (page : Nat) (v : W32) (s : State) (k : Nat) {q o : Nat} (ho : o < 0x1000)
    (h : q ≠ page ∨ o ≠ 0x010) : rd (injected page v s k) q o = rd s q o := by
  induction k with
  | zero => rfl
  | succ k ih =>
    rw [injected_succ]
    split
    · rw [rd_raiseErr_other _ _ _ _ _ _ _ _ ho h, ih]
    · exact ih

end Sys2Proof.Machine

namespace Sys2Proof
open Machine

/-- Settles O26: a header command is its unit's work on a powered page and a warning event on another (`hdrWrite_powered`,
`hdrWrite_unpowered`); an injection goes through the error bits one by one. -/
theorem headerCommandsActOnPoweredPages : Obligations.HeaderCommandsActOnPoweredPages := by
  intro s page i u v hpage
  refine ⟨fun hpow hmode hlock hsame => ?_, fun hpow hshort hsnag => ?_, fun hpow hshort => ?_, fun hpow => ?_⟩
  · refine congrArg _ ((hdrWrite_powered hpage hpow (by simp) _).trans ?_)
    cases h : bit v 0 <;> simp [hmode, hlock, hsame, h]
  · refine ⟨injected page v s u.nErr, congrArg _ ((hdrWrite_powered hpage hpow (by simp [hshort]) _).trans ?_),
      fun n hn => rdB_injected _ _ _ _ hn, fun q o ho h => rd_injected_other _ _ _ _ ho h, injected_frame ..⟩
    simp [hsnag, injected]
  · exact ⟨congrArg _ (hdrWrite_powered hpage hpow (by simp [hshort]) _),
      congrArg _ (hdrWrite_powered hpage hpow (by simp [hshort]) _)⟩
  · exact ⟨congrArg _ (hdrWrite_unpowered hpage hpow (by simp) _), fun hshort =>
      ⟨congrArg _ (hdrWrite_unpowered hpage hpow (by simp [hshort]) _),
        congrArg _ (hdrWrite_unpowered hpage hpow (by simp [hshort]) _),
        congrArg _ (hdrWrite_unpowered hpage hpow (by simp [hshort]) _)⟩⟩
end Sys2Proof
end

section
namespace Sys2Proof.Machine

/-- A bit field from bit 0 is a remainder. -/
theorem bits_zero (v : W32) (w : Nat) : bits v 0 w = v.toNat % 2 ^ w := by simp [bits]

/-- The state after a kick that finds the watchdog counting and makes it due at `d`, at the time `n`. -/
def kickedAt (s : State) (d n : Nat) : State :=
  { s with now := n, selv := { s.selv with wdogOn := true, wdogPre := false, wdogDue := d } }

theorem wdogRuns_kickedAt {s : State} (hheld : s.selv.wdogHeld = none) (d n : Nat) :
    wdogRuns (kickedAt s d n) = rdB s pgSELV 0x080 3 := by
  have h : (kickedAt s d n).selv.wdogHeld = none := hheld
  have g : rdB (kickedAt s d n) pgSELV 0x080 3 = rdB s pgSELV 0x080 3 := rfl
  rw [wdogRuns, h, g]
  simp [kickedAt]

theorem wdogPeriod_kickedAt (s : State) (d n : Nat) : wdogPeriod (kickedAt s d n) = wdogPeriod s := rfl

section
variable {s : State} (hmode : curMode s ≠ .off)
include hmode

theorem execSelvWdogKick_key {v : W32} (hkey : v.toNat % 256 = 0xA5) (hheld : s.selv.wdogHeld = none) :
    execSelvWdogKick v s = .next (kickedAt s (s.now + wdogPeriod s) s.now) := by
  simp [execSelvWdogKick, kickedAt, bits_zero, hmode, hkey, hheld]

theorem execSelvWdogKick_other {v : W32} (hkey : v.toNat % 256 ≠ 0xA5) : execSelvWdogKick v s = .next (warnEvent s pgSELV) := by
  simp [execSelvWdogKick, bits_zero, hmode, hkey]

theorem execEngineWdogPre_due (hrun : wdogRuns s = true) (hpre : s.selv.wdogPre = false)
    (hdue : s.selv.wdogDue ≤ s.now + wdogPeriod s / 2) :
    execEngineWdogPre s = .next (raiseIrq { s with selv := { s.selv with wdogPre := true } } pgSELV 5) := by
  rw [execEngineWdogPre, if_pos ⟨hmode, hrun, hpre, hdue⟩]

theorem execEngineWdogExpire_due (hrun : wdogRuns s = true) (hdue : s.selv.wdogDue ≤ s.now) :
    execEngineWdogExpire s = .next (raiseErr { s with selv := { s.selv with wdogOn := false } } pgSELV 6) := by
  rw [execEngineWdogExpire, if_pos ⟨hmode, hrun, hdue⟩]

end

section
variable {s : State}

theorem execEngineWdogPre_early (h : wdogRuns s = false ∨ s.now + wdogPeriod s / 2 < s.selv.wdogDue) :
    execEngineWdogPre s = .next s := by
  refine congrArg _ (if_neg fun ⟨_, hrun, _, hdue⟩ => ?_)
  rcases h with h | h
  · simp [h] at hrun
  · omega

theorem execEngineWdogExpire_early (h : wdogRuns s = false ∨ s.now < s.selv.wdogDue) : execEngineWdogExpire s = .next s := by
  refine congrArg _ (if_neg fun ⟨_, hrun, hdue⟩ => ?_)
  rcases h with h | h
  · simp [h] at hrun
  · omega

end

/-- The watchdog, from a kick on that makes it due at `d`: what its two marks do at the time `n`. -/
theorem wdogMarks_kickedAt {s : State} (hmode : curMode s ≠ .off) (hheld : s.selv.wdogHeld = none) (d n : Nat) :
    let u := kickedAt s d n
    (rdB s pgSELV 0x080 3 = true →
      (d ≤ n + wdogPeriod s / 2 →
        execEngineWdogPre u = .next (raiseIrq { u with selv := { u.selv with wdogPre := true } } pgSELV 5)) ∧
      (n + wdogPeriod s / 2 < d → execEngineWdogPre u = .next u) ∧
      (d ≤ n → execEngineWdogExpire u = .next (raiseErr { u with selv := { u.selv with wdogOn := false } } pgSELV 6)) ∧
      (n < d → execEngineWdogExpire u = .next u)) ∧
    (rdB s pgSELV 0x080 3 = false → execEngineWdogPre u = .next u ∧ execEngineWdogExpire u = .next u) := by
  have hrun := wdogRuns_kickedAt hheld d n
  have hper := wdogPeriod_kickedAt s d n
  refine ⟨fun hen => ?_, fun hen => ?_⟩ <;> rw [hen] at hrun
  · exact ⟨fun h => execEngineWdogPre_due hmode hrun rfl (hper ▸ h), fun h => execEngineWdogPre_early (.inr (hper ▸ h)),
      fun h => execEngineWdogExpire_due hmode hrun h, fun h => execEngineWdogExpire_early (.inr h)⟩
  · exact ⟨execEngineWdogPre_early (.inl hrun), execEngineWdogExpire_early (.inl hrun)⟩

/-- PERIOD is 100 at reset. -/
theorem regReset_wdogPeriod : regReset (rkey pgSELV 0x0D4) = 100 := by decide

/-- R591: the watchdog pauses in DEVELOP alone. -/
theorem develop_of_wdogPaused {s : State} (h : wdogPaused s = true) : s.fuses.state = .develop := by
  simp only [wdogPaused, Bool.and_eq_true, decide_eq_true_eq] at h
  exact h.1.1

end Sys2Proof.Machine

namespace Sys2Proof
open Machine

/-- Settles O44: a kick sets the time at which the watchdog is due, and its two marks ask whether half the period before it,
or it, has come (`wdogMarks_kickedAt`). -/
theorem engineWatchdogExpiresAfterItsPeriod : Obligations.EngineWatchdogExpiresAfterItsPeriod :=
  ⟨regReset_wdogPeriod, fun _ h => develop_of_wdogPaused h, fun _ hmode =>
    ⟨fun _ hkey => execSelvWdogKick_other hmode hkey,
      fun _ hkey hheld => ⟨execSelvWdogKick_key hmode hkey hheld, fun n => wdogMarks_kickedAt hmode hheld _ n⟩⟩⟩

end Sys2Proof
end

section
namespace Sys2Proof.Machine

section
variable {s : State} (hready : SecReady s)
include hready

/-- SEC takes a command: it does the command's work. -/
theorem secCmd_ready (body : State → State) : secCmd s body = body s := by
  obtain ⟨hpow, hidle, hserves⟩ := hready
  simp [secCmd, hpow, hidle, hserves]

end

/-- The end of a command that succeeds raises no error. -/
@[simp] theorem secEnd_two (s : State) : secEnd s 2 = secDone s := rfl

/-- The fuses after SVN_COMMIT in CONFIGURE or SERVICE (R641). -/
def svnRaised (s : State) : Fuses := { s.fuses with
  svnFw := max s.fuses.svnFw (imgSvnOf s.sec.fw)
  svnTbl := max s.fuses.svnTbl (imgSvnOf s.sec.tbl)
  svnCode := max s.fuses.svnCode (imgSvnOf s.sec.code)
  svnUcs := max s.fuses.svnUcs (max (patchSvn s.ucs.pil) (patchSvn s.ucs.spn)) }

theorem execSvnCommit_done {s : State} (hready : SecReady s) (hmode : (curMode s).cfgSvc = true) :
    execSvnCommit s = .next (secDone { s with fuses := svnRaised s }) := by
  rw [execSvnCommit, secCmd_ready hready, hmode]
  rfl

theorem execSvnCommit_refused {s : State} (hready : SecReady s) (hmode : (curMode s).cfgSvc = false) :
    execSvnCommit s = .next (raiseIrq (wr s pgSEC 0x098 3) pgSEC 0) := by
  rw [execSvnCommit, secCmd_ready hready, hmode]
  rfl

end Sys2Proof.Machine

namespace Sys2Proof
open Machine

/-- Settles O45: each counter becomes the greater of itself and the SVN in use. That the image of code in use is the latest
loaded is the choice of log entries 68 and 161. -/
theorem svnCommitRaisesTheCounters : Obligations.SvnCommitRaisesTheCounters := by
  intro s hready used patch
  have hused : used = imgSvnOf := by funext i; cases i <;> rfl
  have hpatch : patch = patchSvn := by funext p; cases p <;> rfl
  rw [hused, hpatch]
  refine ⟨fun hmode => ⟨svnRaised s, execSvnCommit_done hready hmode, rfl, rfl, rfl, rfl, rfl, ?_⟩,
    fun hmode => execSvnCommit_refused hready hmode⟩
  exact ⟨Nat.max_le_of_le_of_le, Nat.max_le_of_le_of_le, Nat.max_le_of_le_of_le,
    fun h hp hs => Nat.max_le_of_le_of_le h (Nat.max_le_of_le_of_le hp hs)⟩

end Sys2Proof
end

section
namespace Sys2Proof.Machine

/-- A key serves: its period holds the time, or its limits are the widest while there is none (R646). -/
theorem keyInPeriod_iff (s : State) (k : KeyEnt) : keyInPeriod s k = true ↔
    (s.stc.st = .unset → k.nb = 0 ∧ k.na = 0xFFFFFFFFFFFF) ∧
      (s.stc.st ≠ .unset → k.nb ≤ secOf s.stc.cnt ∧ secOf s.stc.cnt < k.na) := by
  unfold keyInPeriod
  split <;> simp [*]

/-- KEY_INFO is read through the unit's own answer. -/
theorem readReg_keyInfo {s : State} (hmode : curMode s ≠ .off) (hpow : pagePowered s pgKEY = true) :
    readReg s pgKEY 0x098 = readKey s 0x098 := by
  have hpage : pageUnit pgKEY = some (.key, 0) := rfl
  have hacc : (RUnit.key.row? 0x098).map (·.acc) = some .ro := by decide
  obtain ⟨r, hr, hro⟩ := Option.map_eq_some_iff.mp hacc
  have hpg : (if 0x600 ≤ pgKEY ∧ pgKEY < 0x800 then pgKEY - 0x400 else pgKEY) = pgKEY := by decide
  simp only [readReg, hpg, hpage, hpow, hr, hro, if_neg hmode]
  rfl

/-- Bit 5 of KEY_INFO stands above the algorithm, the length of the tag and the valid bit. -/
theorem bit_keyInfo (a t : Nat) (b : Bool) : bit (w32 (a % 4 + t % 4 * 2 ^ 2 + 2 ^ 4 + at' b 5)) 5 = b := by
  cases b <;> simp [bit, at', w32] <;> omega

/-- Bit 5 of KEY_INFO says whether the entry of KEY_SEL serves. -/
theorem bit_readKey {s : State} {k : KeyEnt} (hk : SMap.get s.sec.keys none (rdF s pgKEY 0x094 0 10) = some k) :
    bit (readKey s 0x098) 5 = keyInPeriod s k := by
  simp only [readKey, hk, bit_keyInfo]

theorem authOk_serves {s : State} {x : AuthExt} (h : authOk s (some x) = true) :
    ∃ e ∈ s.sec.keys, ∃ k, e.2 = some k ∧ k.kid = x.kid ∧ k.alg = x.alg ∧ keyInPeriod s k = true := by
  obtain ⟨e, he, hk⟩ := List.any_eq_true.mp h
  refine ⟨e, he, ?_⟩
  cases hek : e.2 with
  | none => simp [hek] at hk
  | some k =>
    simp only [hek, Bool.and_eq_true, decide_eq_true_eq] at hk
    obtain ⟨⟨⟨hkid, halg, -⟩, hin⟩, -⟩ := hk
    exact ⟨k, rfl, hkid, halg, hin⟩

section
variable {s : State} (hpow : pagePowered s pgKEY = true)
include hpow

theorem execKeyErase_serving (hserves : secServes s = true) : execKeyErase s =
    .next { s with sec := { s.sec with keys := SMap.set s.sec.keys none (rdF s pgKEY 0x094 0 10) none } } := by
  simp [execKeyErase, hpow, hserves]

theorem execKeyEraseAll_serving (hserves : secServes s = true) :
    execKeyEraseAll s = .next { s with sec := { s.sec with keys := [] } } := by
  simp [execKeyEraseAll, hpow, hserves]

theorem execKeyErase_refused (hserves : secServes s = false) : execKeyErase s = .next (wr s pgKEY 0x090 3) := by
  simp [execKeyErase, hpow, hserves]

theorem execKeyEraseAll_refused (hserves : secServes s = false) : execKeyEraseAll s = .next (wr s pgKEY 0x090 3) := by
  simp [execKeyEraseAll, hpow, hserves]

end
end Sys2Proof.Machine

namespace Sys2Proof
open Machine

/-- Settles O46: KEY_INFO and the search of an authentication ask the same of a key's period (`keyInPeriod_iff`). -/
theorem keysServeTheirPeriodAndAreErased : Obligations.KeysServeTheirPeriodAndAreErased := by
  intro s hmode hpow entry sel served
  refine ⟨fun k hk => ?_, fun x hx => ?_, fun hserves => ⟨⟨_, execKeyErase_serving hpow hserves, fun i => ?_, rfl⟩,
    _, execKeyEraseAll_serving hpow hserves, fun i => rfl, rfl⟩, fun hserves =>
    ⟨execKeyErase_refused hpow hserves, execKeyEraseAll_refused hpow hserves⟩⟩
  · rw [readReg_keyInfo hmode hpow, bit_readKey hk]
    exact keyInPeriod_iff s k
  · obtain ⟨e, he, k, hk, hkid, halg, hin⟩ := authOk_serves hx
    exact ⟨e, he, k, hk, hkid, halg, (keyInPeriod_iff s k).mp hin⟩
  · exact SMap.get_set s.sec.keys none none sel i
end Sys2Proof
end

section
namespace Sys2Proof.Machine

/-! ### Writes by the row of the register -/

/-- A write of an aligned word from offset 0x080 up to a page with power, at a row of its table: access, mask and lock. -/
def rowAt (u : RUnit) (off : Nat) : Option (Acc × Nat × Lock) := (u.row? off).map fun r => (r.acc, r.mask, r.lock)

theorem row?_of_rowAt {u : RUnit} {off m : Nat} {a : Acc} {l : Lock} (h : rowAt u off = some (a, m, l)) :
    ∃ r, u.row? off = some r ∧ r.acc = a ∧ r.mask = m ∧ r.lock = l := by
  obtain ⟨r, hr, he⟩ := Option.map_eq_some_iff.mp h
  cases he
  exact ⟨r, hr, rfl, rfl, rfl⟩

section
variable {s : State} {who : Who} {u : RUnit} {page i off m : Nat} {v hw : W32} {l : Lock}

theorem writeUnit_locked (hrow : rowAt u off = some (.rw, m, l)) (h : lockOpen s l = false) :
    writeUnit who u page i off v hw s = warnEvent s page := by
  obtain ⟨r, hr, ha, hm, hl⟩ := row?_of_rowAt hrow
  simp [writeUnit, hr, ha, hl, h]

theorem writeUnit_refused (hrow : rowAt u off = some (.rw, m, l)) (h : valueRefused u off v = true) :
    writeUnit who u page i off v hw s = warnEvent s page := by
  obtain ⟨r, hr, ha, hm, hl⟩ := row?_of_rowAt hrow
  simp [writeUnit, hr, ha, h]

theorem writeUnit_open (hrow : rowAt u off = some (.rw, m, l)) (h : lockOpen s l = true) (hv : valueRefused u off v = false) :
    writeUnit who u page i off v hw s =
      writeRw u page i off v ((rd s page off &&& ~~~ w32 m) ||| (v &&& w32 m)) s := by
  obtain ⟨r, hr, ha, hm, hl⟩ := row?_of_rowAt hrow
  simp [writeUnit, hr, ha, hl, hm, h, hv]

theorem writeUnit_wo (hrow : rowAt u off = some (.wo, m, l)) : writeUnit who u page i off v hw s = writeWo who u i off v s := by
  obtain ⟨r, hr, ha, -⟩ := row?_of_rowAt hrow
  simp [writeUnit, hr, ha]

/-- A clear of status bits leaves those that hardware sets in its cycle (R6); SELV_SUMMARY clears fewer bits than it has. -/
theorem writeUnit_w1c (hrow : rowAt u off = some (.w1c, m, l)) {own : W32}
    (hown : own = if u = .selv ∧ off = 0x088 then 0x000FFFFF else w32 m) : writeUnit who u page i off v hw s =
      wr s page off ((rd s page off &&& ~~~ (v &&& own)) ||| (hw &&& own)) := by
  obtain ⟨r, hr, ha, hm, -⟩ := row?_of_rowAt hrow
  simp [writeUnit, hr, ha, hm, hown]

end

theorem valueRefused_quiet (v : W32) : valueRefused .selv 0x0CC v = decide (bits v 0 10 < 1 ∨ 1000 < bits v 0 10) := by
  simp only [valueRefused, decide_true, Bool.true_and]

theorem valueRefused_pgLead (v : W32) : valueRefused .pwr 0x088 v = decide (bits v 0 8 < 5) := by
  simp only [valueRefused, decide_true, Bool.true_and]

theorem valueRefused_pwr (v : W32) {off : Nat} (h : off ≠ 0x088) : valueRefused .pwr off v = false := by
  simp [valueRefused, h]

theorem writeRw_selv (page i : Nat) (v new : W32) (s : State) {off : Nat} (h : off ≠ 0x0D0) :
    writeRw .selv page i off v new s = wr s page off new := by
  unfold writeRw
  split <;> simp_all

theorem writeRw_pwr (page i off : Nat) (v new : W32) (s : State) : writeRw .pwr page i off v new s = wr s page off new := rfl

theorem writeRw_sec (page i off : Nat) (v new : W32) (s : State) : writeRw .sec page i off v new s = wr s page off new := rfl

/-! ### What a warning event leaves -/

theorem rd_submit_other (s : State) (r : Soe) {q o : Nat} (ho : o < 0x1000) (h : q ≠ pgNVR ∨ o ≠ 0x024) :
    rd (submit s r) q o = rd s q o := by
  unfold submit
  split
  · rfl
  · exact rd_raiseIrq_other _ _ _ _ ho h

/-- A warning event writes the Selvedge's code, count and interrupt; a queue of records that is full, the store's interrupt. -/
theorem rd_warnEvent_other (s : State) (p : Nat) {q o : Nat} (ho : o < 0x1000) (hn : q ≠ pgNVR ∨ o ≠ 0x024)
    (hs : q ≠ pgSELV ∨ o ∉ [0x024, 0x0C0, 0x0C4, 0x0F4]) : rd (warnEvent s p) q o = rd s q o := by
  have hne {o' : Nat} (h' : o' ∈ [0x024, 0x0C0, 0x0C4, 0x0F4]) : rkey q o ≠ rkey pgSELV o' := by
    rw [Ne, rkey_inj ho (by revert o'; decide)]
    rintro ⟨rfl, rfl⟩
    exact hs.elim (· rfl) (· h')
  unfold warnEvent
  split
  · rfl
  · dsimp only
    rw [soe, soeAt, rd_submit_other _ _ ho hn]
    simp [hne, bump, raiseIrq, rd_wr_other]

/-! ### Writes of the locked registers -/

/-- A write of a whole word by an agent other than the debug unit. -/
def wordWrite (who : Who) (v hw : W32) (page off : Nat) : Instr := .registerWrite ⟨who, page, off, 4, v, hw⟩

section
variable {s : State} {who : Who} {page off m : Nat} {v hw : W32} {u : RUnit} {i : Nat}
  (hwho : who ≠ .debug) (hmode : curMode s ≠ .off) (hpow : pagePowered s page = true) (hpage : pageUnit page = some (u, i))
  (ho : 0x080 ≤ off ∧ off < 0x1000 ∧ off % 4 = 0)
include hwho hmode hpow hpage ho

theorem exec_wordWrite : exec (wordWrite who v hw page off) s =
    .next (writeUnit who u page i off v hw { s with lastAccess := .none }) := by
  obtain ⟨hl, hh, ha⟩ := ho
  exact (execRegisterWrite_page (w := ⟨who, page, off, 4, v, hw⟩) hmode hwho rfl ha hl hh hpage).trans (by rw [if_pos hpow])

theorem exec_wordWrite_locked (hrow : rowAt u off = some (.rw, m, .cfgSvc)) (hlock : (curMode s).cfgSvc = false) :
    exec (wordWrite who v hw page off) s = .next (warnEvent { s with lastAccess := .none } page) := by
  exact (exec_wordWrite hwho hmode hpow hpage ho).trans (congrArg _ (writeUnit_locked hrow hlock))

/-- A refused value leaves the register (the warning event writes others). -/
theorem exec_wordWrite_refused {l : Lock} (hrow : rowAt u off = some (.rw, m, l)) (hv : valueRefused u off v = true)
    (hn : page ≠ pgNVR ∨ off ≠ 0x024) (hs : page ≠ pgSELV ∨ off ∉ [0x024, 0x0C0, 0x0C4, 0x0F4]) :
    ∃ t, exec (wordWrite who v hw page off) s = .next t ∧ rd t page off = rd s page off :=
  ⟨_, (exec_wordWrite hwho hmode hpow hpage ho).trans (congrArg _ (writeUnit_refused hrow hv)),
    rd_warnEvent_other _ _ ho.2.1 hn hs⟩

/-- A write of a register whose lock is open sets the fields that it has. -/
theorem exec_wordWrite_sets {l : Lock} (hrow : rowAt u off = some (.rw, m, l)) (hlock : lockOpen s l = true)
    (hv : valueRefused u off v = false) {mask : W32} (hmask : w32 m = mask)
    (hrw : ∀ new t, writeRw u page i off v new t = wr t page off new) :
    exec (wordWrite who v hw page off) s =
      .next (wr { s with lastAccess := .none } page off ((rd s page off &&& ~~~ mask) ||| (v &&& mask))) := by
  rw [← hmask]
  exact (exec_wordWrite hwho hmode hpow hpage ho).trans (congrArg _
    ((writeUnit_open (s := { s with lastAccess := .none }) hrow hlock hv).trans (hrw ..)))

end

/-- A write of the common header. -/
theorem exec_wordWrite_header {s : State} {who : Who} {page off i : Nat} {v hw : W32} {u : RUnit} (hwho : who ≠ .debug)
    (hmode : curMode s ≠ .off) (hpow : pagePowered s page = true) (hpage : pageUnit page = some (u, i))
    (ho : off < 0x080 ∧ off % 4 = 0) : exec (wordWrite who v hw page off) s =
      .next (writeHdr u page off v hw { s with lastAccess := .none }) := by
  obtain ⟨hl, ha⟩ := ho
  have hplace : off < 0x1000 := by omega
  simp [exec, wordWrite, execRegisterWrite, hmode, hwho, ha, hplace, not_aperture_of_pageUnit hpage, hpage, hpow, hl]

/-- A clear of status bits of the Selvedge, by the bits that it may clear. -/
theorem exec_wordWrite_clears {s : State} {who : Who} {v hw : W32} (hwho : who ≠ .debug) (hmode : curMode s ≠ .off)
    {off m : Nat} {l : Lock} {own : W32} (ho : 0x080 ≤ off ∧ off < 0x1000 ∧ off % 4 = 0)
    (hrow : rowAt .selv off = some (.w1c, m, l)) (hown : own = if off = 0x088 then 0x000FFFFF else w32 m) :
    exec (wordWrite who v hw pgSELV off) s = .next (wr { s with lastAccess := .none } pgSELV off
      ((rd s pgSELV off &&& ~~~ (v &&& own)) ||| (hw &&& own))) :=
  (exec_wordWrite hwho hmode (page := pgSELV) (decide_eq_true hmode) rfl ho).trans
    (congrArg _ (writeUnit_w1c hrow (hown.trans (by simp))))

/-- A command of SEC is ignored while RESULT is 1 (R653). -/
theorem secCmd_busy {s : State} (hpow : pagePowered s pgSEC = true) (hbusy : rdF s pgSEC 0x098 0 4 = 1) (body : State → State) :
    secCmd s body = s := by
  simp [secCmd, hpow, hbusy]

end Sys2Proof.Machine

namespace Sys2Proof
open Machine

/-- Settles O43, register by register: the row of its table (`rowAt`) says which of the writes above it is. That a refused
value leaves the register, and one out of range is taken as written, are the choices of log entries 14 and 173. -/
theorem lockedRegistersAreWrittenInTheirModes : Obligations.LockedRegistersAreWrittenInTheirModes := by
  intro s who v hw hwho hmode s0 put merged ignored sets refuses clears
  have hselv : pagePowered s pgSELV = true := decide_eq_true hmode
  have hpwr : pagePowered s pgPWR = true := decide_eq_true hmode
  have hcfg : ∀ p < 16, rowAt .pwr (0x100 + 8 * p) = some (.rw, 0x7FF0001, .cfgSvc) := by decide
  refine ⟨fun hlock => ?_, fun hopen => ?_, ?_, fun hsec hbusy => ?_⟩
  · have locked {page off m i : Nat} {u : RUnit} := exec_wordWrite_locked (s := s) (who := who) (page := page)
      (off := off) (v := v) (hw := hw) (u := u) (m := m) (i := i) hwho hmode (hlock := hlock)
    simp only [List.forall_mem_cons, List.not_mem_nil, false_imp_iff, implies_true, and_true]
    refine ⟨⟨?_, ?_, ?_, ?_, ?_⟩, ⟨?_, ?_, ?_⟩, fun p hp => ?_, fun hsec => ?_⟩
    · exact locked hselv rfl (by decide) (m := 0xF) (by decide)
    · exact locked hselv rfl (by decide) (m := 0xFF0F) (by decide)
    · exact locked hselv rfl (by decide) (m := 0xFF0F03FF) (by decide)
    · exact locked hselv rfl (by decide) (m := 0x3FF0001) (by decide)
    · exact locked hselv rfl (by decide) (m := 0x3FF) (by decide)
    · exact locked hpwr rfl (by decide) (m := 0x3) (by decide)
    · exact locked hpwr rfl (by decide) (m := 0xFF) (by decide)
    · exact locked hpwr rfl (by decide) (m := 0xFF) (by decide)
    · exact locked hpwr rfl (by omega) (hcfg p hp)
    · exact locked hsec rfl (by decide) (m := 0x3) (by decide)
  · have set {page off m : Nat} {mask : W32} {i : Nat} {u : RUnit} := exec_wordWrite_sets (s := s) (who := who) (page := page)
      (off := off) (v := v) (hw := hw) (u := u) (m := m) (i := i) (mask := mask) (l := .cfgSvc) hwho hmode (hlock := hopen)
    have hrw {off : Nat} (h : off ≠ 0x0D0) (new t) := writeRw_selv pgSELV 0 v new t h
    refine ⟨?_, ?_, ?_, fun hq => ?_, fun hq => ?_, ?_, ?_, ?_, fun hl => ?_, fun hl => ?_, fun p hp => ?_, fun hsec => ?_⟩
    · exact set hselv rfl (by decide) (m := 0xF) (by decide) (by rfl) rfl (hrw (by decide))
    · exact set hselv rfl (by decide) (m := 0xFF0F) (by decide) (by rfl) rfl (hrw (by decide))
    · exact set hselv rfl (by decide) (m := 0x3FF) (by decide) (by rfl) rfl (hrw (by decide))
    · exact set hselv rfl (by decide) (m := 0xFF0F03FF) (by decide)
        ((valueRefused_quiet v).trans (decide_eq_false (by omega))) rfl (hrw (by decide))
    · exact exec_wordWrite_refused hwho hmode hselv rfl (by decide) (m := 0xFF0F03FF) (l := .cfgSvc) (by decide)
        ((valueRefused_quiet v).trans (decide_eq_true hq)) (by decide) (by decide)
    · exact (exec_wordWrite hwho hmode hselv rfl (by decide)).trans
        (congrArg _ (writeUnit_open (m := 0x3FF0001) (l := .cfgSvc) (by decide) hopen (by rfl)))
    · exact set hpwr rfl (by decide) (m := 0x3) (by decide) (by rfl) rfl (writeRw_pwr _ _ _ _)
    · exact set hpwr rfl (by decide) (m := 0xFF) (by decide) (by rfl) rfl (writeRw_pwr _ _ _ _)
    · exact set hpwr rfl (by decide) (m := 0xFF) (by decide)
        ((valueRefused_pgLead v).trans (decide_eq_false (by omega))) rfl (writeRw_pwr _ _ _ _)
    · exact exec_wordWrite_refused hwho hmode hpwr rfl (by decide) (m := 0xFF) (l := .cfgSvc) (by decide)
        ((valueRefused_pgLead v).trans (decide_eq_true hl)) (by decide) (by decide)
    · exact set hpwr rfl (by omega) (hcfg p hp) (valueRefused_pwr v (by omega)) rfl (writeRw_pwr _ _ _ _)
    · exact set hsec rfl (by decide) (m := 0x3) (by decide) (by rfl) rfl (writeRw_sec _ _ _ _)
  · have bits {off m : Nat} {own : W32} := exec_wordWrite_clears (s := s) (who := who) (off := off) (v := v)
      (hw := hw) (m := m) (own := own) (l := .any) hwho hmode
    simp only [List.forall_mem_cons, List.not_mem_nil, false_imp_iff, implies_true, and_true]
    refine ⟨?_, ?_, fun hv => ⟨?_, ?_⟩, fun hv => ⟨?_, ?_⟩, ?_, ?_, ?_, ?_, ?_, ⟨?_, ?_, ?_⟩, fun i hi => ?_, ?_⟩
    · exact exec_wordWrite_sets hwho hmode hselv rfl (by decide) (m := 0xFFF1F) (l := .any) (by decide) rfl (by rfl) rfl
        fun new t => writeRw_selv pgSELV 0 v new t (by decide)
    · exact (exec_wordWrite hwho hmode hselv rfl (by decide)).trans (congrArg _ (writeUnit_wo (m := 0) (l := .any) (by decide)))
    · subst hv
      exact (exec_wordWrite hwho hmode hselv rfl (by decide)).trans (congrArg _ (writeUnit_wo (m := 0) (l := .any) (by decide)))
    · subst hv
      exact (exec_wordWrite hwho hmode hpwr rfl (by decide)).trans (congrArg _ (writeUnit_wo (m := 0) (l := .any) (by decide)))
    · subst hv
      exact (exec_wordWrite hwho hmode hselv rfl (by decide)).trans (congrArg _ (writeUnit_wo (m := 0) (l := .any) (by decide)))
    · subst hv
      exact (exec_wordWrite hwho hmode hpwr rfl (by decide)).trans (congrArg _ (writeUnit_wo (m := 0) (l := .any) (by decide)))
    · exact exec_wordWrite_header (off := 0x010) hwho hmode hselv rfl (by decide)
    · have hall : v &&& 0xFFFFFFFF = v := BitVec.and_allOnes
      exact (exec_wordWrite_header (off := 0x024) hwho hmode hselv rfl (by decide)).trans (by rw [hall]; rfl)
    · exact bits (by decide) (m := 0xFFFFFF) (by decide) rfl
    · exact bits (by decide) (m := 0xFFF) (by decide) rfl
    · exact bits (by decide) (m := 0xFFFF) (by decide) rfl
    · exact bits (by decide) (m := 0xFFFFFFFF) (by decide) rfl
    · exact bits (by decide) (m := 0xFFFFFFFF) (by decide) rfl
    · exact bits (by decide) (m := 0xFFFFFFFF) (by decide) rfl
    · exact bits (by omega) (m := 0xFFFFFFFF) (by revert i; decide) (by rw [if_neg (by omega)]; rfl)
    · exact exec_wordWrite_sets hwho hmode hpwr rfl (by decide) (m := 0x1FF) (l := .any) (by decide) rfl (by rfl) rfl
        (writeRw_pwr _ _ _ _)
  · simp only [List.forall_mem_cons, List.not_mem_nil, false_imp_iff, implies_true, and_true]
    refine ⟨?_, ?_, ?_, ?_, ?_, ?_, ?_, ?_, ?_⟩ <;> exact congrArg _ (secCmd_busy hsec hbusy _)
end Sys2Proof
end

section
namespace Sys2Proof.Machine

/-! ### Sources and targets, other than the one written -/

theorem esrc_setSrc_other {s : State} {n m : Nat} (x : Src) (h : m ≠ n) : esrc (setSrc s n x) m = esrc s m := by
  rw [esrc, setSrc, SMap.get_set, if_neg h, esrc]

theorem tgt_setTgt_other {s : State} {t e : Nat} (x : Tgt) (h : e ≠ t) : tgt (setTgt s t x) e = tgt s e := by
  rw [tgt, setTgt, SMap.get_set, if_neg h, tgt]

/-! ### Edges (R512, R514, R519) -/

section
variable {s : State} {n : Nat} (hsrc : isEdgeSrc n = true)
include hsrc

theorem eicEdge_free (hp : (esrc s n).pend = false) (ha : (esrc s n).active = false) :
    eicEdge s n = setSrc s n { esrc s n with pend := true } := by
  simp [eicEdge, hsrc, hp, ha]

theorem eicEdge_merged (h : (esrc s n).pend = true ∨ (esrc s n).active = true) :
    let t := setSrc s n { esrc s n with
      merged := min 255 ((esrc s n).merged + 1), edgeAct := (esrc s n).edgeAct || (esrc s n).active }
    eicEdge s n = if (esrc s n).merged < 255 then raiseIrq t pgEIC 1 else t := by
  have hor : ((esrc s n).pend || (esrc s n).active) = true := Bool.or_eq_true_iff.mpr h
  simp [eicEdge, hsrc, hor]

end

/-! ### Claims and completions (R515 to R519) -/

/-- The spindle claims a source that is not redirected: nothing outside the interrupt controller changes. -/
theorem markClaimed_direct {s : State} (t : Nat) {p : Nat × Nat} (hn : p.1 < 1024) (hr : (esrc s p.1).redir = false) :
    markClaimed s t p = setSrc (setTgt s t { tgt s t with stack := p :: (tgt s t).stack }) p.1
      { esrc s p.1 with active := true, pend := false, redir := false } := by
  simp [markClaimed, Nat.not_le.mpr hn, hr, redirNote]

theorem deactivate_free {s : State} (t : Nat) {n : Nat} (hn : n < 1024) (hheld : (esrc s n).held = none) :
    deactivate s t n = setSrc s n { esrc s n with active := false, pend := (esrc s n).edgeAct, edgeAct := false } := by
  simp [deactivate, Nat.not_le.mpr hn, hheld]

theorem eicComplete_top {s : State} {t n p : Nat} {rest : List (Nat × Nat)} (h : (tgt s t).stack = (n, p) :: rest) :
    eicComplete s t n = deactivate (setTgt s t { tgt s t with stack := rest }) t n := by
  simp [eicComplete, h]

theorem eicComplete_other {s : State} {t n m p : Nat} {rest : List (Nat × Nat)} (h : (tgt s t).stack = (n, p) :: rest)
    (hm : m ≠ n) : eicComplete s t m = orderFault s t m := by
  simp [eicComplete, h, hm.symm]

theorem raiseErr_eicFaults (s : State) (p n sub : Nat) (named : List UnitId) (inj w : Bool) :
    (raiseErr s p n sub named inj w).selv.eicFaults = s.selv.eicFaults := by rw [raiseErr_frame]

/-- A configuration that does not move the source to or from the spindle raises nothing (R521). -/
theorem srcTakes_eq (s : State) (n : Nat) (x : Src) (t prio : Nat) (en : Bool) :
    let u := setSrc s n { x with target := t, prio := prio, en := en, held := none, redir := !tgtInService s t }
    srcTakes s n x t prio en = if x.redir = !tgtInService s t then u else raiseIrq u pgEIC 0 := by
  cases h : x.redir <;> cases g : tgtInService s t <;> simp [srcTakes, redirNote, h, g]

/-! ### The timer's private source (R512) -/

/-- A sum of powers of two without the lowest one is even. -/
theorem boolWord_even {f : Nat → Bool} (h : f 0 = false) (n : Nat) :
    (List.range n).foldl (fun a i => a + at' (f i) i) 0 % 2 = 0 := by
  induction n with
  | zero => rfl
  | succ k ih =>
    rw [List.range_succ, List.foldl_append, List.foldl_cons, List.foldl_nil, Nat.add_mod, ih]
    cases k with
    | zero => simp [h, at']
    | succ k => cases f (k + 1) <;> simp [at', Nat.pow_succ]

/-- The timer's private source is active where it stands on the stack of claims. -/
theorem privActive_timer {s : State} {t : Nat} (h : ∀ e ∈ (tgt s t).stack, e.1 ≠ 1024) : privActive s t &&& 1 = 0 := by
  have h0 : ((tgt s t).stack.any fun e => decide (e.1 = 1024 + 0)) = false := by simpa using h
  have he := boolWord_even (f := fun j => (tgt s t).stack.any fun e => decide (e.1 = 1024 + j)) h0 32
  refine BitVec.eq_of_toNat_eq ?_
  rw [BitVec.toNat_and, privActive, boolWord, w32, BitVec.toNat_ofNat]
  generalize List.foldl _ 0 (List.range 32) = k at he ⊢
  change k % 2 ^ 32 &&& 1 = 0
  rw [Nat.and_one_is_mod]
  omega

theorem privEdge_timer {s : State} {t : Nat} (h : ∀ e ∈ (tgt s t).stack, e.1 ≠ 1024) :
    privEdge s t 0 = setTgt s t { tgt s t with privPend := setBit (tgt s t).privPend 0 } := by
  have ha : w32 (2 ^ 0) &&& privActive s t = 0 := (BitVec.and_comm ..).trans (privActive_timer h)
  have hn : w32 (2 ^ 0) &&& ~~~ privActive s t = BitVec.ofNat 32 (2 ^ 0) := by
    change 1#32 &&& privActive s t = 0#32 at ha
    change 1#32 &&& ~~~ privActive s t = 1#32
    generalize privActive s t = a at ha ⊢
    ext i hi
    have hi := congrArg (·.getLsbD i) ha
    simp at hi ⊢
    grind
  have hheld : (tgt s t).privHeld ||| 0 = (tgt s t).privHeld := BitVec.or_zero
  rw [privEdge, privEdges, ha, hn, hheld, setBit]

/-! ### The counts (R530) -/

/-- A key that a map does not list reads the default. -/
theorem SMap.get_unlisted {α : Type} {m : SMap α} {d : α} {k : Nat} (h : k ∉ m.map (·.1)) : SMap.get m d k = d := by
  induction m with
  | nil => rfl
  | cons p m ih =>
    obtain ⟨j, v⟩ := p
    simp only [List.map_cons, List.mem_cons, not_or] at h
    rw [SMap.get, if_neg (Ne.symm h.1), ih h.2]

theorem clear_merged (ns : List Nat) (s : State) :
    let t := ns.foldl (fun u n => setSrc u n { esrc u n with merged := 0 }) s
    t = { s with eic := { s.eic with srcs := t.eic.srcs } } ∧
      ∀ n, esrc t n = if n ∈ ns then { esrc s n with merged := 0 } else esrc s n := by
  induction ns generalizing s with
  | nil => exact ⟨rfl, fun n => by simp⟩
  | cons m ns ih =>
    obtain ⟨hf, hs⟩ := ih (setSrc s m { esrc s m with merged := 0 })
    refine ⟨hf.trans rfl, fun n => (hs n).trans ?_⟩
    by_cases hm : n = m
    · subst hm
      simp
    · simp [hm, esrc_setSrc_other]

theorem clear_spurious (ts : List Nat) (s : State) :
    let t := ts.foldl (fun u n => setTgt u n { tgt u n with spurious := 0 }) s
    t = { s with eic := { s.eic with tgts := t.eic.tgts } } ∧
      ∀ n, tgt t n = if n ∈ ts then { tgt s n with spurious := 0 } else tgt s n := by
  induction ts generalizing s with
  | nil => exact ⟨rfl, fun n => by simp⟩
  | cons m ns ih =>
    obtain ⟨hf, hs⟩ := ih (setTgt s m { tgt s m with spurious := 0 })
    refine ⟨hf.trans rfl, fun n => (hs n).trans ?_⟩
    by_cases hm : n = m
    · subst hm
      simp
    · simp [hm, tgt_setTgt_other]

end Sys2Proof.Machine

namespace Sys2Proof
open Machine

/-- Settles O28, command by command: an edge (`eicEdge_free`, `eicEdge_merged`), a claim (`markClaimed_direct`), a completion
(`eicComplete_top`, `eicComplete_other`), a configuration (`srcTakes_eq`), the timer (`privEdge_timer`) and the counts. -/
theorem interruptControllerCommands : Obligations.InterruptControllerCommands := by
  intro s hpow
  refine ⟨fun n hsrc hp ha => ?_, fun n hsrc h => ?_, fun n p off hoff hpres hn hr => ⟨?_, ?_⟩, fun v n p rest hv hn hst hheld => ?_,
    fun v n p rest hv hst => ?_, fun v n hn hsrc ht => ⟨fun ha => ?_, fun ha => ?_⟩, fun v hv => ?_, fun v n hv hl hn hp ha => ?_,
    fun target v ht => ?_, fun target d htimer hdue hoff hst => ?_, ?_⟩
  · rw [← eicEdge_free hsrc hp ha]
    simp [exec, execEicSourceEvent, hpow]
  · refine Eq.trans ?_ (congrArg _ (eicEdge_merged hsrc h))
    simp [exec, execEicSourceEvent, hpow]
  · have hclaim : eicClaim s 0 = (claimWord (n, p), markClaimed s 0 (n, p)) := by simp [eicClaim, hpres]
    refine ⟨{ markClaimed s 0 (n, p) with lastAccess := .data (claimWord (n, p)) }, ?_, rfl, markClaimed_stack s 0 (n, p),
      (markClaimed_source s 0 (p := (n, p)) hn).1, (markClaimed_source s 0 (p := (n, p)) hn).2, fun m hm => ?_, fun e he => ?_, ?_, ?_⟩
    · simp [exec, execEicClaim, hoff, hpow, hclaim]
    all_goals rw [markClaimed_direct 0 hn hr]
    · exact esrc_setSrc_other _ hm
    · exact tgt_setTgt_other (s := s) (t := 0) { tgt s 0 with stack := (n, p) :: (tgt s 0).stack } he
    · rfl
    · rfl
  · simp [exec, execEicClaim, hoff, hpow, hpres, claimWord]
  · subst hv
    have hheld' : (esrc (setTgt s 0 { tgt s 0 with stack := rest }) (bits v 0 11)).held = none := hheld
    refine Eq.trans ?_ (congrArg _ ((eicComplete_top hst).trans (deactivate_free 0 hn hheld')))
    simp [exec, execEicComplete, hpow]
  · refine ⟨orderFault s 0 (bits v 0 11), Eq.trans ?_ (congrArg _ (eicComplete_other hst hv)), ?_, ?_, ?_, ?_, ?_⟩
    · simp [exec, execEicComplete, hpow]
    · exact (rdB_raiseErr _ _ _ _ _ _ 0 (by decide)).trans (by simp)
    · simp [orderFault, raiseErr_eicFaults]
    · simp [orderFault]
    · simp [orderFault]
    · intro h
      simp [orderFault, h]
  · subst hn
    simp [exec, execEicSrcCfgWrite, hpow, hsrc, Nat.not_lt.mpr ht, ha]
  · subst hn
    refine Eq.trans ?_ (congrArg _ (srcTakes_eq ..))
    simp [exec, execEicSrcCfgWrite, hpow, hsrc, Nat.not_lt.mpr ht, ha]
  · simp [exec, execEicSwSet, hpow, Nat.not_le.mpr hv]
  · subst hv
    have hsrc : isEdgeSrc (bits v 0 10) = true := by simp [isEdgeSrc, hl, hn]
    rw [← eicEdge_free hsrc hp ha]
    simp [exec, execEicSwSet, hpow, hl]
  · simp [exec, execEicTPrivSet, hpow, Nat.not_lt.mpr ht, privEdges, privActive]
  · have htimer' : ∀ e ∈ (tgt (setTgt s target { tgt s target with timer := none }) target).stack, e.1 ≠ 1024 := by
      simpa using hst
    refine ⟨privEdge (setTgt s target { tgt s target with timer := none }) target 0, ?_, ?_⟩
    · simp [exec, execEicTimerExpire, htimer, hdue, hoff]
    · rw [privEdge_timer htimer']
      refine ⟨by simp, by simp, fun e he => ?_, rfl⟩
      rw [tgt_setTgt_other _ he, tgt_setTgt_other _ he]
  · obtain ⟨hf₁, hs₁⟩ := clear_merged (s.eic.srcs.map (·.1)) s
    set u := (s.eic.srcs.map (·.1)).foldl (fun u n => setSrc u n { esrc u n with merged := 0 }) s with hu
    obtain ⟨hf₂, ht₂⟩ := clear_spurious (u.eic.tgts.map (·.1)) u
    set t := (u.eic.tgts.map (·.1)).foldl (fun u n => setTgt u n { tgt u n with spurious := 0 }) u with ht
    have htgts : u.eic.tgts = s.eic.tgts := by rw [hf₁]
    refine ⟨{ t with eic := { t.eic with orderFault := none } }, ?_, rfl, fun n => ?_, fun n => ?_, ?_⟩
    · simp [exec, execEicCntClr, hpow, ht, hu]
    · have he : esrc t n = esrc u n := by rw [hf₂]; rfl
      change esrc t n = _
      rw [he, hs₁]
      split
      · rfl
      · rename_i h
        rw [esrc, SMap.get_unlisted h]
        rfl
    · change tgt t n = _
      rw [ht₂]
      have he : tgt u n = tgt s n := by rw [tgt, htgts, tgt]
      split
      · rw [he]
      · rename_i h
        rw [← he, tgt, SMap.get_unlisted h]
        rfl
    · rw [hf₂, hf₁]
end Sys2Proof
end

section
namespace Sys2Proof.Machine

section
variable {s : State} (hp : pagePowered s pgDRA = true) (hon : rdB s pgDRA 0x080 0 = true)
include hp hon

/-- A corrected error is counted (R570). -/
theorem execDramError_counted (a : Nat) (hr : s.dra.st = .ready) :
    execDramError a .corrected s = .next (raiseErr (bumpWrap s pgDRA 0x0CC 2) pgDRA 0) :=
  next_of_not (by simp [draOn_inUse hp hon, hr])

/-- An uncorrectable error on a line that the copy has not reached poisons the line; the first one is told (R570, R571). -/
theorem execDramError_poisons {a : Nat} (hr : s.dra.st = .ready) (ha : a < dramSize s) (hc : uncopied s a = true)
    (hfirst : rdB s pgDRA 0x0D0 31 = false) (hnew : a / 64 * 64 ∉ s.dra.poison) : execDramError a .uncorrectable s =
      .next (raiseErr (wr { s with dra := { s.dra with poison := a / 64 * 64 :: s.dra.poison } } pgDRA 0x0D0
        (w32 (a / 64 % 2 ^ 31 + 2 ^ 31))) pgDRA 1) := by
  rw [execDramError, Nat.mod_eq_of_lt ha]
  refine (next_of_not (by simp [draOn_inUse hp hon, hr])).trans (congrArg _ ?_)
  have hf (d : Dra) : rdB { s with dra := d } pgDRA 0x0D0 31 = false := hfirst
  simp only [if_neg hnew, hf, hc, if_true, Bool.false_eq_true, if_false]

/-- Self-refresh begins once the channel has been idle for SR_IDLE. -/
theorem execDraSelfRefreshEnter_begins (he : rdB s pgDRA 0x080 1 = true) (hr : s.dra.st = .ready) (hc : s.dra.migrating = false)
    (hi : s.dra.idleFrom + rdF s pgDRA 0x080 8 8 * usN ≤ s.now) :
    execDraSelfRefreshEnter s = .next { s with dra := { s.dra with sr := true } } := by
  have hdue : dueBy s (s.dra.idleFrom + srIdle s) = true := dueBy_now hi
  exact next_of_not (by simp [draOn_inUse hp hon, he, hr, hc, hdue])

end

/-- A pattern that begins on a channel in training clears the last result (R556). -/
theorem execDraTrnGo_begins {s : State} (hp : pagePowered s pgDRA = true) {v : W32} (hlock : lockOpen s .bootSvc = true)
    (ht : s.dra.st = .training) (hv : bit v 16 = true) : execDraTrnGo v s = .next (
      let t := wr s pgDRA 0x0C0 (v &&& 0x1033F)
      wr { t with dra := { t.dra with training := true } } pgDRA 0x0C8 0) :=
  (next_of_not (by simp [hp, hlock])).trans (congrArg _ (if_pos ⟨hv, ht⟩))

end Sys2Proof.Machine

namespace Sys2Proof
open Machine

/-- Settles O36, command by command: each meets its guards and does its work. That an uncorrectable error on a rank under
copy only poisons its line is the choice of log entry 61. -/
theorem theDramChannelTrainsAndReports : Obligations.TheDramChannelTrainsAndReports := by
  intro s hp
  have hpow : ¬ (!pagePowered s pgDRA) = true := by simp [hp]
  refine ⟨fun v hlock ht hv => execDraTrnGo_begins hp hlock ht hv, fun ht hmask => ?_, fun ht hmask => ?_,
    fun ht => execTrainFail_failed hp ht, fun hm ho => ?_, next_of_not hpow, fun hon => ?_⟩
  · exact (next_of_not hpow).trans ((next_of_not (not_not.2 ht)).trans (next_of_not (by simp [hmask])))
  · exact (next_of_not hpow).trans ((next_of_not (not_not.2 ht)).trans (congrArg _ (if_pos (by simp [hmask]))))
  · exact (next_of_not hpow).trans (next_of_not (by simp [hm, ho]))
  · have hdra := draOn_inUse hp hon
    exact ⟨fun pass n ht => next_of_not (by simp [hdra, ht]), fun a hr => execDramError_counted hp hon a hr,
      fun a hr ha hc hfirst hnew => execDramError_poisons hp hon hr ha hc hfirst hnew, fun hc => next_of_not (by simp [hdra, hc]),
      fun he hr hc hi => execDraSelfRefreshEnter_begins hp hon he hr hc hi, next_of_not (by simp [hdra])⟩
end Sys2Proof
end

section
namespace Sys2Proof.Machine
variable {s : State}

/-- A commit that reads back equal, where no checkpoint is due and neither spilling nor posting is on (R546, R549). -/
theorem execNvrRecordCommit_verified {r : Soe} {rest : List Soe} (hm : curMode s ≠ .off) (hq : s.nvr.queue = r :: rest)
    (hr : s.nvr.ready = true) (hc : s.nvr.sinceCheck + 1 < 4096) (hs : rdB s pgNVR 0x080 0 = false)
    (hp : rdB s pgHIF 0x080 0 = false) (ho : unitOff s ⟨RUnit.nvr.cls, 0, 0⟩ = false) :
    execNvrRecordCommit true s = .next (raiseIrq
      (recordStored s s (soeWords r s.nvr.seq ++ [soeCrc (soeWords r s.nvr.seq)]) rest) pgNVR 0) := by
  have hrun : ¬ (curMode s = .off ∨ s.nvr.ready = false ∨ unitOff s ⟨RUnit.nvr.cls, 0, 0⟩ = true) := by simp [hm, hr, ho]
  have hcheck (ws : List W32) : nvrCheck (recordStored s s ws rest) = recordStored s s ws rest := if_pos hc
  have hbit (ws : List W32) (q : Nat) (h : rdB s q 0x080 0 = false) :
      rdB (raiseIrq (recordStored s s ws rest) pgNVR 0) q 0x080 0 = false :=
    (rdB_raiseIrq_other _ _ _ _ _ (by omega) (by omega)).trans h
  have hoff (put ws : List W32) (seq : W32) (kind : Nat) :
      urgentPost (spill (raiseIrq (nvrCheck (recordStored s s put rest)) pgNVR 0) seq ws) kind ws =
        raiseIrq (recordStored s s put rest) pgNVR 0 := by
    rw [hcheck, spill_off (hbit _ _ hs), urgentPost_off (hbit _ _ hp)]
  rw [execNvrRecordCommit, hq]
  exact congrArg _ ((if_neg hrun).trans (hoff _ _ _ _))

/-- The scan stops at an empty slot. -/
theorem nvrScan_empty {h : Nat} (hempty : nvrSlot s h = List.replicate 8 0) (fuel q n : Nat) (gap : Bool) :
    nvrScan s (fuel + 1) h q n gap = (h, q, n, gap) := by
  rw [nvrScan]
  exact if_pos hempty

/-- A scan that starts at an empty slot: the store goes on from the newest checkpoint (R548). -/
theorem execNvrScanDone_empty {i : Nat} {v : List Nat} (hm : curMode s ≠ .off) (hr : s.nvr.ready = false)
    (hc : newestCheck s.nvr.checkpoints = some (i, v)) (hempty : nvrSlot s (v.getD 0 0 % nvrSlots) = List.replicate 8 0) :
    execNvrScanDone s = .next (scanned s ((i + 1) % 256) (v.getD 0 0 % nvrSlots, v.getD 1 0, 0, false)) := by
  have hscan (q n : Nat) (gap : Bool) : nvrScan s nvrSlots (v.getD 0 0 % nvrSlots) q n gap = (v.getD 0 0 % nvrSlots, q, n, gap) :=
    nvrScan_empty hempty 524287 q n gap
  unfold execNvrScanDone
  generalize nvrScan s nvrSlots = scan at hscan
  rw [if_neg (by simp [hm, hr]), hc]
  dsimp only
  rw [hscan]
  rfl

/-- The words of a data item shown from 0x0E4 on, the first `n` of them (R565). -/
def diShown (u : State) (ws : List W32) (n : Nat) : State :=
  (List.range n).foldl (fun u i => wr u pgNVR (0x0E4 + 4 * i) (ws.getD i 0)) u

theorem diShown_succ (u : State) (ws : List W32) (n : Nat) :
    diShown u ws (n + 1) = wr (diShown u ws n) pgNVR (0x0E4 + 4 * n) (ws.getD n 0) := by
  simp [diShown, List.range_succ]

theorem diShown_frame (u : State) (ws : List W32) (n : Nat) : diShown u ws n = { u with regs := (diShown u ws n).regs } := by
  induction n with
  | zero => rfl
  | succ n ih =>
    rw [diShown_succ, ih]
    rfl

theorem rd_diShown (u : State) (ws : List W32) {n i : Nat} (h : i < n) :
    rd (diShown u ws n) pgNVR (0x0E4 + 4 * i) = ws.getD i 0 := by
  induction n with
  | zero => omega
  | succ n ih =>
    rw [diShown_succ]
    by_cases hi : i = n
    · rw [hi, rd_wr_same]
    · rw [rd_wr_other _ _ _ _ _ _ (by simp only [rkey]; omega), ih (by omega)]

theorem rd_diShown_sel (u : State) (ws : List W32) (n : Nat) : rd (diShown u ws n) pgNVR 0x0E0 = rd u pgNVR 0x0E0 := by
  induction n with
  | zero => rfl
  | succ n ih => rw [diShown_succ, rd_wr_other _ _ _ _ _ _ (by simp only [rkey]; omega), ih]

end Sys2Proof.Machine

namespace Sys2Proof
open Machine

/-- Settles O35: the commit, the scan and the data items by the lemmas above; the other commands by their one guard, the mode. -/
theorem recordsAreStored : Obligations.RecordsAreStored := by
  intro s hm
  refine ⟨fun r rest hq hr hc hs hp ho => execNvrRecordCommit_verified hm hq hr hc hs hp ho,
    fun i v hr hc hempty => execNvrScanDone_empty hm hr hc hempty, fun who hq => ?_, fun who hq => ?_, next_of_not hm, next_of_not hm,
    fun v => next_of_not hm, fun hb => next_of_not (by simp [hm, hb]), fun v => ?_⟩
  · exact ⟨_, (next_of_not hm).trans (next_of_not (Nat.not_le.2 hq)), rfl, rfl, rfl, rfl, rfl, rfl, rfl, rfl⟩
  · exact (next_of_not hm).trans (congrArg _ (if_pos hq))
  · exact ⟨_, next_of_not hm, (rd_diShown_sel _ _ 8).trans (rd_wr_same _ _ _ _), fun i hi => rd_diShown _ _ hi,
      (diShown_frame _ _ 8).trans rfl⟩
end Sys2Proof
end

section
namespace Sys2Proof.Machine

/-! ### Mode commands that the sequencer judges by the mode -/

section
variable {s : State} {c : ModeCmd} (hc : Commanded s c)
include hc

/-- A command in a mode that its row names does its work (R602, R603). -/
theorem modeCmd_legal {legal : List Mode} (hm : curMode s ∈ legal) (body : State → State) : modeCmd s c legal body = body s := by
  obtain ⟨hon, hwho, hspn, hkey, hmet, hbusy⟩ := hc
  have hagent : ¬ (curMode s = .off ∨ c.who = .debug ∨ (c.who = .spindle ∧ (core s spindle).modes.level = .u)) := by
    simpa [hon, hwho] using hspn
  simp [modeCmd, if_neg hagent, hkey, hmet, hbusy, hm]

end

section
variable {s : State}

theorem powerDown_disconnected (h : s.spn.connected = false) (c : ModeCmd) (body : State → State) :
    powerDown s c body = body (accept s) := by simp [powerDown, h]

theorem powerDown_forced (h : s.spn.connected = true) {c : ModeCmd} (hf : c.force = true) (body : State → State) :
    powerDown s c body = body (declareDead (accept s)) := by simp [powerDown, h, hf]

/-- ARMED from CONFIGURE, while the host's clock runs and the checks of R620 pass (R623). -/
theorem armNow_passed {v : State} {d : List StrandDecl} (h : arm s d = .inr v) (n : Nat) :
    let u := { v with whrl := { v.whrl with decls := d } }
    let up := (List.range 12).foldl (fun v g =>
      if (List.range 8).any (fun i => decide (laneMode v (8 * g + i) ≠ 0)) && decide (domSt v (402 + g) = .off) then
        setDom v (402 + g) .changing else v) (accept u)
    armNow s d n = beginTo (bobsOn (takeNumber { up with mode := { up.mode with
      phConf := min 65535 ((n - up.mode.phStart) / msN), phStart := n } }) true) .armed := by
  rw [armNow, h]

/-- The end of PROOF: the banks and the code memories are empty, and CONFIGURE follows unless SAFE has been latched (R418, R619). -/
def proofEnds (u : State) : State :=
  let t := { u with mem := { u.mem with bank := [], bankBad := [], code := [], codeBad := [] } }
  if curMode t = .proof then enterConfigure t true else t

theorem execProofEnd_ends {failed : List StepObs} {u : State} (h : curMode u = .proof)
    (e : execProofEnd failed s = .next (proofEnds u)) : execProofEnd failed s =
      .next (enterConfigure { u with mem := { u.mem with bank := [], bankBad := [], code := [], codeBad := [] } } true) := by
  rw [e]
  exact congrArg _ (if_pos h)

/-- The start-up self-test where no unit and no target has failed. -/
def proven (s : State) : State := proofUnits.foldl (proofUnit []) ((List.range 256).foldl (proofTarget []) s)

theorem execProofEnd_eq (failed : List StepObs) :
    let bad := (failed.filter fun f => !f.restore).map fun f => (⟨f.cls, f.inst, f.sub⟩ : UnitId)
    execProofEnd failed s = .next (if curMode s ≠ .proof then s else
      proofEnds ((proofUnits ++ bad.filter fun u => decide (u ∉ proofUnits)).foldl (proofUnit bad)
        ((List.range 256).foldl (proofTarget failed) s))) := rfl

theorem execProofEnd_passed (hm : curMode s = .proof) : execProofEnd [] s = .next (proofEnds (proven s)) := by
  rw [execProofEnd_eq, if_neg (not_not.mpr hm), List.filter_nil, List.map_nil, List.filter_nil, List.append_nil, proven]

section
variable (hbusy : s.mode.busy = true) (hup : stillChanging s = false)
include hbusy hup

theorem execModeTransitionDone_armed (ht : s.mode.target = .armed) : execModeTransitionDone s =
    .next (retainAll (fnSettle (fnArmed (modeEnter (banksOn { s with mode := { s.mode with phArm := phaseMs s } }) .armed false)))) := by
  simp [execModeTransitionDone, hbusy, hup, ht]

theorem execModeTransitionDone_run (ht : s.mode.target = .run) :
    let t := banksOn (s.mode.woken.foldl wakeFill s)
    execModeTransitionDone s = .next (degradedCheck (modeEnter { t with mode := { t.mode with woken := [] } } .run false)) := by
  simp [execModeTransitionDone, hbusy, hup, ht]

end

end
end Sys2Proof.Machine

namespace Sys2Proof
open Machine

/-- Settles O48: each command's row of the table names the mode (`modeCmd_legal`), and what it does there is the branch of that
mode. -/
theorem modeCommandsEnterTheirModes : Obligations.ModeCommandsEnterTheirModes := by
  intro s
  refine ⟨fun c hc => ⟨fun o hm hst hfu => ?_, fun o hm hst hfu => ⟨fun hconn => ?_, fun hconn hf => ?_⟩, fun hm => ?_, fun hm => ?_,
    fun d hm => ?_, fun d v hm hclk harm => ?_, fun hm => ?_, fun hm => ?_, fun hm => ?_, fun hm => ?_, fun hm hok => ?_,
    fun hm => ⟨fun hconn => ?_, fun hconn hf => ?_⟩⟩, ?_, fun hbusy hup =>
    ⟨fun ht => execModeTransitionDone_armed hbusy hup ht, fun ht => execModeTransitionDone_run hbusy hup ht⟩⟩
  · show execModeCmdBoot c o s = _
    rw [execModeCmdBoot, modeCmd_legal hc (by simp [hm]), if_neg (by simp [hst, hfu]), if_pos hm]
  · show execModeCmdBoot c o s = _
    rw [execModeCmdBoot, modeCmd_legal hc (by simp [hm]), if_neg (by simp [hst, hfu]), if_neg (by simp [hm]),
      powerDown_disconnected hconn]
  · show execModeCmdBoot c o s = _
    rw [execModeCmdBoot, modeCmd_legal hc (by simp [hm]), if_neg (by simp [hst, hfu]), if_neg (by simp [hm]),
      powerDown_forced hconn hf]
  · show execModeCmdProof c s = _
    rw [execModeCmdProof, modeCmd_legal hc (by simp [hm])]
  · show execModeCmdConfigure c s = _
    rw [execModeCmdConfigure, modeCmd_legal hc (by simpa using hm)]
  · show execModeCmdArmed c d s = _
    have hne : curMode s ≠ .configure := by rcases hm with h | h | h <;> simp [h]
    rw [execModeCmdArmed, modeCmd_legal hc (by simp [hm]), if_pos hne]
  · show execModeCmdArmed c d s = _
    rw [execModeCmdArmed, modeCmd_legal hc (by simp [hm]), if_neg (not_not.mpr hm), if_pos hclk, hifDma, if_pos hclk]
    exact congrArg _ (armNow_passed harm s.now)
  · show execModeCmdRun c s = _
    rw [execModeCmdRun, modeCmd_legal hc (by simp [hm]), if_pos hm]
  · show execModeCmdRun c s = _
    have hne : curMode s ≠ .armed := by rcases hm with h | h <;> simp [h]
    rw [execModeCmdRun, modeCmd_legal hc (by simp [hm]), if_neg hne]
  · show execModeCmdTest c s = _
    rw [execModeCmdTest, modeCmd_legal hc (by simpa using hm)]
  · show execModeCmdBlocked c s = _
    rw [execModeCmdBlocked, modeCmd_legal hc (by simpa using hm)]
  · show execModeCmdService c s = _
    rw [execModeCmdService, modeCmd_legal hc (by simpa using hm), if_pos hok]
  · show execModeCmdKeep c s = _
    rw [execModeCmdKeep, modeCmd_legal hc (by simpa using hm), powerDown_disconnected hconn]
  · show execModeCmdKeep c s = _
    rw [execModeCmdKeep, modeCmd_legal hc (by simpa using hm), powerDown_forced hconn hf]
  · intro hm t ht
    exact execProofEnd_ends (u := t) ht (execProofEnd_passed hm)
end Sys2Proof
end

section
namespace Sys2Proof.Machine
variable {s : State}

/-! ### Publications -/

theorem execGooseRetransmit_due {n t : Nat} {x : Pub} (hx : pub? s n = some x) (ht : x.due = some t) (hdue : dueBy s t = true) :
    let iv := min (2 * x.interval) (bits (dword x.entry 10) 16 16 * 10)
    let y := { x with interval := iv, due := some (t + iv * 1600000) }
    (pubOpenFor s (pubOwner x.entry) = false → execGooseRetransmit n s = .next (setPub s n y)) ∧
    (pubOpenFor s (pubOwner x.entry) = true → x.sqNum < 4294967295 →
      let z := { pubStat y 0 1 with sqNum := x.sqNum + 1, stat := (pubStat y 0 1).stat.set 7 (w32 (x.sqNum + 1)) }
      execGooseRetransmit n s = .next (pubSend (setPub s n z) z
        (.goose n x.stNum (x.sqNum + 1) (2 * iv) x.tSec x.tNs x.tq (decide (curMode s = .test)) x.last))) := by
  refine ⟨fun ho => ?_, fun ho hsq => ?_⟩
  · simp [execGooseRetransmit, hx, ht, hdue, ho]
  · have hsq' : ¬ x.sqNum = 4294967295 := Nat.ne_of_lt hsq
    simp [execGooseRetransmit, hx, ht, hdue, ho, if_neg hsq']

/-! ### Trip outputs -/

theorem execTripDeferredReset_due {n t : Nat} {c : TWord} (hd : (outp s n).deferred = some (t, c)) (hdue : dueBy s t = true)
    (hheld : outHeld s n = false) :
    let u := setOut s n { outp s n with deferred := none }
    execTripDeferredReset n s = .next (if c.q.tst && decide (curMode s ≠ .test) then
      raiseIrq (bumpWrap (tripSoe u n (t - s.now) 2 c) pgTRIP 0x09C 2) pgTRIP 1
      else drivePin u n (t - s.now) false (some c)) := by
  simp [execTripDeferredReset, hd, hdue, hheld]

section
variable {n : Nat} {level : Bool} (hn : n < 32) (hp : pagePowered s pgTRIP = true)
include hn hp

theorem execTripReadbackFault_agrees (h : level = ((outp s n).operated != bit (outCfg s n) 6)) :
    execTripReadbackFault n level s = .next (setOut s n { outp s n with rb := level }) := by
  simp [execTripReadbackFault, Nat.not_le.mpr hn, hp, h]

theorem execTripReadbackFault_differs (h : level ≠ ((outp s n).operated != bit (outCfg s n) 6)) (hen : bit (outCfg s n) 24 = true)
    (hfirst : (outp s n).rbFault = false) (hdue : dueBy s ((outp s n).onSince + rbDelay s n) = true) :
    execTripReadbackFault n level s = .next (
      let t := raiseIrq (raiseErr (setOut s n { outp s n with rb := level, rbFault := true }) pgTRIP 2) pgTRIP 0
      triggerEvent (soe t 5 RUnit.trip.cls n (TWord.nat 0).tag (w32 (if level then 1 else 0)) (ownerId t n)) 2 n) := by
  have hrun : ¬ (32 ≤ n ∨ (!pagePowered s pgTRIP) = true) := by simp [Nat.not_le.mpr hn, hp]
  have htell : ¬ (!bit (outCfg s n) 24 || (outp s n).rbFault || decide (level = ((outp s n).operated != bit (outCfg s n) 6)) ||
      !dueBy s ((outp s n).onSince + rbDelay s n)) = true := by simp [hen, hfirst, h, hdue]
  exact congrArg _ ((if_neg hrun).trans (if_neg htell))

end

/-! ### Binary inputs -/

section
variable {n : Nat} {level : Bool} {sub : Nat}

/-- An input that samples has its level and the time of its edge (R505). -/
def binSampled (s : State) (n : Nat) (level : Bool) (sub : Nat) : State :=
  setBin s n { bin s n with raw := level != bit (binCfg s n) 8, lastEdge := s.now + sub }

theorem execBiEdge_stable (hon : binOn s n = true) (h : (level != bit (binCfg s n) 8) = (bin s n).stable) :
    execBiEdge n level sub s = .next (binSampled s n level sub) := by
  simp [execBiEdge, hon, h, binSampled]

theorem execBiEdge_direct (hon : binOn s n = true) (h : (level != bit (binCfg s n) 8) ≠ (bin s n).stable)
    (hfilter : bits (binCfg s n) 0 8 = 0) : execBiEdge n level sub s = .next (binChange (binSampled s n level sub) n
      (level != bit (binCfg s n) 8) (secOf (cntAt s sub)) (nsOf (cntAt s sub)) (stcQual s).val.code) := by
  simp [execBiEdge, hon, h, hfilter, binSampled]

theorem execBiEdge_filtered (hon : binOn s n = true) (h : (level != bit (binCfg s n) 8) ≠ (bin s n).stable)
    (hfilter : bits (binCfg s n) 0 8 ≠ 0) (hfirst : (bin s n).first = none) : execBiEdge n level sub s =
      .next (setBin (binSampled s n level sub) n { bin (binSampled s n level sub) n with
        first := some (secOf (cntAt s sub), nsOf (cntAt s sub), (stcQual s).val.code), firstNow := s.now + sub }) := by
  simp [execBiEdge, hon, h, hfilter, hfirst, binSampled]

theorem execBiChange_matured {sec ns tv : Nat} (hfirst : (bin s n).first = some (sec, ns, tv)) (hon : binOn s n = true)
    (h : (bin s n).raw ≠ (bin s n).stable) (hdue : dueBy s ((bin s n).firstNow + bits (binCfg s n) 0 8 * 100 * usN) = true) :
    execBiChange n s = .next (binChange s n (bin s n).raw sec ns tv) := by
  simp only [execBiChange, hfirst]
  exact congrArg _ (if_pos ⟨hon, h, hdue⟩)

/-- An input whose chatter has ended: what it holds, and the record of the end (R507). -/
def binReleased (s : State) (n sub : Nat) : State :=
  let b := bin s n
  let t := setBin s n { b with supp := false, recent := [], first := none, stable := b.raw }
  raiseIrq (soeAt (if b.raw = b.stable then t else binCount t) (cntAt s sub) 7 RUnit.bio.cls n 0x20 0 0) pgBIO 1

theorem execBiChatterRelease_due (hon : binOn s n = true) (hsupp : (bin s n).supp = true)
    (hdue : dueBy s ((bin s n).lastEdge + bits (binCfg s n) 24 8 * 100 * msN) = true) :
    let u := binReleased s n sub
    execBiChatterRelease n sub s = .next (if (bin s n).raw = (bin s n).reported then binAreas u n
      else binReport u n (bin s n).raw (secOf (cntAt u sub)) (nsOf (cntAt u sub)) (stcQual u).val.code true) := by
  have hrun : ¬ (!(binOn s n && (bin s n).supp) || !dueBy s ((bin s n).lastEdge + bits (binCfg s n) 24 8 * 100 * msN)) = true := by
    simp [hon, hsupp, hdue]
  exact congrArg _ (if_neg hrun)

end

/-- BIO retired: it is not in use, and no input samples (R583; log entry 186). -/
theorem binOn_retired (h : (unitRec s bioUnit).retired = true) (n : Nat) : binOn s n = false := by
  simp [binOn, unitOff, h]

/-- BIO retired: every word that it gives carries VAL invalid (R583). -/
theorem binWords_retired (h : (unitRec s bioUnit).retired = true) {maps : List (W32 × W32)} {w : TWord} (hw : w ∈ binWords s maps) :
    w.q.val = .invalid := by
  obtain ⟨m, -, hm⟩ := List.mem_flatMap.mp hw
  simp only [h, Bool.or_true, if_true] at hm
  split at hm
  · simp only [timPair, List.mem_cons, List.not_mem_nil, or_false] at hm
    rcases hm with rfl | rfl <;> rfl
  · rw [List.mem_singleton.mp hm]
    rfl

end Sys2Proof.Machine

namespace Sys2Proof
open Machine

/-- Settles O54, event by event: each finds its window passed and does its work. -/
theorem outputCommandsComplete : Obligations.OutputCommandsComplete := by
  intro s
  refine ⟨fun n t a b agree hopen hdue => ?_, fun n x t hx ht hdue => execGooseRetransmit_due hx ht hdue, fun hr => ?_,
    fun n k g agree hg hdue => ?_, fun n t c hd hdue hheld => ⟨fun hc => ?_, fun hc hm => ?_⟩, fun n level hn hp =>
    ⟨fun h => execTripReadbackFault_agrees hn hp h, fun h hen hfirst hdue => execTripReadbackFault_differs hn hp h hen hfirst hdue⟩,
    fun hp => ⟨?_, fun levels => ?_⟩, fun n level sub hon => ⟨fun h => execBiEdge_stable hon h, fun hf h => execBiEdge_direct hon h hf,
      fun hf h hfirst => execBiEdge_filtered hon h hf hfirst⟩, fun n sec ns tv hfirst hon h hdue =>
    execBiChange_matured hfirst hon h hdue, fun n sub hon hsupp hdue => ⟨fun h => ?_, fun h => ?_⟩, fun hp => ?_, fun hret =>
    ⟨fun maps w hw => binWords_retired hret hw, fun n level sub => ?_⟩⟩
  · show execPubCompareClose n agree s = _
    simp [execPubCompareClose, hopen, hdue]
  · show execStatusRecordWrite s = _
    rw [execStatusRecordWrite, if_neg (not_not.mpr hr)]
  · show execTripVoteClose n k agree s = _
    simp [execTripVoteClose, hg, hdue]
  · refine (execTripDeferredReset_due hd hdue hheld).trans (congrArg _ (if_neg ?_))
    rcases hc with hc | hc <;> simp [hc]
  · exact (execTripDeferredReset_due hd hdue hheld).trans (congrArg _ (if_pos (by simp [hc, hm])))
  · exact next_of_not (by simp [hp])
  · exact next_of_not (by simp [hp])
  · exact (execBiChatterRelease_due hon hsupp hdue).trans (congrArg _ (if_pos h))
  · exact (execBiChatterRelease_due hon hsupp hdue).trans (congrArg _ (if_neg h))
  · exact next_of_not (by simp [hp])
  · exact congrArg _ (if_pos (by simp [binOn_retired hret]))

end Sys2Proof
end

section
namespace Sys2Proof.Machine
variable {s : State}

/-! ### The always-on domain (R617, R641) -/

/-- The state of R617: power has come, nothing else has. -/
def powered (s : State) (ref : BitVec 2) : State :=
  { noPower s with
    mode := ModeSt.reset, selv := Selv.reset
    nvr := { (noPower s).nvr with powered := true }
    clk := { Clk.reset with refSel := ref.toNat } }

theorem execAlwaysOnPowerUp_off (hm : curMode s = .off) (ref : BitVec 2) : execAlwaysOnPowerUp ref s = .next (if s.fuses.torn then
    wr (raiseErr { powered s ref with fuses := { s.fuses with torn := false } } pgLCY 0) pgLCY 0x088 15 else powered s ref) :=
  next_of_not (not_not.mpr hm)

/-! ### Domains that come up (R611, R612) -/

theorem countUp_late (d : Nat) : (countUp s d).pwr.late = s.pwr.late := by
  unfold countUp
  dsimp only
  split <;> rfl

theorem countUp_mem (d : Nat) : (countUp s d).mem = s.mem := by
  unfold countUp
  dsimp only
  split <;> rfl

theorem countUp_ups (d : Nat) : SMap.get (countUp s d).pwr.ups 0 d = min 65535 (SMap.get s.pwr.ups 0 d + 1) := by
  unfold countUp
  dsimp only
  split <;> simp

/-- What a domain that comes up holds for the others and in the counts. -/
theorem domOn_pwr {d : Nat} (h : domSt s d = .changing) : (domOn s d).pwr.doms = SMap.set s.pwr.doms .off d .on ∧
    (domOn s d).pwr.late = s.pwr.late.filter (· ≠ d) ∧ (domOn s d).pwr.ups = (countUp (setDom s d .on) d).pwr.ups := by
  have hon : ¬ domSt s d = .on := by simp [h]
  have hcode : ¬ (384 ≤ d ∧ d < 400 ∧ domSt s d = .off) := by simp [h]
  have hdoms : (countUp (setDom s d .on) d).pwr.doms = SMap.set s.pwr.doms .off d .on := countUp_doms d
  have hlate : (countUp (setDom s d .on) d).pwr.late = s.pwr.late.filter (· ≠ d) := countUp_late d
  simp only [domOn, if_neg hon, if_neg hcode]
  generalize countUp (setDom s d .on) d = u at hdoms hlate
  split
  · exact ⟨hdoms, hlate, rfl⟩
  split
  · exact ⟨hdoms, hlate, rfl⟩
  split
  · exact ⟨hdoms, hlate, rfl⟩
  · exact ⟨hdoms, hlate, rfl⟩

theorem execDomainPowerUp_domain {d : Nat} (hd : d < 256 ∨ 384 ≤ d) (hl : d ≤ 416) (h : domSt s d = .changing) :
    ∃ t, execDomainPowerUp d s = .next t ∧ domSt t d = .on ∧ d ∉ t.pwr.late ∧
      SMap.get t.pwr.ups 0 d = min 65535 (SMap.get s.pwr.ups 0 d + 1) := by
  have hbank : ¬ (256 ≤ d ∧ d < 384) := by omega
  obtain ⟨hdoms, hlate, hups⟩ := domOn_pwr h
  refine ⟨domOn s d, by rw [execDomainPowerUp, if_neg hbank, if_pos ⟨h, hl⟩], ?_, ?_, ?_⟩
  · rw [domSt, hdoms, SMap.get_set, if_pos rfl]
  · simp [hlate]
  · rw [hups, countUp_ups]
    rfl

theorem execDomainPowerUp_bank {p k : Nat} (hp : p < 16) (hk : k < 8) (h : bankPwr s p k = .waking) :
    ∃ t, execDomainPowerUp (256 + p * 8 + k) s = .next t ∧ bankPwr t p k = .on ∧ 256 + p * 8 + k ∉ t.pwr.late := by
  have hd : 256 ≤ 256 + p * 8 + k ∧ 256 + p * 8 + k < 384 := by omega
  have hpil : (256 + p * 8 + k - 256) / 8 = p := by omega
  have hbank : (256 + p * 8 + k - 256) % 8 = k := by omega
  refine ⟨_, by rw [execDomainPowerUp, if_pos hd, hpil, hbank, if_pos h], ?_, ?_⟩
  · rw [bankPwr, countUp_mem]
    simp [setBankPwr]
  · rw [countUp_late]
    simp [setBankPwr]

theorem execDomainTimeout_late {d : Nat} (hd : d < 256 ∨ 384 ≤ d) (h : domSt s d = .changing) (hl : d ∉ s.pwr.late) :
    execDomainTimeout d s =
      .next (raiseErr { s with pwr := { s.pwr with late := d :: s.pwr.late } } pgPWR 5 0 [domUnit d]) := by
  have hbank : ¬ (256 ≤ d ∧ d < 384) := by omega
  simp [execDomainTimeout, if_neg hbank, h, hl]

/-! ### Bobbins (R613) -/

theorem clbAck_pwr (b : Nat) : (clbAck s b).pwr = s.pwr := by
  have hc (u : State) : (clbComplete u).pwr = u.pwr := by
    unfold clbComplete
    split <;> rfl
  unfold clbAck
  split
  · rfl
  · dsimp only
    rw [hc]
    split <;> rfl

theorem domSt_bobOff (b : Nat) : domSt (bobOff s b) b = .off := by
  rw [domSt, bobOff, clbAck_pwr]
  exact (SMap.get_set s.pwr.doms .off .off b b).trans (if_pos rfl)

theorem execBobPowerGate_idle {b : Nat} (hb : b < 256) (hd : domSt s b = .on) (hidle : (core s b).pstate = .idle)
    (hh : (core s b).haltReq = .none) (hen : rdB s pgPWR 0x080 0 = true) (hkeep : rdB s (pgBOB b) 0x008 1 = false)
    (hrel : ∀ t, nextRelease s b = some t → s.stc.cnt + pgLead s + 4000 * nsU < t) (hready : readyOn s b = [])
    (htest : unitTested s (bobUnit b) = false) : execBobPowerGate b s = .next (bobOff s b) := by
  have hin : ¬ 256 ≤ b := Nat.not_le.mpr hb
  cases hn : nextRelease s b with
  | none => simp [execBobPowerGate, hn, hin, hd, hidle, hh, hen, hkeep, hready, htest]
  | some t => simp [execBobPowerGate, hn, Nat.not_le.mpr (hrel t hn), hin, hd, hidle, hh, hen, hkeep, hready, htest]

theorem execBobPgWake_due {b : Nat} (hb : b < 256) (hd : domSt s b = .off) (hfab : domSt s (384 + pilOf b) = .on)
    (hm : (curMode s).runs = true) (hret : (unitRec s (bobUnit b)).retired = false)
    (h : (∃ t, nextRelease s b = some t ∧ t ≤ s.stc.cnt + s.stc.incr + pgLead s) ∨ readyOn s b ≠ []) :
    execBobPgWake b s = .next (domOn s b) := by
  have hin : ¬ 256 ≤ b := Nat.not_le.mpr hb
  rcases h with ⟨t, hn, hdue⟩ | h
  · simp [execBobPgWake, hn, hdue, hin, hd, hfab, hm, hret]
  · simp [execBobPgWake, h, hin, hd, hfab, hm, hret]

theorem core_domOn_bob {b : Nat} (hb : b < 256) (h : domSt s b ≠ .on) : core (domOn s b) b = Core.bobStart := by
  rw [domOn_bob hb h, core_setCore_same]

/-! ### The voltage loop (R614, R615) -/

/-- The frequency that the loop wants of a pillow. -/
def vfTarget (s : State) (p : Nat) : Nat :=
  if bit (rd s pgPWR (0x100 + 8 * p)) 0 then max (pilFloor s p) (bits (rd s pgPWR (0x100 + 8 * p)) 16 11) else pilFloor s p

/-- The voltage that the loop wants of a pillow. -/
def vfGoal (s : State) (o : VfObs) : Nat :=
  vddStep ((if pilFreq s o.pillow < vfTarget s o.pillow then max o.need o.needFloor else o.need) + 20 + 5 * o.ageOff)

/-- The loop's next frequency and voltage. -/
def vfFreq (s : State) (o : VfObs) : Nat :=
  if vfTarget s o.pillow < pilFreq s o.pillow then max (vfTarget s o.pillow) (pilFreq s o.pillow - 25)
  else if pilFreq s o.pillow < vfTarget s o.pillow ∧ vfGoal s o ≤ SMap.get s.pwr.vdd 0 o.pillow then
    min (vfTarget s o.pillow) (pilFreq s o.pillow + 25)
  else pilFreq s o.pillow

def vfVdd (s : State) (o : VfObs) : Nat :=
  if vfTarget s o.pillow < pilFreq s o.pillow then SMap.get s.pwr.vdd 0 o.pillow
  else if SMap.get s.pwr.vdd 0 o.pillow < vfGoal s o then min (vfGoal s o) (SMap.get s.pwr.vdd 0 o.pillow + 5)
  else max (vfGoal s o) (SMap.get s.pwr.vdd 0 o.pillow - 5)

/-- One step of the loop on a pillow whose fabric has power. -/
theorem execPillowVfUpdate_step {o : VfObs} (hp : o.pillow < 16) (hd : domSt s (384 + o.pillow) = .on) :
    ∃ t, execPillowVfUpdate o s = .next t ∧ t.pwr.freq = SMap.set s.pwr.freq 0 o.pillow (vfFreq s o) ∧
      t.pwr.vdd = SMap.set s.pwr.vdd 0 o.pillow (vfVdd s o) ∧
      t.pwr.vmax = SMap.set s.pwr.vmax false o.pillow (decide (o.fmaxAch < pilFloor s o.pillow)) := by
  have hrun : ¬ (16 ≤ o.pillow ∨ domSt s (384 + o.pillow) ≠ .on) := by simp [Nat.not_le.mpr hp, hd]
  refine ⟨_, next_of_not hrun, ?_⟩
  simp only [apply_ite State.pwr, condEnd_pwr, raiseErr_pwr, wr_pwr, ite_self]
  exact ⟨rfl, rfl, rfl⟩

/-! ### Clocks and the environment (R624 to R632) -/

section
variable (hm : curMode s ≠ .off)
include hm

theorem execClkMonitor_inRange {pll : Pll} {ratio osc : Nat} (hint : s.clk.onIntOsc = false) (hosc : 0 < osc) (hlo : 9800 ≤ ratio)
    (hhi : ratio ≤ 10200) (hmon : s.clk.monBad = []) (hslow : 6400 * osc ≤ 1000000 * 2 ^ 32)
    (hfast : 1000000 * 2 ^ 32 ≤ 9600 * osc) : execClkMonitor pll ratio osc s = .next (
      condEnd (condEnd { s with clk := { s.clk with intOscKhz := 1000000 * 2 ^ 32 / osc, intOsc := osc } } pgCLK 2) pgCLK 3) := by
  have hrun : ¬ (curMode s = .off ∨ s.clk.onIntOsc = true ∨ osc = 0) := by simp [hm, hint, Nat.ne_of_gt hosc]
  have hratio : ¬ (ratio < 9800 ∨ 10200 < ratio) := by omega
  have hrange : ¬ (1000000 * 2 ^ 32 < 6400 * osc ∨ 9600 * osc < 1000000 * 2 ^ 32) := by omega
  refine (next_of_not hrun).trans (congrArg _ ?_)
  simp only [decide_eq_false hratio, Bool.and_false, Bool.false_and, Bool.false_eq_true, if_false, hmon, List.filter_nil, if_true,
    condSet, decide_eq_false hrange]

theorem execClkSpnCfgWrite_taken {v : W32} (hlock : lockOpen s .bootSvc = true) (hlo : 500 ≤ bits v 0 11) (hhi : bits v 0 11 ≤ 2000)
    (hstep : bits v 0 11 % 25 = 0) : execClkSpnCfgWrite v s = .next (
      let t := wr s pgCLK 0x088 (w32 (bits v 0 11))
      { t with clk := { t.clk with spnPause := s.now + 40 * usN, spnLock := decide (domSt s 400 = .on) } }) := by
  have hrange : ¬ (bits v 0 11 < 500 ∨ 2000 < bits v 0 11 ∨ bits v 0 11 % 25 ≠ 0) := by omega
  exact (next_of_not hm).trans ((next_of_not (by simp [hlock])).trans (next_of_not hrange))

end

/-! ### The directory (R304) -/

theorem spn_physSetList (a : Nat) (l : List Byte) : (physSetList s a l).spn = s.spn := by
  induction l generalizing a s with
  | nil => rfl
  | cons b l ih =>
    have hset : (physSet s a b).spn = s.spn := by
      unfold physSet
      repeat' split
      all_goals rfl
    rw [physSetList, ih, hset]

/-- What an answer to a snoop keeps of the spindle: its requests, its pending access, and that it has no reservation. -/
structure SnoopKept (s u : State) : Prop where
  reqs : u.spn.reqs = s.spn.reqs
  pend : u.spn.pend = s.spn.pend
  rsv : s.spn.rsv = none → u.spn.rsv = none

theorem SnoopKept.trans {u v : State} (h : SnoopKept s u) (g : SnoopKept u v) : SnoopKept s v :=
  ⟨g.reqs.trans h.reqs, g.pend.trans h.pend, fun hr => g.rsv (h.rsv hr)⟩

theorem snoopKept_of_spn {u : State} (h : u.spn = s.spn) : SnoopKept s u :=
  ⟨by rw [h], by rw [h], by rw [h]; exact id⟩

/-- An answer to a snoop takes no request and makes no reservation. -/
theorem snoopKept_answerSnoop (l : Nat) (k : Snoop) : SnoopKept s (answerSnoop s l k) := by
  unfold answerSnoop
  dsimp only
  split
  · exact ⟨rfl, rfl, id⟩
  · have hclean : SnoopKept s (if lineDirty s l = true then physSetList s (l * 64) (lineData s l) else s) := by
      split
      · exact snoopKept_of_spn (spn_physSetList _ _)
      · exact snoopKept_of_spn rfl
    refine hclean.trans ?_
    generalize (if lineDirty s l = true then physSetList s (l * 64) (lineData s l) else s) = u
    cases k with
    | share =>
      dsimp only
      cases l1Get (l2Set u l ⟨.s, lineData s l⟩) l with
      | none =>
        dsimp only
        split
        · exact ⟨rfl, rfl, fun _ => rfl⟩
        · exact ⟨rfl, rfl, id⟩
      | some y =>
        dsimp only
        split
        · exact ⟨rfl, rfl, fun _ => rfl⟩
        · exact ⟨rfl, rfl, id⟩
    | invalidate => exact ⟨rfl, rfl, fun h => by simp [dropL1, l1Set, l2Set, h]⟩

theorem snoopKept_serveSnoops : SnoopKept s (serveSnoops s) := by
  unfold serveSnoops
  generalize s.spn.snoops = l
  induction l generalizing s with
  | nil => exact ⟨rfl, rfl, id⟩
  | cons e l ih =>
    rw [List.foldl_cons]
    split
    · exact ih
    · have herase : SnoopKept s { s with spn := { s.spn with snoops := s.spn.snoops.erase e } } := ⟨rfl, rfl, id⟩
      exact (herase.trans (snoopKept_answerSnoop e.1 e.2)).trans ih

theorem cohAnswered_spn : (cohAnswered s).spn = s.spn := by
  unfold cohAnswered
  split <;> rfl

/-- R304: what the spindle asked of the directory is gone, and so is its reservation. -/
theorem execPwrDisconnect_powered (hm : curMode s ≠ .off) (hd : domSt s 401 = .on) : ∃ t, execPwrDisconnect s = .next t ∧
    t.spn.connected = false ∧ t.spn.rsv = none ∧ t.spn.reqs = [] ∧ t.spn.pend = none := by
  have hrun : ¬ (curMode s = .off ∨ domSt s 401 ≠ .on) := by simp [hm, hd]
  refine ⟨_, next_of_not hrun, rfl, ?_⟩
  simp only [cohAnswered_spn, clearRsv]
  have hkept := @snoopKept_serveSnoops
  exact ⟨hkept.rsv rfl, hkept.reqs, hkept.pend⟩

/-! ### Tamper inputs (R648) -/

theorem endGrant_closed (h : dbgLevel s = 0) : endGrant s = { s with sec := { s.sec with grant := none } } := by
  rw [endGrant, levelFall, if_pos (by simp [h])]

/-- The wipe empties the scratch memory and the keys, and leaves the tamper inputs and the debug level. -/
theorem wipe_kept (ok : Bool) : (wipe s ok).mem.scratch = [] ∧ (wipe s ok).sec = { s.sec with keys := [] } ∧
    dbgLevel (wipe s ok) = dbgLevel s := by
  cases ok <;> simp [wipe, dbgLevel]

theorem execTamperAssert_ignored {n : Nat} (hm : curMode s ≠ .off) (hn : n < 2) (hen : rdB s pgSEC 0x080 n = false) (stays ok : Bool) :
    execTamperAssert n stays ok s = .next { s with sec := { s.sec with
      tamper := let rest := s.sec.tamper.filter (· ≠ n); if stays then n :: rest else rest } } := by
  have hrun : ¬ (2 ≤ n ∨ curMode s = .off) := by simp [Nat.not_le.mpr hn, hm]
  exact (next_of_not hrun).trans (congrArg _ (if_pos (by simp [hen])))

theorem execTamperAssert_wipes {n : Nat} (hm : curMode s ≠ .off) (hn : n < 2) (hen : rdB s pgSEC 0x080 n = true)
    (hdbg : dbgLevel s = 0) (stays ok : Bool) : ∃ t, execTamperAssert n stays ok s = .next t ∧
      t.mem.scratch = [] ∧ t.sec.keys = [] ∧ t.sec.grant = none ∧ rdB t pgSEC 0x014 n = stays ∧ rdB t pgSEC 0x010 n = true ∧
      (n ∈ t.sec.tamper ↔ stays = true) := by
  have hrun : ¬ (2 ≤ n ∨ curMode s = .off) := by simp [Nat.not_le.mpr hn, hm]
  refine ⟨_, (next_of_not hrun).trans (next_of_not (by simp [hen])), ?_⟩
  generalize hu : ({ s with sec := { s.sec with
    tamper := if stays then n :: s.sec.tamper.filter (· ≠ n) else s.sec.tamper.filter (· ≠ n) } } : State) = u
  have hud : dbgLevel u = 0 := hu ▸ hdbg
  have hut : n ∈ u.sec.tamper ↔ stays = true := by
    subst hu
    cases stays <;> simp
  obtain ⟨hscr, hsec, hdw⟩ := wipe_kept (s := u) ok
  rw [endGrant_closed (hdw.trans hud)]
  generalize wipe u ok = w at hscr hsec
  have hlive : n < 32 := by omega
  have hstatus : rdB (raiseErr { w with sec := { w.sec with grant := none } } pgSEC n) pgSEC 0x010 n = true := by
    rw [rdB_raiseErr _ _ _ _ _ _ _ hlive]
    simp
  cases stays
  · refine ⟨hscr ▸ by simp, by simp [hsec], by simp, rdB_condEnd_live _ _ hlive, ?_, by simp [hsec, hut]⟩
    exact (congrArg (bit · n) (rd_condEnd_other pgSEC n pgSEC 0x010 (by decide) (by decide))).trans hstatus
  · refine ⟨hscr ▸ by simp, by simp [hsec], by simp, ?_, ?_, by simp [hsec, hut]⟩
    · exact (rdB_wr_same ..).trans (by simp [bit_setBit _ _ _ hlive])
    · exact (congrArg (bit · n) (rd_wr_other _ _ _ _ _ _ (by decide))).trans hstatus

/-! ### PLLs and late steps (R628, R631) -/

theorem execPllUnlock_on {pll : Pll} (h : domSt s (pllDom pll) = .on) : ∃ t, execPllUnlock pll s = .next t ∧
    (pll = .spindle → t.clk = { s.clk with spnLock := false } ∧ rdB t pgCLK 0x010 0 = true) ∧
    (∀ p, pll = .pillow p → t.clk = { s.clk with pilLock := SMap.set s.clk.pilLock false p false } ∧ rdB t pgCLK 0x010 1 = true) ∧
    (∀ g, pll = .portGroup g → g ∈ t.clk.pgUnlock) := by
  refine ⟨_, next_of_not (not_not.mpr h), ?_⟩
  cases pll with
  | spindle =>
    refine ⟨fun _ => ⟨by simp, ?_⟩, by simp, by simp⟩
    rw [rdB_raiseErr _ _ _ _ _ _ _ (by decide)]
    simp
  | pillow p =>
    refine ⟨by simp, fun q hq => ?_, by simp⟩
    cases hq
    refine ⟨by simp, ?_⟩
    rw [rdB_raiseErr _ _ _ _ _ _ _ (by decide)]
    simp
  | portGroup g =>
    refine ⟨by simp, by simp, fun q hq => ?_⟩
    cases hq
    have hg : g ∈ (if g ∈ s.clk.pgUnlock then s.clk.pgUnlock else g :: s.clk.pgUnlock) := by
      split <;> simp_all
    dsimp only
    split
    · exact hg
    · rw [raiseErr_clk]
      exact hg

end Sys2Proof.Machine

namespace Sys2Proof
open Machine

/-- Settles O47, command by command. That the level of a tamper input that is disabled changes too is the choice of log entry 77. -/
theorem powerAndClockCommandsComplete : Obligations.PowerAndClockCommandsComplete := by
  intro s
  refine ⟨fun ref hm => ?_, ⟨_, rfl, rfl, rfl, rfl, rfl, rfl, rfl, rfl, rfl, rfl⟩, fun d hd hl h => execDomainPowerUp_domain hd hl h,
    fun p k hp hk h => execDomainPowerUp_bank hp hk h, fun d hd h hl => execDomainTimeout_late hd h hl,
    fun b hb hd hidle hh hen hkeep hrel hready htest =>
      ⟨_, execBobPowerGate_idle hb hd hidle hh hen hkeep hrel hready htest, domSt_bobOff b⟩,
    fun b hb hd hfab hm hret h => ?_, fun o hp hd => ?_, fun hm => ⟨next_of_not hm, next_of_not hm, fun p hp hd hbad => ?_,
      fun pll ratio osc hint hosc hlo hhi hmon hslow hfast => execClkMonitor_inRange hm hint hosc hlo hhi hmon hslow hfast,
      fun v hlock hlo hhi hstep => execClkSpnCfgWrite_taken hm hlock hlo hhi hstep, next_of_not hm,
      fun hd => execPwrDisconnect_powered hm hd, fun n stays ok hn hen hdbg => execTamperAssert_wipes hm hn hen hdbg stays ok,
      fun n stays ok hn hen => execTamperAssert_ignored hm hn hen stays ok⟩, fun pll h => execPllUnlock_on h, fun hbusy o => ?_⟩
  · refine ⟨_, execAlwaysOnPowerUp_off hm ref, ?_⟩
    cases htorn : s.fuses.torn with
    | false => exact ⟨rfl, rfl, rfl, rfl, rfl, rfl, nofun⟩
    | true =>
      refine ⟨by simp [curMode]; rfl, by simp; rfl, ?_, by simp; rfl, by simp; rfl, by simp; rfl, fun _ => ⟨?_, rd_wr_same ..⟩⟩
      · rw [if_pos rfl, wr_selv, raiseErr_frame]
        rfl
      · refine (congrArg (bit · 0) (rd_wr_other _ _ _ _ _ _ (by decide))).trans ((rdB_raiseErr _ _ _ _ _ _ 0 (by decide)).trans ?_)
        simp
  · have hoff : domSt s b ≠ .on := by simp [hd]
    exact ⟨_, execBobPgWake_due hb hd hfab hm hret h, domSt_domOn_bob hb hoff, core_domOn_bob hb hoff⟩
  · obtain ⟨t, ht, hf, hv, hx⟩ := execPillowVfUpdate_step hp hd
    refine ⟨t, ht, fun h => ⟨?_, ?_⟩, fun h => ⟨?_, ?_⟩, ?_, fun q hq => ⟨?_, ?_⟩⟩
    · rw [pilFreq, hf, SMap.get_set, if_pos rfl]
      exact if_pos h
    · rw [hv, SMap.get_set, if_pos rfl]
      exact if_pos h
    · rw [hv, SMap.get_set, if_pos rfl]
      exact if_neg (Nat.not_lt.mpr h)
    · rw [pilFreq, hf, SMap.get_set, if_pos rfl]
      exact if_neg (Nat.not_lt.mpr h)
    · rw [hx, SMap.get_set, if_pos rfl]
    · rw [pilFreq, hf, SMap.get_set, if_neg hq, pilFreq]
    · rw [hv, SMap.get_set, if_neg hq]
  · exact (next_of_not hm).trans (congrArg _ (if_pos ⟨hp, hd, hbad⟩))
  · exact congrArg _ (if_pos hbusy)

end Sys2Proof
end

section
namespace Sys2Proof.Machine
variable {s : State}

/-! ### Errors that are carried to the Selvedge (R572 to R576) -/

section
variable {o : Occ} {rest : List Occ} {u : RUnit} {i : Nat} (hocc : s.selv.occ = o :: rest) (hpage : pageUnit o.page = some (u, i))
  (heic : u.cls ≠ RUnit.eic.cls) (hm : curMode s ≠ .off)
include hocc hpage heic hm

/-- The oldest error, of a unit other than the interrupt controller: what its route asks for. -/
theorem execErrorLatch_route {r : Nat} (hr : (if o.warn then 1 else routeOf s o.page o.bit) = r) (hne : r ≠ 0) :
    let t := { s with selv := { s.selv with occ := rest } }
    let code := codeOf u o.bit r o.sub o.injected
    execErrorLatch s = .next (
      if r = 1 then faultSoe (lastCode (raiseIrq (bump t pgSELV 0x0F4 1) pgSELV 6) code i) i code
      else degradedCheck (
        if testUnits o u i r = [] ∨ (r = 2 ∧ !rdB s pgSELV 0x080 0) then
          faultSoe (faultLatch t u.cls i i code (decide (r = 3))) i (outcome code 4)
        else (testUnits o u i r).foldl (fun v x => testFor v (decide (r = 3)) i code x)
          (faultLatch t u.cls i i code (decide (r = 3))))) := by
  subst hr
  have hrun : ¬ (curMode s = .off ∨ (if o.warn then 1 else routeOf s o.page o.bit) = 0) := by simp [hm, hne]
  simp only [execErrorLatch, hocc, hpage, heic, false_and, decide_false, Bool.false_and, Bool.false_eq_true, if_false]
  exact congrArg _ (if_neg hrun)

end
/-! ### Tests (R577 to R583) -/

theorem execSelvTestStart_next (hm : curMode s ≠ .off) (hroom : (testsRunning s).length < 8) {t : Test}
    (ht : s.selv.tests.find? (fun t => mayStart s t) = some t) :
    let run := { t with phase := .running, since := s.now, len := (testLen s t.unit).getD 0 }
    execSelvTestStart s = .next (proofMark (takeOut { s with selv := { s.selv with
      tests := s.selv.tests.map fun x => if x.unit = t.unit then run else x } } t.unit) t.unit 3) := by
  have hrun : ¬ (curMode s = .off ∨ 8 ≤ (testsRunning s).length) := by simp [hm, hroom]
  rw [execSelvTestStart, if_neg hrun, ht]

section
variable {n : Nat} {t : Test} (hm : curMode s ≠ .off) (ht : runningTest s n = some t)
include hm ht

theorem execSelvTestDone_running (o : TestObs) : execSelvTestDone n o s = .next (endTest s t (judged s t o)) := by
  rw [execSelvTestDone, ht]
  exact next_of_not hm

theorem execSelvTestTimeout_due (hdue : t.since + 4 * t.len ≤ s.now) :
    execSelvTestTimeout n s = .next (endTest (raiseErr s pgSELV 8) t ⟨false, 0, true⟩) := by
  rw [execSelvTestTimeout, ht]
  exact next_of_not (by simp [hm, hdue])

end

theorem execSelvTestReq_asks (hm : curMode s = .service) (hlen : (testLen s (queried s)).isSome = true)
    (hfree : unitTested s (queried s) = false) : execSelvTestReq s = .next (vacate { s with selv := { s.selv with
      tests := s.selv.tests ++ [⟨queried s, .request, [], .waiting, s.now, 0⟩] } } (queried s) 8) := by
  have hrun : ¬ (curMode s ≠ .service ∨ (testLen s (queried s)).isNone = true) := by
    simp [hm, Option.isSome_iff_ne_none.mp hlen]
  rw [execSelvTestReq, if_neg hrun, hfree, if_neg (by simp), askTest, hfree, if_neg (by simp)]

/-! ### SAFE, FAULT_N and a unit that returns to service -/

/-- What follows SAFE, by the mode it was entered from (R605). -/
def afterSafe (t : State) (o : BootObs) : Mode → State
  | .boot => enterBoot t o true
  | .proof => enterProof t true
  | .configure => enterConfigure t true
  | .armed => retainAll (modeEnter t .armed true)
  | .run | .degraded => degradedCheck (modeEnter t .run true)
  | m => modeEnter t m true

theorem execSafeExit_quiet (hm : curMode s = .safe) (hen : rdB s pgSELV 0x080 1 = true) (htests : s.selv.tests = [])
    (hfailed : s.selv.safeFailed = false) (hlatched : s.selv.safeLatched = false)
    (hquiet : s.selv.quietFrom + rdF s pgSELV 0x0CC 0 10 * msN ≤ s.now) (o : BootObs) : execSafeExit o s =
      .next (fnSettle (afterSafe (raiseIrq (bump s pgSELV 0x0E8 1) pgSELV 4) o s.mode.safeFrom)) := by
  have hover : quietOver s = true := decide_eq_true hquiet
  refine (next_of_not (by simp [hm, hen, htests, hfailed, hlatched, hover])).trans (congrArg _ ?_)
  dsimp only
  cases s.mode.safeFrom <;> rfl

/-- FAULT_N is released once its width has ended (R585, R586). -/
theorem fnSettle_over (hend : s.selv.fnUntil ≤ s.now) (harmed : s.selv.armedOnce = true) (hm : curMode s ≠ .safe)
    (hrel : s.selv.fnRelHeld = true ∨ rdB s pgSELV 0x0D0 0 = false) :
    fnSettle s = { s with selv := { s.selv with fnOn := false, fnRelHeld := false } } := by
  refine if_pos ⟨hend, harmed, hm, ?_⟩
  rcases hrel with h | h <;> simp [h]

theorem fnSettle_early (h : s.now < s.selv.fnUntil) : fnSettle s = s := if_neg fun hc => absurd hc.1 (Nat.not_le.mpr h)

theorem execFnRelease_on (hm : curMode s ≠ .off) (hs : curMode s ≠ .safe) (hon : s.selv.fnOn = true) :
    execFnRelease s = .next (fnSettle { s with selv := { s.selv with fnRelHeld := true } }) :=
  next_of_not (by simp [hm, hs, hon])

/-- UNRETIRE of a unit that has passed its test (R583). -/
theorem execUnretire_passed (hm : curMode s = .service) (hret : (unitRec s (queried s)).retired = true)
    (hpass : (unitRec s (queried s)).passed = true) :
    let t := setUnitRec s (queried s) { unitRec s (queried s) with retired := false, passed := false, recov := [] }
    execUnretire s = .next (roomReturns (if (queried s).cls = RUnit.bob.cls then
      setCore t (queried s).inst (if domSt t (queried s).inst = .on then Core.bobStart else Core.reset)
      else if queried s = bioUnit then bioAreas t else t)) :=
  next_of_not (by simp [hm, hret, hpass])

end Sys2Proof.Machine

namespace Sys2Proof
open Machine

/-- Settles O49, command by command. That UNRETIRE of BIO writes the areas of its inputs anew is the choice of log entry 186. -/
theorem selvedgeCommandsComplete : Obligations.SelvedgeCommandsComplete := by
  intro s
  refine ⟨fun h => ?_, fun o rest u i hocc hpage heic hm => ⟨fun h => ?_, fun hw hr hen => ?_, fun x hw hr hen hx => ?_⟩,
    fun hm hb hc => ?_, fun t hm hroom ht => execSelvTestStart_next hm hroom ht, fun n t hm ht =>
    ⟨fun o => execSelvTestDone_running hm ht o, fun hdue => execSelvTestTimeout_due hm ht hdue⟩,
    fun o hm hen htests hfailed hlatched hquiet => ?_, fun hend harmed hs => ⟨fun hrel => ?_, fun hm hon => ?_⟩,
    fun hearly hm hs hon => ?_, fun hm => next_of_not hm, fun hm hlen hfree => execSelvTestReq_asks hm hlen hfree,
    fun hm hret hpass => ⟨fun hbob hbio => ?_, fun hbio => ?_, fun hbob => ?_⟩, fun hm hen => ⟨?_, ?_⟩⟩
  · show execErrorLatch s = _
    rw [execErrorLatch, h]
  · have hr : (if o.warn then 1 else routeOf s o.page o.bit) = 1 := by
      rcases h with h | h <;> simp [h]
    rw [hr]
    exact execErrorLatch_route hocc hpage heic hm hr (by decide)
  · have hroute : (if o.warn then 1 else routeOf s o.page o.bit) = 2 := by simp [hw, hr]
    rw [hroute]
    exact (execErrorLatch_route hocc hpage heic hm hroute (by decide)).trans (congrArg _ ((if_neg (by decide)).trans
      (congrArg _ (if_pos (.inr ⟨rfl, by simp [hen]⟩)))))
  · have hroute : (if o.warn then 1 else routeOf s o.page o.bit) = 2 := by simp [hw, hr]
    have htest : ¬ (testUnits o u i 2 = [] ∨ (2 = 2 ∧ (!rdB s pgSELV 0x080 0) = true)) := by simp [hx, hen]
    rw [hroute]
    exact (execErrorLatch_route hocc hpage heic hm hroute (by decide)).trans (congrArg _ ((if_neg (by decide)).trans
      (congrArg _ ((if_neg htest).trans (by rw [hx]; rfl)))))
  · refine (congrArg _ (if_pos hm)).trans (congrArg _ ?_)
    simp [degradedCheck, hb, hm, hc]
  · have h := execSafeExit_quiet hm hen htests hfailed hlatched hquiet o
    refine ⟨fun hf => ?_, fun hf => ?_, fun hf => ?_, fun hf => ?_, fun hf => ?_, fun hf => ?_⟩
    · rw [hf] at h; exact h
    · rw [hf] at h; exact h
    · rw [hf] at h; exact h
    · rw [hf] at h; exact h
    · rcases hf with hf | hf <;> rw [hf] at h <;> exact h
    · rcases hf with hf | hf | hf <;> rw [hf] at h ⊢ <;> exact h
  · exact congrArg _ (fnSettle_over hend harmed hs hrel)
  · refine (execFnRelease_on hm hs hon).trans (congrArg _ ?_)
    exact fnSettle_over (s := { s with selv := { s.selv with fnRelHeld := true } }) hend harmed hs (.inl rfl)
  · refine (execFnRelease_on hm hs hon).trans (congrArg _ ?_)
    exact fnSettle_early (s := { s with selv := { s.selv with fnRelHeld := true } }) hearly
  · exact (execUnretire_passed hm hret hpass).trans (by rw [if_neg hbob, if_neg hbio])
  · have hbob : (queried s).cls ≠ RUnit.bob.cls := by rw [hbio]; decide
    exact (execUnretire_passed hm hret hpass).trans (by rw [if_neg hbob, if_pos hbio]; rfl)
  · exact (execUnretire_passed hm hret hpass).trans (by rw [if_pos hbob]; rfl)
  · exact congrArg _ (if_pos (by simp))
  · exact next_of_not (by simp [hm, hen])

end Sys2Proof
end

section
namespace Sys2Proof.Machine

section
variable {s : State}

/-! ### SEC: images, the challenge, the response, the token and the identity -/

/-- Writing code words leaves the security unit as it is. -/
theorem foldl_codeBroadcast_sec (ws : List (Nat × W32)) :
    (ws.foldl (fun u w => codeBroadcast u w.1 w.2) s).sec = s.sec := by
  have hone (t : State) (a : Nat) (w : W32) : (codeBroadcast t a w).sec = t.sec :=
    List.foldlRecOn (motive := fun u : State => u.sec = t.sec) _ _ rfl fun u hu p _ => hu
  exact List.foldlRecOn (motive := fun u : State => u.sec = s.sec) _ _ rfl fun u hu w _ => (hone u w.1 w.2).trans hu

/-- While the host clock runs, an image in its mode is copied and checked at once (R640). -/
theorem imageCmd_now (kind : Nat) (hclk : s.hif.hostClock = true) : imageCmd s kind true = imageNow s kind true := by
  simp [imageCmd, hifDma, hclk]

section
variable (hready : SecReady s)
include hready

theorem execVerifyTables_done {b : Nat} {t : State} (hmode : curMode s = .configure) (hclk : s.hif.hostClock = true)
    (hcopy : copyCheck s 2 true = (2, b, t)) : execVerifyTables s =
    .next (secDone { t with sec := { t.sec with tbl := some ⟨imgVersion t b, imgSvn t b, true⟩ } }) := by
  rw [execVerifyTables, secCmd_ready hready, decide_eq_true hmode, imageCmd_now 2 hclk, imageNow, if_pos rfl, tablesNow, hcopy]
  rfl

theorem execLoadCode_done {b : Nat} {t : State} (hmode : (curMode s).cfgSvc = true) (hclk : s.hif.hostClock = true)
    (hcopy : copyCheck s 3 true = (2, b, t)) :
    let ws := (Config.codeWords (imgPayload t b)).filter fun w => decide (w.1 < 2 ^ 16)
    let u := ws.foldl (fun u w => codeBroadcast u w.1 w.2) t
    let img : Img := ⟨imgVersion t b, imgSvn t b, true⟩
    execLoadCode s = .next (secDone { u with sec := { u.sec with
      code := some img, codeImgs := codeImgsWith t.sec.codeImgs img (ws.map (·.1)) } }) := by
  intro ws u img
  have hsec : u.sec = t.sec := foldl_codeBroadcast_sec ws
  rw [execLoadCode, secCmd_ready hready, hmode, imageCmd_now 3 hclk, imageNow, if_neg (by decide), codeNow, hcopy, ← hsec]
  rfl

theorem execChallenge_done : execChallenge true s = .next (secDone { s with
    freeCtr := s.freeCtr + 1
    sec := { s.sec with challenge := some ((Config.random s.freeCtr ++ List.replicate 32 0).take 32), chalAt := s.now } }) := by
  rw [execChallenge, secCmd_ready hready]
  rfl

theorem execDbgResp_done (hlock : s.sec.lockUntil = none)
    (hcheck : imgCheck s (imgAddr s) 4 (decide (curMode s ≠ .keep)) = 2) :
    let p := imgPayload s (imgAddr s)
    let g : Grant := ⟨(p.getD 32 0).toNat, decide ((p.getD 33 0).toNat = 1), secOf s.stc.cnt + leNat ((p.drop 36).take 4)⟩
    execDbgResp s = .next (secDone (levelFall { s with sec := { s.sec with
      challenge := none, grant := some g, fails := 0, lockDur := 0 } } (dbgLevel s))) := by
  intro p g
  rw [execDbgResp, secCmd_ready hready]
  simp only [hlock, hcheck, Option.isSome_none]
  rfl

theorem execDbgRevoke_done : execDbgRevoke s = .next (secDone (endGrant s)) := by
  rw [execDbgRevoke, secCmd_ready hready]
  rfl

theorem execProvision_done {k : List Byte} (hcheck : imgCheck s (imgAddr s) 6 (decide (curMode s = .service)) = 2)
    (hktk : Config.unwrapKtk (((imgPayload s (imgAddr s)).drop 48).take 137) = some k) :
    execProvision s = .next (secDone { s with
      fuses := { s.fuses with ownerRoot := some ((imgPayload s (imgAddr s)).take 48), ktk := some k } }) := by
  rw [execProvision, secCmd_ready hready]
  simp only [hcheck, hktk]
  rfl

theorem execGetId_done (hphys : physBad s (imgAddr s) 512 = false) : execGetId s =
    .next (secDone (physSetList s (imgAddr s) ((Config.identity ++ List.replicate 512 0).take 512))) := by
  rw [execGetId, secCmd_ready hready, hphys]
  rfl

end

/-- A list filled up to `n` bytes and cut there has `n` bytes. -/
theorem length_take_padded (l : List Byte) (n : Nat) : ((l ++ List.replicate n 0).take n).length = n := by
  simp

theorem execChallengeLapse_due (hsome : s.sec.challenge.isSome = true) (hdue : s.sec.chalAt + 60000 * msN ≤ s.now) :
    execChallengeLapse s = .next { s with sec := { s.sec with challenge := none } } := by
  rw [execChallengeLapse, if_pos ⟨hsome, hdue⟩]

theorem execDbgGrantExpire_due {g : Grant} (hg : s.sec.grant = some g) (hdue : g.untilSec ≤ secOf s.stc.cnt) :
    execDbgGrantExpire s = .next (endGrant s) := by
  simp only [execDbgGrantExpire, hg, nowSec, hdue, if_true]

theorem execDbgLockoutEnd_due {n : Nat} (hn : s.sec.lockUntil = some n) (hdue : n ≤ secOf s.stc.cnt) :
    execDbgLockoutEnd s = .next { s with sec := { s.sec with lockUntil := none } } := by
  simp only [execDbgLockoutEnd, hn, nowSec, hdue, if_true]

/-! ### LCY and KEY -/

theorem execApply_done {t : LcyState} (hpow : pagePowered s pgLCY = true) (hidle : rdF s pgLCY 0x088 0 4 ≠ 1)
    (hserves : secServes s = true) (hcheck : imgCheck s (imgAddr s) 5 (decide (curMode s = .service)) = 2)
    (hcode : LcyState.ofCode? ((imgPayload s (imgAddr s)).getD 32 0).toNat = some t) :
    let u := endGrant (wipe { s with sec := { s.sec with challenge := none } } true)
    execApply true true false s = .next (raiseIrq (wr { u with fuses := { u.fuses with
      fused := t
      devTrips := if u.fuses.fused = .develop ∧ t = .manufacture then u.fuses.devTrips + 1 else u.fuses.devTrips
      killed := u.fuses.killed || decide (t = .returned ∨ t = .scrapped) } } pgLCY 0x088 2) pgLCY 0) := by
  intro u
  rw [execApply, if_neg (by simp [hpow]), if_neg hidle, if_neg (by simp [hserves])]
  simp only [hcheck, hcode]
  simp [u]

theorem execKeyLoad_done {k b : List Byte} (hpow : pagePowered s pgKEY = true) (hidle : rdF s pgKEY 0x090 0 4 ≠ 1)
    (hserves : secServes s = true) (htamper : tampered s = false) (hkill : s.fuses.killed = false) (hktk : s.fuses.ktk = some k) :
    let a := (rd s pgKEY 0x084).toNat / 64 * 64 + rdF s pgKEY 0x088 0 16 * 2 ^ 32
    let n := leNat (physBytes s (a + 6) 2)
    physBad s a 24 = false → physBad s a (40 + 64 * n) = false → leNat (physBytes s a 4) = 0x4B424C4B →
    leNat (physBytes s (a + 4) 2) = 1 → 0 < n → n ≤ 1024 →
    Config.gcmOpen k (physBytes s (a + 8) 12) (physBytes s a 24) (physBytes s (a + 24) (64 * n))
      (physBytes s (a + 24 + 64 * n) 16) = some b →
    (∀ i < n, keyRefused s (keyEntries n b) i = false) →
    execKeyLoad s = .next (
      let t := { s with sec := { s.sec with
        keys := (keyEntries n b).foldl (fun m e => SMap.set m none e.1 (some e.2)) s.sec.keys } }
      raiseIrq (wr t pgKEY 0x090 2) pgKEY 0) := by
  intro a n hhead hall hmagic hver hpos hmax hopen hkeys
  have hfind : (List.range n).find? (keyRefused s (keyEntries n b)) = none :=
    List.find?_eq_none.mpr fun i hi => by simp [hkeys i (List.mem_range.mp hi)]
  have hform : ¬ (leNat (physBytes s a 4) ≠ 0x4B424C4B ∨ leNat (physBytes s (a + 4) 2) ≠ 1 ∨ n = 0 ∨ 1024 < n) := by
    omega
  rw [execKeyLoad, if_neg (by simp [hpow]), if_neg hidle, if_neg (by simp [hserves, htamper]), hkill]
  simp only [Bool.false_eq_true, if_false, hktk]
  rw [if_neg (ne_of_eq_of_ne hhead Bool.false_ne_true), if_neg hform, if_neg (ne_of_eq_of_ne hall Bool.false_ne_true)]
  simp only [a, n] at hopen hfind
  simp only [hopen, hfind]
  rfl

/-! ### DBG: run control -/

section
variable (hpow : pagePowered s pgDBG = true) (hlevel : 2 ≤ dbgLevel s)
include hpow hlevel

theorem execHalt_asked {r : Nat} {t : State}
    (hask : (rcCores s).foldl (fun u c => (max u.1 (haltAsk u.2 c).1, (haltAsk u.2 c).2)) (1, s) = (r, t)) :
    execHalt s = .next (rcResult t r) := by
  rw [execHalt, if_neg (by simp [hpow]), if_neg (Nat.not_lt.mpr hlevel)]
  simp only [hask]

theorem execResume_halted (hne : ((rcCores s).filter fun c => decide ((core s c).pstate = .halted)) ≠ []) :
    execResume s = .next (rcResult
      (roomReturns (((rcCores s).filter fun c => decide ((core s c).pstate = .halted)).foldl resumeCore s)) 1) := by
  rw [execResume, if_neg (by simp [hpow]), if_neg (Nat.not_lt.mpr hlevel), if_neg hne]

theorem execStep_halted (irq : Bool) (hne : ((rcCores s).filter fun c => decide ((core s c).pstate = .halted)) ≠ []) :
    execStep irq s = .next (rcResult (wdogSync (((rcCores s).filter fun c => decide ((core s c).pstate = .halted)).foldl
      (fun u c => modCore u c fun k => { k with
        pstate := runsAs k c, haltReq := .stepping irq, haltCause := 1, bpPass := true }) s)) 1) := by
  rw [execStep, if_neg (by simp [hpow]), if_neg (Nat.not_lt.mpr hlevel), if_neg hne]

theorem execResetLockup_locked (hne : ((rcCores s).filter fun c => decide ((core s c).pstate = .lockedUp)) ≠ []) :
    execResetLockup s = .next (rcResult
      (((rcCores s).filter fun c => decide ((core s c).pstate = .lockedUp)).foldl resetLockup s) 1) := by
  rw [execResetLockup, if_neg (by simp [hpow]), if_neg (Nat.not_lt.mpr hlevel), if_neg hne]

theorem execCancel_draining (hne : ((rcCores s).filter fun c => decide ((core s c).haltReq = .draining)) ≠ []) :
    let draining := (rcCores s).filter fun c => decide ((core s c).haltReq = .draining)
    execCancel s = .next (
      let t := draining.foldl (fun u c => modCore u c fun k => { k with haltReq := .none }) s
      rcResult (roomReturns (dropDrains t draining)) 1) := by
  rw [execCancel, if_neg (by simp [hpow]), if_neg (Nat.not_lt.mpr hlevel), if_neg hne]

theorem execDbgCoreWrite_halted (hi : Bool) (v : W32) (hcore : selCore s ≤ 256)
    (hhalt : (core s (selCore s)).pstate = .halted) :
    execDbgCoreWrite hi v s = .next (itemWrite s (selCore s) hi v) := by
  rw [execDbgCoreWrite, if_neg (by simp [hpow]), if_neg (Nat.not_lt.mpr hlevel), if_neg (by simp [hhalt, hcore])]

/-- The debug bus master takes an access while none is under way (R667). -/
theorem memBegin_taken (write : Bool) (hidle : rdF s pgDBG 0x0D0 0 4 ≠ 1) :
    memBegin s write = wr { s with dbg := { s.dbg with mem := some write } } pgDBG 0x0D0 1 := by
  have hmay : ¬ dbgLevel s < (if write then 2 else 1) := by split <;> omega
  rw [memBegin, if_neg (by simp [hpow]), if_neg hidle, if_neg hmay]

theorem execTraceClr_allowed : execTraceClr s =
    .next (wrF { s with dbg := { s.dbg with trace := [], head := 0 } } pgDBG 0x0DC 31 1 0) := by
  rw [execTraceClr, if_neg (by simp [hpow]), if_neg (by omega)]

end

theorem execHaltTaken_pending {c : Nat} (forced : Bool) (hreq : (core s c).haltReq = .pending)
    (hfree : c ≠ spindle ∨ s.spn.rsv = none) :
    execHaltTaken c forced s = .next (haltCore s c (core s c).haltCause) := by
  have hguard : ¬ (c = spindle ∧ s.spn.rsv.isSome = true) := by
    rintro ⟨hc, hrsv⟩
    rcases hfree with h | h
    · exact h hc
    · simp [h] at hrsv
  simp only [execHaltTaken, hreq, if_neg hguard]

/-! ### DBG: the bus master's access of a bank -/

/-- With no copy of a migration under way, a store aborts none. -/
theorem storeAborts_idle (a : Nat) (hidle : ∀ m ∈ s.prck.migs, m.copying = false) : storeAborts s a = s := by
  have hnone (f : Mig → Bool) : (s.prck.migs.filter fun m => m.copying && f m) = [] :=
    List.filter_eq_nil_iff.mpr fun m hm => by simp [hidle m hm]
  rw [storeAborts]
  simp only [Bool.and_assoc, hnone]
  rfl

section
variable {a : Nat} (ha : a = rdF s pgDBG 0x0C0 0 24) (hbank : a < 0x400000)
  (hon : bankPwr s (a / 2 ^ 18) (a / 2 ^ 15 % 8) = .on)
include ha hbank hon

theorem execDbgMemDone_write (hgate : a % 2 ^ 18 < 0x2F000) (hmem : s.dbg.mem = some true)
    (hidle : ∀ m ∈ s.prck.migs, m.copying = false) : execDbgMemDone ⟨.clean⟩ s =
    .next (memEnd (bankSet s a (TWord.ofTag (rdF s pgDBG 0x0C8 0 8) (rd s pgDBG 0x0C4))) 2) := by
  have hprot : ¬ (0x2F000 ≤ a % 2 ^ 18 ∧ a % 2 ^ 18 < 0x30000 ∧ gateMode s = false) := by omega
  simp only [execDbgMemDone, hmem, ← ha]
  rw [if_pos hbank, if_neg (not_not_intro hon), if_pos trivial, if_neg hprot, storeAborts_idle a hidle]

theorem execDbgMemDone_read (hmem : s.dbg.mem = some false) (hgood : a ∉ s.mem.bankBad) : execDbgMemDone ⟨.clean⟩ s =
    .next (memEnd (wr (wr s pgDBG 0x0C4 (bankGet s a).pay) pgDBG 0x0C8 (w32 (bankGet s a).tag)) 2) := by
  simp only [execDbgMemDone, hmem, ← ha]
  rw [if_pos hbank, if_neg (not_not_intro hon), if_neg (by simp), bankRead_clean 3 hgood]
  rfl

end

/-! ### DBG: the watchdogs of the cores, the snag stop -/

theorem execDbgWdogKick_key (v : W32) (hpow : pagePowered s pgDBG = true) (hkey : bits v 0 8 = 0x5A) :
    execDbgWdogKick .spindle v s = .next (modCore s spindle fun k => { k with wdogPre := false, wdogDue := s.now }) := by
  rw [execDbgWdogKick, if_neg (by simp [hpow]), if_pos hkey]
  rfl

theorem execCoreWdogPre_due {c : Nat} (hruns : coreWdogRuns s c = true) (hpre : (core s c).wdogPre = false)
    (hdue : (core s c).wdogDue + wdogLen s c / 2 ≤ s.now) : execCoreWdogPre c s =
    .next (privEdge (modCore s c fun k => { k with wdogPre := true }) (dbgTarget c) 1) := by
  rw [execCoreWdogPre, if_pos ⟨hruns, hpre, hdue⟩]

/-- Only the cores of the machine have a watchdog. -/
theorem le_of_coreWdogRuns {c : Nat} (hruns : coreWdogRuns s c = true) : c ≤ 256 := by
  simp only [coreWdogRuns, Bool.and_eq_true, decide_eq_true_eq] at hruns
  exact hruns.1.1

theorem targetCore_dbgTarget (c : Nat) : targetCore (dbgTarget c) = c := by
  by_cases hc : c = spindle <;> simp [targetCore, dbgTarget, hc]

theorem dbgTarget_lt {c : Nat} (hc : c ≤ 256) : dbgTarget c < 512 := by
  unfold dbgTarget
  split <;> omega

/-- The core's number reads back below the mark in bit 31. -/
theorem bits_w32_marked {t : Nat} (ht : t < 512) : bits (w32 (t + 2 ^ 31)) 0 9 = t := by
  simp [bits, w32]
  omega

theorem execCoreWdogExpire_due {c : Nat} (hruns : coreWdogRuns s c = true)
    (hdue : (core s c).wdogDue + wdogLen s c ≤ s.now) (hclear : rdB s pgDBG 0x0DC 31 = false) : execCoreWdogExpire c s =
    .next (raiseErr (wr (modCore s c fun k => { k with wdogPre := false, wdogDue := s.now }) pgDBG 0x0DC
      (w32 (dbgTarget c + 2 ^ 31))) pgDBG 0 0 [coreUnit c]) := by
  have hmark : ¬ rdB (modCore s c (wdogReload s)) pgDBG 0x0DC 31 = true := by simpa [rdB, rd] using hclear
  have hread (t : State) : rdF (wr t pgDBG 0x0DC (w32 (dbgTarget c + 2 ^ 31))) pgDBG 0x0DC 0 9 = dbgTarget c := by
    rw [rdF, rd_wr_same, bits_w32_marked (dbgTarget_lt (le_of_coreWdogRuns hruns))]
  rw [execCoreWdogExpire, if_pos ⟨hruns, hdue⟩]
  simp only [if_neg hmark, hread, targetCore_dbgTarget]
  rfl

theorem execSnagStop_due (hwas : s.dbg.snagWas = true) (hstop : snagAllowed s = false) : execSnagStop s =
    .next (raiseIrq { s with dbg := { s.dbg with snagWas := false } } pgDBG 3) := by
  rw [execSnagStop, if_pos ⟨hwas, hstop⟩]

end
end Sys2Proof.Machine

namespace Sys2Proof
open Machine

/-- Settles O50, a clause per command. The model's choices: a challenge serves one token (log entry 43), the fields of a
payload are within their ranges once its check has passed (37), and the clear of the trace takes VALID of DBG_WDOG_STATUS (52). -/
theorem securityAndDebugCommandsComplete : Obligations.SecurityAndDebugCommandsComplete := by
  intro s
  refine ⟨fun hready => ⟨fun _ _ => execVerifyTables_done hready, fun _ _ => execLoadCode_done hready,
      ⟨_, length_take_padded _ 32, execChallenge_done hready⟩, execDbgResp_done hready, execDbgRevoke_done hready,
      fun _ => execProvision_done hready, fun hphys => ⟨_, length_take_padded _ 512, execGetId_done hready hphys⟩⟩,
    execChallengeLapse_due, fun _ => execDbgGrantExpire_due, fun _ => execDbgLockoutEnd_due, fun _ => execApply_done,
    fun _ _ => execKeyLoad_done,
    fun hpow hlevel => ⟨fun _ _ => execHalt_asked hpow hlevel, fun hne => ⟨execResume_halted hpow hlevel hne,
        fun irq => execStep_halted hpow hlevel irq hne⟩, execResetLockup_locked hpow hlevel, execCancel_draining hpow hlevel,
      execDbgCoreWrite_halted hpow hlevel, fun hidle => ⟨congrArg _ (memBegin_taken hpow hlevel false hidle),
        congrArg _ (memBegin_taken hpow hlevel true hidle)⟩, execTraceClr_allowed hpow hlevel⟩,
    fun _ ha hbank hon hgate => ⟨execDbgMemDone_write ha hbank hon hgate, execDbgMemDone_read ha hbank hon⟩,
    fun _ => execHaltTaken_pending, execDbgWdogKick_key, fun _ hruns => ⟨execCoreWdogPre_due hruns,
      execCoreWdogExpire_due hruns⟩, execSnagStop_due⟩

end Sys2Proof
end
